-- ==== Sys2Proof/Word.lean ====
section
/-! DEFINITION. The word and index types of the KX-9600 (R4, R15, R150, R241).  -/
namespace Sys2Proof

/-- One byte. -/
abbrev Byte := BitVec 8
/-- A byte string, first byte first. -/
abbrev Bytes := List Byte
/-- An engine word (R150). -/
abbrev W24 := BitVec 24
/-- A parcel address or a parcel (R150, R178). -/
abbrev W18 := BitVec 18
/-- A register or counter of 32 bits. -/
abbrev W32 := BitVec 32
/-- A counter or byte address of 64 bits. -/
abbrev W64 := BitVec 64
/-- A device byte address (R15). -/
abbrev DevAddr := BitVec 35
/-- A 48-byte digest (R43, SHA-384). -/
abbrev Digest := BitVec 384
/-- A status of the 16-bit status space (R9). -/
abbrev Status := BitVec 16

/-- Sparse table: entries by number, the rest at a value the reader names. -/
abbrev Tab (α : Type) := List (Nat × α)

/-- Lane number (R30). -/
abbrev Lane := Fin 256
/-- Engine number e = 8t + i (R150). -/
abbrev Eng := Fin 96
/-- Tile number (R150). -/
abbrev Tile := Fin 12
/-- Hod number (R137). -/
abbrev Hod := Fin 24
/-- General register number (R153). -/
abbrev Reg := Fin 16
/-- Bank register number (R153). -/
abbrev BankReg := Fin 4
/-- Vector unit source (R213). -/
abbrev Src := Fin 256
/-- Vector unit target 0 to 159 (R214). -/
abbrev Target := Fin 160
/-- Event router channel (R225). -/
abbrev Chan := Fin 512
/-- Event router task input (R227). -/
abbrev TaskInput := Fin 2048
/-- Mailbox channel (R241). -/
abbrev Mbox := Fin 1024
/-- Master identity: engines 0 to 95, 96 host, 97 hold-up controller, 98 boot ROM, 99 debug port (R17, R241). -/
abbrev Master := Fin 100
/-- Host queue pair (R276). -/
abbrev QueueId := Fin 1024
/-- Object context (R116). -/
abbrev CtxId := Fin 1048576

end Sys2Proof
end

