-- ==== Sys2Proof/Syntax.lean ====
section
/-! DEFINITION. The commands of the block: one constructor of `Instr` per row of spec/opcode_table.json.
An operand carries what comes from outside the block (a frame, a measured sample, data read from an SSD or from host
memory) or names the part the command acts on; everything the block holds is in State. -/
namespace Sys2Proof

/-! ### Engine instructions (chapter 08) -/

/-- Three-register operations (R181). -/
inductive AluOp
  | add | sub | and | or | xor | min | max | minu | maxu | sll | srl | sra | ror | rol
  | seq | sne | slt | sltu | sle | sleu
  deriving DecidableEq, Repr

/-- Long immediate operations (R184). -/
inductive ImmOp
  | addi | andi | ori | xori | slli | srli | srai | rori | roli
  | seqi | snei | slti | sltui | sgti | sgtui
  deriving DecidableEq, Repr

/-- Device memory loads (R161). -/
inductive LdOp
  | b | bs | h | hs | t
  deriving DecidableEq, Repr

/-- Device memory stores (R161). -/
inductive StOp
  | b | h | t
  deriving DecidableEq, Repr

/-- Multiply and divide (R181). -/
inductive MulOp
  | mul | mulu | divs | divu
  deriving DecidableEq, Repr

/-- One engine instruction (R178 to R184). -/
inductive EOp
  | nop | halt | di | ei | reti | waite
  | waitt (ra : Reg) | sende (ra : Reg)
  | rpt (nm1 : BitVec 6) | rpti
  | jmp (ra : Reg) | callr (ra : Reg)
  | mfb (rd : Reg) (b : BankReg) | mtb (b : BankReg) (ra : Reg)
  | mfsr (rd : Reg) (sr : BitVec 4) | mtsr (sr : BitVec 4) (ra : Reg)
  | alu (o : AluOp) (rd ra rb : Reg)
  | neg (rd ra : Reg) | abs (rd ra : Reg)
  | mul (o : MulOp) (ra rb : Reg)
  | ldw (rd ra : Reg) (u4 : BitVec 4) | stw (rs ra : Reg) (u4 : BitVec 4)
  | ldwi (rd ra : Reg) (s4 : BitVec 4) | stwi (rs ra : Reg) (s4 : BitVec 4)
  | addi (rd : Reg) (s8 : BitVec 8) | movi (rd : Reg) (s8 : BitVec 8)
  | bz (rs : Reg) (s8 : BitVec 8) | bnz (rs : Reg) (s8 : BitVec 8) | bra (s12 : BitVec 12)
  | imm (o : ImmOp) (rd ra : Reg) (s18 : BitVec 18)
  | li (rd : Reg) (c : W24)
  | ldwL (rd ra : Reg) (s18 : BitVec 18) | stwL (rs ra : Reg) (s18 : BitVec 18)
  | ld (o : LdOp) (rd : Reg) (b : BankReg) (ra : Reg) (s18 : BitVec 18)
  | st (o : StOp) (rs : Reg) (b : BankReg) (ra : Reg) (s18 : BitVec 18)
  | bzL (rs : Reg) (s18 : BitVec 18) | bnzL (rs : Reg) (s18 : BitVec 18) | braL (s18 : BitVec 18)
  | call (s18 : BitVec 18) | sendei (n : Chan)
  | custom (n rd ra : Reg) (x : BitVec 2) (imm18 : BitVec 18)
  deriving DecidableEq, Repr

/-! ### Operands from outside the block -/

/-- A receiving port (R378). -/
inductive Port
  | eth (n : Fin 10) | usb (n : Fin 8) | tdm (n : Fin 4) | can (n : Fin 4) | gpio
  deriving DecidableEq, Repr

/-- A function of the ladder by its number f (R342). -/
abbrev Func := Fin 112

/-- A path to the object dictionary (R304). -/
inductive Path
  | host | canopen | bumund (peer : Nat) | firmware
  deriving DecidableEq, Repr

/-- A request to the object dictionary: a read, or a write of a value (R301). -/
structure DictReq where
  path : Path
  idx  : BitVec 16
  sub  : BitVec 8
  val  : Option Bytes
  deriving DecidableEq, Repr

/-- What a CANopen FD client asks in one USDO frame (R306): an upload or an expedited or whole download; a segmented download's begin
with its length, and its segments; the next n bytes of a segmented upload. -/
inductive UsdoOp
  | upload (idx : BitVec 16) (sub : BitVec 8)
  | download (idx : BitVec 16) (sub : BitVec 8) (val : Bytes)
  | beginDown (idx : BitVec 16) (sub : BitVec 8) (total : Nat)
  | segmentDown (data : Bytes)
  | segmentUp (n : Nat)
  deriving DecidableEq, Repr

/-- Where a register write of REGISTER_WRITE is aimed: a device byte address, a register BAR offset of the host, or a
field of the endpoint's configuration space that R214 reads. -/
inductive RegTarget
  | device (addr : DevAddr)
  /-- A 64-bit write: `hi` is the word behind the one at the address (R430). -/
  | device64 (addr : DevAddr) (hi : W32)
  | bar (off : BitVec 24)
  | msixEnable | msixFunctionMask | busMaster
  deriving DecidableEq, Repr

/-- One claimant of a context (R122, R124): its identity, the TILE_GEN its request carries, and the generation of the
handle where the request names the context by handle. -/
structure Claimant where
  master  : Master
  tileGen : BitVec 16
  handle  : Option (BitVec 16)
  deriving DecidableEq, Repr

/-- What the device reads from host memory for a command: blocks of bytes by host address. -/
abbrev HostRead := List (Nat × Bytes)

/-- The outcome of a read of an SSD: the bytes; not completed after the rung-1 tries; ended by a rung 2 (R97). -/
inductive SsdResult
  | data (b : Bytes)
  | failed
  | rung2
  deriving DecidableEq, Repr

/-- An extent that the device reads on a member 2w + m: what stands from an LBA on (R119). What is not listed lies beyond
the zone's write pointer. -/
structure Extent where
  member : Fin 4
  lba    : Nat
  res    : SsdResult
  deriving DecidableEq, Repr

/-- What the device reads from the wythes for a command. -/
abbrev Medium := List Extent

/-- What the device finds on a member once its SSD is ready (R50, R65, R127, R385): the Identify data, the label records of both label
zones with the LBA behind each, whether every other zone is empty, the images of the active log region, the write pointers of the
zones that are not empty, and the highest MONO_COUNT that stands on it. -/
structure MemberScan where
  member    : Fin 4
  model     : Bytes
  zoned     : Bool
  lba       : Nat
  metadata  : Nat
  mdts      : Nat
  zoneLbas  : Nat
  zones     : Nat
  zasl      : Nat
  maxActive : Nat
  labels    : List (Fin 2 × Nat × Bytes)
  empty     : Bool
  images    : List Bytes
  pointers  : List (Nat × Nat)
  mono      : BitVec 64
  deriving DecidableEq, Repr

/-- Who a raw port operation serves: the course of a context, or an entry of a KX-1200 queue pair (R103, R418). -/
inductive RawOwner
  | course (c : CtxId)
  | entry (q : QueueId) (pos : BitVec 32)
  deriving DecidableEq, Repr

/-- What a fault met (R343): no operation that can be repeated; an operation of the device itself (a write of a brick, a record or
an image, a memory read, a bus transaction); a raw operation, or the write of an APPEND of a course. -/
inductive FaultOp
  | none
  | own
  | raw (o : RawOwner)
  deriving DecidableEq, Repr

/-- Why a bank test is due (R63): the bank has charged in this ignition-on, its period has passed while running, or the thermistor
has moved. -/
inductive BankDue
  | ignition
  | periodic
  | thermistor
  deriving DecidableEq, Repr

/-- What a PTP message brings the time service (R382, R383): a Sync of the selected master, with the offset that the profile's exchange
measured, in ns; an Announce after which the best master clock algorithm selects a master, or none; any other message. -/
inductive PtpMsg
  | sync (offset : Int)
  | announce (master : Option Nat)
  | other
  deriving DecidableEq, Repr
/-! ### The commands -/

/-- What an access to the DRAM is made for (R267). -/
inductive DramAccess
  | portRing | staging | evidenceHod
  /-- SHA-384 and ECDSA units reading data. -/
  | unitRead
  /-- Root-port DMA in both directions. -/
  | rootPort
  | contextRecord | bindingTable | contextLog
  /-- LD.x and ST.x. -/
  | engine
  | commandWord | list | statusWord
  /-- A non-evidence hod descriptor. -/
  | hod
  /-- A host access through the DRAM window BAR. -/
  | hostWindow
  | hostCourse
  deriving DecidableEq, Repr

/-- A request that arrives at the DRAM controller: what it is made for, whether for the last course, its bytes, and the FABCLK cycle of its
arrival (R267, R268). -/
structure DramRequest where
  access     : DramAccess
  lastCourse : Bool
  bytes      : Nat
  since      : Nat
  deriving DecidableEq, Repr

/-- Source numbers that R213 names as never raised. -/
def neverRaised (n : Nat) : Bool :=
  n == 140 || n == 141 || n == 143 || (decide (149 ≤ n) && decide (n < 160)) || n == 191 || n == 223 || n == 227 || decide (233 ≤ n) && decide (n < 240)

/-- What a bank test samples at its start: the bank voltage in mV and the bank current in mA (R63). -/
structure BankReading where
  milliVolts : Nat
  milliAmps  : Nat
  deriving DecidableEq, Repr

/-- The charge drawn in a bank test, in µC, and the fall of the bank voltage, in mV (R63 step 3). -/
structure TestCharge where
  microC : Nat
  milliV : Nat
  deriving DecidableEq, Repr

/-- The voltage step of a bank test, in µV, and its current step, in mA (R63 step 4). -/
structure TestStep where
  microV : Nat
  milliA : Nat
  deriving DecidableEq, Repr

/-- The energy drawn during a drill and the idle energy measured before it, in nJ (R65). -/
structure DrillEnergy where
  drawn : Nat
  idle  : Nat
  deriving DecidableEq, Repr

/-- A handle of a context: its number and GENERATION (R116, R124). -/
structure CtxHandle where
  ctx : CtxId
  gen : BitVec 16
  deriving DecidableEq, Repr

/-- A request about a context and who makes it (R122, R124). -/
structure CtxAsk where
  ctx      : CtxId
  claimant : Claimant
  deriving DecidableEq, Repr

/-- What ends the repetitions of an RPTI: the one whose read of local memory, or first load of its customer opcode, has an uncorrectable
error, and the one with an uncorrectable micro-word, with that word's number (R192, R204, R354). -/
structure RptiErrors where
  data  : Option Nat
  micro : Option (Nat × Nat)
  deriving DecidableEq, Repr

/-- How far a customer opcode runs: the micro-word boundary at which a winner is selected, if one is, and the micro-word with an
uncorrectable error, if one has it (R204, R205). -/
structure MicroEvents where
  cut   : Option Nat
  error : Option Nat
  deriving DecidableEq, Repr

/-- The DRAM requests that have arrived by a slot's start, and the FABCLK cycle of that start (R268). -/
structure SlotArrivals where
  now : Nat
  new : List DramRequest
  deriving DecidableEq, Repr

/-- A WRITE's reads of host memory, and the unit before which a rung 2 on the lane's tile ends it, if one does (R283). -/
structure WriteSource where
  host : HostRead
  cut  : Option Nat
  deriving DecidableEq, Repr

/-- The 310 rows of spec/opcode_table.json. -/
inductive Instr
  /-- UNIT_RECEIVED (R378): A receiving interface writes a whole received unit into its port ring in DRAM. -/
  | unitReceived (key : BitVec 320) (unit : Bytes) (ringFull : Bool)
  /-- RECORD_OFFERED (R61): A record or unit offered to a lane is admitted whole or refused whole. -/
  | recordOffered (l : Lane)
  /-- BRICK_AGE_EXPIRY (R37): BRICK_AGE passes since the brick's first payload byte, and the brick closes with reason 3. -/
  | brickAgeExpiry (l : Lane)
  /-- SEAL_COMPLETE (R44): A SHA-384 pass over header and payload completes, the trailer is written and the brick moves to the writing buffer. -/
  | sealComplete (l : Lane)
  /-- WYTHE_WRITE_COMPLETE (R48): A wythe completes the FUA write of a brick or coping record. -/
  | wytheWriteComplete (l : Lane) (isRecord : Bool) (w : Fin 2) (lba : Nat)
  /-- JOURNAL_APPLY (R77): A journal bank applies one whole lane entry update in a REFCLK cycle. -/
  | journalApply (l : Option Lane)
  /-- LANE_OPEN_RETRY (R428): Every 1 s while a lane could open but has no open object, the open is attempted again. -/
  | laneOpenRetry (l : Lane)
  /-- OBJECT_SPAN_EXPIRY (R30): The lane's OBJECT_SPAN expires and the current object is closed and a new one opened. -/
  | objectSpanExpiry (l : Lane)
  /-- RTP_PACKET_RECEIVED (R33): A lane engine parses an RTP packet and stages, holds, discards or resynchronises it by its extended sequence number. -/
  | rtpPacketReceived (l : Lane)
  /-- REORDER_TIMEOUT (R33): The oldest held packet has waited REORDER_TIME, so every held packet is staged and missing numbers become source gaps. -/
  | reorderTimeout (l : Lane) (ssrc : BitVec 32)
  /-- COPE_PERIOD_EXPIRY (R45): COPE_PERIOD passes since the lane's previous record and a KIND 01h coping record falls due. -/
  | copePeriodExpiry (l : Lane)
  /-- COPING_RECORD_SIGNED (R47): The ECDSA signature of a coping record completes and the record is written to every configured wythe. -/
  | copingRecordSigned (l : Lane)
  /-- RETENTION_SWEEP (R125): Once per SWEEP_PERIOD the context store reads deadlines and finds the lowest OPEN_MONO. -/
  | retentionSweep
  /-- RAZE_RECORD_DURABLE (R52): When a razing record is DURABLE, the object is marked razed and the claim is released. -/
  | razeRecordDurable (c : CtxId)
  /-- HORIZON_UPDATE (R58): Every 1 ms the hold-up controller recomputes H from bank voltage, temperature and measured capacitance. -/
  | horizonUpdate (vLow : Nat) (tBank : Int)
  /-- HOLDUP_INADEQUATE_CLEAR (R62): No cause has held for 10 s with enough margin, so hold-up-inadequate clears and source 211 is raised. -/
  | holdupInadequateClear
  /-- BANK_TEST_START (R63): A bank test falls due, disables charger and bypass, and samples the bank. -/
  | bankTestStart (why : BankDue) (bank : BankReading)
  /-- BANK_TEST_COMPLETE (R63): After 100 ms C_MEAS and ESR_MEAS are computed, validated and published, and charger and bypass are restored. -/
  | bankTestComplete (charge : TestCharge) (change : TestStep)
  /-- DRILL_REQUEST (R65): A write of 1 to DRILL_REQUEST starts a drill at once. -/
  | drillRequest
  /-- DRILL_START (R65): A due drill starts at ignition-off with supply present and no INFLIGHT, writing filler bricks to the drill zones. -/
  | drillStart
  /-- DRILL_COMPLETE (R65): The drill's Flush completes, E_B is set from the measured energy, source 214 is raised and the drill zone reset. -/
  | drillComplete (energy : DrillEnergy)
  /-- DRILL_OVERDUE (R65): A drill overdue by 30 days raises source 215. -/
  | drillOverdue
  /-- CURRENT_SAMPLE (R67): Each shunt current sample adds its charge to Q_IN or Q_OUT. -/
  | currentSample (microAmps : Int)
  /-- LEAKAGE_CHECK (R67): Every 60 s with the charger idle the difference from c × Vbank is declared as leakage, raising source 216 if large. -/
  | leakageCheck (vBank : Nat)
  /-- SUPPLY_SAMPLE (R68): A supply and bank sample is compared with VSUP_FAIL, VBANK_CRIT and the energy trip. -/
  | supplySample (vSup : Nat) (vBank : Nat)
  /-- T_DECLARE_EXPIRY (R68): The supply stays below VSUP_FAIL for T_DECLARE and power loss is declared with cause bit 0. -/
  | tDeclareExpiry
  /-- SUPPLY_RETURN_RESTART (R74): The supply stays above VSUP_FAIL + VSUP_HYST for RESTART_HOLD after a declaration, and the device restarts through the warm path. -/
  | supplyReturnRestart
  /-- RESTART_SCAN (R78): Once SSDs are ready, each open lane's tails are read, standing bricks and records are counted, and the rest is declared in a gap brick. -/
  | restartScan (l : Lane) (medium : Medium)
  /-- CONTEXT_RESTORE (R127): Once SSDs are ready, labels and the active context log are read and the context table is rebuilt from the newest valid images. -/
  | contextRestore (found : List MemberScan)
  /-- COMMAND_WORD_FETCH (R111): A command word is fetched and checked completely before execution, honouring SUSPEND except at a resume. -/
  | commandWordFetch (c : CtxId) (hostWord : Bytes)
  /-- COURSE_START (R104): Firmware starts a course in a context through the context store's control block. -/
  | courseStart (e : Eng) (tileGen : BitVec 16) (handle : CtxHandle) (addr : BitVec 40) (status : BitVec 40) (notify : Option (BitVec 8))
  /-- RESUME_CAUSE (R108): A resume cause arrives for a context and sets its pending bit, resuming a suspended course if enabled. -/
  | resumeCause (ask : CtxAsk) (cause : Fin 16)
  /-- WAIT_TIMEOUT (R107): COUNT ms elapse in a WAIT and the course resumes with cause 6. -/
  | waitTimeout (c : CtxId)
  /-- STOP_REQUEST (R108): A stop request ends a suspended course at once or a running one at its next word boundary with 0181h. -/
  | stopRequest (ask : CtxAsk)
  /-- COURSE_NOP (R102): The NOP command word does nothing. -/
  | courseNop (c : CtxId)
  /-- JUMP (R102): The JUMP command continues the course at ADDRESS. -/
  | jump (c : CtxId)
  /-- BRANCH (R102): The BRANCH command continues at ADDRESS when its test, possibly inverted, is true. -/
  | branch (c : CtxId)
  /-- WAIT (R102): The WAIT command suspends the course until a cause in its mask, its channel firing or its timeout. -/
  | wait (c : CtxId)
  /-- POST (R102): The POST command writes a KIND 3 status word carrying PARAM in DETAIL. -/
  | post (c : CtxId)
  /-- INGEST (R93): INGEST runs lane recording, staging each record under admission until COUNT, a stop or a lane close. -/
  | ingest (c : CtxId) (host : HostRead)
  /-- SEAL (R94): SEAL waits for sealing, requests an object close, or closes the filling brick in the last course, by MODE. -/
  | seal (c : CtxId)
  /-- COPE (R95): COPE requests a coping record of the lane and ends when the next record is DURABLE. -/
  | cope (c : CtxId)
  /-- APPEND (R96): APPEND checks and writes a copy of a brick extent or coping record to a wythe and records its location. -/
  | append (c : CtxId) (host : HostRead) (medium : Medium)
  /-- READ (R97): READ copies bricks or one coping record from a wythe, with optional fallback. -/
  | read (c : CtxId) (host : HostRead) (medium : Medium)
  /-- VERIFY (R98): VERIFY applies the brick or record checks to data read from one or both wythes. -/
  | verify (c : CtxId) (medium : Medium)
  /-- RAZE (R99): RAZE claims the object, checks HOLD, and has a razing record signed and written. -/
  | raze (c : CtxId) (medium : Medium)
  /-- MOVE (R100): MOVE hands consecutive hod descriptors to a hod and ends with the first non-zero descriptor status. -/
  | move (c : CtxId)
  /-- LEDGER (R101): LEDGER writes the atomic ledger snapshot of each named lane to ADDRESS. -/
  | ledger (c : CtxId)
  /-- ETH (R103): The raw ETH operation transmits or receives one frame without sealing or counting. -/
  | eth (c : CtxId) (host : HostRead)
  /-- NVME (R103): The raw NVME operation issues one NVMe command image to a root port. -/
  | nvme (c : CtxId) (host : HostRead)
  /-- USB (R103): The raw USB operation issues READ(16), READ CAPACITY(16) or INQUIRY to a port. -/
  | usb (c : CtxId) (host : HostRead)
  /-- CAN (R103): The raw CAN operation transmits or receives frames on a controller. -/
  | can (c : CtxId) (host : HostRead)
  /-- TDM (R103): The raw TDM operation transmits or receives slot-interleaved samples on a port. -/
  | tdm (c : CtxId) (host : HostRead)
  /-- CONTEXT_CLAIM (R122): A claim on a context is answered in its arrival cycle, the highest identity winning. -/
  | contextClaim (c : CtxId) (claimants : List Claimant)
  /-- CONTEXT_RELEASE (R122): The holder releases a context claim. -/
  | contextRelease (request : Claimant) (c : CtxId)
  /-- CONTEXT_ALLOCATE (R123): Firmware or the host allocates a free context from the free list, subject to FREE_RESERVE. -/
  | contextAllocate (request : Claimant)
  /-- CONTEXT_FREE (R116): A free operation returns a context and its LOC_EXT contexts to FREE, advancing GENERATION. -/
  | contextFree (request : Claimant) (c : CtxId) (gen : BitVec 16)
  /-- LOC_EXT_TAKE_RETRY (R119): Every 1 ms with the free list empty, the device retries taking a LOC_EXT context. -/
  | locExtTakeRetry (c : CtxId)
  /-- REKEY_REQUEST (R133): A write of 1 to REKEY_REQUEST starts a background re-key. -/
  | rekeyRequest
  /-- REKEY_SWITCH (R133): When the rebuild and its log are complete, table, key and stash bank switch in one cycle. -/
  | rekeySwitch
  /-- HOD_SUBMIT (R138): A HOD_SUBMIT write queues a descriptor address, or is refused when the queue is full. -/
  | hodSubmit (m : Master) (h : Hod) (addr : BitVec 35)
  /-- HOD_EN_WRITE (R139): A write of HOD_CTL.EN starts or holds the hod's descriptors. -/
  | hodEnWrite (m : Master) (h : Hod) (en : Bool)
  /-- HOD_DIS_SET (R146): A write of 1 to DIS stops the hod and drops every descriptor in progress and queued. -/
  | hodDisSet (m : Master) (h : Hod)
  /-- HOD_DIS_CLEAR (R146): A write of 0 to DIS takes effect when DROPPING clears. -/
  | hodDisClear (m : Master) (h : Hod)
  /-- DESCRIPTOR_START (R137): A hod reads and latches its next descriptor and bond entry and starts moving. -/
  | descriptorStart (h : Hod)
  /-- DESCRIPTOR_COMPLETE (R140): A hod finishes its output writes and writes DONE and STATUS to the descriptor. -/
  | descriptorComplete (h : Hod)
  /-- DROPPING_CLEAR (R146): The DONE writebacks of dropped descriptors are made, DROPPING clears and source 189 is raised. -/
  | droppingClear (h : Hod)
  /-- MFSR (R186): MFSR moves a special register to a general register. -/
  | mfsr (e : Eng) (rd : Reg) (sr : BitVec 4)
  /-- MTSR (R186): MTSR moves a general register to a special register. -/
  | mtsr (e : Eng) (sr : BitVec 4) (ra : Reg)
  /-- ADD (R181): ADD writes ra + rb modulo 2^24. -/
  | add (e : Eng) (rd : Reg) (ra : Reg) (rb : Reg)
  /-- SUB (R181): SUB writes ra − rb modulo 2^24. -/
  | sub (e : Eng) (rd : Reg) (ra : Reg) (rb : Reg)
  /-- AND (R181): AND writes ra and rb. -/
  | and (e : Eng) (rd : Reg) (ra : Reg) (rb : Reg)
  /-- OR (R181): OR writes ra or rb. -/
  | or (e : Eng) (rd : Reg) (ra : Reg) (rb : Reg)
  /-- XOR (R181): XOR writes ra xor rb. -/
  | xor (e : Eng) (rd : Reg) (ra : Reg) (rb : Reg)
  /-- NEG (R181): NEG writes 0 − ra. -/
  | neg (e : Eng) (rd : Reg) (ra : Reg)
  /-- ABS (R181): ABS writes the absolute value of ra. -/
  | abs (e : Eng) (rd : Reg) (ra : Reg)
  /-- MIN (R181): MIN writes the signed minimum. -/
  | min (e : Eng) (rd : Reg) (ra : Reg) (rb : Reg)
  /-- MAX (R181): MAX writes the signed maximum. -/
  | max (e : Eng) (rd : Reg) (ra : Reg) (rb : Reg)
  /-- MINU (R181): MINU writes the unsigned minimum. -/
  | minu (e : Eng) (rd : Reg) (ra : Reg) (rb : Reg)
  /-- MAXU (R181): MAXU writes the unsigned maximum. -/
  | maxu (e : Eng) (rd : Reg) (ra : Reg) (rb : Reg)
  /-- SLL (R181): SLL shifts ra left by rb. -/
  | sll (e : Eng) (rd : Reg) (ra : Reg) (rb : Reg)
  /-- SRL (R181): SRL shifts ra right logically by rb. -/
  | srl (e : Eng) (rd : Reg) (ra : Reg) (rb : Reg)
  /-- SRA (R181): SRA shifts ra right arithmetically by rb. -/
  | sra (e : Eng) (rd : Reg) (ra : Reg) (rb : Reg)
  /-- ROR (R181): ROR rotates ra right by rb mod 24. -/
  | ror (e : Eng) (rd : Reg) (ra : Reg) (rb : Reg)
  /-- ROL (R181): ROL rotates ra left by rb mod 24. -/
  | rol (e : Eng) (rd : Reg) (ra : Reg) (rb : Reg)
  /-- SEQ (R181): SEQ writes 1 if ra equals rb. -/
  | seq (e : Eng) (rd : Reg) (ra : Reg) (rb : Reg)
  /-- SNE (R181): SNE writes 1 if ra differs from rb. -/
  | sne (e : Eng) (rd : Reg) (ra : Reg) (rb : Reg)
  /-- SLT (R181): SLT writes 1 if ra < rb signed. -/
  | slt (e : Eng) (rd : Reg) (ra : Reg) (rb : Reg)
  /-- SLTU (R181): SLTU writes 1 if ra < rb unsigned. -/
  | sltu (e : Eng) (rd : Reg) (ra : Reg) (rb : Reg)
  /-- SLE (R181): SLE writes 1 if ra ≤ rb signed. -/
  | sle (e : Eng) (rd : Reg) (ra : Reg) (rb : Reg)
  /-- SLEU (R181): SLEU writes 1 if ra ≤ rb unsigned. -/
  | sleu (e : Eng) (rd : Reg) (ra : Reg) (rb : Reg)
  /-- MUL (R166): MUL issues a signed product into MHI:MLO at issue + 3. -/
  | mul (e : Eng) (ra : Reg) (rb : Reg)
  /-- MULU (R166): MULU issues an unsigned product into MHI:MLO at issue + 3. -/
  | mulu (e : Eng) (ra : Reg) (rb : Reg)
  /-- DIVS (R166): DIVS issues a signed divide whose quotient and remainder land at issue + 13. -/
  | divs (e : Eng) (ra : Reg) (rb : Reg)
  /-- DIVU (R166): DIVU issues an unsigned divide whose results land at issue + 13. -/
  | divu (e : Eng) (ra : Reg) (rb : Reg)
  /-- MUL_RESULT (R166): A product is written to MLO and MHI at its fixed cycle. -/
  | mulResult (e : Eng)
  /-- DIV_RESULT (R166): A divide result is written to MLO and MHI, setting DOV or DZ as needed. -/
  | divResult (e : Eng)
  /-- LDW (R181): Short LDW loads a data-space word at ra + u4. -/
  | ldw (e : Eng) (rd : Reg) (ra : Reg) (u4 : BitVec 4) (ecc : Fin 3)
  /-- STW (R181): Short STW stores rs at ra + u4. -/
  | stw (e : Eng) (rs : Reg) (ra : Reg) (u4 : BitVec 4)
  /-- LDWI (R181): LDWI loads mem[ra] and steps ra by s4. -/
  | ldwi (e : Eng) (rd : Reg) (ra : Reg) (s4 : BitVec 4) (ecc : Fin 3)
  /-- STWI (R181): STWI stores rs at mem[ra] and steps ra by s4. -/
  | stwi (e : Eng) (rs : Reg) (ra : Reg) (s4 : BitVec 4)
  /-- ADDI (R181): Short ADDI adds a signed 8-bit immediate to rd. -/
  | addi (e : Eng) (rd : Reg) (s8 : BitVec 8)
  /-- MOVI (R181): MOVI loads a signed 8-bit immediate into rd. -/
  | movi (e : Eng) (rd : Reg) (s8 : BitVec 8)
  /-- BZ (R181): Short BZ branches by s8 if rs is zero. -/
  | bz (e : Eng) (rs : Reg) (s8 : BitVec 8)
  /-- BNZ (R181): Short BNZ branches by s8 if rs is non-zero. -/
  | bnz (e : Eng) (rs : Reg) (s8 : BitVec 8)
  /-- BRA (R181): Short BRA branches by s12. -/
  | bra (e : Eng) (s12 : BitVec 12)
  /-- NOP (R182): The engine NOP instruction does nothing. -/
  | nop (e : Eng)
  /-- HALT (R182): HALT puts the engine in HALTED. -/
  | halt (e : Eng)
  /-- DI (R171): DI clears IE in its issue cycle. -/
  | di (e : Eng)
  /-- EI (R171): EI sets IE so an entry may begin at the next boundary. -/
  | ei (e : Eng)
  /-- RETI (R170): RETI returns from the current level or tail-chains to a pending higher source. -/
  | reti (e : Eng)
  /-- WAITE (R193): WAITE completes if EVL and EVM overlap, or enters WAITING. -/
  | waite (e : Eng)
  /-- WAITT (R194): WAITT waits until TNOW[23:0] reaches its target under a signed 24-bit difference. -/
  | waitt (e : Eng) (ra : Reg)
  /-- WAIT_CONDITION_MET (R193): EVL and EVM overlap while WAITING in WAITE, and the engine resumes 2 cycles later. -/
  | waitConditionMet (e : Eng)
  /-- WAITT_TARGET_REACHED (R194): TNOW reaches the WAITT target and the engine resumes. -/
  | waittTargetReached (e : Eng)
  /-- SENDE (R196): SENDE publishes on the event router channel in ra[8:0]. -/
  | sende (e : Eng) (ra : Reg)
  /-- RPT (R190): RPT repeats the following instruction n times with no boundary between repetitions. -/
  | rpt (e : Eng) (nm1 : BitVec 6) (body : EOp) (bad : Option Nat)
  /-- RPTI (R190): RPTI repeats the following instruction RC times, with a boundary after each repetition. -/
  | rpti (e : Eng) (body : EOp) (stop : Option Nat) (errors : RptiErrors)
  /-- JMP (R182): JMP sets PC to ra[17:0]. -/
  | jmp (e : Eng) (ra : Reg)
  /-- CALLR (R182): CALLR writes the return parcel to g15 and jumps to ra. -/
  | callr (e : Eng) (ra : Reg)
  /-- MFB (R182): MFB moves a bank register to a general register. -/
  | mfb (e : Eng) (rd : Reg) (b : BankReg)
  /-- MTB (R182): MTB moves ra[10:0] to a bank register. -/
  | mtb (e : Eng) (b : BankReg) (ra : Reg)
  /-- ADDI_L (R184): Long ADDI writes ra + s18. -/
  | addiL (e : Eng) (rd : Reg) (ra : Reg) (s18 : BitVec 18)
  /-- ANDI (R184): ANDI writes ra and s18. -/
  | andi (e : Eng) (rd : Reg) (ra : Reg) (s18 : BitVec 18)
  /-- ORI (R184): ORI writes ra or s18. -/
  | ori (e : Eng) (rd : Reg) (ra : Reg) (s18 : BitVec 18)
  /-- XORI (R184): XORI writes ra xor s18. -/
  | xori (e : Eng) (rd : Reg) (ra : Reg) (s18 : BitVec 18)
  /-- SLLI (R184): SLLI shifts ra left by an immediate count. -/
  | slli (e : Eng) (rd : Reg) (ra : Reg) (s18 : BitVec 18)
  /-- SRLI (R184): SRLI shifts ra right logically by an immediate count. -/
  | srli (e : Eng) (rd : Reg) (ra : Reg) (s18 : BitVec 18)
  /-- SRAI (R184): SRAI shifts ra right arithmetically by an immediate count. -/
  | srai (e : Eng) (rd : Reg) (ra : Reg) (s18 : BitVec 18)
  /-- RORI (R184): RORI rotates ra right by an immediate count mod 24. -/
  | rori (e : Eng) (rd : Reg) (ra : Reg) (s18 : BitVec 18)
  /-- ROLI (R184): ROLI rotates ra left by an immediate count mod 24. -/
  | roli (e : Eng) (rd : Reg) (ra : Reg) (s18 : BitVec 18)
  /-- SEQI (R184): SEQI writes 1 if ra equals s18. -/
  | seqi (e : Eng) (rd : Reg) (ra : Reg) (s18 : BitVec 18)
  /-- SNEI (R184): SNEI writes 1 if ra differs from s18. -/
  | snei (e : Eng) (rd : Reg) (ra : Reg) (s18 : BitVec 18)
  /-- SLTI (R184): SLTI writes 1 if ra < s18 signed. -/
  | slti (e : Eng) (rd : Reg) (ra : Reg) (s18 : BitVec 18)
  /-- SLTUI (R184): SLTUI writes 1 if ra < s18 unsigned. -/
  | sltui (e : Eng) (rd : Reg) (ra : Reg) (s18 : BitVec 18)
  /-- SGTI (R184): SGTI writes 1 if ra > s18 signed. -/
  | sgti (e : Eng) (rd : Reg) (ra : Reg) (s18 : BitVec 18)
  /-- SGTUI (R184): SGTUI writes 1 if ra > s18 unsigned. -/
  | sgtui (e : Eng) (rd : Reg) (ra : Reg) (s18 : BitVec 18)
  /-- LI (R184): LI loads a 24-bit constant into rd. -/
  | li (e : Eng) (rd : Reg) (imm : BitVec 24)
  /-- LDW_L (R184): Long LDW loads a data-space word at ra + s18. -/
  | ldwL (e : Eng) (rd : Reg) (ra : Reg) (s18 : BitVec 18) (ecc : Fin 3)
  /-- STW_L (R184): Long STW stores rs at ra + s18. -/
  | stwL (e : Eng) (rs : Reg) (ra : Reg) (s18 : BitVec 18)
  /-- LD_B (R161): LD.B loads a zero-extended byte from device memory through a bank. -/
  | ldB (e : Eng) (rd : Reg) (b : BankReg) (ra : Reg) (s18 : BitVec 18)
  /-- LD_B_S (R161): LD.B.S loads a sign-extended byte from device memory. -/
  | ldBS (e : Eng) (rd : Reg) (b : BankReg) (ra : Reg) (s18 : BitVec 18)
  /-- LD_H (R161): LD.H loads a zero-extended half-word from device memory. -/
  | ldH (e : Eng) (rd : Reg) (b : BankReg) (ra : Reg) (s18 : BitVec 18)
  /-- LD_H_S (R161): LD.H.S loads a sign-extended half-word from device memory. -/
  | ldHS (e : Eng) (rd : Reg) (b : BankReg) (ra : Reg) (s18 : BitVec 18)
  /-- LD_T (R161): LD.T loads 24 bits from device memory. -/
  | ldT (e : Eng) (rd : Reg) (b : BankReg) (ra : Reg) (s18 : BitVec 18)
  /-- ST_B (R161): ST.B posts a byte store to device memory. -/
  | stB (e : Eng) (rs : Reg) (b : BankReg) (ra : Reg) (s18 : BitVec 18)
  /-- ST_H (R161): ST.H posts a half-word store to device memory. -/
  | stH (e : Eng) (rs : Reg) (b : BankReg) (ra : Reg) (s18 : BitVec 18)
  /-- ST_T (R161): ST.T posts a 24-bit store to device memory. -/
  | stT (e : Eng) (rs : Reg) (b : BankReg) (ra : Reg) (s18 : BitVec 18)
  /-- LOAD_DATA_RETURN (R162): The data of a blocking load return and the STALLED engine continues. -/
  | loadDataReturn (e : Eng) (ecc : Fin 3)
  /-- STORE_BUFFER_DRAIN (R162): A posted store completes and frees its buffer entry, releasing a stalled store. -/
  | storeBufferDrain (e : Eng)
  /-- BZ_L (R184): Long BZ branches by s18 if rs is zero. -/
  | bzL (e : Eng) (rs : Reg) (s18 : BitVec 18)
  /-- BNZ_L (R184): Long BNZ branches by s18 if rs is non-zero. -/
  | bnzL (e : Eng) (rs : Reg) (s18 : BitVec 18)
  /-- BRA_L (R184): Long BRA branches by s18. -/
  | braL (e : Eng) (s18 : BitVec 18)
  /-- CALL (R184): CALL writes the return parcel to g15 and branches by s18. -/
  | call (e : Eng) (s18 : BitVec 18)
  /-- SENDEI (R196): SENDEI publishes on event router channel n. -/
  | sendei (e : Eng) (n : Chan)
  /-- CUSTOMER_OPCODE (R204): C0–C15 run their micro-word sequence and commit all results at COMMIT. -/
  | customerOpcode (e : Eng) (n : Reg) (rd : Reg) (ra : Reg) (x : BitVec 2) (imm : BitVec 18) (events : MicroEvents) (data : Option Nat)
  /-- INTERRUPT_ENTRY (R170): A winning source is entered at a boundary, saving IPC and ISTAT and fetching from VBASE + 4 × source. -/
  | interruptEntry (e : Eng)
  /-- SOURCE_ARRIVAL (R211): A raising of a vector unit source is counted as pending, coalesced or dropped. -/
  | sourceArrival (n : Src)
  /-- SRC_COUNT_READ (R211): A read of a source's COUNT returns it and clears it. -/
  | srcCountRead (m : Master) (n : Src)
  /-- SNAP_SEL (R212): A write of SNAP_SEL snapshots a source's counters and PENDING from one cycle. -/
  | snapSel (m : Master) (n : Src)
  /-- RAISE (R221): A write of RAISE makes one arrival at the source written. -/
  | raise (m : Master) (n : Src)
  /-- DELIVERY (R215): A pending source is assigned round robin to a ready target, selected and delivered. -/
  | delivery (t : Target)
  /-- MODERATION_EXPIRY (R217): A target's HOLDOFF hold after a delivery ends. -/
  | moderationExpiry (t : Target)
  /-- PUBLICATION (R228): A publication reaches a channel and begins a firing wave, or is blocked or gated. -/
  | publication (ch : Chan) (k : Nat)
  /-- PUBLISH (R239): A write of PUBLISH publishes on the channel written. -/
  | publish (e : Eng) (val : W24)
  /-- ARR_TAKE (R229): A read of ARR takes the count and clears it. -/
  | arrTake (t : TaskInput)
  /-- BLOCK_TASK_START (R229): A block starts its task, taking the task input's count as multiplicity. -/
  | blockTaskStart (t : TaskInput)
  /-- REARM_BLOCK_END (R231): A channel's re-arm block ends and the channel may fire again. -/
  | rearmBlockEnd (ch : Chan)
  /-- RATE_WINDOW_END (R232): A 400-tick window ends and a count above RATE_MAX sets RATE_HIT and raises source 226. -/
  | rateWindowEnd
  /-- COURSE_PORT_TAKE (R235): The context store takes a channel's course port and delivers cause 5 to each context waiting on it. -/
  | coursePortTake (ch : Chan)
  /-- ROUTER_SNAP_SEL (R238): A write of the router's SNAP_SEL snapshots a task input's counters. -/
  | routerSnapSel (m : Master) (t : TaskInput)
  /-- SEND (R245): A SEND write copies staging words into the slot, or is refused when FULL or by enforcement. -/
  | send (m : Master) (ch : Mbox) (val : BitVec 32)
  /-- ACK (R246): An ACK write stores ACK_VAL and clears FULL, or counts a stray acknowledgement. -/
  | ack (m : Master) (ch : Mbox) (val : BitVec 32)
  /-- MAILBOX_LOCK (R243): A write of 1 to LOCKED freezes the binding table and enables enforcement. -/
  | mailboxLock (m : Master)
  /-- CROSSING_DETECTED (R250): A crossing held for CROSS_LIMIT raises source 228 and records the channels. -/
  | crossingDetected (a : Mbox) (b : Mbox)
  /-- SUBMIT_HI (R266): A SUBMIT_HI write submits a mortar job descriptor on the tile's arbiter input. -/
  | submitHi (e : Eng) (val : BitVec 32)
  /-- SUBMIT12_LO (R430): A SUBMIT12_LO write submits a mortar job descriptor on input 12. -/
  | submit12Lo (m : Master) (val : BitVec 32)
  /-- MORTAR_JOB_COMPLETE (R259): A mortar job completes, places its result and completion word and sets EVL bit 19. -/
  | mortarJobComplete (u : Fin 10)
  /-- STARVATION_DETECTED (R264): An input's oldest waiting job passes STARVE_LIMIT, setting STARVING and raising source 192 + i. -/
  | starvationDetected (inp : Fin 15)
  /-- SLOT_START (R268): A DRAM slot starts and is given to its owner class or to the oldest waiting class. -/
  | slotStart (arrivals : SlotArrivals)
  /-- SLOT_SEL (R270): A write of SLOT_SEL selects the copy active from the next frame boundary. -/
  | slotSel (m : Master) (val : BitVec 32)
  /-- FRAME_BOUNDARY (R270): A frame boundary makes a pending slot table copy active. -/
  | frameBoundary
  /-- QUEUE_ENABLE (R280): A write of EN = 1 checks and enables a queue pair, or refuses it with CFG_ERR. -/
  | queueEnable (m : Master) (q : QueueId) (host : HostRead)
  /-- QUEUE_DISABLE (R280): A write of EN = 0 stops taking and completes undispatched entries with 0203h. -/
  | queueDisable (m : Master) (q : QueueId)
  /-- SQ_DOORBELL (R285): An SQ doorbell write covers entries up to the tail, or is ignored and counted. -/
  | sqDoorbell (m : Master) (q : QueueId) (val : BitVec 32)
  /-- CQ_DOORBELL (R285): A CQ doorbell write frees completion slots up to the head, or is ignored and counted. -/
  | cqDoorbell (m : Master) (q : QueueId) (val : BitVec 32)
  /-- ENTRY_TAKE (R287): After the shadow write is confirmed, TAKEN_POS advances and taken entries are dispatched. -/
  | entryTake (host : HostRead)
  /-- NOP_ENTRY (R282): A NOP submission completes at once with 0000h. -/
  | nopEntry (q : QueueId)
  /-- START_ENTRY (R282): A START submission starts a course with the entry as its starter. -/
  | startEntry (q : QueueId)
  /-- SIGNAL_ENTRY (R282): A SIGNAL submission delivers resume cause 2, 4 or 7. -/
  | signalEntry (q : QueueId)
  /-- STOP_ENTRY (R282): A STOP submission makes a stop request. -/
  | stopEntry (q : QueueId)
  /-- HOLD_ENTRY (R282): A HOLD submission claims the context and sets or clears HOLD. -/
  | holdEntry (q : QueueId)
  /-- WRITE_ENTRY (R283): A WRITE submission ingests host evidence in 64 KiB units on a type 08h lane. -/
  | writeEntry (q : QueueId) (source : WriteSource)
  /-- MORTAR_ENTRY (R282): A MORTAR submission submits a job descriptor on mortar input 13. -/
  | mortarEntry (q : QueueId)
  /-- COMPLETION_POSTED (R291): A ready completion is posted in take order and raises source 96 + IRQ_GROUP. -/
  | completionPosted (q : QueueId)
  /-- KX1200_NOP (R417): A KX-1200 NOP word completes with 0000h. -/
  | kx1200Nop (q : QueueId)
  /-- ETH_TX (R417): ETH_TX translates to a raw Ethernet transmit. -/
  | ethTx (q : QueueId) (host : HostRead)
  /-- ETH_RX (R417): ETH_RX translates to a raw Ethernet receive. -/
  | ethRx (q : QueueId)
  /-- NVM_CMD (R417): NVM_CMD translates to a raw NVMe command. -/
  | nvmCmd (q : QueueId) (host : HostRead)
  /-- USB_READ (R417): USB_READ translates to a raw USB READ(16). -/
  | usbRead (q : QueueId)
  /-- USB_CAPACITY (R417): USB_CAPACITY translates to a raw USB READ CAPACITY(16). -/
  | usbCapacity (q : QueueId)
  /-- USB_INQUIRY (R417): USB_INQUIRY translates to a raw USB INQUIRY. -/
  | usbInquiry (q : QueueId)
  /-- CAN_TX (R417): CAN_TX translates to a raw CAN transmit. -/
  | canTx (q : QueueId) (host : HostRead)
  /-- CAN_RX (R417): CAN_RX translates to a raw CAN receive. -/
  | canRx (q : QueueId)
  /-- TDM_TX (R417): TDM_TX translates to a raw TDM transmit. -/
  | tdmTx (q : QueueId) (host : HostRead)
  /-- TDM_RX (R417): TDM_RX translates to a raw TDM receive. -/
  | tdmRx (q : QueueId)
  /-- DICT_READ (R301): A dictionary read request returns an entry's value at one instant. -/
  | dictRead (path : Path) (idx : BitVec 16) (sub : BitVec 8)
  /-- DICT_WRITE (R301): A dictionary write request is checked for existence, access, role, length and range and set in force. -/
  | dictWrite (path : Path) (idx : BitVec 16) (sub : BitVec 8) (val : Bytes)
  /-- REGISTER_WRITE (R19): A write to a register without its own behaviour is applied, or refused as an address fault. -/
  | registerWrite (m : Master) (t : RegTarget) (val : BitVec 32)
  /-- WYTHE_SET_WRITE (R316): A write of WYTHE_SET removes a cleared wythe at once or is refused. -/
  | wytheSetWrite (path : Path) (val : BitVec 8)
  /-- KEY_WRITE (R134): A write of KEY0–KEY3 inserts or removes the lane's binding entry. -/
  | keyWrite (path : Path) (l : Lane) (n : Fin 4) (val : Bytes)
  /-- EPOCH_WRITE (R331): A write of a key slot's EPOCH moves the slot to a higher epoch. -/
  | epochWrite (path : Path) (slot : Fin 16) (val : BitVec 32)
  /-- KEYS_REVOKED (R315): A write of KEYS_REVOKED revokes service keys and ends their sessions. -/
  | keysRevoked (path : Path) (val : BitVec 8)
  /-- USDO_REQUEST (R306): A CANopen FD USDO upload or download request is served on controller 0. -/
  | usdoRequest (node : BitVec 8) (op : UsdoOp)
  /-- USDO_SEGMENT_TIMEOUT (R306): A segmented transfer with no segment for 1,000 ms aborts with 0504_0000h. -/
  | usdoSegmentTimeout (node : BitVec 8)
  /-- NMT_RESET_APPLICATION (R306): NMT reset application re-initialises controller 0's CANopen layer. -/
  | nmtResetApplication
  /-- NMT_RESET_COMMUNICATION (R306): NMT reset communication re-initialises the CANopen layer and ends path 0's session. -/
  | nmtResetCommunication
  /-- NMT_STATE_COMMAND (R306): An NMT command moves the node between pre-operational, operational and stopped. -/
  | nmtStateCommand (cmd : BitVec 8)
  /-- HEARTBEAT (R306): HEARTBEAT_TIME elapses and the node produces a heartbeat. -/
  | heartbeat
  /-- BUMUND_DATAGRAM (R308): A Bumund datagram is checked and served as a read, write piece or duplicate. -/
  | bumundDatagram (peer : Nat) (port : Fin 10) (bytes : Bytes) (zeroSum : Bool)
  /-- BUMUND_TRANSFER_IDLE (R309): A Bumund transfer idle for 10 s is abandoned. -/
  | bumundTransferIdle (peer : Nat)
  /-- STORE_ALL (R311): A save write stores every persistent entry into the configuration area. -/
  | storeAll (path : Path) (val : Bytes)
  /-- CONFIG_STORE_COMPLETE (R312): A configuration copy is read back and verified, or fails after 3 s, and the store is answered. -/
  | configStoreComplete (ok : Bool)
  /-- RESTORE_ALL (R311): A load write stores an empty copy so defaults apply at the next reset. -/
  | restoreAll (path : Path) (val : Bytes)
  /-- CHALLENGE (R303): A read of CHALLENGE draws 48 fresh bytes for the reading path. -/
  | challenge (path : Path)
  /-- RESPONSE (R303): A write of RESPONSE verifies the signature and opens a SERVICE session. -/
  | response (path : Path) (val : Bytes)
  /-- SESSION_CLOSE (R303): A write of 1 to SESSION_CLOSE ends the path's session. -/
  | sessionClose (path : Path)
  /-- CHALLENGE_EXPIRY (R303): A challenge expires 30 s after its read. -/
  | challengeExpiry (path : Path)
  /-- SESSION_IDLE_EXPIRY (R303): SESSION_IDLE passes without a SERVICE request and the session ends. -/
  | sessionIdleExpiry (path : Path)
  /-- OBJECT_HOLD_SET (R318): OBJECT_REQUEST action 01h claims the object and sets HOLD. -/
  | objectHoldSet (path : Path) (c : CtxId) (gen : BitVec 16)
  /-- OBJECT_HOLD_CLEAR (R318): OBJECT_REQUEST action 02h clears HOLD and delivers cause 3. -/
  | objectHoldClear (path : Path) (c : CtxId) (gen : BitVec 16)
  /-- OBJECT_OFFLOAD (R318): OBJECT_REQUEST action 03h delivers cause 2. -/
  | objectOffload (path : Path) (c : CtxId) (gen : BitVec 16)
  /-- OBJECT_RAZE (R318): OBJECT_REQUEST action 04h delivers cause 7. -/
  | objectRaze (path : Path) (c : CtxId) (gen : BitVec 16)
  /-- OBJECT_RESUME (R318): OBJECT_REQUEST action 05h delivers cause 4. -/
  | objectResume (path : Path) (c : CtxId) (gen : BitVec 16)
  /-- OBJECT_STOP (R318): OBJECT_REQUEST action 06h makes a stop request. -/
  | objectStop (path : Path) (c : CtxId) (gen : BitVec 16)
  /-- TRNG_TEST_FAILURE (R322): A TRNG health test fails, the source stops supplying and source 252 is raised. -/
  | trngTestFailure
  /-- TRNG_RETEST (R322): Every 100 ms a failed TRNG repeats its start-up tests. -/
  | trngRetest (pass : Bool)
  /-- TRNG_FAIL_TIMEOUT (R322): A TRNG failure lasting 10 s becomes a fault of the security block. -/
  | trngFailTimeout
  /-- DRBG_RESEED (R323): The DRBG reseeds after 65,536 requests or 1 s. -/
  | drbgReseed
  /-- IMAGE (R320): A write of IMAGE writes a firmware image to the inactive slot. -/
  | image (path : Path) (val : Bytes)
  /-- ACTIVATE (R326): A write of ACTIVATE verifies the inactive slot and selects it for a trial boot. -/
  | activate (path : Path)
  /-- BOOT_KEY_REVOKE (R328): A write of BOOT_KEY_REVOKE burns revocation bits. -/
  | bootKeyRevoke (path : Path) (val : BitVec 8)
  /-- SEC_EPOCH_FLOOR (R328): A write of SEC_EPOCH_FLOOR burns the rollback floor up to the value written. -/
  | secEpochFloor (path : Path) (val : BitVec 8)
  /-- BOOT_KEY_DIGEST (R340): A write of a BOOT_KEY_DIGEST burns it into an all-zero digest. -/
  | bootKeyDigest (path : Path) (n : Fin 4) (val : Bytes)
  /-- LC_REQUEST (R336): A write of LC_REQUEST is checked and accepted or refused as a life-cycle transition. -/
  | lcRequest (path : Path) (val : Bytes)
  /-- ATTEST_REPORT (R334): A read of ATTEST_REPORT returns a signed report with the path's challenge as nonce. -/
  | attestReport (path : Path)
  /-- EXTEST (R339): Loading EXTEST or CLAMP holds the device in reset. -/
  | extest
  /-- EXTEST_EXIT (R339): Leaving EXTEST or CLAMP boots the device as at power-on. -/
  | extestExit
  /-- FAULT (R343): A fault is reported against a function and retried at rung 1 or escalated. -/
  | fault (f : Func) (op : FaultOp) (status : BitVec 16) (isExternal : Bool) (ecc : Bool)
  /-- RETRY_BACKOFF_EXPIRY (R343): A rung-1 backoff ends and the failed operation is retried. -/
  | retryBackoffExpiry (f : Func) (op : FaultOp) (ok : Bool)
  /-- RUNG2_COMPLETE (R345): A re-initialised function accepts work again and re-issues uncompleted writes. -/
  | rung2Complete (f : Func) (host : HostRead)
  /-- LC_RUNG3_LIMIT_EXPIRY (R347): LC_RUNG3_LIMIT passes since the rung-3 last course started and the warm reset begins. -/
  | lcRung3LimitExpiry
  /-- PWRCYC_RELEASE (R349): PWRCYC_N rises after 200 ms or POWER_HOLD and the power-cycle start begins. -/
  | pwrcycRelease
  /-- ENGINE_WATCHDOG_EXPIRY (R350): An engine watchdog expires, a fault of its tile, raising source 241. -/
  | engineWatchdogExpiry (e : Eng)
  /-- TILE_WATCHDOG_EXPIRY (R350): A tile completes no command word for TILE_LIMIT, a fault raising source 242. -/
  | tileWatchdogExpiry (t : Tile)
  /-- DEVICE_WATCHDOG_EXPIRY (R350): The device watchdog expires and rung 3 is entered. -/
  | deviceWatchdogExpiry
  /-- ALWAYS_ON_WATCHDOG_EXPIRY (R350): The always-on watchdog expires and rung 4 is entered with nothing run first. -/
  | alwaysOnWatchdogExpiry
  /-- EWD_KICK (R350): A write of EWD_KICK restarts an engine's watchdog. -/
  | ewdKick (m : Master) (e : Eng) (val : BitVec 32)
  /-- DWD_KICK (R350): A write of DWD_KICK restarts the device watchdog. -/
  | dwdKick (m : Master) (val : BitVec 32)
  /-- AWD_KICK (R350): A write of AWD_KICK restarts the always-on watchdog with AWD_WDT. -/
  | awdKick (m : Master) (val : BitVec 32)
  /-- REFCLK_LOSS (R359): REFCLK is lost, derived clocks stop and the always-on domain runs on LFOSC. -/
  | refclkLoss
  /-- REFCLK_RETURN (R359): REFCLK stays stable for 10 ms after a loss and rung 4 is entered. -/
  | refclkReturn
  /-- PLL_LOCK_LOSS (R359): The root PLL loses lock and rung 4 is entered at once. -/
  | pllLockLoss
  /-- PWR_REQ_PARK (R363): A write of PWR_REQ 01b leaves a PARK request pending. -/
  | pwrReqPark (m : Master)
  /-- PWR_REQ_DEEP (R363): A write of PWR_REQ 10b leaves a DEEP request pending. -/
  | pwrReqDeep (m : Master)
  /-- PWR_REQ_CANCEL (R363): A write of PWR_REQ 00b cancels a pending request. -/
  | pwrReqCancel (m : Master)
  /-- POWER_STATE_COMMIT (R363): When every lane is closed and idle, the pending entry commits and runs its shutdown steps. -/
  | powerStateCommit
  /-- WAKE (R364): A wake cause ends PARK or starts the DEEP-wake start and records WAKE_CAUSE. -/
  | wake (cause : Fin 6)
  /-- WAKE_TIMER_EXPIRY (R364): WAKE_TIMER elapses since entry to PARK or DEEP and wakes the device. -/
  | wakeTimerExpiry
  /-- TILE_PWR_RUN (R362): A write of TILE_PWR 00b returns a tile to running. -/
  | tilePwrRun (m : Master) (t : Tile)
  /-- TILE_PWR_BANKED (R362): A write of TILE_PWR 01b gates the clocks of halted or waiting engines. -/
  | tilePwrBanked (m : Master) (t : Tile)
  /-- TILE_PWR_COLD (R362): A write of TILE_PWR 10b removes a tile's power. -/
  | tilePwrCold (m : Master) (t : Tile)
  /-- RAIL_POWER_GOOD (R366): A power-good input rises and the next rail step begins 1 ms later. -/
  | railPowerGood (n : Fin 12)
  /-- RAIL_SEQUENCING_FAULT (R366): A power-good input fails to rise within 90 ms, the rails fall and RAIL_FAULT_STEP is recorded. -/
  | railSequencingFault
  /-- RAIL_SEQUENCE_RETRY (R366): One second after a sequencing fault the rail sequence is tried again. -/
  | railSequenceRetry
  /-- PG_LOSS (R367): A power-good input low for 10 µs while enabled causes rung 4. -/
  | pgLoss (n : Fin 12)
  /-- POWER_ON_START (R368): The start condition ends OFF and the device sequences rails, boots and opens lanes. -/
  | powerOnStart
  /-- AONRST_ASSERT (R375): AONRST_N held low or always-on rails lost put the device OFF. -/
  | aonrstAssert
  /-- RELEASE (R373): A RELEASE write starts a halted engine at START_PC. -/
  | release (m : Master) (e : Eng)
  /-- HALT_REQ (R373): A HALT_REQ write halts an engine at its next boundary. -/
  | haltReq (m : Master) (e : Eng)
  /-- THERMAL_SAMPLE (R412): Every 1 ms the die sensors are read and warnings or trips are raised. -/
  | thermalSample (tj : Int)
  /-- IGNITION_EDGE (R234): The ignition input rises or falls and publishes channel 256 or 257. -/
  | ignitionEdge (rising : Bool)
  /-- ETH_FRAME_RECEIVED (R380): A received frame is classified to the time service, a lane, the dictionary, tile 0, a raw receive or discard. -/
  | ethFrameReceived (p : Fin 10) (frame : Bytes) (ringFull : Bool) (rtsp : Bool)
  /-- ETH_LINK_CHANGE (R395): An Ethernet port's link goes up or down, raising source 128 + p. -/
  | ethLinkChange (p : Fin 10) (up : Bool) (cut : Nat)
  /-- PTP_MESSAGE (R382): A PTP message is timestamped and updates offset and lock. -/
  | ptpMessage (p : Fin 10) (msg : PtpMsg)
  /-- PTP_SYNC_TIMEOUT (R383): No Sync arrives within 3 sync intervals and PTP loses lock. -/
  | ptpSyncTimeout
  /-- PPS_EDGE (R383): A PPS rising edge is timestamped, accepted or rejected, and publishes event output 64. -/
  | ppsEdge
  /-- PPS_LOSS (R383): No accepted PPS edge arrives for 2 s and PPS loses lock. -/
  | ppsLoss
  /-- HOLDOVER_EXPIRY (R383): HOLDOVER_LIMIT passes since the last lock and the time service becomes free-running. -/
  | holdoverExpiry
  /-- TOD_SET (R398): A write of TOD_SET supplies a time that applies at the next PPS edge. -/
  | todSet (path : Path) (val : Bytes)
  /-- NVME_COMPLETION (R387): An NVMe completion arrives and its status is mapped onto the status space. -/
  | nvmeCompletion (r : Fin 4) (cid : BitVec 16) (status : BitVec 15) (result : BitVec 64) (data : Bytes)
  /-- NVME_TIMEOUT (R387): An NVMe command has no completion within its timeout and ends with 0707h. -/
  | nvmeTimeout (r : Fin 4) (cid : BitVec 16)
  /-- PCIE_LINK_DOWN (R384): A PCIe link goes down, a fault ending outstanding commands with 0701h. -/
  | pcieLinkDown (k : Fin 5)
  /-- USB_ATTACH (R388): A USB device attaches and is enumerated and configured. -/
  | usbAttach (u : Fin 8) (good : Bool) (key : BitVec 320) (block : Nat)
  /-- USB_DETACH (R389): A USB device detaches and its INGEST ends with 0702h. -/
  | usbDetach (u : Fin 8)
  /-- TDM_BLOCK (R390): A TDM port completes a block of frames into its ring. -/
  | tdmBlock (t : Fin 4) (block : Bytes) (ringFull : Bool)
  /-- TDM_CLOCK_LOSS (R390): BCLK is missing for 2 frames in slave mode, a fault with 0701h. -/
  | tdmClockLoss (t : Fin 4) (cut : Nat)
  /-- CAN_FRAME_RECEIVED (R391): A CAN controller receives a valid frame and writes a frame record to its ring. -/
  | canFrameReceived (c : Fin 4) (frame : Bytes) (ringFull : Bool)
  /-- CAN_BUS_OFF (R391): A CAN controller goes bus-off, a fault retried by standard recovery. -/
  | canBusOff (c : Fin 4)
  /-- SMBALERT (R393): SMBALERT# goes low and raises source 220. -/
  | smbalert
  /-- I2C_TRANSACTION_COMPLETE (R393): A PMBus or I2C transaction completes or errs and raises source 221. -/
  | i2cTransactionComplete (ok : Bool)
  /-- GPIO_EDGE (R394): A filtered GPIO edge publishes its event output. -/
  | gpioEdge (n : Fin 32) (rising : Bool)
  /-- GPIO_BLOCK (R394): The capture unit completes a block of GPIO_BLOCK samples. -/
  | gpioBlock (block : Bytes) (ringFull : Bool)
  /-- PCIE_LINK_UP (R384): A PCIe root-port or endpoint link completes training and comes up, raising source 144 + r or 148. -/
  | pcieLinkUp (k : Fin 5) (host : HostRead)
  /-- PCIE_REFCLK_LOSS (R360): The selected common clock on PCIE_REFCLK is lost, which is a link fault of function 24h. -/
  | pcieRefclkLoss
  /-- MDIO_TRANSACTION_COMPLETE (R395): An MDIO management transaction finishes and raises source 138. -/
  | mdioTransactionComplete
  /-- CAN_ERROR_FRAME (R391): A CAN controller detects an error frame, counts it and may change its error state, raising source 172 + c. -/
  | canErrorFrame (c : Fin 4)
  /-- RAW_TRANSFER_COMPLETE (R103): A raw ETH, USB, CAN or TDM transfer at the port ends, and its command word or translated entry ends with its DETAIL, such as the transmit timestamp. -/
  | rawTransferComplete (o : RawOwner) (status : BitVec 16) (amount : Nat) (long : Bool) (data : Bytes)
  /-- RESERVED_OPCODE (R197): An engine decodes a reserved short opcode, miscellaneous SUB or long opcode, which raises illegal-instruction and faults the engine. -/
  | reservedOpcode (e : Eng) (p0 : BitVec 18) (p1 : BitVec 18)
  /-- DRAM_WINDOW_WRITE (R278): A host write through the BAR2 DRAM window reaches device DRAM, or is refused under R19 outside the DRAM or to the context table. -/
  | dramWindowWrite (off : BitVec 35) (val : Bytes)
  deriving DecidableEq, Repr

end Sys2Proof
end

