-- ==== Sys2Proof/Decode.lean ====
section
/-! DEFINITION. The command that a word spells: spec/opcode_table.json gives no row any bits, so no word spells one (log entry 53). The
parcels of the engine instructions are decoded in Machine/Parcels.lean. -/
namespace Sys2Proof

/-- The command that `nbits` bits `w` spell by the table: none, since the table gives no row bits (log entry 53). -/
def decodeTableWord (_nbits _w : Nat) : Option Instr := none

end Sys2Proof
end

