-- ==== Sys2Proof/Config.lean ====
section
/-! DEFINITION. What the spec leaves to an implementation or to a standard it only names: constants without a body. -/
namespace Sys2Proof.Config

/-- FREE VALUE (log entry 2): the n-th value of `w` bits that nothing in the spec fixes. -/
opaque freeBits (w n : Nat) : BitVec w
/-- FREE VALUE (log entry 105): a quotient whose divisor is 0, as numerator and denominator less 1, by its dividend. -/
opaque quotientByZero (dividend : Int) : Nat × Nat
/-- SHA-384 of a byte string (R43 names the standard; log entry 3). -/
opaque sha384 : Bytes → Digest
/-- ECDSA brainpoolP384r1 signature r ‖ s, 768 bits, RFC 6979 nonce, of a message under a private scalar (R47; log entry 3). -/
opaque ecdsaSign (scalar : BitVec 384) (message : Bytes) : BitVec 768
/-- ECDSA verification of r ‖ s over a message under an uncompressed public key (R47; log entry 3). -/
opaque ecdsaVerify (publicKey : Bytes) (message signature : Bytes) : Bool
/-- The 97-byte uncompressed public key of a private scalar (log entry 3). -/
opaque publicKey (scalar : BitVec 384) : BitVec 776
/-- HKDF-SHA-384 of RFC 5869 with L = 64, reduced to a scalar as R331 gives (log entry 3). -/
opaque deriveKey (ikm salt info : Bytes) : BitVec 384
/-- The order n of brainpoolP384r1 (R329; log entry 3). -/
opaque curveOrder : Nat
/-- The DRBG's output: block `n` of the run of draws (R323; log entry 3). -/
opaque drbg (n : Nat) : BitVec 384
/-- A 97-byte SEC 1 point lies on brainpoolP384r1 (R315; log entry 3). -/
opaque onCurve (publicKey : Bytes) : Bool
/-- The certification request of R330 in DER, under the identity scalar and for a SERIAL (log entry 3). -/
opaque identityCsr (scalar : BitVec 384) (serial : W32) : Bytes

/-- The address of the first word of context 0's course and its status address, which the Farfin course builder gives the boot firmware
(R135; log entry 110). -/
opaque lastCourse : BitVec 40 × BitVec 40
/-- The context and the word of its record that stand at an offset of the context store's control block, which the spec does not lay out
(R18, R117; log entry 110). -/
opaque recordAt (offset : Nat) : Option (Fin 1048576 × Fin 64)

end Sys2Proof.Config
end

