-- ==== Sys2Proof/Machine/State.lean ====
section
/-! DEFINITION. The state of the KX-9600 block: plain data, every piece the spec names, and `State.reset`.
Each field's docstring names its rule and its value at reset. -/
namespace Sys2Proof.Machine

/-! ### Lanes, bricks and coping records (chapters 02 and 03) -/

/-- A record or unit offered to a lane (R35, R36, R57): its bytes with prefix and padding, and what the header of its
brick takes from it. -/
structure Rec where
  bytes : Bytes
  /-- It opens an access unit (R36). -/
  auStart : Bool := false
  /-- Its access unit is a random-access point (R36). -/
  rap : Bool := false
  /-- It is the first record with RAP set of its access unit (R37). -/
  rapFirst : Bool := false
  /-- RTP sequence number and timestamp of a packet record. -/
  rtp : Option (BitVec 16 × W32) := none
  /-- SSRC of a packet record. -/
  ssrc : W32 := 0
  /-- Flow key (R39 SOURCE_KEY); none for the lane's first key. -/
  key : Option (BitVec 320) := none
  /-- Source gaps recorded with it (R34). -/
  gaps : Nat := 0
  /-- It was staged late (R33). -/
  late : Bool := false
  deriving DecidableEq, Repr

/-- A unit in a port ring (R378): the payload, its flow key and the receive time. -/
structure RingUnit where
  bytes : Bytes
  key   : BitVec 320
  time  : BitVec 80
  deriving DecidableEq, Repr

/-- A packet held in a reorder window (R33): its extended sequence number, the ring unit, TNOW at its arrival. -/
structure HeldPkt where
  seq   : W32
  unit  : RingUnit
  since : BitVec 48
  deriving DecidableEq, Repr

/-- The reorder window of one SSRC on a lane (R33, R34). -/
structure Window where
  /-- The extended sequence number the lane expects to stage; none before the first packet. -/
  next : Option W32 := none
  /-- Held packets by rising sequence number; reset none. -/
  held : List HeldPkt := []
  /-- Marker bit and timestamp of the previous packet staged (R36); none before the first. -/
  prev : Option (Bool × W32) := none
  /-- A packet of the access unit in progress had RAP set (R36, R37); reset 0. -/
  prevRap : Bool := false
  deriving DecidableEq, Repr

/-- The filling buffer of a lane (R13, R37): the payload and what its header takes at open and while it fills. The entries
02h to 05h and 0Ch of the lane are copied when the brick opens (R32). -/
structure Fill where
  /-- BRICK_SIZE in force (R31, R32). -/
  size : Nat := 0x200000
  /-- ALIGN in force. -/
  align : Nat := 0
  /-- ALIGN_MIN in force. -/
  alignMin : Nat := 75
  /-- BRICK_AGE in force. -/
  age : Nat := 10000
  /-- LANE_NOTE in force. -/
  note : Bytes := []
  payload : Bytes := []
  auStart : Bool := false
  recCont : Bool := false
  /-- ACCEPTED before the first payload byte (R39 LEDGER_BASE). -/
  base : W64 := 0
  timeFirst : BitVec 80 := 0
  timeLast : BitVec 80 := 0
  /-- Records begun. -/
  packets : Nat := 0
  gaps : Nat := 0
  late : Nat := 0
  ssrc : W32 := 0
  key : Option (BitVec 320) := none
  /-- RTP sequence number and timestamp of the first and of the last packet record begun. -/
  rtpFirst : Option (BitVec 16 × W32) := none
  rtpLast : Option (BitVec 16 × W32) := none
  /-- Hold-up-inadequate was raised while the brick was filling (R39). -/
  atRisk : Bool := false
  /-- A close reason that is due and waits for the sealing buffer (R37, R38). -/
  due : Option Nat := none
  deriving DecidableEq, Repr

/-- An evidence object that a lane's chain passes through (R30, R41, R429). -/
structure ObjChain where
  ctx : Nat
  sourceType : Nat
  openTime : BitVec 80
  genesis : Digest
  /-- BRICK_SEQ of the next brick. -/
  nextSeq : W64 := 0
  /-- STREAM_OFFSET of the next brick. -/
  offset : W64 := 0
  /-- Digest of the last sealed brick, or the genesis value (R41). -/
  prevDigest : Digest
  /-- BRICK_SEQ of the last DURABLE brick, all ones for none (R47). -/
  lastSeq : W64 := 0xFFFFFFFFFFFFFFFF
  /-- Digest of that brick, or the genesis value (R47). -/
  lastDigest : Digest
  /-- Bricks that became DURABLE since the object's previous record (R46 BRICK_COUNT). -/
  durableSince : Nat := 0
  /-- The next brick sealed is the first after a start (R39 RESTART). -/
  restart : Bool := false
  /-- The next data brick is the first after a start (R80). -/
  restartData : Bool := false
  deriving DecidableEq, Repr

/-- A closed brick in the sealing or writing buffer. -/
structure Brick where
  /-- The 512 header bytes (R39). -/
  header : Bytes
  payload : Bytes
  ctx : Nat
  seq : W64
  /-- STREAM_OFFSET + PAYLOAD_LEN. -/
  streamEnd : W64
  last : Bool
  /-- LOST_COUNT of a gap brick; 0 for a data brick. -/
  lost : W64
  /-- GAP_STATUS of a gap brick. -/
  gapStatus : Status := 0
  /-- DIGEST, once the pass is complete (R44). -/
  digest : Option Digest := none
  /-- A brick that firmware wrote with APPEND is no brick of the chain: never set here. EXTENT_LEN (R39). -/
  extent : Nat
  /-- The writes were issued (R48); not while a zone's tail line or a LOC_EXT context is awaited (R119, R429). -/
  issued : Bool := false
  /-- Conventional members: the LBA of the allocation pointer at which it was written, by wythe (R49). -/
  placed : List (Nat × Nat) := []
  /-- Wythes that have completed it, with the LBA (R48). -/
  written : List (Nat × Nat) := []
  deriving DecidableEq, Repr

/-- A closure a lane owes, in order (R30, R37, R41). -/
inductive CloseAct
  /-- Close the filling brick with a reason if it holds payload. -/
  | brick (reason : Nat)
  /-- A gap brick of `count` bytes with GAP_STATUS; `ends` makes it LAST, and its value is then the lane's object
  (R78 step 5). -/
  | gap (count : Nat) (status : Status) (ends : Option (Option ObjChain))
  /-- Close the object with LAST and reason 4; then `next` is the lane's object (R30). -/
  | object (next : Option ObjChain)
  deriving DecidableEq, Repr

/-- What a coping record reads in one FABCLK cycle (R47). -/
structure LedRead where
  lastSeq : W64
  lastDigest : Digest
  count : Nat
  accepted : W64
  durable : W64
  inflight : W64
  lost : W64
  refused : W64
  time : BitVec 80
  source : BitVec 8
  trusted : Bool
  horizon : W64
  share : W64
  energy : W32
  mono : W64
  openSeq : W64
  deriving DecidableEq, Repr

/-- A coping record due (R45): its KIND and its object's context. -/
structure RecReq where
  kind : Nat
  ctx : Nat
  /-- The read already made in the cycle of R30, if so. -/
  read : Option LedRead := none
  /-- LAST_DIGEST as located on a wythe, for an object that no chain of the lane holds (R46). -/
  located : Option Digest := none
  /-- RAZE_CAUSE and the fields of KIND_AREA for KIND 04h, as the bytes from 100h on (R51). -/
  area : Bytes := []
  deriving DecidableEq, Repr

/-- A record formed and waiting for its signature (R45, R47). -/
structure RecWait where
  req : RecReq
  /-- RECORD_SEQ. -/
  seq : W64
  /-- Bytes 000h to 39Fh. -/
  body : Bytes
  /-- Slot and epoch it is signed under (R332). -/
  slot : Nat
  epoch : W32
  deriving DecidableEq, Repr

/-- A signed record being written (R48). -/
structure RecWrite where
  kind : Nat
  ctx : Nat
  seq : W64
  bytes : Bytes
  mono : W64
  /-- The writes were issued; not while a member has no coping zone for it (R50). -/
  issued : Bool := false
  /-- Conventional members: the LBA at which it was written, by wythe (R49). -/
  placed : List (Nat × Nat) := []
  written : List Nat := []
  deriving DecidableEq, Repr

/-- A copy of APPEND that waits for a tail line: its course, member, object and BRICK_SEQ (R96, R429). -/
structure CopyWait where
  course : Nat
  member : Nat
  object : Nat
  seq    : W64
  deriving DecidableEq, Repr

/-- The evidence record in progress of a lane (R145): where its output begins in the payload of the newest buffer, and that buffer's
TIME_LAST before it (R39, R146). -/
structure OpenRec where
  start    : Nat
  timeLast : BitVec 80
  deriving DecidableEq, Repr

/-- A journal entry, and the lane's live ledger in the same fields (R21, R54, R76). -/
structure JEntry where
  /-- ACCEPTED (64 bits); reset 0. -/
  accepted : W64 := 0
  /-- DURABLE (64 bits); reset 0. -/
  durable : W64 := 0
  /-- LOST (64 bits); reset 0. -/
  lost : W64 := 0
  /-- REFUSED (64 bits); reset 0. -/
  refused : W64 := 0
  /-- CONTEXT (20 bits); reset 0. -/
  context : BitVec 20 := 0
  /-- OPEN (1 bit); reset 0. -/
  isOpen : Bool := false
  /-- AT_RISK (1 bit); reset 0. -/
  atRisk : Bool := false
  /-- DEGRADED (1 bit); reset 0. -/
  degraded : Bool := false
  /-- LAST_SEQ (64 bits); reset all ones. -/
  lastSeq : W64 := 0xFFFFFFFFFFFFFFFF
  /-- LAST_DIGEST (384 bits); the spec gives no reset value: DESIGN CHOICE 0 (log entry 14). -/
  lastDigest : Digest := 0
  /-- RECORD_SEQ (64 bits); reset 0. -/
  recordSeq : W64 := 0
  /-- LAST_RECORD (384 bits); reset 0. -/
  lastRecord : Digest := 0
  /-- TAIL of members W0M0, W0M1, W1M0, W1M1 (64 bits each); reset 0. -/
  tail : Tab W64 := []
  /-- STREAM_END (64 bits); reset 0. -/
  streamEnd : W64 := 0
  /-- SKIPPED (64 bits); reset 0. -/
  skipped : W64 := 0
  deriving DecidableEq, Repr

/-- One lane. -/
structure LaneSt where
  /-- Type 07h: the read offset in the USB file, advanced with what is accepted (64 bits, R56, R92); reset 0. -/
  fileOffset : W64 := 0
  /-- The lane's ledger and chain as the next journal line carries them (R54, R76). -/
  led : JEntry := {}
  /-- INFLIGHT (64 bits, R54); reset 0. -/
  inflight : W64 := 0
  /-- SHARE (64 bits, R60); reset 0. -/
  share : W64 := 0
  /-- OPEN_STATUS (16 bits, R428); reset 030Ah. -/
  openStatus : Status := 0x030A
  /-- The lane has an open object (R30, R60); reset 0. -/
  active : Bool := false
  /-- The object of the filling brick: the open one, or the closing one until its LAST brick closes (R30); reset none. -/
  obj : Option ObjChain := none
  /-- Closed objects whose LAST brick is not yet DURABLE, oldest first (R429); reset none. -/
  older : List ObjChain := []
  /-- The filling buffer (R13); reset empty. -/
  fill : Fill := {}
  /-- The filling buffer of the next object, while the object before it waits for the sealing buffer to close (R13, R30); reset
  none. -/
  nextFill : Option Fill := none
  /-- The sealing buffer (R13); reset empty. -/
  sealing : Option Brick := none
  /-- The writing buffer (R13); reset empty. -/
  writing : Option Brick := none
  /-- Closures owed, in order (R30, R38, R41); reset none. -/
  acts : List CloseAct := []
  /-- The seal job of the sealing buffer waits for room in its input's queue (R257); reset 0. -/
  sealHeld : Bool := false
  /-- The signature job of the record waiting has not entered its input's queue (R257); reset 0. -/
  signHeld : Bool := false
  /-- A block of the lane's TDM port was dropped by a clock loss since the last one staged: the next record has AFTER_GAP set
  (R36, R140; log entry 22); reset 0. -/
  gapNext : Bool := false
  /-- The evidence descriptor in progress (R145, R146); reset none. -/
  openRec : Option OpenRec := none
  /-- Bytes refused since the previous brick closed (R39 REFUSED_BYTES, saturating, 32 bits); reset 0. -/
  refusedSince : W32 := 0
  /-- The lane's restart scan is done or was not needed (R80); reset 1. -/
  scanned : Bool := true
  /-- A start left the open of a new object waiting for a brick close (R123); reset 0. -/
  openRetry : Bool := false
  /-- Reorder windows by SSRC (R33, R34); reset none. -/
  windows : Tab Window := []
  /-- Packet records whose order is fixed and that wait to be offered, oldest first (R33, R93); reset none. -/
  ready : List Rec := []
  /-- The lane's port ring in DRAM, oldest first (R378); reset empty. -/
  ring : List RingUnit := []
  /-- The record waiting for signature (R45); reset none. -/
  rec1 : Option RecWait := none
  /-- Records due behind it (R45); reset none. -/
  recQueue : List RecReq := []
  /-- A merged cadence point is due behind the waiting record (R45); reset 0. -/
  cadenceDue : Bool := false
  /-- Signed records not yet on every configured wythe, oldest first (R48); reset none. -/
  recWrites : List RecWrite := []
  /-- RECORD_SEQ of the last record signed; follows the journal at a start (R46); reset 0. -/
  signedSeq : W64 := 0
  /-- SHA-384 over the last record signed (R46 PREV_RECORD); reset 0. -/
  signedDigest : Digest := 0
  /-- Bricks DURABLE since the previous record (R45); reset 0. -/
  bricksSince : Nat := 0
  /-- COPE_BRICKS in force since the previous record (R32); reset 64. -/
  copeBricks : Nat := 64
  /-- COPE_PERIOD in force since the previous record (R32); reset 1,000 ms. -/
  copePeriod : Nat := 1000
  /-- TNOW at the previous record, from which COPE_PERIOD counts (R45); reset 0. -/
  copeSince : BitVec 48 := 0
  /-- COPE_MERGED (32 bits, saturating, 3000h+lane:0Eh); reset 0. -/
  copeMerged : W32 := 0
  /-- The tail line of a zone the lane's stream moves into is not yet applied (R429); reset 0. -/
  tailWait : Bool := false
  /-- Copies of APPEND that wait for such a line, oldest first (R429); reset none. -/
  copyWait : List CopyWait := []
  /-- No record of the lane since the start (R46 RESTART); reset 1. -/
  restartRec : Bool := true
  /-- The KIND 02h record of the last course was formed (R71); reset 0. -/
  finalDone : Bool := false
  /-- Contexts whose razing record is DURABLE and whose step 3 is due, with the record's RECORD_SEQ (R52); reset none. -/
  razeReady : List (Nat × W64) := []
  /-- The course whose INGEST runs on the lane (R93); reset none. -/
  ingest : Option Nat := none
  /-- Records that became DURABLE within the present command, for a COPE that waits (R95); empty between commands. -/
  doneRecords : List (W64 × Bytes) := []
  /-- OBJECT_SPAN in force for the open object and TNOW at the start of its span (R30, R32, R123); reset 0. -/
  span : Nat := 0
  /-- TNOW at which the span in progress began; reset 0. -/
  spanSince : BitVec 48 := 0
  deriving DecidableEq, Repr

/-! ### Wythes (chapter 02) -/

/-- An entry of a member's coping zone table (R50). -/
structure CopeZone where
  zone : Nat
  /-- Highest MONO_COUNT of a record in it; all ones for the active zone. -/
  lastMono : W64
  deriving DecidableEq, Repr

/-- The place of a (lane, retention class) stream on a member (R49): its zone and the next LBA. -/
structure StreamPos where
  zone : Nat
  next : Nat
  deriving DecidableEq, Repr

/-- A member namespace, 2w + m (R48, R50, R385). -/
structure MemberSt where
  /-- Entry MEMBER of 5801h+w as in force since the start (R316); reset 0, no member. -/
  entry : W64 := 0
  /-- It was read at this start, meets R385 and is in use; reset 0. -/
  ready : Bool := false
  /-- NS_TYPE zoned (5801h+w:03h); reset 0. -/
  zoned : Bool := false
  /-- LBA size in bytes; reset 512. -/
  lba : Nat := 512
  /-- Capacity of a zone in LBAs, K (R50); reset 0. -/
  zoneLbas : Nat := 0
  /-- Number of zones; reset 0. -/
  zones : Nat := 0
  /-- Zone Append Size Limit in bytes, 0 for none (R385); reset 0. -/
  zasl : Nat := 0
  /-- Maximum active resources, 0 for no limit (R385); reset 0. -/
  maxActive : Nat := 0
  /-- Z of the governing label (R50); reset 0. -/
  z : Nat := 0
  /-- LABEL_SEQ of the governing label (64 bits, R50); reset 0. -/
  labelSeq : W64 := 0
  /-- The active label zone, 0 or 1, and the next LBA in it; reset 0. -/
  labelZone : Nat := 0
  labelNext : Nat := 0
  /-- ACTIVE_REGION (R50, R126); reset region A. -/
  regionB : Bool := false
  /-- Coping zones in the order opened, the active one last (R50); reset none. -/
  coping : List CopeZone := []
  /-- Next LBA of the active coping zone, relative to its start; reset 0. -/
  copeNext : Nat := 0
  /-- Highest MONO_COUNT of a record in the active coping zone; reset 0. -/
  copeMono : W64 := 0
  /-- Data zones written and not reset, as (zone, lane × 256 + class); reset none. -/
  data : List (Nat × Nat) := []
  /-- Streams by lane × 256 + class (R49); reset none. -/
  stream : Tab StreamPos := []
  /-- Bytes of the drill zone written by the drill in progress (R65); reset 0. -/
  drillBytes : Nat := 0
  deriving DecidableEq, Repr

/-- A command issued to a wythe SSD: recorded for the outside, newest last (R48 to R50, R386). -/
inductive SsdCmd
  /-- Zone Append with FUA to a zone of a zoned namespace. -/
  | append (zone : Nat) (data : Bytes)
  /-- Write with FUA at an LBA of a conventional namespace. -/
  | write (lba : Nat) (data : Bytes)
  /-- Dataset Management (Deallocate) over an emulated zone. -/
  | deallocate (zone : Nat)
  /-- Filler bricks of so many bytes in all, with FUA, to the drill zone; the spec gives them no content (R65). -/
  | filler (zone bytes : Nat)
  | finishZone (zone : Nat) | resetZone (zone : Nat) | flush | powerState (ps : Nat) | identify | shutdown
  deriving DecidableEq, Repr

/-- The wythes. -/
structure Wythes where
  /-- Configured wythes, bit w (5800h:02h bits [1:0]); reset 0. -/
  configured : BitVec 2 := 0
  /-- Failed wythes, bit w (5800h:02h bits [3:2]); reset 0. -/
  failed : BitVec 2 := 0
  /-- The four members; reset as `MemberSt`. -/
  member : Tab MemberSt := []
  /-- The SSDs are ready and the labels read (R78, R127); reset 0. -/
  ssdsReady : Bool := false
  /-- Commands issued to members, newest last, as (member, command); reset none. -/
  issued : List (Nat × SsdCmd) := []
  deriving DecidableEq, Repr

/-! ### Ledger journal (chapter 03) -/

/-- The journal header (R75). -/
structure JHead where
  /-- MAGIC (32 bits); const 4A4E_5953h; another value once the always-on supply has been lost (R77). -/
  magic : W32 := 0x4A4E5953
  /-- VERSION (16 bits); const 0100h. -/
  version : BitVec 16 := 0x100
  /-- ENTRY_LEN (16 bits); const 00D0h. -/
  entryLen : BitVec 16 := 0xD0
  /-- UPDATE_SEQ (64 bits); reset 0. -/
  updateSeq : W64 := 0
  /-- MONO_COUNT at the last update (64 bits); the spec gives none: DESIGN CHOICE 0 (log entry 14). -/
  mono : W64 := 0
  /-- POWER_LOSS (1 bit); reset 0. -/
  powerLoss : Bool := false
  /-- LC_STARTED (1 bit); reset 0. -/
  lcStarted : Bool := false
  /-- LC_DONE (1 bit); reset 0. -/
  lcDone : Bool := false
  /-- LADDER (1 bit); reset 0. -/
  ladder : Bool := false
  /-- DECL_CAUSE (3 bits); reset 0. -/
  declCause : BitVec 3 := 0
  /-- Q_IN (64 bits, nC, R67); reset 0. -/
  qIn : W64 := 0
  /-- Q_OUT (64 bits, nC); reset 0. -/
  qOut : W64 := 0
  /-- Q_STORED (64 bits, nC); reset 0. -/
  qStored : W64 := 0
  /-- Q_LEAK (64 bits, nC, signed); reset 0. -/
  qLeak : W64 := 0
  /-- COPE_TAIL of members W0M0, W0M1, W1M0, W1M1 (64 bits each); reset 0. -/
  copeTail : Tab W64 := []
  deriving DecidableEq, Repr

/-- The ledger journal and the queue of lines waiting to be applied (R10, R75 to R77). -/
structure Journal where
  /-- The check of MAGIC, VERSION and ENTRY_LEN at the last start passed, or the journal has been restarted since (R77, R78); reset 1: a
  fresh valid journal (log entry 15). -/
  valid : Bool := true
  /-- The header as applied (R75). -/
  head : JHead := {}
  /-- A header line waiting (R77); reset none. -/
  headLine : Option JHead := none
  /-- Lane entries as applied (R76); reset as `JEntry`. -/
  entry : Tab JEntry := []
  /-- Lines waiting, merged per lane (R77); reset none. -/
  line : Tab JEntry := []
  deriving DecidableEq, Repr

/-! ### Hold-up controller (chapter 03) -/

/-- What a bank test or a drill in progress is. -/
inductive BankUse
  | idle | test | drill
  deriving DecidableEq, Repr

/-- The hold-up controller (R58 to R74, R427). -/
structure Holdup where
  /-- C_MEAS (32 bits, mF); none until the first test: C_NOMINAL stands (R59); reset none. -/
  cMeas : Option W32 := none
  /-- ESR_MEAS (32 bits, µΩ); reset 50,000. -/
  esrMeas : W32 := 50000
  /-- T_MEAS (16 bits, °C, signed); reset 25. -/
  tMeas : BitVec 16 := 25
  /-- TEST_TIME (80 bits); the spec gives none: DESIGN CHOICE 0 (log entry 14). -/
  testTime : BitVec 80 := 0
  /-- VBANK (16 bits, mV); the spec gives none: DESIGN CHOICE 0 (log entry 14). -/
  vbank : BitVec 16 := 0
  /-- TBANK (16 bits, °C, signed); DESIGN CHOICE 0 (log entry 14). -/
  tbank : BitVec 16 := 0
  /-- E_USABLE (32 bits, mJ); DESIGN CHOICE 0 (log entry 14). -/
  eUsable : W32 := 0
  /-- HORIZON (64 bits, bytes); DESIGN CHOICE 0 (log entry 14). -/
  horizon : W64 := 0
  /-- INADEQUATE (bit 0 raised, bits [3:1] causes, R62); reset 0. -/
  inadequate : BitVec 4 := 0
  /-- Cause bit 3 of the last bank test (R62); reset 0. -/
  weakBank : Bool := false
  /-- TNOW since which no cause of inadequacy has held (R62); reset none. -/
  clearSince : Option (BitVec 48) := none
  /-- The vehicle supply's last sample (mV); DESIGN CHOICE 0 (log entry 14). -/
  vsup : BitVec 16 := 0
  /-- The bank's last voltage sample (mV, R66); DESIGN CHOICE 0 (log entry 14). -/
  bankNow : BitVec 16 := 0
  /-- A ride-through is in progress since this TNOW (R68); reset none. -/
  ride : Option (BitVec 48) := none
  /-- RIDE_THROUGHS (32 bits, saturating, 4002h:06h); reset 0. -/
  rideThroughs : W32 := 0
  /-- DECLARATIONS (32 bits, saturating, 4002h:07h); reset 0. -/
  declarations : W32 := 0
  /-- Power loss is declared, until the next start (R61, R70); reset 0. -/
  declared : Bool := false
  /-- Admission is closed on every lane by a rung 3 (R347); reset 0. -/
  closed : Bool := false
  /-- The last course of this start is over: LC_DONE was set (R71, R74); reset 0. -/
  lcOver : Bool := false
  /-- The last course is running, until LC_DONE or until it stops (R71); reset 0. -/
  lastCourse : Bool := false
  /-- Members whose final NVMe Flush is outstanding (R71 step 5); none before the Flush is issued. -/
  flushing : Option (List Nat) := none
  /-- Channel 268 was published in the last course in progress (R234); reset 0. -/
  drained : Bool := false
  /-- The ignition input (R234, R401); the spec gives none: DESIGN CHOICE high (log entry 14). -/
  ignition : Bool := true
  /-- TNOW since which the supply has stayed above VSUP_FAIL + VSUP_HYST after a declaration (R74); reset none. -/
  supplyBack : Option (BitVec 48) := none
  /-- A bank test or drill in progress (R63, R65); reset idle. -/
  bankUse : BankUse := .idle
  /-- The first bank test of this ignition-on was made (R63); reset 0. -/
  tested : Bool := false
  /-- Vbank has risen above V_RATED + 100 mV and not fallen back to V_RATED (R427); reset 0. -/
  overcharged : Bool := false
  /-- A drill is due (R65); reset 0. -/
  drillDue : Bool := false
  /-- A drill was asked for by DRILL_REQUEST (R65); reset 0. -/
  drillAsked : Bool := false
  /-- DRILL_TIME (80 bits); DESIGN CHOICE 0 (log entry 14). -/
  drillTime : BitVec 80 := 0
  /-- E_B_MEAS (32 bits, pJ/B); reset 0. -/
  ebMeas : W32 := 0
  /-- Model numbers of the SSDs at the root ports, 40 bytes each (R65); reset none. -/
  model : Tab Bytes := []
  /-- The sub-nanocoulomb remainder carried into the next sample, in pC (R67); reset 0. -/
  chargeRem : Int := 0
  /-- Hold-up fault counter (32 bits, R67); reset 0. -/
  faultCount : W32 := 0
  deriving DecidableEq, Repr

/-! ### Time service and monotonic counter (chapters 18 and 19) -/

/-- The time service (R382, R383). -/
structure TimeSt where
  /-- Time: seconds in bits [47:0], nanoseconds in bits [79:48] (R39); reset 0 (R383). -/
  now : BitVec 80 := 0
  /-- Fraction of a nanosecond in 1/768 ns; reset 0. -/
  frac : Nat := 0
  /-- What is left of a correction that is slewed, in 1/768 ns (R383); reset 0. -/
  slew : Int := 0
  /-- TIME_SOURCE (8 bits, codes of R46); reset 00h. -/
  source : BitVec 8 := 0
  /-- The time at the last lock (R383); reset none. -/
  lastLock : Option (BitVec 80) := none
  /-- The 64-bit monotonic counter, none until the restart scan seeds it after start 01h (R369); reset none. -/
  mono : Option W64 := none
  /-- PTP locked (R383); reset 0. -/
  ptpLocked : Bool := false
  /-- Consecutive Sync messages with |offset| ≤ 1 µs (R383); reset 0. -/
  ptpRun : Nat := 0
  /-- PPS locked (R383); reset 0. -/
  ppsLocked : Bool := false
  /-- Consecutive accepted PPS edges (R383); reset 0. -/
  ppsRun : Nat := 0
  /-- A time of day has been given, by TOD_SET or an earlier PTP lock (R383); reset 0. -/
  todGiven : Bool := false
  /-- A TOD_SET value that applies at the next PPS edge (R383); reset none. -/
  todNext : Option (BitVec 80) := none
  /-- TNOW since which a preferred candidate that is not the source has held lock (R383); reset none. -/
  preferSince : Option (BitVec 48) := none
  /-- OFFSET (32 bits, ns, signed, 5820h:08h); reset 0. -/
  offset : W32 := 0
  /-- PPS_REJECTED (32 bits, saturating, 5820h:09h); reset 0. -/
  ppsRejected : W32 := 0
  /-- PTP profile in force (R382); reset 1. -/
  profile : Nat := 1
  deriving DecidableEq, Repr

/-- A peer of the Bumund protocol (R309). -/
structure Peer where
  /-- Its source address and UDP port, as a number. -/
  id : Nat
  /-- SEQ of the last request answered and its answer; none before the first. -/
  last : Option (W32 × Bytes) := none
  /-- A WRITE in pieces: index, sub-index, TOTAL, the bytes so far. -/
  write : Option (Nat × Nat × Nat × Bytes) := none
  /-- The value a READ keeps: index, sub-index, bytes. -/
  kept : Option (Nat × Nat × Bytes) := none
  /-- The header of a WRITE whose answer waits for a store (R311). -/
  owed : Option Bytes := none
  deriving DecidableEq, Repr

/-- A USDO transfer in segments of a client on controller 0 (R306). -/
inductive UsdoXfer
  | down (idx : BitVec 16) (sub : BitVec 8) (total : Nat) (data : Bytes)
  | up (data : Bytes)
  deriving DecidableEq, Repr

/-- NMT state of the node (R306). -/
inductive Nmt
  | initialisation | preOperational | operational | stopped
  deriving DecidableEq, Repr

/-- A request that arrived while none is served, or behind a store that runs (R305, R311). -/
inductive HeldReq
  | call (q : DictReq)
  | usdo (node : BitVec 8) (op : UsdoOp)
  | datagram (peer : Nat) (b : Bytes)
  deriving DecidableEq, Repr

/-- A request of the host's mailbox as its words spell it (R310). -/
structure MailReq where
  tag : BitVec 16
  op  : BitVec 8
  sub : BitVec 8
  idx : BitVec 16
  len : Nat
  buf : Nat
  inline : Bool
  /-- The bytes of words 6 to 15. -/
  value : Bytes
  /-- Every reserved bit is 0. -/
  clean : Bool
  deriving DecidableEq, Repr

/-- The object dictionary's stored values and the state of its paths (R301 to R309). -/
structure Dict where
  /-- The paths answer: the restore is complete and no entry to a power state is committed (R305, R363); reset 0. -/
  ready : Bool := false
  /-- Requests held until then, or until a store that runs is answered, oldest first (R305); reset none. -/
  held : List HeldReq := []
  /-- LAST_DICT_STATUS of paths 0, 1, 2 (16 bits each, 5030h); reset 0000h. -/
  lastStatus : Tab Status := []
  /-- The live challenge of each path (48 bytes, R303); reset none. -/
  challenge : Tab Bytes := []
  /-- The SERVICE session of each path: the key index and the peer (R303); reset none. -/
  session : Tab (Nat × Nat) := []
  /-- The Bumund peers, most recently active first, at most 16 (R309); reset none. -/
  peers : List Peer := []
  /-- DISCARDED (32 bits, saturating, 5811h:02h); reset 0. -/
  discarded : W32 := 0
  /-- REQUESTS (32 bits, 6F00h:02h); reset 0. -/
  requests : W32 := 0
  /-- RESTORE_SKIPPED (32 bits, 7000h:05h); reset 0. -/
  restoreSkipped : W32 := 0
  /-- The NMT state (R306); reset initialisation. -/
  nmt : Nmt := .initialisation
  /-- NMT error control messages sent, newest last: boot-up and heartbeats, as the state they carry (R306); reset none. -/
  nmtSent : List Nmt := []
  /-- Segmented USDO transfers by client, at most 8 (R306); reset none. -/
  usdo : Tab UsdoXfer := []
  /-- ERROR_REGISTER (8 bits, 1001h, R307); reset 0. -/
  errorReg : BitVec 8 := 0
  /-- TNOW of the last EMCY message sent (R307); reset none. -/
  emcyAt : Option (BitVec 48) := none
  /-- EMCY_SUPPRESSED (32 bits, saturating, 5810h:04h); reset 0. -/
  emcySuppressed : W32 := 0
  /-- EMCY messages sent, newest last: error code, error register, source, status (R307); reset none. -/
  emcy : List (BitVec 16 × BitVec 8 × BitVec 8 × Status) := []
  /-- Values set, by 256 × index + sub-index; an entry not listed is at its default; reset none. -/
  vals : Tab Bytes := []
  /-- The write-once entry 4802h:n whose own store runs (R301, R311); reset none. -/
  keyPending : Option Nat := none
  /-- The mailbox request that the store under way will answer (R310, R311); reset none. -/
  mailOwed : Option MailReq := none
  deriving DecidableEq, Repr


/-! ### Courses (chapter 04) -/

/-- A submission entry by its queue pair and position (R279, R287). -/
structure EntryRef where
  queue : Nat
  pos   : W32
  /-- Its number in the order of all takes. -/
  no    : Nat
  deriving DecidableEq, Repr

/-- What a started word of a course waits for (R93 to R100, R103). -/
inductive WordWait
  /-- INGEST runs on a lane (R93). -/
  | ingest (lane : Nat)
  /-- SEAL with its MODE; for MODE 1 the context of the object that closes (R94). -/
  | seal (lane mode ctx : Nat)
  /-- COPE for the first record from RECORD_SEQ `first` on to be DURABLE; where the copy goes, if asked for (R95). -/
  | cope (lane : Nat) (first : W64) (copy : Option (BitVec 40))
  /-- APPEND's write (R96). -/
  | append
  /-- RAZE of an object (R99). -/
  | raze (ctx : Nat)
  /-- MOVE on a hod: descriptors handed over, completed, completed with 0000h, the first non-zero status (R100, R138). -/
  | move (hod handed completed good : Nat) (bad : Status)
  /-- A raw port operation (R103). -/
  | raw
  /-- VERIFY with the medium that it reads: the unit `at_` whose data a job hashes, how many are left with it, and the first wythe's result
  once the second wythe is the one that is read (R92, R98). -/
  | verify (record : Bool) (md : Medium) (at_ left : Nat) (first : Option Status)
  deriving DecidableEq, Repr

/-- What a word's end reports (R89). -/
structure WordResult where
  status  : Status := 0
  diff    : Bool := false
  skipped : Bool := false
  second  : Option Status := none
  residual : W32 := 0
  detail  : W64 := 0
  deriving DecidableEq, Repr

/-- How a command ended: its status before the length rule, the amount done against `count`, a longer offer, DETAIL, a second
result (R87, R89). -/
structure WordEnd where
  status : Status := 0
  count  : Nat := 0
  done   : Nat := 0
  long   : Bool := false
  detail : W64 := 0
  second : Option Status := none
  deriving DecidableEq, Repr

/-- The live part of a course, held beside its context record; what a word changes stands here until the word ends (R105, R106, R111,
R121). -/
structure Course where
  /-- Address of the word to fetch or, while a word is held, of that word (R83 form). -/
  addr : BitVec 40 := 0
  /-- The fetched and checked word; none until it is fetched. -/
  word : Option (BitVec 256) := none
  /-- The next fetch is the first after a resume (R106). -/
  fresh : Bool := false
  /-- The engine that executes it (R89 ENGINE, R105); a FREE VALUE among those of its tile (log entry 2). -/
  engine : Nat := 0
  /-- It was started from a host submission and has a HOST_BASE (R83). -/
  hosted : Bool := false
  /-- That submission, until it is completed (R109). -/
  entry : Option EntryRef := none
  /-- A stop request waits for the word boundary (R108). -/
  stop : Bool := false
  /-- A word failed with NEXT set: its address, the word and its result; the next word decides (R91). -/
  failed : Option (BitVec 40 × BitVec 256 × WordResult) := none
  /-- The word that began the span, and the words of the span so far (R85). -/
  head : Option (BitVec 256) := none
  spanWords : Nat := 0
  /-- How the span's command ended before its last word; the words left are only passed over (R85; log entry 109). -/
  spanEnd : Option WordEnd := none
  /-- Sum of the COUNTs of the span and the amount done in it (R85, R87). -/
  total : Nat := 0
  done : Nat := 0
  /-- Bytes gathered from the span for APPEND and transmits; bytes of a brick that READ has begun and not placed. -/
  gather : Bytes := []
  /-- Ranges collected from the span for receives (R83, R86). -/
  segs : List (BitVec 40 × Nat) := []
  /-- READ: the next BRICK_SEQ, once begun (R97). -/
  nextSeq : Option Nat := none
  /-- What the word waits for, once started. -/
  wait : Option WordWait := none
  /-- Causes that end the suspension: all of R107's first column, or those of a WAIT (R107). -/
  mask : BitVec 16 := 0
  /-- The WAIT's event channel while suspended in a WAIT (R107, R235). -/
  channel : Option (BitVec 9) := none
  deriving DecidableEq, Repr

/-- The courses held and the course counters. -/
structure CourseStore where
  /-- Held courses by context; reset none. -/
  held : Tab Course := []
  /-- Courses that are ready and have fetched no word yet, in the order in which they became so (R28, R105); reset none. -/
  ready : List Nat := []
  /-- COURSE_MALFORMED (32 bits, saturating, 5020h:01h); reset 0. -/
  malformed : W32 := 0
  /-- COURSE_ERROR_ENDS (32 bits, saturating, 5020h:02h); reset 0. -/
  errorEnds : W32 := 0
  /-- CAUSES_MERGED (32 bits, saturating, 5020h:03h); reset 0. -/
  merged : W32 := 0
  deriving DecidableEq, Repr

/-- A raw port operation in progress (R103). -/
structure RawOp where
  owner : RawOwner
  /-- Command code 20h to 24h. -/
  op : Nat
  /-- SELECTOR and PARAM. -/
  sel : BitVec 24
  param : W64
  /-- Bytes asked for. -/
  count : Nat
  /-- Where received data go. -/
  segs : List (BitVec 40 × Nat) := []
  /-- What is transmitted, or has been received. -/
  data : Bytes := []
  /-- HOST_BASE of its addresses (R83, R417). -/
  base : W64 := 0
  /-- SKIP: what is received is discarded (R88). -/
  skip : Bool := false
  /-- DETAIL of the last completion of an NVMe command (R103). -/
  detail : W64 := 0
  deriving DecidableEq, Repr

/-- Use of an NVMe command outstanding at a root port (R386, R387). -/
inductive NvmeUse
  /-- The final Flush of the last course, of rung 3 or of the sleep entry, on a member. -/
  | flush (member : Nat)
  /-- An APPEND of a course: the member, the LBA that the device chose on a conventional namespace, the object and, for a
  brick, its BRICK_SEQ. -/
  | append (ctx member : Nat) (lba : Option Nat) (obj : Nat) (seq : Option W64)
  /-- A raw NVME operation. -/
  | raw (owner : RawOwner)
  deriving DecidableEq, Repr

/-- An NVMe command outstanding. -/
structure NvmeOut where
  port : Nat
  cid  : BitVec 16
  use  : NvmeUse
  deriving DecidableEq, Repr
/-! ### The context store (chapter 05) -/

/-- An entry of a LOC_EXT context (R118). -/
structure LocEntry where
  lba      : BitVec 48
  member   : BitVec 2
  repair   : Bool
  brickSeq : W64
  deriving DecidableEq, Repr

/-- A context record (R117; the last three fields are a LOC_EXT record's, R118). -/
structure CtxRec where
  /-- STATE (8 bits); reset 00h. -/
  state : BitVec 8 := 0
  /-- HOLD (1 bit); reset 0. -/
  hold : Bool := false
  /-- CLAIMED (1 bit); reset 0. -/
  claimed : Bool := false
  /-- COURSE (1 bit); reset 0. -/
  course : Bool := false
  /-- SUSPENDED (1 bit); reset 0. -/
  suspended : Bool := false
  /-- LEN_MEM (1 bit); reset 0. -/
  lenMem : Bool := false
  /-- NOTIFY_EN (1 bit); reset 0. -/
  notifyEn : Bool := false
  /-- TILE (4 bits); reset 0. -/
  tile : BitVec 4 := 0
  /-- CLAIM_ID (8 bits); reset 0. -/
  claimId : BitVec 8 := 0
  /-- GENERATION (16 bits); the spec gives no first value: DESIGN CHOICE 0 (log entry 5). -/
  gen : BitVec 16 := 0
  /-- LANE (8 bits); reset 0. -/
  lane : BitVec 8 := 0
  /-- SOURCE_TYPE (8 bits); reset 0. -/
  sourceType : BitVec 8 := 0
  /-- RETENTION_CLASS (8 bits); reset 0. -/
  retClass : BitVec 8 := 0
  /-- NOTIFY (8 bits); reset 0. -/
  notify : BitVec 8 := 0
  /-- PENDING (16 bits); reset 0. -/
  pending : BitVec 16 := 0
  /-- RESUME_CAUSE (4 bits); reset 0. -/
  resumeCause : BitVec 4 := 0
  /-- LAST_STATUS (16 bits); reset 0. -/
  lastStatus : Status := 0
  /-- RESUME_ADDR (40 bits); reset 0. -/
  resumeAddr : BitVec 40 := 0
  /-- POST_SEQ (16 bits); reset 0. -/
  postSeq : BitVec 16 := 0
  /-- STATUS_ADDR (40 bits); reset 0. -/
  statusAddr : BitVec 40 := 0
  /-- HOST_BASE (64 bits); reset 0. -/
  hostBase : W64 := 0
  /-- OPEN_TIME (80 bits); reset 0. -/
  openTime : BitVec 80 := 0
  /-- DEADLINE (48 bits); reset 0. -/
  deadline : BitVec 48 := 0
  /-- LAST_SEQ (64 bits); reset all ones. -/
  lastSeq : W64 := 0xFFFFFFFFFFFFFFFF
  /-- OBJ_PAYLOAD (64 bits); reset 0. -/
  objPayload : W64 := 0
  /-- FIRST_LBA of members W0M0, W0M1, W1M0, W1M1 (64 bits each); reset all ones. -/
  firstLba : Tab W64 := []
  /-- LAST_LBA of the four members (64 bits each); reset all ones. -/
  lastLba : Tab W64 := []
  /-- EXT_CONTEXT (20 bits); reset 0. -/
  extContext : BitVec 20 := 0
  /-- BINDINGS (16 bits); reset 0. -/
  bindings : BitVec 16 := 0
  /-- IMAGE_SEQ (64 bits); reset 0. -/
  imageSeq : W64 := 0
  /-- OPEN_MONO (64 bits); reset 0. -/
  openMono : W64 := 0
  /-- OWNER of a LOC_EXT (20 bits, R118); reset 0. -/
  owner : BitVec 20 := 0
  /-- ENTRY0 to ENTRY12 in use of a LOC_EXT, so ENTRIES is their number (R118); reset none. -/
  locs : List LocEntry := []
  /-- NEXT_EXT of a LOC_EXT (20 bits, R118); reset 0. -/
  nextExt : BitVec 20 := 0
  deriving DecidableEq, Repr

/-- A line of the context cache (R120). -/
structure CacheLine where
  ctx   : Nat
  row   : CtxRec
  dirty : Bool
  deriving DecidableEq, Repr

/-- The context store (R116 to R128). -/
structure CtxStore where
  /-- The table in DRAM as last written back, by context number (R117, R120); reset 0 (wiped, R128). -/
  table : Tab CtxRec := []
  /-- The cache lines, most recently used first (16,384 lines in 2,048 sets of 8 ways, R120); reset empty. -/
  cache : List CacheLine := []
  /-- The 128-bit cache key drawn at reset (R120); reset DESIGN CHOICE 0 until the start draws it (log entry 7). -/
  cacheKey : BitVec 128 := 0
  /-- The free list in its order, as runs of (first context, count) (R123); reset every context but 0. -/
  free : List (Nat × Nat) := [(1, 1048575)]
  /-- For a claimed context whose claim belongs to a course: the context of that course (R122); reset none. -/
  courseClaim : Tab Nat := []
  /-- CACHE_HITS (64 bits, 2100h:03h); reset 0. -/
  hits : W64 := 0
  /-- CACHE_MISSES (64 bits, 2100h:04h); reset 0. -/
  misses : W64 := 0
  /-- CLAIM_BUSY (32 bits, saturating, 2100h:05h); reset 0. -/
  claimBusy : W32 := 0
  /-- STALE_REFS (32 bits, saturating, 2100h:06h); reset 0. -/
  staleRefs : W32 := 0
  /-- RESTORE_DONE (1 bit, 2100h:07h); reset 0. -/
  restoreDone : Bool := false
  /-- IMAGES_WRITTEN (64 bits, 2100h:08h); reset 0. -/
  imagesWritten : W64 := 0
  /-- The device-wide image counter (64 bits, R126); reset 0 until the restore finds a higher one. -/
  imageSeq : W64 := 0
  /-- Images queued for the context log, oldest first: the context and the record as imaged (R126); reset none. -/
  imageQueue : List (Nat × CtxRec) := []
  /-- Bytes of the active log region in use on each member 2w + m (R126); reset 0. -/
  logUsed : Tab Nat := []
  /-- The deadline for which the sweep delivered cause 1, by context (R125); reset none. -/
  sweptFor : Tab (BitVec 48) := []
  /-- Copies of APPEND that wait for a LOC_EXT context, as (course, object, entry); an entry whose LBA is all ones has not been
  written yet (R119); reset none. -/
  locWait : List (Nat × Nat × LocEntry) := []
  deriving DecidableEq, Repr

/-! ### The binding table (chapter 05) -/

/-- A binding entry (R130). -/
structure BindEntry where
  /-- KEY, 40 bytes as one little-endian number (R129). -/
  key : BitVec 320
  /-- TARGET (20 bits). -/
  target : BitVec 20
  /-- LANE (8 bits). -/
  lane : BitVec 8
  /-- LEARNED (1 bit). -/
  learned : Bool
  /-- LANE_BOUND (1 bit). -/
  laneBound : Bool
  /-- TARGET_GEN (16 bits). -/
  targetGen : BitVec 16
  deriving DecidableEq, Repr

/-- One area of buckets with its key and stash bank (R130, R131). -/
structure BindArea where
  /-- Valid entries by 4 × bucket + way, 2^19 buckets (R130); reset none. -/
  ways : Tab BindEntry := []
  /-- The stash bank, at most 64 entries (R131); reset none. -/
  stash : List BindEntry := []
  /-- The 128-bit binding key (R131); reset DESIGN CHOICE 0 until the start draws it (log entry 7). -/
  key : BitVec 128 := 0
  deriving DecidableEq, Repr

/-- The binding table (R130 to R134). -/
structure Bindings where
  /-- The active area. -/
  active : BindArea := {}
  /-- The area being built by a re-key in progress (R133); reset none. -/
  build : Option BindArea := none
  /-- The in-hand register (R131); reset empty. -/
  inHand : Option BindEntry := none
  /-- STASH_PEAK (8 bits, 2101h:03h); reset 0. -/
  stashPeak : BitVec 8 := 0
  /-- REKEYS (32 bits, 2101h:04h); reset 0. -/
  rekeys : W32 := 0
  /-- LONGEST_WALK (8 bits, 2101h:06h); reset 0. -/
  longestWalk : BitVec 8 := 0
  /-- TREE_INSERTS (32 bits, 2101h:07h); reset 0. -/
  treeInserts : W32 := 0
  /-- BIND_BUSY (32 bits, 2101h:08h); reset 0. -/
  bindBusy : W32 := 0
  /-- Bound keys of each lane in the order in which they were bound, configured and learned (R134); reset none. -/
  order : Tab (List (BitVec 320)) := []
  /-- TNOW of each lane's last learning (R134); reset none. -/
  lastLearn : Tab (BitVec 48) := []
  deriving DecidableEq, Repr

/-! ### Hods (chapter 06) -/

/-- Who queued a descriptor (R138). -/
inductive HodIssuer
  /-- A HOD_SUBMIT write of a master. -/
  | submit (m : Nat)
  /-- The MOVE of a course's context. -/
  | move (ctx : Nat)
  /-- The lane path of a lane. -/
  | lane (l : Nat)
  /-- A MOVE that has ended before its descriptor (R138). -/
  | ended
  deriving DecidableEq, Repr

/-- A queued descriptor. -/
structure HodEntry where
  addr   : Nat
  issuer : HodIssuer
  /-- The 32 bytes as latched, for a dropped descriptor that was in progress (R137, R146). -/
  latched : Option (BitVec 256) := none
  /-- Lane path: the block taken from the port ring, and the descriptor's 32 bytes (R138, R145). -/
  block  : Option (RingUnit × BitVec 256) := none
  deriving DecidableEq, Repr

/-- The descriptor in progress, as latched at its start (R137). -/
structure HodWork where
  addr   : Nat
  issuer : HodIssuer
  /-- The 32 bytes as read (R140). -/
  desc   : BitVec 256
  /-- The bond entry as latched (R137, R141). -/
  bond   : BitVec 128
  /-- An admitted evidence descriptor's record length; its bytes are already accepted (R145). -/
  accepted : Option Nat := none
  deriving DecidableEq, Repr

/-- One hod (R137 to R147). -/
structure HodSt where
  /-- EN (1 bit, R139); reset 0. -/
  en : Bool := false
  /-- DIS (1 bit, R139); reset 0. -/
  dis : Bool := false
  /-- A write of 0 to DIS waits for DROPPING to clear (R146); reset 0. -/
  disClear : Bool := false
  /-- The descriptor queue, oldest first, at most 32 (R137); reset empty. -/
  queue : List HodEntry := []
  /-- Courses in a MOVE and lanes that wait for a free entry, in arrival order (R28, R138); reset none. -/
  waiting : List HodIssuer := []
  /-- The descriptor in progress (R137); reset none. -/
  work : Option HodWork := none
  /-- Dropped descriptors whose DONE writeback is outstanding, in queue order; DROPPING while not empty (R146);
  reset none. -/
  dropped : List HodEntry := []
  /-- DROPPING (1 bit, R139); reset 0. -/
  dropping : Bool := false
  /-- DONE_COUNT (64 bits, R139); reset 0. -/
  doneCount : W64 := 0
  /-- REJECT_COUNT (32 bits, saturating, R139); reset 0. -/
  rejectCount : W32 := 0
  /-- DROP_COUNT (32 bits, saturating, R139); reset 0. -/
  dropCount : W32 := 0
  /-- HOD_SUB_REFUSED (32 bits, saturating, R139); reset 0. -/
  subRefused : W32 := 0
  /-- BYTES_MOVED (64 bits, R139); reset 0; a FREE VALUE after a drop (log entry 2). -/
  bytesMoved : W64 := 0
  /-- The 64 entries of the bond table (128 bits each, R141); reset 0. -/
  bonds : Tab (BitVec 128) := []
  /-- Bits [31:0] of a HOD_SUBMIT written by halves, kept for the upper half (R139; log entry 10); reset 0. -/
  submitLo : W32 := 0
  deriving DecidableEq, Repr

/-! ### Course engines (chapters 07 and 08) -/

/-- A store posted in an engine's buffer (R162): first byte's device address, bytes 1 to 3, data. -/
structure Posted where
  addr : DevAddr
  size : Nat
  data : W24
  deriving DecidableEq, Repr

/-- A load in flight of a STALLED engine (R161, R162): of device memory at `addr`, or of the data space at `space`, with the post-step of a
base register and the parcels of the instruction (R157, R181). -/
structure LoadReq where
  rd    : Reg
  addr  : DevAddr
  size  : Nat
  sext  : Bool
  space : Option W24 := none
  step  : Option (Reg × W24) := none
  len   : Nat := 2
  deriving DecidableEq, Repr

/-- The states of R151; HALTED by a fault and HALTED after HALT differ by `faulted`. -/
inductive EngRun
  /-- HALTED, after the instruction HALT (which an interrupt ends) or otherwise (R151, R173). -/
  | halted (afterHalt : Bool)
  /-- RUNNING (R151). -/
  | running
  /-- WAITING in WAITE (R193). -/
  | waitE
  /-- WAITING in WAITT with its target (R194). -/
  | waitT (target : W24)
  /-- STALLED on a load (R162). -/
  | stallLoad (r : LoadReq)
  /-- STALLED on a store with the buffer full, with the register writes of a COMMIT that hold it (R162, R205). -/
  | stallStore (p : Posted) (commit : List (Reg × W24))
  deriving DecidableEq, Repr

/-- A read kept by the replay latch of one level (R163): its device address or its address of tile I/O, its size and data. -/
structure Replay where
  addr  : DevAddr
  size  : Nat
  data  : W24
  space : Option W24 := none
  deriving DecidableEq, Repr

/-- A divide in flight: MLO, MHI and the flags it will set (R165, R166). -/
structure DivRes where
  lo  : W24
  hi  : W24
  dov : Bool
  dz  : Bool
  deriving DecidableEq, Repr

/-- One course engine (R150 to R175). -/
structure Engine where
  /-- g1 to g15 (24 bits each, R153); reset 0; g0 is not held. -/
  g : Tab W24 := []
  /-- b0 to b3 (11 bits each, R153); reset 0. -/
  b : Tab (BitVec 11) := []
  /-- PC (18 bits, R153); reset 0. -/
  pc : W18 := 0
  /-- MLO (24 bits, R154); reset 0. -/
  mlo : W24 := 0
  /-- MHI (24 bits, R154); reset 0. -/
  mhi : W24 := 0
  /-- RC (24 bits, R154); reset 0. -/
  rc : W24 := 0
  /-- ESTAT.IE (1 bit, R155); reset 0. -/
  ie : Bool := false
  /-- ESTAT.ACT, bit L for level L (4 bits, R155); reset 0. -/
  act : BitVec 4 := 0
  /-- ESTAT.DOV (1 bit, R155); reset 0. -/
  dov : Bool := false
  /-- ESTAT.DZ (1 bit, R155); reset 0. -/
  dz : Bool := false
  /-- TNOWH, the latched TNOW[47:24] (24 bits, R154, R174); reset 0 (R152). -/
  tnowh : W24 := 0
  /-- EVM (24 bits, R154); reset 0. -/
  evm : W24 := 0
  /-- VBASE[17:10] (8 bits held, R154); reset 0. -/
  vbase : BitVec 8 := 0
  /-- IPC0 to IPC3 (18 bits each, R154); reset 0. -/
  ipc : Tab W18 := []
  /-- ISTAT0.IE to ISTAT3.IE (1 bit each, R156); reset 0. -/
  istat : Tab Bool := []
  /-- HALTED, RUNNING, WAITING, STALLED (R151); reset HALTED (R152). -/
  run : EngRun := .halted false
  /-- FAULTED of run control (1 bit, R372); reset 0. -/
  faulted : Bool := false
  /-- FAULT_CASE of run control (3 bits, R372, R374); reset 0. -/
  faultCase : BitVec 3 := 0
  /-- FAULT_PC of run control (18 bits, R372); reset 0. -/
  faultPc : W18 := 0
  /-- START_PC of run control (18 bits, R372); reset 0. -/
  startPc : W18 := 0
  /-- Halted by HALT_REQ: no interrupt until released (1 bit, R373); reset 0. -/
  haltReq : Bool := false
  /-- EVL, the event latch (24 bits, R159, R160); reset 0. -/
  evl : W24 := 0
  /-- Local memory, 16 Ki words of 24 bits (R157); wiped to 0 at reset (R152). -/
  loc : Tab W24 := []
  /-- The posted-store buffer, oldest first, at most 8 (R162); reset empty. -/
  posted : List Posted := []
  /-- Replay latches: 0 base level, 1 + L level L for L = 0, 1, 2 (R163); reset empty. -/
  replay : Tab (Option Replay) := []
  /-- Products in flight, oldest first, as (MHI, MLO) (R166); reset none. -/
  products : List (W24 × W24) := []
  /-- The divide in flight (R166, R167); reset none. -/
  divide : Option DivRes := none
  /-- The hidden repeat counter of an RPTI at a boundary between repetitions (24 bits, R190, R192); reset none. -/
  rpti : Option W24 := none
  /-- The source selected at E1 with its level and the vector latched, until E2 (R170, R215); reset none. -/
  e1 : Option (Src × BitVec 2 × W18) := none
  /-- No instruction has begun since an entry or a return put PC where it is: no source is assigned yet (R218); reset false. -/
  entered : Bool := false
  /-- Crossings already raised while this engine waits in its present WAITE: the two channels with their SENT counts
  (R250); reset none. -/
  crossed : List (Nat × Nat × W32 × W32) := []
  /-- CH_SEL of the mailbox port (10 bits, R252); reset 0. -/
  chSel : BitVec 10 := 0
  /-- SUBMIT_LO of the mortar port (24 bits, R266); reset 0. -/
  submitLo : W24 := 0
  /-- SUBMIT12_HI held for this engine as master (3 bits, R430); reset 0. -/
  submit12Hi : BitVec 3 := 0
  deriving DecidableEq, Repr

/-- Power of a tile (R361, R362). -/
inductive TilePower
  /-- Running. -/
  | run
  /-- TRIM banked: clocks gated. -/
  | banked
  /-- TRIM cold: power removed. -/
  | cold
  /-- In repair (R346). -/
  | repair
  deriving DecidableEq, Repr

/-- An entry of a tile's decode table (R200). -/
structure DecEntry where
  start  : BitVec 9 := 0
  lenM1  : BitVec 5 := 0
  valid  : Bool := false
  xBank  : Bool := false
  deriving DecidableEq, Repr

/-- One tile. -/
structure TileSt where
  /-- Its power state, TILE_STATE (R362, R372); reset running. -/
  power : TilePower := .run
  /-- TILE_PWR as last written (2 bits, R372); reset 00b. -/
  pwrReq : BitVec 2 := 0
  /-- TILE_GEN (16 bits, R124); the spec gives no first value: log entry 5, DESIGN CHOICE 0. -/
  gen : BitVec 16 := 0
  /-- The 16 entries of the writable decode table (R199, R200); reset 0. -/
  entries : Tab DecEntry := []
  /-- The 512 micro-words of 72 bits of the microstore (R199, R201); reset 0. -/
  micro : Tab (BitVec 72) := []
  /-- A decode table has been loaded in the tile, DECODE_TILES (R210); reset 0. -/
  loaded : Bool := false
  deriving DecidableEq, Repr

/-! ### Vector unit and watcher (chapter 10) -/

/-- One source of the vector unit's table (R211, R212, R221). -/
structure SrcRow where
  /-- LEVEL (2 bits); reset 0. -/
  level : BitVec 2 := 0
  /-- EN (1 bit); reset 0. -/
  en : Bool := false
  /-- COUNT (8 bits); reset 0. -/
  count : BitVec 8 := 0
  /-- PENDING (1 bit); reset 0. -/
  pending : Bool := false
  /-- LAST_TARGET (8 bits); reset 9Fh. -/
  lastTarget : BitVec 8 := 0x9F
  /-- MASK (160 bits); reset 0. -/
  mask : BitVec 160 := 0
  /-- ARRIVALS (32 bits, wrapping, R212); reset 0. -/
  arrivals : W32 := 0
  /-- DELIVERED (32 bits, wrapping, R212); reset 0. -/
  delivered : W32 := 0
  /-- COALESCED (32 bits, wrapping, R212); reset 0. -/
  coalesced : W32 := 0
  /-- DROPPED (32 bits, wrapping, R212); reset 0. -/
  dropped : W32 := 0
  deriving DecidableEq, Repr

/-- One target 0 to 159 (R216, R217, R221). -/
structure TgtRow where
  /-- HOLDOFF (10 bits); reset 0. -/
  holdoff : BitVec 10 := 0
  /-- TGT_HOLD (1 bit, host targets only); reset 0. -/
  hold : Bool := false
  /-- HELD_MOD (1 bit); reset 0. -/
  heldMod : Bool := false
  /-- LAST_SRC (8 bits); reset 0. -/
  lastSrc : BitVec 8 := 0
  deriving DecidableEq, Repr

/-- The vector unit (R211 to R223). -/
structure VectorUnit where
  /-- GHOLD (1 bit, R221); reset 0. -/
  ghold : Bool := false
  /-- The 256 sources (R211); reset as `SrcRow`. -/
  src : Tab SrcRow := []
  /-- The 160 targets (R221); reset as `TgtRow`. -/
  tgt : Tab TgtRow := []
  /-- LAST_SRC of level L of engine e at number 4e + L (8 bits each, R222); reset 0. -/
  lastSrc : Tab (BitVec 8) := []
  /-- SNAP_ARRIVALS (32 bits, R221); reset 0. -/
  snapArrivals : W32 := 0
  /-- SNAP_DELIVERED (32 bits, R221); reset 0. -/
  snapDelivered : W32 := 0
  /-- SNAP_COALESCED (32 bits, R221); reset 0. -/
  snapCoalesced : W32 := 0
  /-- SNAP_DROPPED (32 bits, R221); reset 0. -/
  snapDropped : W32 := 0
  /-- SNAP_PENDING (1 bit, R221); reset 0. -/
  snapPending : Bool := false
  /-- SNAP_SRC (8 bits, R221); reset 0. -/
  snapSrc : BitVec 8 := 0
  deriving DecidableEq, Repr

/-- The always-on watcher (R220, R221 from offset 8000h). -/
structure Watcher where
  /-- WATCH_SRC and WATCH_EN of the 32 entries, bits [7:0] and [8] (9 bits each, R221); reset 0. -/
  watch : Tab (BitVec 9) := []
  /-- SLEEP_DROPPED (32 bits, R221); reset 0. -/
  sleepDropped : W32 := 0
  /-- WAKES (32 bits, R221); reset 0. -/
  wakes : W32 := 0
  /-- WAKE_SRC (8 bits, R221); reset 0. -/
  wakeSrc : BitVec 8 := 0
  /-- WAKE_VALID (1 bit, R221); reset 0. -/
  wakeValid : Bool := false
  /-- SLEEP_COUNT of the 256 sources (8 bits each, R220, R221); reset 0. -/
  sleepCount : Tab (BitVec 8) := []
  /-- The watcher counts in place of the unit: set at the entry to PARK or DEEP (R220); reset 0. -/
  asleep : Bool := false
  deriving DecidableEq, Repr

/-! ### Event router (chapter 11) -/

/-- One channel (R225, R231, R232, R238). -/
structure ChanRow where
  /-- REARM (8 bits); reset 04h. -/
  rearm : BitVec 8 := 4
  /-- CH_EN (1 bit); reset 1. -/
  en : Bool := true
  /-- BLOCKING (1 bit); reset 0. -/
  blocking : Bool := false
  /-- RATE_HIT (1 bit); reset 0. -/
  rateHit : Bool := false
  /-- RATE_MAX (8 bits); reset 0. -/
  rateMax : BitVec 8 := 0
  /-- FIRED (32 bits); reset 0. -/
  fired : W32 := 0
  /-- BLOCKED (32 bits); reset 0. -/
  blocked : W32 := 0
  /-- GATED (32 bits); reset 0. -/
  gated : W32 := 0
  /-- Waves of the window in progress (R232); reset 0. -/
  waves : Nat := 0
  deriving DecidableEq, Repr

/-- One task input, or one course port (R227, R229, R235, R238). -/
structure TaskRow where
  /-- SUB_CH (9 bits); reset 0. -/
  subCh : BitVec 9 := 0
  /-- SUB_EN (1 bit); reset 0. -/
  subEn : Bool := false
  /-- ARR (4 bits); reset 0. -/
  arr : BitVec 4 := 0
  /-- OVF (1 bit); reset 0. -/
  ovf : Bool := false
  /-- ARRIVALS (32 bits, wrapping, R230); reset 0. -/
  arrivals : W32 := 0
  /-- DELIVERED (32 bits, wrapping, R230); reset 0. -/
  delivered : W32 := 0
  /-- COALESCED (32 bits, wrapping, R230); reset 0. -/
  coalesced : W32 := 0
  /-- DROPPED (32 bits, wrapping, R230); reset 0. -/
  dropped : W32 := 0
  deriving DecidableEq, Repr

/-- One event output (R226, R238). -/
structure OutRow where
  /-- PUB_CH (9 bits); reset 0. -/
  ch : BitVec 9 := 0
  /-- PUB_EN (1 bit); reset 0. -/
  en : Bool := false
  deriving DecidableEq, Repr

/-- One group switch (R233, R238). -/
structure SwitchRow where
  /-- SW_MASK (32 bits); reset 0. -/
  mask : W32 := 0
  /-- SW_ACT (2 bits); reset 00b. -/
  action : BitVec 2 := 0
  deriving DecidableEq, Repr

/-- The event router (R225 to R238). -/
structure Router where
  /-- The 512 channels (R225); reset as `ChanRow`. -/
  chan : Tab ChanRow := []
  /-- The 2,048 task inputs (R227); reset as `TaskRow`. -/
  task : Tab TaskRow := []
  /-- The course port of each channel (R235); reset as `TaskRow`. -/
  port : Tab TaskRow := []
  /-- The 1,024 event outputs (R226); reset as `OutRow`. -/
  out : Tab OutRow := []
  /-- GROUP_EN of groups 31 to 0 (32 bits, R238); reset FFFF_FFFDh. -/
  groupEn : W32 := 0xFFFFFFFD
  /-- DECL_ON (32 bits, R238); reset 0000_0002h. -/
  declOn : W32 := 2
  /-- DECL_OFF (32 bits, R238); reset 0000_0001h. -/
  declOff : W32 := 1
  /-- The 64 group switches (R233); reset as `SwitchRow`. -/
  switch : Tab SwitchRow := []
  /-- WAKE_REQS (32 bits, R238); reset 0. -/
  wakeReqs : W32 := 0
  /-- A take at a wake input since the last entry to PARK or DEEP (1 bit, R237, R364); reset 0. -/
  wakeAsked : Bool := false
  /-- SNAP_ARRIVALS (32 bits, R238); reset 0. -/
  snapArrivals : W32 := 0
  /-- SNAP_DELIVERED (32 bits, R238); reset 0. -/
  snapDelivered : W32 := 0
  /-- SNAP_COALESCED (32 bits, R238); reset 0. -/
  snapCoalesced : W32 := 0
  /-- SNAP_DROPPED (32 bits, R238); reset 0. -/
  snapDropped : W32 := 0
  /-- SNAP_PENDING (1 bit, R238); reset 0. -/
  snapPending : Bool := false
  /-- SNAP_INPUT (11 bits, R238); reset 0. -/
  snapInput : BitVec 11 := 0
  deriving DecidableEq, Repr

/-! ### Mailboxes (chapter 12) -/

/-- One mailbox channel (R241 to R253). -/
structure MboxRow where
  /-- STAGE1 to STAGE15 (24 bits each); reset 0. -/
  stage : Tab W24 := []
  /-- SLOT0 to SLOT15 (24 bits each); reset 0. -/
  slot : Tab W24 := []
  /-- FULL (1 bit); reset 0. -/
  full : Bool := false
  /-- ACKED (1 bit); reset 0. -/
  acked : Bool := false
  /-- LAST_RESULT (2 bits); reset 00b. -/
  lastResult : BitVec 2 := 0
  /-- ACK_VAL (24 bits); reset 0. -/
  ackVal : W24 := 0
  /-- SENDER_ID (7 bits); reset 0. -/
  sender : BitVec 7 := 0
  /-- RECEIVER_ID (7 bits); reset 0. -/
  receiver : BitVec 7 := 0
  /-- VALID (1 bit); reset 0. -/
  valid : Bool := false
  /-- SENT (32 bits, wrapping, R249); reset 0. -/
  sent : W32 := 0
  /-- REFUSED (32 bits, wrapping, R249); reset 0. -/
  refused : W32 := 0
  /-- ACKS (32 bits, wrapping, R249); reset 0. -/
  acks : W32 := 0
  /-- STRAY (32 bits, wrapping, R249); reset 0. -/
  stray : W32 := 0
  deriving DecidableEq, Repr

/-- The mailbox block (R241 to R254). -/
structure Mailboxes where
  /-- The 1,024 channels; reset as `MboxRow`. -/
  ch : Tab MboxRow := []
  /-- LOCKED (1 bit, R243); reset 0. -/
  locked : Bool := false
  /-- TEST (1 bit, R243); reset 0. -/
  test : Bool := false
  /-- CROSS_LIMIT (16 bits, R253); reset 0064h. -/
  crossLimit : BitVec 16 := 0x64
  /-- CROSS_CH_A (10 bits, R253); reset 0. -/
  crossA : BitVec 10 := 0
  /-- CROSS_CH_B (10 bits, R253); reset 0. -/
  crossB : BitVec 10 := 0
  /-- VIOLATIONS (32 bits, wrapping, R253); reset 0. -/
  violations : W32 := 0
  /-- CROSSINGS (32 bits, wrapping, R253); reset 0. -/
  crossings : W32 := 0
  deriving DecidableEq, Repr

/-! ### Mortar arbiter, pool and DRAM slot tables (chapter 13) -/

/-- Who formed a mortar job, and so what its completion does (R256, R259). -/
inductive JobKind
  /-- A lane's seal job (R43). -/
  | seal (lane : Lane)
  /-- A coping record's signature, razing records included (R47, R52). -/
  | cope (lane : Lane)
  /-- A software job: HASH, SIGN or VERIFY of a descriptor (R258). -/
  | soft (op : BitVec 4) (key : BitVec 3) (len : Nat) (src dst sig : DevAddr)
  /-- The check of a brick, or of a coping record, that a course's VERIFY has read (R92, R98, R256). -/
  | verify (ctx : Nat) (record : Bool)
  deriving DecidableEq, Repr

/-- A job in an input's queue (R257). -/
structure Job where
  kind : JobKind
  /-- TAG of the descriptor (R258). -/
  tag : BitVec 16 := 0
  /-- Engine whose EVL bit 19 its completion sets (R259). -/
  engine : Option Eng := none
  /-- Host queue pair and entry position of a MORTAR submission (R282). -/
  host : Option EntryRef := none
  /-- Unit it holds; none while waiting (R257). -/
  unit : Option (Fin 10) := none
  /-- Grant order of its present grant (R261). -/
  order : Nat := 0
  /-- Its age has passed STARVE_LIMIT (R264). -/
  starved : Bool := false
  /-- TNOW at its entry, for its age (R264). -/
  since : BitVec 48 := 0
  deriving DecidableEq, Repr

/-- A request that waits for the DRAM: its class, the bytes left of it, the FABCLK cycle of its arrival (R267, R268). -/
structure DramWait where
  cls   : Fin 7
  bytes : Nat
  since : Nat
  deriving DecidableEq, Repr

/-- One arbiter input (R256, R265). -/
structure InputRow where
  /-- The jobs of the queue in arrival order, at most 8 (R257); reset empty. -/
  jobs : List Job := []
  /-- GRANTS (32 bits); reset 0. -/
  grants : W32 := 0
  /-- REVOKED (32 bits); reset 0. -/
  revoked : W32 := 0
  /-- COMPLETED (32 bits); reset 0. -/
  completed : W32 := 0
  /-- SUB_REFUSED (32 bits); reset 0. -/
  subRefused : W32 := 0
  deriving DecidableEq, Repr

/-- The mortar arbiter (R256 to R266). -/
structure Mortar where
  /-- The 16 inputs; reset as `InputRow`. -/
  input : Tab InputRow := []
  /-- STARVE_LIMIT (16 bits, R264, R265); reset 0032h. -/
  starveLimit : BitVec 16 := 0x32
  /-- STARVING (15 bits, R265); reset 0. -/
  starving : BitVec 15 := 0
  /-- REJECT_STATUS (16 bits, R265); reset 0. -/
  rejectStatus : Status := 0
  /-- REJECT_TAG (16 bits, R265); reset 0. -/
  rejectTag : BitVec 16 := 0
  /-- SUBMIT12_HI held for masters that are not engines (3 bits each, R430); reset 0. -/
  submit12Hi : Tab (BitVec 3) := []
  /-- Grants made so far, for "most recently granted" (R261); the model's own counter, reset 0 (log entry 6). -/
  grantNo : Nat := 0
  deriving DecidableEq, Repr

/-- The DRAM slot tables (R267 to R274). -/
structure Slots where
  /-- Copy A where it differs from the default of R272 (3 bits each); reset per R272. -/
  a : Tab (BitVec 3) := []
  /-- Copy B where it differs from the default of R272 (3 bits each); reset per R272. -/
  b : Tab (BitVec 3) := []
  /-- SLOT_SEL (1 bit, R274); reset 0. -/
  sel : Bool := false
  /-- ACTIVE (1 bit, R274); reset 0. -/
  active : Bool := false
  /-- SWAP_PENDING (1 bit, R274); reset 0. -/
  swapPending : Bool := false
  /-- CUR_SLOT (7 bits, R274); reset 0. -/
  cur : BitVec 7 := 0
  /-- FRAMES (32 bits, wrapping, R274); reset 0. -/
  frames : W32 := 0
  /-- LONGEST_WAIT of the 7 classes (32 bits each, R274); reset 0. -/
  longest : Tab W32 := []
  /-- The waiting requests of the classes in arrival order, each with the bytes left of it and the FABCLK cycle of its arrival (R267, R268);
  reset none. -/
  queue : List DramWait := []
  /-- The class last served, and whether as owner (R268); the model's record, reset none. -/
  served : Option (BitVec 3 × Bool) := none
  /-- The 128-bit address key of R273, drawn at reset; reset DESIGN CHOICE 0 (log entry 7). -/
  addrKey : BitVec 128 := 0
  deriving DecidableEq, Repr

/-! ### Host rings (chapter 14) -/

/-- A completion that is ready (R290): STATUS, DETAIL and AUX_STATUS. -/
structure RingDone where
  status : Status
  detail : W64 := 0
  aux    : Status := 0
  deriving DecidableEq, Repr

/-- A taken entry whose completion has not been posted (R287, R293). -/
structure TakenEntry where
  /-- Its position (R279). -/
  pos : W32
  /-- Its number in the order of all takes (R283, R421): ENTRIES_TAKEN when it was taken. -/
  no : Nat := 0
  /-- The 64 bytes of its final read (R281). -/
  raw : BitVec 512
  /-- It has started (R282). -/
  started : Bool := false
  /-- It has been handed over to a course, a lane or input 13 (R287). -/
  handed : Bool := false
  /-- Its completion, once ready (R290). -/
  done : Option RingDone := none
  deriving DecidableEq, Repr

/-- One queue pair (R279). -/
structure Pair where
  /-- EN (1 bit); reset 0. -/
  en : Bool := false
  /-- TXN (1 bit); reset 0. -/
  txn : Bool := false
  /-- RECOVER (1 bit); reset 0. -/
  recover : Bool := false
  /-- CFG_ERR (1 bit); reset 0. -/
  cfgErr : Bool := false
  /-- IRQ_EN (1 bit); reset 0. -/
  irqEn : Bool := false
  /-- WEIGHT (8 bits); reset 01h. -/
  weight : BitVec 8 := 1
  /-- BURST (7 bits); reset 01h. -/
  burst : BitVec 7 := 1
  /-- IRQ_GROUP (5 bits); reset 0. -/
  irqGroup : BitVec 5 := 0
  /-- SIZE (17 bits); reset 0. -/
  size : BitVec 17 := 0
  /-- SQ_BASE (64 bits); reset 0. -/
  sqBase : W64 := 0
  /-- CQ_BASE (64 bits); reset 0. -/
  cqBase : W64 := 0
  /-- SHADOW (64 bits); reset 0. -/
  shadow : W64 := 0
  /-- MAX_XFER (25 bits); reset 10_0000h. -/
  maxXfer : BitVec 25 := 0x100000
  /-- CQ_HEAD_INIT (16 bits); reset 0. -/
  cqHeadInit : BitVec 16 := 0
  /-- CQ_PHASE_INIT (1 bit); reset 0. -/
  cqPhaseInit : Bool := false
  /-- TAKEN_POS (32 bits); reset 0. -/
  takenPos : W32 := 0
  /-- EPOCH (16 bits); reset 0. -/
  epoch : BitVec 16 := 0
  /-- SERVICE_TILE in force since the last enable (4 bits); none until an enable: 6400h+q stands (R280). -/
  serviceTile : Option (BitVec 4) := none
  /-- MALFORMED (32 bits, wrapping); reset 0. -/
  malformed : W32 := 0
  /-- ABORTED (32 bits, wrapping); reset 0. -/
  aborted : W32 := 0
  /-- STALE (32 bits, wrapping); reset 0. -/
  stale : W32 := 0
  /-- DB_ERR (32 bits, wrapping); reset 0. -/
  dbErr : W32 := 0
  /-- Position one past the last covered entry (R285); reset 0. -/
  covered : W32 := 0
  /-- Position of the next completion to post: completions posted (R291, R293); reset 0. -/
  posted : W32 := 0
  /-- Position up to which the host has freed completion slots (R285); reset 0. -/
  cqHead : W32 := 0
  /-- Credit of the round in progress (R289); reset 0. -/
  credit : Nat := 0
  /-- Entries taken whose completion is not posted, in take order (R287, R291); reset none. -/
  entries : List TakenEntry := []
  deriving DecidableEq, Repr

/-- The host rings and the endpoint (R276 to R297). -/
structure Rings where
  /-- The 1,024 queue pairs; reset as `Pair`. -/
  pair : Tab Pair := []
  /-- WIN_BASE (2 bits, R279); reset 0. -/
  winBase : BitVec 2 := 0
  /-- Place of the present pass of the round: the queues below it are still to be looked at, from the highest down (R289);
  reset 1024. -/
  cursor : Nat := 1024
  /-- A queue was served in the present pass (R289); reset 0. -/
  served : Bool := false
  /-- ENTRIES_TAKEN (64 bits, 6000h:02h); reset 0. -/
  entriesTaken : W64 := 0
  /-- ABORTED_TOTAL (32 bits, 6000h:03h); reset 0. -/
  abortedTotal : W32 := 0
  /-- STALE_TOTAL (32 bits, 6000h:04h); reset 0. -/
  staleTotal : W32 := 0
  /-- TXN_TRANSLATED (64 bits, 6002h:02h, R422); reset 0. -/
  txnTranslated : W64 := 0
  /-- TXN_UNTRANSLATABLE (32 bits, saturating, 6002h:03h, R422); reset 0. -/
  txnUntranslatable : W32 := 0
  /-- A rung 2 of the endpoint owes the recovery scan until its link is up (R295, R296); reset 0. -/
  scanOwed : Bool := false
  /-- The MSI-X table, 4 words of 32 bits per vector at number 4v + i (R277): the PCIe 4.0 format;
  reset PRESUMED 0 with vector control bit 0 set (log entry 8). -/
  msix : Tab W32 := []
  /-- MSI-X Enable of the capability (R214); reset PRESUMED 0 (log entry 8). -/
  msixEn : Bool := false
  /-- MSI-X Function Mask (R214); reset PRESUMED 0 (log entry 8). -/
  msixFnMask : Bool := false
  /-- Bus Master Enable (R214); reset PRESUMED 0 (log entry 8). -/
  busMaster : Bool := false
  /-- MSI-X writes made, oldest first, as (vector, address, data) (R219); reset none. -/
  msixWrites : List (Nat × W64 × W32) := []
  deriving DecidableEq, Repr

/-! ### Security block, fuses and boot flash (chapter 16, R312) -/

/-- The fuse array (R324). -/
structure Fuses where
  /-- LC, the number of bits burned (4 bits); reset 0, BLANK. -/
  lc : Nat := 0
  /-- SEC_FLOOR, the number of bits burned (64 bits); reset 0. -/
  secFloor : Nat := 0
  /-- BOOT_REVOKED (4 bits); reset 0000b. -/
  bootRevoked : BitVec 4 := 0
  /-- SERIAL (32 bits); reset 0. -/
  serial : W32 := 0
  /-- BOOT_KEY_DIGEST0 to 3 (384 bits each); reset 0. -/
  bootDigest : Tab Digest := []
  /-- IDENTITY_SCALAR (384 bits); reset 0. -/
  identity : BitVec 384 := 0
  /-- DEVICE_SECRET (384 bits); reset 0. -/
  secret : BitVec 384 := 0
  /-- SEAL_DESTROYED (1 bit); reset 0. -/
  sealDestroyed : Bool := false
  /-- IDENTITY_DESTROYED (1 bit); reset 0. -/
  identityDestroyed : Bool := false
  deriving DecidableEq, Repr

/-- A boot record (R327). -/
structure BootRecord where
  seq   : W32
  slotB : Bool
  trial : BitVec 8
  deriving DecidableEq, Repr

/-- The image that runs (R325, R320). -/
structure Running where
  slotB    : Bool
  ver      : W32
  digest   : Digest
  key      : Nat
  secEpoch : Nat
  deriving DecidableEq, Repr

/-- The security block and the boot flash it reads (R322 to R340). -/
structure Sec where
  fuse : Fuses := {}
  /-- The image running (7000h:01h to 03h); none before a boot. -/
  running : Option Running := none
  /-- The two boot record positions (R327); reset none valid. -/
  bootRec : Tab BootRecord := []
  /-- Image slots A (0) and B (1) as bytes (R325); reset empty. -/
  slot : Tab Bytes := []
  /-- Configuration copies A (0) and B (1) as bytes (R312); reset empty. -/
  config : Tab Bytes := []
  /-- The TRNG supplies (R322); reset 0 until its start-up tests pass. -/
  trngOk : Bool := false
  /-- The entropy source fails its tests: a start stops before it records (R322, R323); reset 0. -/
  trngBad : Bool := false
  /-- DECODE_VER (32 bits, 7010h:02h, R210); reset 0. -/
  decodeVer : W32 := 0
  /-- DECODE_ILLEGAL (32 bits, saturating, 7010h:05h, R210); reset 0. -/
  decodeIllegal : W32 := 0
  /-- TRNG_FAILS (32 bits, saturating, 4860h:01h); reset 0. -/
  trngFails : W32 := 0
  /-- RESEEDS (32 bits, wrapping, 4860h:02h); reset 0. -/
  reseeds : W32 := 0
  /-- Generate requests under the present seed (R323); reset 0. -/
  generated : Nat := 0
  /-- Blocks drawn from the DRBG so far: the number of the next one (R323; log entry 3); reset 0. -/
  drawn : Nat := 0
  /-- FW_FALLBACKS (32 bits, saturating, 4870h:07h); reset 0. -/
  fallbacks : W32 := 0
  /-- USERCODE: last boot ROM status in bits [15:0], slot tried in bit 16 (R327); reset 0. -/
  usercode : BitVec 17 := 0
  /-- An accepted transition has been answered and its restart follows (R337); false between commands. -/
  restarting : Bool := false
  /-- A store of R311 runs: the bytes being written, the copy, and the path to answer (R311, R312); reset none. -/
  storing : Option (Bytes × Nat × Path) := none
  deriving DecidableEq, Repr

/-! ### The recovery ladder and its watchdogs (chapter 17, R10) -/

/-- An operation that rung 1 retries (R343). -/
structure Retry where
  op       : FaultOp
  status   : Status
  external : Bool
  /-- The tries that RETRIES gave when the fault arrived (R319). -/
  limit    : Nat
  /-- WINDOW in ms when the fault arrived (R319). -/
  window   : Nat
  /-- BACKOFF in ms when the fault arrived (R319). -/
  backoff  : Nat
  /-- Tries made. -/
  tries    : Nat := 0
  deriving DecidableEq, Repr

/-- One function of the ladder (R342, R343). -/
structure FuncSt where
  /-- RUNG1 (32 bits, saturating, 5100h+f:04h, R319); reset 0. -/
  rung1 : W32 := 0
  /-- RUNG2 (32 bits, saturating, 5100h+f:05h); reset 0. -/
  rung2 : W32 := 0
  /-- RUNG3 (32 bits, saturating, 5100h+f:06h); reset 0. -/
  rung3 : W32 := 0
  /-- RUNG4 (32 bits, saturating, 5100h+f:07h); reset 0. -/
  rung4 : W32 := 0
  /-- Always-on times of the function's rung-2 entries, oldest first (R343); reset none. -/
  recent : List Nat := []
  /-- Operations in rung 1, oldest first (R343); reset none. -/
  retries : List Retry := []
  /-- In rung 2 since this always-on time, and the class of its fault (R345, R355); reset none. -/
  busy : Option (Nat × Bool) := none
  deriving DecidableEq, Repr

/-- A rung 3 or 4 under way (R347, R349). -/
structure Warm where
  /-- It is a rung 4. -/
  rung4 : Bool
  /-- Always-on time of its decision. -/
  since : Nat
  external : Bool
  f : Nat
  /-- A thermal trip is its cause: the start waits for the die to cool (R412). -/
  hot : Bool := false
  /-- RUNG4_MAX was reached before it: PWRCYC_N stays low for POWER_HOLD (R349). -/
  hold : Bool := false
  deriving DecidableEq, Repr

/-- A rung 3 or 4 requested during the last course (R74): its function, status and class, and which rung it is. -/
structure Deferred where
  f : Nat
  st : Status
  external : Bool
  /-- It is a rung 4. -/
  four : Bool
  /-- A thermal trip is its cause (R412). -/
  hot : Bool := false
  deriving DecidableEq, Repr

/-- The ladder (R341 to R357). Its history, counters and outage live in the always-on domain (R356). -/
structure Ladder where
  /-- The functions (R342); reset as `FuncSt`. -/
  func : Tab FuncSt := []
  /-- Always-on times of rung-3 entries, oldest first (R343); reset none. -/
  rung3At : List Nat := []
  /-- Always-on times of rung-4 entries, oldest first (R343, R349); reset none. -/
  rung4At : List Nat := []
  /-- RUNG_TOTALS of rungs 1 to 4 (32 bits each, saturating, 5001h:05h); reset 0. -/
  totals : Tab W32 := []
  /-- FAULTS_JOINED (32 bits, saturating, 5001h:06h); reset 0. -/
  joined : W32 := 0
  /-- LAST_FAULT (24 bytes, 5040h:01h); the spec gives none: DESIGN CHOICE 0 (log entry 14). -/
  lastFault : Bytes := []
  /-- OUTAGE_TOTAL in ms (64 bits, 5000h:08h); reset 0. -/
  outageTotal : W64 := 0
  /-- Internal-class outage by day in ms (5000h:07h, R355); reset 0. -/
  outageDays : Tab Nat := []
  /-- The rung 3 or 4 under way until its reset (R347, R349); reset none. -/
  warm : Option Warm := none
  /-- The outage of a rung 3 or 4 that lasts until the first staging write: its start and class (R355); reset none. -/
  owed : Option (Nat × Bool) := none
  /-- A rung 3 or 4 requested during a last course, held until LC_DONE (R74, R412); reset none. -/
  deferred : Option Deferred := none
  /-- DWD_LIMIT (16 bits, ms, R351); reset 0. -/
  dwdLimit : BitVec 16 := 0
  /-- Always-on time of the device watchdog's last restart (R350); reset 0. -/
  dwdSince : Nat := 0
  /-- AWD_ARMED_BOOT (1 bit, R351); reset 1. -/
  awdBoot : Bool := true
  /-- Always-on time of the always-on watchdog's last restart (R350); reset 0. -/
  awdSince : Nat := 0
  /-- EWD_LIMIT of the engines (16 bits each, µs, R351); reset 0. -/
  ewdLimit : Tab (BitVec 16) := []
  /-- Always-on time of each engine watchdog's last restart (R350); reset 0. -/
  ewdSince : Tab Nat := []
  /-- DRAM_CE (64 bits, 5010h:01h, R354); reset 0. -/
  dramCe : W64 := 0
  /-- Correctable DRAM errors of the present hour: its number and their count (R354); reset none. -/
  ceHour : Nat × Nat := (0, 0)
  /-- DRAM_UE (32 bits, saturating, 5010h:02h); reset 0. -/
  dramUe : W32 := 0
  /-- SRAM_CE (64 bits, 5010h:03h); reset 0. -/
  sramCe : W64 := 0
  /-- SRAM_UE (32 bits, saturating, 5010h:04h); reset 0. -/
  sramUe : W32 := 0
  deriving DecidableEq, Repr

/-! ### Clocks, power states, rails, thermal (chapters 18 and 20, R10) -/

/-- Where the device stands between its states (R361, R366, R368). -/
inductive Phase
  /-- RUN or TRIM. -/
  | run
  /-- PARK. -/
  | park
  /-- DEEP. -/
  | deep
  /-- OFF. -/
  | off
  /-- Rail sequencing: the step whose power-good input is awaited (R366). -/
  | rails (step : Nat)
  /-- A sequencing fault: the sequence is tried again after 1 s (R366). -/
  | railRetry
  /-- Three consecutive sequencing faults: only the always-on domain is powered until a start condition or a wake (R366). -/
  | railStop
  /-- PWRCYC_N is low for 200 ms, or for POWER_HOLD (R349). -/
  | cycle (hold : Bool)
  /-- A warm start waits at step 4 until the die has cooled (R412). -/
  | hot
  /-- No image is valid: the boot ROM halts (R327). -/
  | noImage
  /-- REFCLK is lost (R359). -/
  | noClock
  /-- EXTEST or CLAMP holds the device in reset (R339). -/
  | extest
  deriving DecidableEq, Repr

/-- Clocks, power, rails and thermal sensors. -/
structure Power where
  /-- The state of R361; right after the always-on rails rise the device is still OFF (log entry 30); reset OFF. -/
  phase : Phase := .off
  /-- PWR_REQ as pending (2 bits, R363, R372); reset 00b. -/
  req : BitVec 2 := 0
  /-- PWR_PENDING (1 bit, R372); reset 0. -/
  reqPending : Bool := false
  /-- Always-on time of the last start (UPTIME, R314); reset 0. -/
  startAt : Nat := 0
  /-- RESET_CAUSE (8 bits, R368); the spec gives none: DESIGN CHOICE 0 until a start (log entry 14). -/
  resetCause : BitVec 8 := 0
  /-- RESET_CAUSE of the start whose rails are being sequenced (R366, R368); reset DESIGN CHOICE 1 (log entry 30). -/
  nextCause : Nat := 1
  /-- WAKE_CAUSE (8 bits, R364); reset 00h. -/
  wakeCause : BitVec 8 := 0
  /-- PLL_LOCK (1 bit, R372); reset 0. -/
  pllLock : Bool := false
  /-- REFCLK_OK (1 bit, R372); reset 0. -/
  refclkOk : Bool := false
  /-- PCIE_CC (1 bit, R360, R372); reset 0. -/
  pcieCc : Bool := false
  /-- RAIL_FAULT_STEP (4 bits, R372, always-on); reset 0. -/
  railFaultStep : BitVec 4 := 0
  /-- RAIL_FAULTS (32 bits, saturating, always-on, R376); reset 0. -/
  railFaults : W32 := 0
  /-- Consecutive sequencing faults (R366); reset 0. -/
  railRow : Nat := 0
  /-- RAIL_EN0 to 11 (12 bits, R366, R375); reset low. -/
  railEn : BitVec 12 := 0
  /-- RP_PERST_N0 to 3 asserted, bit r (4 bits, R347); the spec gives none: DESIGN CHOICE asserted (log entry 14). -/
  perst : BitVec 4 := 0xF
  /-- STARTS (32 bits, saturating, always-on, R376); reset 0. -/
  starts : W32 := 0
  /-- REFCLK_LOSSES (32 bits, saturating, always-on, R376); reset 0. -/
  refclkLosses : W32 := 0
  /-- The entry to DEEP was made with the supply absent (R364 cause 05h); reset 0. -/
  supplyAbsent : Bool := false
  /-- Highest sensor, TJ (16 bits, °C, signed, 2003h:01h, R412); the spec gives none: DESIGN CHOICE 0 (log entry 14). -/
  tj : BitVec 16 := 0
  /-- TJ_PEAK (16 bits, °C, signed, 2003h:02h); none before the first sample of a start: reads 0; reset none. -/
  tjPeak : Option (BitVec 16) := none
  /-- Source 222 was raised and Tj has not fallen 5 °C below TJ_WARN since (R412); reset 0. -/
  warned : Bool := false
  /-- The last sample was at 130 °C or above (R412); reset 0. -/
  tripping : Bool := false
  /-- THERMAL_TRIPS (32 bits, saturating, always-on, 2003h:04h); reset 0. -/
  trips : W32 := 0
  /-- TJ_HOURS in ms for each of the 8 bins (2003h:05h, always-on); reset 0. -/
  tjMs : Tab Nat := []
  deriving DecidableEq, Repr

/-! ### Outside interfaces (chapter 19) -/

/-- The settings of a TDM port in force since the start or the last rung 2 of its function (R398); reset as given. -/
structure TdmPort where
  /-- TDM_ROLE; reset 0, off. -/
  role : Nat := 0
  /-- TDM_RATE; reset 48,000. -/
  rate : Nat := 48000
  /-- TDM_SLOTS; reset 16. -/
  slots : Nat := 16
  /-- SLOT_BITS; reset 32. -/
  slotBits : Nat := 32
  /-- STORE_BYTES; reset 4. -/
  store : Nat := 4
  /-- FRAMING; reset 0. -/
  framing : Nat := 0
  /-- BLOCK_MS; reset 10. -/
  blockMs : Nat := 10
  deriving DecidableEq, Repr

/-- A CAN controller's settings in force since the start or the last rung 2 of its function, or for controller 0 the last NMT reset of
communication (R316, R391, R398); reset as given. -/
structure CanPort where
  /-- CAN_MODE; controller 0 is always 1, normal (R391); reset 2. -/
  mode : Nat := 2
  /-- ARB_RATE; reset 500,000. -/
  arbRate : Nat := 500000
  /-- DATA_RATE; reset 2,000,000. -/
  dataRate : Nat := 2000000
  /-- NODE_ID of controller 0; reset 1. -/
  node : Nat := 1
  deriving DecidableEq, Repr

/-- The interfaces. -/
structure Ifaces where
  /-- ETH_MODE in force of the 10 ports (R398); reset 0, off. -/
  ethMode : Tab Nat := []
  /-- Links of the Ethernet ports that are up (10 bits, R395, 5830h+p:06h); reset 0. -/
  ethUp : BitVec 10 := 0
  /-- Frames that are tile 0's: ARP, NDP, ICMP, DHCP, RTSP, RTCP, as (port, frame), oldest first (R380); reset none. -/
  tile0Frames : List (Nat × Bytes) := []
  /-- RTCP packets of each lane (R380); reset 0. -/
  rtcp : Tab Nat := []
  /-- The USB devices that are configured, by port: flow key and block size (R129, R388); reset none. -/
  usb : Tab (BitVec 320 × Nat) := []
  /-- PARSE_ERRORS (32 bits, saturating, 5840h:02h, R389); reset 0. -/
  parseErrors : W32 := 0
  /-- CAN controllers 0 to 3; reset as `CanPort`. -/
  can : Tab CanPort := []
  /-- CAN controllers that are bus-off (4 bits, R391); reset 0. -/
  busOff : BitVec 4 := 0
  /-- Error frames received by the CAN controllers (R391); reset 0. -/
  canErrors : Tab Nat := []
  /-- Levels of the 32 GPIO lines as last seen behind the filter (R394); the spec gives none: DESIGN CHOICE 0 (log entry 14). -/
  gpio : W32 := 0
  /-- PTP messages handed to the time service, and the master selected: none before the first (R382, R395); reset none. -/
  ptpMaster : Option Nat := none
  /-- TDM ports 0 to 3; reset as `TdmPort`. -/
  tdm : Tab TdmPort := []
  /-- PCIe links that are down, bit k for root port k, bit 4 for the endpoint (R384); reset all down (OFF; log entry 27). -/
  linkDown : BitVec 5 := 0x1F
  /-- Discard counters by function number (32 bits each, saturating, R378); reset 0. -/
  discards : Tab W32 := []
  deriving DecidableEq, Repr

/-! ### Answers (the model's own record of what a request was answered) -/

/-- The answer a request got: to whom, the status of R115, the CANopen abort code of R301, the data returned. -/
structure Reply where
  dest   : Nat
  /-- The peer, by its number, to whose address and UDP port the datagram goes (R308). -/
  peer   : Option Nat := none
  status : Status := 0
  abort  : W32 := 0
  data   : Bytes := []
  deriving DecidableEq, Repr

/-! ### Stops -/

/-- The faults of the block. No command raises one: every fault of the spec is an effect on State. -/
inductive Fault
  /-- Never raised: the type of faults may not be empty for the host's interface. Safe. -/
  | never
  deriving DecidableEq, Repr

/-- The refusals of the block. -/
inductive Refusal
  /-- A command whose meaning is not yet written; raised by its arm of the dispatch alone. Safe. -/
  | notModelled (mnemonic : String)
  deriving DecidableEq, Repr

/-- The state of the block. -/
structure State where
  /-- The queue of commands that wait, first in, first out (the model's own); reset empty. -/
  pending : List Instr := []
  /-- THE MODEL'S OWN: how many free values have been drawn (log entry 2); reset 0, DESIGN CHOICE. -/
  draws : Nat := 0
  /-- TNOW (48 bits, R174); reset 0. -/
  tnow : BitVec 48 := 0
  /-- The bytes of DRAM, tile shared data memory and tile program memory that are not 0, by device byte address, in rising order (R15, R16, R369); reset: nothing listed, an unlisted byte reads 0 (log entry 4). -/
  mem : List Host.Cell := []
  /-- The bytes that the device has written to host memory, by host address (R219, R288, R293; log entry 20); reset: nothing listed. -/
  hostMem : List Host.Cell := []
  /-- The address-fault counters by function (R19); the spec gives no width and no address; reset 0, DESIGN CHOICE (log entry 14). -/
  addrFaults : Tab Nat := []
  /-- The 96 course engines by number (R150); reset: each as `Engine` says. -/
  engines : Tab Engine := []
  /-- The 12 tiles by number (R150, R199, R362); reset: each as `TileSt` says. -/
  tiles : Tab TileSt := []
  /-- The vector unit (chapter 10). -/
  vu : VectorUnit := {}
  /-- The wake watcher (R220, R223). -/
  watcher : Watcher := {}
  /-- The event router (chapter 11). -/
  router : Router := {}
  /-- The mailboxes (chapter 12). -/
  mbox : Mailboxes := {}
  /-- The mortar arbiter (chapter 13). -/
  mortar : Mortar := {}
  /-- The DRAM slot tables (chapter 13). -/
  slots : Slots := {}
  /-- The host endpoint: queue pairs, BARs, MSI-X (chapters 14 and 21). -/
  rings : Rings := {}
  /-- The context store (chapter 05). -/
  ctx : CtxStore := {}
  /-- The binding table (R130 to R136). -/
  bind : Bindings := {}
  /-- The 24 hods by number (chapter 06); reset: each as `HodSt` says. -/
  hods : Tab HodSt := []
  /-- THE MODEL'S OWN record of what requests were answered, oldest first; reset empty. -/
  reply : List Reply := []
  /-- The security block: fuses, keys, flash (chapters 15 and 16). -/
  sec : Sec := {}
  /-- The hold-up controller (chapter 03). -/
  holdup : Holdup := {}
  /-- The 256 lanes by number (chapter 02); reset: each as `LaneSt` says. -/
  lanes : Tab LaneSt := []
  /-- The wythes and their members (R38 to R54). -/
  wythes : Wythes := {}
  /-- The journal banks (R75 to R77). -/
  journal : Journal := {}
  /-- The time service (R380 to R384). -/
  time : TimeSt := {}
  /-- The object dictionary (chapter 15). -/
  dict : Dict := {}
  /-- The outside interfaces (chapter 19). -/
  iface : Ifaces := {}
  /-- The recovery ladder (chapter 17). -/
  ladder : Ladder := {}
  /-- Power states, start-up and run control (chapter 18). -/
  power : Power := {}
  /-- The always-on time in ticks of 76.8 MHz (R10; THE MODEL'S OWN unit, log entry 48); reset 0. -/
  aon : Nat := 0
  /-- The courses under way by context (chapter 04). -/
  courses : CourseStore := {}
  /-- The raw port operations in progress (R103, R385 to R396); reset none. -/
  raws : List RawOp := []
  /-- The NVMe commands outstanding on the root ports (R385, R386); reset none. -/
  nvme : List NvmeOut := []
  /-- The next NVMe command identifier of each root port (16 bits, R386); reset 0. -/
  nextCid : Tab (BitVec 16) := []
  deriving DecidableEq, Repr

/-- The machine right after reset. -/
def State.reset : State := {}

end Sys2Proof.Machine
end

