-- ==== Sys2Proof/Machine/Ops.lean ====
section
/-! DEFINITION. The named operations over tables, bytes, memory and registers that every meaning uses. -/
namespace Sys2Proof

/-- The entry of number `k`, or `d` where none is listed. -/
def Tab.look {α : Type} (t : Tab α) (d : α) (k : Nat) : α :=
  match t with
  | [] => d
  | (j, v) :: r => if j = k then v else Tab.look r d k

/-- The table with entry `k` at `v`; numbers stay strictly rising. -/
def Tab.put {α : Type} (t : Tab α) (k : Nat) (v : α) : Tab α :=
  match t with
  | [] => [(k, v)]
  | (j, w) :: r => if k < j then (k, v) :: (j, w) :: r else if k = j then (k, v) :: r else (j, w) :: Tab.put r k v

/-- The table without entry `k`. -/
def Tab.del {α : Type} (t : Tab α) (k : Nat) : Tab α := t.filter fun e => e.1 ≠ k

/-- Entry `k` changed by `f`. -/
def Tab.modify {α : Type} (t : Tab α) (d : α) (k : Nat) (f : α → α) : Tab α := t.put k (f (t.look d k))

/-- Canonical store: the value every unlisted number has removes the entry. -/
def Tab.store {α : Type} [DecidableEq α] (t : Tab α) (d : α) (k : Nat) (v : α) : Tab α :=
  if v = d then t.del k else t.put k v

/-- Numbers strictly rising. -/
def Tab.Rising {α : Type} : Tab α → Prop
  | [] => True
  | e :: r => (∀ d ∈ r, e.1 < d.1) ∧ Tab.Rising r

/-- A change made `n` times. -/
def iterate {α : Type} (f : α → α) : Nat → α → α
  | 0, a => a
  | n + 1, a => iterate f n (f a)

/-- Saturating increment by `k` (the saturating counters of the dictionary). -/
def satAdd {w : Nat} (c : BitVec w) (k : Nat) : BitVec w :=
  if c.toNat + k < 2 ^ w then c + BitVec.ofNat w k else BitVec.allOnes w

/-! ### Byte strings (R5) -/

/-- The value of a little-endian byte string. -/
def leNat : Bytes → Nat
  | [] => 0
  | b :: r => b.toNat + 256 * leNat r

/-- `n` little-endian bytes of a value. -/
def toLE : Nat → Nat → Bytes
  | 0, _ => []
  | n + 1, v => BitVec.ofNat 8 v :: toLE n (v / 256)

/-- `n` big-endian bytes of a value. -/
def toBE (n v : Nat) : Bytes := (toLE n v).reverse

/-- The value of a big-endian byte string. -/
def beNat (b : Bytes) : Nat := leNat b.reverse

/-- `n` bytes of a string from offset `o`, 0 beyond its end. -/
def slice (b : Bytes) (o n : Nat) : Bytes := (List.range n).map fun i => b.getD (o + i) 0

/-- Little-endian field of `n` bytes at offset `o`. -/
def fieldAt (b : Bytes) (o n : Nat) : Nat := leNat (slice b o n)

/-- A byte string cut or zero-padded to `n` bytes. -/
def padTo (n : Nat) (b : Bytes) : Bytes := slice b 0 n

namespace Machine

/-- The outcome type of every meaning. -/
abbrev Out := Host.Outcome State Fault Refusal

/-! ### Engines and tiles -/

/-- Engine e (R150). -/
def State.eng (s : State) (e : Nat) : Engine := s.engines.look {} e

/-- Engine e replaced. -/
def State.setEng (s : State) (e : Nat) (x : Engine) : State := { s with engines := s.engines.put e x }

/-- Engine e changed by `f`. -/
def State.modEng (s : State) (e : Nat) (f : Engine → Engine) : State := s.setEng e (f (s.eng e))

/-- Tile t. -/
def State.tile (s : State) (t : Nat) : TileSt := s.tiles.look {} t

/-- Tile t changed by `f`. -/
def State.modTile (s : State) (t : Nat) (f : TileSt → TileSt) : State := { s with tiles := s.tiles.modify {} t f }

/-- A tile is powered and not in repair: running or banked (R346, R362). -/
def State.tilePowered (s : State) (t : Nat) : Bool := (s.tile t).power == .run || (s.tile t).power == .banked

/-- The tile of engine e (R150). -/
def tileOf (e : Nat) : Nat := e / 8

/-- Bits of EVL set (R160). -/
def Engine.mark (x : Engine) (bit : Nat) : Engine := { x with evl := x.evl ||| BitVec.ofNat 24 (2 ^ bit) }

/-- Bit `bit` of engine e's EVL set (R160). -/
def State.mark (s : State) (e bit : Nat) : State := s.modEng e (·.mark bit)

/-- The highest active level as 1 + L, 0 at the base level (R169). -/
def Engine.level (x : Engine) : Nat :=
  if x.act.getLsbD 3 then 4 else if x.act.getLsbD 2 then 3 else if x.act.getLsbD 1 then 2
  else if x.act.getLsbD 0 then 1 else 0

/-! ### Vector unit arrivals (R211, R212, R220) -/

/-- Source s of the table. -/
def VectorUnit.row (v : VectorUnit) (s : Nat) : SrcRow := v.src.look {} s

/-- One arrival taken (R211). -/
def SrcRow.arrive (r : SrcRow) : SrcRow :=
  if r.count = 255 then { r with arrivals := r.arrivals + 1, dropped := r.dropped + 1 }
  else if r.pending then { r with arrivals := r.arrivals + 1, coalesced := r.coalesced + 1, count := r.count + 1 }
  else { r with arrivals := r.arrivals + 1, pending := true, count := r.count + 1 }

/-- One arrival at source s; a drop raises source 247, itself counted, and no drop of 247 does (R211). -/
def VectorUnit.arrive (v : VectorUnit) (s : Nat) : VectorUnit :=
  let v1 := { v with src := v.src.modify {} s SrcRow.arrive }
  if (v.row s).count = 255 ∧ s ≠ 247 then { v1 with src := v1.src.modify {} 247 SrcRow.arrive } else v1

/-- The engines for which source s is enabled and whose IE is 0 get EVL bit 21 while s is pending (R160, R216). -/
def markHeld (v : VectorUnit) (s : Nat) (t : Tab Engine) : Tab Engine :=
  let r := v.row s
  if r.pending ∧ r.mask ≠ 0 then
    (List.range 96).foldl (fun t e =>
      if r.mask.getLsbD e ∧ (t.look {} e).ie = false then t.modify {} e (·.mark 21) else t) t
  else t

/-- A source is watched (R220). -/
def Watcher.watches (w : Watcher) (s : Nat) : Bool :=
  w.watch.any fun e => e.2.getLsbD 8 && (e.2.extractLsb' 0 8).toNat == s

/-- One arrival counted by the watcher in PARK or DEEP; a watched source requests a wake (R220). -/
def Watcher.count (w : Watcher) (s : Nat) : Watcher :=
  let c := w.sleepCount.look 0 s
  let w1 := if c = 255 then { w with sleepDropped := w.sleepDropped + 1 }
    else { w with sleepCount := w.sleepCount.put s (c + 1) }
  if w.watches s then
    { w1 with wakes := w1.wakes + 1, wakeSrc := if w1.wakeValid then w1.wakeSrc else BitVec.ofNat 8 s, wakeValid := true }
  else w1

/-- One arrival in PARK or DEEP; a drop raises source 247, itself counted, and no drop of 247 does (R211, R220). -/
def Watcher.arrive (w : Watcher) (s : Nat) : Watcher :=
  if w.sleepCount.look 0 s = 255 ∧ s ≠ 247 then (w.count s).count 247 else w.count s

/-- One raising of source s by its owning block (R211; R220 while asleep). -/
def State.raise (s : State) (n : Nat) : State :=
  { s with
    vu := if s.watcher.asleep then s.vu else s.vu.arrive n
    watcher := if s.watcher.asleep then s.watcher.arrive n else s.watcher
    engines := if s.watcher.asleep then s.engines
      else markHeld (s.vu.arrive n) 247 (markHeld (s.vu.arrive n) n s.engines) }

/-- Source s raised n times. -/
def State.raiseN (s : State) (src n : Nat) : State := iterate (·.raise src) n s

/-! ### Functions and address faults (R19, R342) -/

/-- The function of a master (R19, R342): an engine's tile, the endpoint for the host, the hold-up controller, tile 0
for the boot ROM (which runs on engine 0 of tile 0, R370), the security block for the debug port (log entry 9). -/
def funcOf (m : Nat) : Nat :=
  if m < 96 then m / 8 else if m = 96 then 0x24 else if m = 97 then 0x66 else if m = 98 then 0x00 else 0x65

/-- An unassigned or refused access of function f: counted, source 244 (R19). -/
def State.addrFaultF (s : State) (f : Nat) : State :=
  { s.raise 244 with addrFaults := s.addrFaults.modify 0 f (· + 1) }

/-- An unassigned or refused access of master m (R19). -/
def State.addrFault (s : State) (m : Nat) : State := s.addrFaultF (funcOf m)

/-- A free value: the draw counter advances (log entry 2). -/
def State.drawn (s : State) : State := { s with draws := s.draws + 1 }

/-- The next 384 bits of the DRBG (R323). -/
def State.drbgBlock (s : State) : BitVec 384 := Config.drbg s.sec.drawn

/-- The DRBG after one request (R323). -/
def State.drbgNext (s : State) : State :=
  { s with sec := { s.sec with drawn := s.sec.drawn + 1, generated := s.sec.generated + 1 } }

/-! ### Device memory (R15, R16, R17) -/

/-- Where a device byte address lies (R15). -/
inductive Region
  | dram | context | tileData | tileProg | control | unassigned
  deriving DecidableEq, Repr

/-- The region of a device byte address (R15). -/
def regionOf (a : Nat) : Region :=
  if a < 0x370000000 then .dram
  else if a < 0x380000000 then .context
  else if 0x780000000 ≤ a ∧ a < 0x780C00000 then .tileData
  else if 0x790000000 ≤ a ∧ a < 0x790C00000 then .tileProg
  else if 0x7A0000000 ≤ a ∧ a < 0x7AF000000 then .control
  else .unassigned

/-- The bits of a byte that its slot holds (R16). -/
def laneMask (a : Nat) : Byte :=
  match regionOf a with
  | .tileData => if a % 4 = 3 then 0 else 0xFF
  | .tileProg => if a % 4 = 3 then 0 else if a % 4 = 2 then 0x03 else 0xFF
  | _ => 0xFF

/-- The canonical form of memory: addresses strictly rising, no entry equal to what an unlisted address reads as (log entry 4). -/
def Memory.wf : List Host.Cell → Bool
  | [] => true
  | c :: r => c.2 != 0 && (r.all fun d => decide (c.1 < d.1)) && Memory.wf r

/-- A byte of memory as stored; unlisted bytes are 0 (R369; log entry 4). -/
def State.byteAt (s : State) (a : Nat) : Byte := Tab.look s.mem 0 a

/-- A byte stored, masked to what its slot holds (R16). -/
def State.setByte (s : State) (a : Nat) (v : Byte) : State :=
  { s with mem := Tab.store s.mem 0 a (v &&& laneMask a) }

/-- `n` bytes from address a. -/
def State.bytesAt (s : State) (a n : Nat) : Bytes := (List.range n).map fun i => s.byteAt (a + i)

/-- Memory with a byte string stored from address a on. -/
def storeBytes (m : List Host.Cell) (a : Nat) : Bytes → List Host.Cell
  | [] => m
  | v :: r => storeBytes (Tab.store m 0 a (v &&& laneMask a)) (a + 1) r

/-- A byte string stored from address a on. -/
def State.setBytes (s : State) (a : Nat) (b : Bytes) : State := { s with mem := storeBytes s.mem a b }

/-- Host memory with a byte string stored from host address a on. -/
def hostStore (m : List Host.Cell) (a : Nat) : Bytes → List Host.Cell
  | [] => m
  | v :: r => hostStore (Tab.put m (a % 2 ^ 64) v) (a + 1) r

/-- A device write to host memory. -/
def State.hostWrite (s : State) (a : Nat) (b : Bytes) : State := { s with hostMem := hostStore s.hostMem a b }

/-- Masters 0 to 7, the engines of tile 0 (R17). -/
def tile0 (m : Nat) : Bool := m < 8

/-- The debug port is open: in every state but FIELD (R335, R339). -/
def State.debugOpen (s : State) : Bool := s.sec.fuse.lc != 2

/-- Masters 0 to 7, and master 99 while the debug port is open (R221 and others). -/
def State.fw (s : State) (m : Nat) : Bool := tile0 m || (m == 99 && s.debugOpen)

/-! ### The ladder (R342, R345) -/

/-- Function f is being re-initialised (R345). -/
def State.inRung2 (s : State) (f : Nat) : Bool := (s.ladder.func.look {} f).busy.isSome

end Machine
end Sys2Proof
end

