-- ==== Sys2Proof/Machine/Operands.lean ====
section
/-! DEFINITION. Operand forms: register fields and byte enables of the control blocks, and the operand fields of the
engine instructions. -/
namespace Sys2Proof.Machine

/-! ### Register words (R6, R18) -/

/-- A register word from its fields, as (value, lowest bit) (R4); reserved bits read 0 (R6). -/
def pack (fs : List (Nat × Nat)) : W32 := BitVec.ofNat 32 (fs.foldl (fun a f => a + f.1 * 2 ^ f.2) 0)

/-- Bits [lo + n - 1 : lo] of a value, as a number. -/
def bits {w : Nat} (v : BitVec w) (lo n : Nat) : Nat := v.toNat / 2 ^ lo % 2 ^ n

/-- A register's new word: the written bytes of `be`, the rest as it was (log entry 10). -/
def merge (old v be : W32) : W32 := (old &&& ~~~be) ||| (v &&& be)

/-- Byte `i` of a register word. -/
def byteOf (v : W32) (i : Nat) : Byte := v.extractLsb' (8 * i) 8

/-- Word `i` of a wider register. -/
def wordOf {w : Nat} (v : BitVec w) (i : Nat) : W32 := v.extractLsb' (32 * i) 32

/-- A wider register with word `i` replaced. -/
def setWord {w : Nat} (v : BitVec w) (i : Nat) (x : W32) : BitVec w :=
  (v &&& ~~~(BitVec.ofNat w (0xFFFFFFFF * 2 ^ (32 * i)))) ||| BitVec.ofNat w (x.toNat * 2 ^ (32 * i))

/-! ### Engine registers (R153) -/

/-- General register r; g0 reads 0 (R153). -/
def Engine.reg (x : Engine) (r : Reg) : W24 := if r = 0 then 0 else x.g.look 0 r

/-- General register r written; writes of g0 are discarded (R153). -/
def Engine.setReg (x : Engine) (r : Reg) (v : W24) : Engine := if r = 0 then x else { x with g := x.g.put r v }

/-- Bank register b (R153). -/
def Engine.bank (x : Engine) (b : BankReg) : BitVec 11 := x.b.look 0 b

/-- Bank register b written (R153). -/
def Engine.setBank (x : Engine) (b : BankReg) (v : BitVec 11) : Engine := { x with b := x.b.put b v }

/-- An 18-bit immediate, sign-extended (R183). -/
def s18w (v : BitVec 18) : W24 := v.signExtend 24

/-- An 18-bit immediate, zero-extended (R183). -/
def u18w (v : BitVec 18) : W24 := v.setWidth 24

/-- A device byte address from a bank value and an offset (R20). -/
def devAddr (b : BitVec 11) (off : W24) : DevAddr := b ++ off

/-- The address of byte `i` of an access: an offset wraps within its bank (R20). -/
def byteAddr (a : DevAddr) (i : Nat) : DevAddr := devAddr (a.extractLsb' 24 11) (a.extractLsb' 0 24 + BitVec.ofNat 24 i)

/-- Size and extension of a load (R161). -/
def ldSize : LdOp → Nat
  | .b | .bs => 1
  | .h | .hs => 2
  | .t => 3

/-- The load sign-extends (R161). -/
def ldSigned : LdOp → Bool
  | .bs | .hs => true
  | _ => false

/-- Size of a store (R161). -/
def stSize : StOp → Nat
  | .b => 1
  | .h => 2
  | .t => 3

/-- The loaded bytes extended to 24 bits (R161). -/
def extend (size : Nat) (sext : Bool) (v : W24) : W24 :=
  match size with
  | 1 => if sext then (v.extractLsb' 0 8).signExtend 24 else (v.extractLsb' 0 8).setWidth 24
  | 2 => if sext then (v.extractLsb' 0 16).signExtend 24 else (v.extractLsb' 0 16).setWidth 24
  | _ => v

end Sys2Proof.Machine
end

