-- ==== Sys2Proof/Machine/Hash.lean ====
section
/-! DEFINITION. The published functions the spec names: CRC-32 of IEEE 802.3 (R117), SipHash-2-4 (R120, R131).
Their definitions come from the standards (log entry 3, PRESUMED). -/
namespace Sys2Proof.Machine

/-- One bit of CRC-32 (reflected polynomial EDB8_8320h). -/
def crcBit (c : W32) : W32 := if c.getLsbD 0 then (c >>> 1) ^^^ 0xEDB88320 else c >>> 1

/-- One byte of CRC-32. -/
def crcByte (c : W32) (b : Byte) : W32 := iterate crcBit 8 (c ^^^ b.setWidth 32)

/-- CRC-32 with the IEEE 802.3 polynomial. -/
def crc32 (b : Bytes) : W32 := ~~~(b.foldl crcByte 0xFFFFFFFF)

/-- State of SipHash. -/
structure Sip where
  v0 : W64
  v1 : W64
  v2 : W64
  v3 : W64
  deriving DecidableEq, Repr

/-- One round of SipHash. -/
def Sip.round (s : Sip) : Sip :=
  let a0 := s.v0 + s.v1
  let a1 := s.v1.rotateLeft 13 ^^^ a0
  let a2 := s.v2 + s.v3
  let a3 := s.v3.rotateLeft 16 ^^^ a2
  let b0 := a0.rotateLeft 32 + a3
  let b3 := a3.rotateLeft 21 ^^^ b0
  let b2 := a2 + a1
  let b1 := a1.rotateLeft 17 ^^^ b2
  { v0 := b0, v1 := b1, v2 := b2.rotateLeft 32, v3 := b3 }

/-- One 8-byte word absorbed with two rounds. -/
def Sip.absorb (s : Sip) (m : W64) : Sip :=
  let t := ({ s with v3 := s.v3 ^^^ m }).round.round
  { t with v0 := t.v0 ^^^ m }

/-- The 8-byte words of a message, the last one holding the length in its top byte. -/
def sipWords (b : Bytes) : List W64 :=
  (List.range (b.length / 8)).map (fun i => BitVec.ofNat 64 (fieldAt b (8 * i) 8)) ++
    [BitVec.ofNat 64 (leNat (b.drop (8 * (b.length / 8))) + b.length % 256 * 2 ^ 56)]

/-- SipHash-2-4 under a 128-bit key. -/
def siphash (key : BitVec 128) (b : Bytes) : W64 :=
  let k0 := key.extractLsb' 0 64
  let k1 := key.extractLsb' 64 64
  let s : Sip := { v0 := k0 ^^^ 0x736f6d6570736575, v1 := k1 ^^^ 0x646f72616e646f6d,
                   v2 := k0 ^^^ 0x6c7967656e657261, v3 := k1 ^^^ 0x7465646279746573 }
  let t := (sipWords b).foldl Sip.absorb s
  let u := ({ t with v2 := t.v2 ^^^ 0xff }).round.round.round.round
  u.v0 ^^^ u.v1 ^^^ u.v2 ^^^ u.v3

end Sys2Proof.Machine
end

