-- ==== Sys2Proof/Machine/Context.lean ====
section
/-! DEFINITION. The context store (chapter 05): records, cache, claims, the free list, generations. -/
namespace Sys2Proof.Machine

/-! ### The record as 256 bytes (R117, R118) -/

/-- Number from fields, as (value, lowest bit). -/
def packNat (fs : List (Nat × Nat)) : Nat := fs.foldl (fun a f => a + f.1 * 2 ^ f.2) 0

/-- A location entry's 128 bits (R118). -/
def LocEntry.num (e : LocEntry) : Nat :=
  packNat [(e.lba.toNat, 0), (e.member.toNat, 48), (e.repair.toNat, 50), (e.brickSeq.toNat, 64)]

/-- The first 252 bytes of a record of context c, as one number (R117, R118). -/
def CtxRec.num (r : CtxRec) (c : Nat) : Nat :=
  let low := packNat [(r.state.toNat, 0), (r.hold.toNat, 8), (r.claimed.toNat, 9), (r.course.toNat, 10),
    (r.suspended.toNat, 11), (r.lenMem.toNat, 12), (r.notifyEn.toNat, 13), (r.tile.toNat, 16), (r.claimId.toNat, 24),
    (r.gen.toNat, 32)]
  if r.state = 5 then
    low + packNat ([(r.owner.toNat, 48), (r.locs.length, 80), (c, 88), (r.imageSeq.toNat, 128), (r.nextExt.toNat, 1920)] ++
      r.locs.zipIdx.map fun e => (e.1.num, 256 + 128 * e.2))
  else
    let ones := 0xFFFFFFFFFFFFFFFF
    low + packNat ([(r.lane.toNat, 48), (r.sourceType.toNat, 56), (r.retClass.toNat, 64), (r.notify.toNat, 72),
      (r.pending.toNat, 80), (r.resumeCause.toNat, 96), (r.lastStatus.toNat, 112), (r.resumeAddr.toNat, 128),
      (r.postSeq.toNat, 176), (r.statusAddr.toNat, 192), (r.hostBase.toNat, 256), (r.openTime.toNat, 320),
      (r.deadline.toNat, 400), (r.lastSeq.toNat, 448), (r.objPayload.toNat, 512), (r.extContext.toNat, 1088),
      (r.bindings.toNat, 1120), (r.imageSeq.toNat, 1152), (r.openMono.toNat, 1216), (c, 1280)] ++
      (List.range 4).map (fun m => ((r.firstLba.look ones m).toNat, 576 + 64 * m)) ++
      (List.range 4).map (fun m => ((r.lastLba.look ones m).toNat, 832 + 64 * m)))

/-- The 256 bytes of a record, CRC included (R117). -/
def CtxRec.bytes (r : CtxRec) (c : Nat) : Bytes :=
  let b := toLE 252 (r.num c)
  b ++ toLE 4 (crc32 b).toNat

/-- A location entry of its 128 bits (R118). -/
def LocEntry.ofNum (v : BitVec 128) : LocEntry :=
  { lba := v.extractLsb' 0 48, member := v.extractLsb' 48 2, repair := v.getLsbD 50, brickSeq := v.extractLsb' 64 64 }

/-- The record that 256 bytes spell (R117, R118). -/
def CtxRec.ofBytes (b : Bytes) : CtxRec :=
  let v := BitVec.ofNat 2048 (leNat b)
  let low : CtxRec := {
    state := v.extractLsb' 0 8, hold := v.getLsbD 8, claimed := v.getLsbD 9, course := v.getLsbD 10
    suspended := v.getLsbD 11, lenMem := v.getLsbD 12, notifyEn := v.getLsbD 13, tile := v.extractLsb' 16 4
    claimId := v.extractLsb' 24 8, gen := v.extractLsb' 32 16 }
  if low.state = 5 then
    { low with owner := v.extractLsb' 48 20, imageSeq := v.extractLsb' 128 64, nextExt := v.extractLsb' 1920 20,
               locs := (List.range (min (bits v 80 8) 13)).map fun n => .ofNum (v.extractLsb' (256 + 128 * n) 128) }
  else
    { low with
      lane := v.extractLsb' 48 8, sourceType := v.extractLsb' 56 8, retClass := v.extractLsb' 64 8
      notify := v.extractLsb' 72 8, pending := v.extractLsb' 80 16, resumeCause := v.extractLsb' 96 4
      lastStatus := v.extractLsb' 112 16, resumeAddr := v.extractLsb' 128 40, postSeq := v.extractLsb' 176 16
      statusAddr := v.extractLsb' 192 40, hostBase := v.extractLsb' 256 64, openTime := v.extractLsb' 320 80
      deadline := v.extractLsb' 400 48, lastSeq := v.extractLsb' 448 64, objPayload := v.extractLsb' 512 64
      extContext := v.extractLsb' 1088 20, bindings := v.extractLsb' 1120 16, imageSeq := v.extractLsb' 1152 64
      openMono := v.extractLsb' 1216 64
      firstLba := (List.range 4).map fun m => (m, v.extractLsb' (576 + 64 * m) 64)
      lastLba := (List.range 4).map fun m => (m, v.extractLsb' (832 + 64 * m) 64) }

/-! ### The table and the cache (R120) -/

/-- The current record of a context: its cache line, or the table's (R117, R120). -/
def CtxStore.get (t : CtxStore) (c : Nat) : CtxRec :=
  match t.cache.find? (·.ctx == c) with
  | some l => l.row
  | none => t.table.look {} c

/-- The record of a context replaced: in its line where it has one, else in the table. -/
def CtxStore.set (t : CtxStore) (c : Nat) (r : CtxRec) : CtxStore :=
  if t.cache.any (·.ctx == c) then
    { t with cache := t.cache.map fun l => if l.ctx = c then { l with row := r, dirty := true } else l }
  else { t with table := t.table.put c r }

/-- The cache set of a context (R120). -/
def CtxStore.setOf (t : CtxStore) (c : Nat) : Nat := (siphash t.cacheKey (toLE 3 c)).toNat % 2048

/-- The lines of a context's set, most recent first. -/
def CtxStore.waySet (t : CtxStore) (c : Nat) : List CacheLine := t.cache.filter fun l => t.setOf l.ctx == t.setOf c

/-- A line may be replaced: unclaimed and not context 0's (R120). -/
def CacheLine.free (l : CacheLine) : Bool := !l.row.claimed && l.ctx != 0

/-- A line leaves the cache, written back if it was changed (R120). -/
def CtxStore.evict (t : CtxStore) (l : CacheLine) : CtxStore :=
  { t with cache := t.cache.filter (·.ctx != l.ctx), table := if l.dirty then t.table.put l.ctx l.row else t.table }

/-- The record is not cached and all 8 ways of its set are pinned (R120). -/
def CtxStore.setFull (t : CtxStore) (c : Nat) : Bool :=
  !(t.cache.any (·.ctx == c)) && decide (8 ≤ t.cache.length) && decide (8 ≤ (t.waySet c).length) &&
    (t.waySet c).all fun l => !l.free

/-- A context's line filled from the table, most recent (R120). -/
def CtxStore.fill (t : CtxStore) (c : Nat) : CtxStore :=
  { t with cache := { ctx := c, row := t.table.look {} c, dirty := false } :: t.cache, misses := t.misses + 1 }

/-- An access through the cache: a hit moves its line to the front; a miss fills a way, replacing the least recently
used free line of a full set; a full set of pinned lines changes nothing (R120). -/
def CtxStore.access (t : CtxStore) (c : Nat) : CtxStore :=
  match t.cache.find? (·.ctx == c) with
  | some l => { t with cache := l :: t.cache.filter (·.ctx != c), hits := t.hits + 1 }
  | none =>
    if t.cache.length < 8 ∨ (t.waySet c).length < 8 then t.fill c
    else match (t.waySet c).reverse.find? (·.free) with
      | some l => (t.evict l).fill c
      | none => t

/-- Every changed line written back and the cache emptied, as for PARK (R128). -/
def CtxStore.flush (t : CtxStore) : CtxStore :=
  { t with table := t.cache.foldl (fun (b : Tab CtxRec) l => if l.dirty then b.put l.ctx l.row else b) t.table, cache := [] }

/-- The context store's part of the state changed. -/
def State.setCtx (s : State) (c : Nat) (r : CtxRec) : State := { s with ctx := s.ctx.set c r }

/-- The current record of a context. -/
def State.ctxRec (s : State) (c : Nat) : CtxRec := s.ctx.get c

/-- The current record of a context changed by `f`. -/
def State.modCtx (s : State) (c : Nat) (f : CtxRec → CtxRec) : State := s.setCtx c (f (s.ctxRec c))

/-! ### Device bytes without side effects -/

/-- A byte that a read of DRAM, the context table or a tile's memory returns (R15, R16, R117, R120); other regions have
none. -/
def State.devByte (s : State) (a : Nat) : Byte :=
  match regionOf a with
  | .context =>
    let o := a - 0x370000000
    ((s.ctx.table.look {} (o / 256)).bytes (o / 256)).getD (o % 256) 0
  | .dram | .tileData | .tileProg => s.byteAt a
  | _ => 0

/-- `n` bytes from device address a, without side effects. -/
def State.devBytes (s : State) (a n : Nat) : Bytes := (List.range n).map fun i => s.devByte (a + i)

/-- A byte of the context table written in DRAM by a master that may write it; TILE changes in the current record, and only while the
context is unclaimed (R17, R117). -/
def State.setCtxByte (s : State) (a : Nat) (v : Byte) : State :=
  let c := (a - 0x370000000) / 256
  let b := (s.ctx.table.look {} c).bytes c
  if (a - 0x370000000) % 256 = 2 then
    (if (s.ctxRec c).claimed then s else s.modCtx c fun r => { r with tile := v.extractLsb' 0 4 })
  else { s with ctx := { s.ctx with table := s.ctx.table.put c (CtxRec.ofBytes (b.set ((a - 0x370000000) % 256) v)) } }

/-- A whole range in device form passes R83: one row of R15, assigned, not closed to the access by R17. The control
blocks are closed to it (log entry 12). -/
def devRangeOk (a n : Nat) (write : Bool) : Bool :=
  let last := a + (n - 1)
  regionOf a == regionOf last &&
    (match regionOf a with
     | .dram | .tileData => true
     | .context | .tileProg => !write
     | _ => false) && decide (last < 2 ^ 35)

/-! ### Generations (R124) -/

/-- A handle names the context's present generation (R124). -/
def State.handleOk (s : State) (c : Nat) (g : BitVec 16) : Bool := (s.ctxRec c).gen == g

/-- A stale handle or an old TILE_GEN: refused with 0505h and counted (R124). -/
def State.staleRef (s : State) : State := { s with ctx := { s.ctx with staleRefs := satAdd s.ctx.staleRefs 1 } }

/-! ### Claims (R122) -/

/-- A claim made on a context by a master, for itself or for the course of context `own` (R122). -/
def CtxStore.claimed (t : CtxStore) (c m : Nat) (own : Option Nat) : CtxStore :=
  let u := t.set c { t.get c with claimed := true, claimId := BitVec.ofNat 8 m }
  { u with courseClaim := match own with | some o => u.courseClaim.put c o | none => u.courseClaim.del c }

/-- A claim released (R122). -/
def CtxStore.released (t : CtxStore) (c : Nat) : CtxStore :=
  let u := t.set c { t.get c with claimed := false, claimId := 0 }
  { u with courseClaim := u.courseClaim.del c }

/-- A claim can be granted: not claimed, not in a pinned set, and restored or in use since the start (R120, R122,
R127). -/
def State.claimable (s : State) (c : Nat) : Bool :=
  !(s.ctxRec c).claimed && !s.ctx.setFull c && (s.ctx.restoreDone || decide ((s.ctxRec c).state ≠ 0))

/-- A refused claim counted (R122, 2100h:05h). -/
def State.claimLost (s : State) : State := { s with ctx := { s.ctx with claimBusy := satAdd s.ctx.claimBusy 1 } }

/-- The claim of a context taken for a course's own use or a request; the state says whether it was granted. -/
def State.tryClaim (s : State) (c m : Nat) (own : Option Nat) : Option State :=
  if s.claimable c then some { s with ctx := (s.ctx.access c).claimed c m own } else none

/-- The claim of a context released. -/
def State.releaseClaim (s : State) (c : Nat) : State := { s with ctx := s.ctx.released c }

/-! ### The free list (R123) -/

/-- Contexts on the free list. -/
def freeCount (l : List (Nat × Nat)) : Nat := l.foldl (fun n r => n + r.2) 0

/-- The head of the free list and the list after it (R123). -/
def freeTake : List (Nat × Nat) → Option (Nat × List (Nat × Nat))
  | [] => none
  | (a, n) :: r => if n = 0 then freeTake r else some (a, if n = 1 then r else (a + 1, n - 1) :: r)

/-- A context put at the tail of the free list (R123). -/
def freePut (l : List (Nat × Nat)) (c : Nat) : List (Nat × Nat) := l ++ [(c, 1)]

/-- One run of the free list without context c. -/
def splitRun (c : Nat) (r : Nat × Nat) : List (Nat × Nat) :=
  if r.1 ≤ c ∧ c < r.1 + r.2 then
    (if r.1 < c then [(r.1, c - r.1)] else []) ++ (if c + 1 < r.1 + r.2 then [(c + 1, r.1 + r.2 - (c + 1))] else [])
  else [r]

/-- The free list without context c (R127). -/
def freeDrop (l : List (Nat × Nat)) (c : Nat) : List (Nat × Nat) := l.flatMap (splitRun c)

/-- A context of the free list brought into use with a record; its generation stays (R116, R117). -/
def State.takeFree (s : State) (r : CtxRec) : Option (Nat × State) :=
  match freeTake s.ctx.free with
  | none => none
  | some (c, l) =>
    some (c, { s with ctx := { s.ctx.set c { r with gen := (s.ctxRec c).gen } with free := l } })

/-- The change of a context to FREE: GENERATION advances and the context joins the free list (R117, R123). -/
def State.makeFree (s : State) (c : Nat) : State :=
  let g := (s.ctxRec c).gen + 1
  let t := s.ctx.set c { gen := g }
  { s with ctx := { t with free := freePut t.free c, courseClaim := t.courseClaim.del c, sweptFor := t.sweptFor.del c } }

/-- The LOC_EXT contexts chained from a context, at most `fuel` (R118). -/
def State.extChain (s : State) : Nat → Nat → List Nat
  | 0, _ => []
  | fuel + 1, c => if c = 0 then [] else c :: s.extChain fuel (s.ctxRec c).nextExt.toNat

/-- A free operation's refusal, 0 where it stands; a LOC_EXT context by itself, or one that is FREE, gives 0503h (R116, R135; log
entry 110). -/
def State.freeStatus (s : State) (c : Nat) : Status :=
  let r := s.ctxRec c
  if c = 0 then 0x0506
  else if r.course then 0x0502
  else if r.claimed then 0x0501
  else if r.state = 2 ∨ r.state = 3 then 0x0507
  else if r.state = 1 ∨ r.state = 4 then 0
  else 0x0503

/-- An answer to a request (R9). -/
def State.answer (s : State) (dest : Nat) (st : Status) : State := { s with reply := [{ dest := dest, status := st }] }

end Sys2Proof.Machine
end

