-- ==== Sys2Proof/Machine/Binding.lean ====
section
/-! DEFINITION. Flow keys and the binding table (chapter 05, R129 to R134). -/
namespace Sys2Proof.Machine

/-- A field of a flow key is 0. -/
def keyZero (k : BitVec 320) (lo n : Nat) : Bool := bits k lo n == 0

/-- A flow key is well formed: an assigned type, and 0 in every field the type does not name; PORT of a host key is 0 (R129, R284). -/
def keyWellFormed (k : BitVec 320) : Bool :=
  let t := bits k 0 8
  let ip := t == 1 || t == 2
  keyZero k 29 3 && decide (1 ≤ t ∧ t ≤ 7) && (t != 7 || keyZero k 8 8) &&
    (ip || (keyZero k 16 13 && keyZero k 32 128 && keyZero k 192 32)) &&
    (t != 1 || keyZero k 64 96) && (ip || t == 3 || (keyZero k 160 32)) &&
    (t == 6 || keyZero k 224 32) && (t == 6 || t == 7 || keyZero k 256 64)

/-- The two buckets of a key (R131). -/
def bucketsOf (key : BitVec 128) (k : BitVec 320) : Nat × Nat :=
  let h := siphash key (toLE 40 k.toNat)
  let c1 := bits h 0 19
  let c2 := bits h 19 19
  (c1, if c2 = c1 then c1 ^^^ 1 else c2)

/-- The entry in way w of bucket b. -/
def BindArea.way (a : BindArea) (b w : Nat) : Option BindEntry := (a.ways.find? fun e => e.1 == 4 * b + w).map (·.2)

/-- The first free way of a bucket. -/
def BindArea.freeWay (a : BindArea) (b : Nat) : Option Nat := [0, 1, 2, 3].find? fun w => (a.way b w).isNone

/-- An entry written into a way. -/
def BindArea.putWay (a : BindArea) (b w : Nat) (e : BindEntry) : BindArea := { a with ways := a.ways.put (4 * b + w) e }

/-- The entry of a key in its two buckets (R131). -/
def BindArea.inBuckets (a : BindArea) (k : BitVec 320) : Option BindEntry :=
  let c := bucketsOf a.key k
  [(c.1, 0), (c.1, 1), (c.1, 2), (c.1, 3), (c.2, 0), (c.2, 1), (c.2, 2), (c.2, 3)].findSome? fun p =>
    match a.way p.1 p.2 with
    | some e => if e.key = k then some e else none
    | none => none

/-- lookup(k): the two buckets, the stash, the in-hand register (R131). -/
def Bindings.lookup (t : Bindings) (k : BitVec 320) : Option BindEntry :=
  match t.active.inBuckets k with
  | some e => some e
  | none =>
    match t.active.stash.find? (·.key == k) with
    | some e => some e
    | none => t.inHand.filter (·.key == k)

/-- The other bucket of a key (R131). -/
def otherBucket (key : BitVec 128) (k : BitVec 320) (b : Nat) : Nat :=
  let c := bucketsOf key k
  if c.1 = b then c.2 else c.1

/-- The 32 relocations of R131 with the entry in hand at bucket b, ways chosen by the DRBG from draw `n`: the area, the
entry still in hand, and how many relocations were made. -/
def BindArea.relocate (a : BindArea) (hand : BindEntry) (b n : Nat) : Nat → BindArea × Option BindEntry × Nat
  | 0 => (a, some hand, 0)
  | fuel + 1 =>
    let w := bits (Config.drbg n) 0 2
    match a.way b w with
    | none => (a.putWay b w hand, none, 0)
    | some out =>
      let a1 := a.putWay b w hand
      let b1 := otherBucket a.key out.key b
      match a1.freeWay b1 with
      | some v => (a1.putWay b1 v out, none, 1)
      | none =>
        let r := a1.relocate out b1 (n + 1) fuel
        (r.1, r.2.1, r.2.2 + 1)

/-- The entries along a path moved, last first (R131). -/
def BindArea.movePath (a : BindArea) : List (Nat × Nat) → BindArea
  | [] => a
  | [_] => a
  | p :: q :: r =>
    let a1 := a.movePath (q :: r)
    match a1.way p.1 p.2 with
    | some e => { a1.putWay q.1 q.2 e with ways := (a1.putWay q.1 q.2 e).ways.del (4 * p.1 + p.2) }
    | none => a1

/-- Breadth-first search from a queue of paths (last way first), at most `fuel` bucket reads and depth 3: the path to a
free way, first way first (R131). -/
def BindArea.search (a : BindArea) : List (List (Nat × Nat)) → Nat → Option (List (Nat × Nat))
  | [], _ => none
  | _, 0 => none
  | p :: rest, fuel + 1 =>
    match p with
    | [] => a.search rest fuel
    | (b, w) :: _ =>
      match a.way b w with
      | none => a.search rest fuel
      | some e =>
        let b1 := otherBucket a.key e.key b
        match a.freeWay b1 with
        | some v => some (((b1, v) :: p).reverse)
        | none =>
          if p.length < 3 then a.search (rest ++ [0, 1, 2, 3].map fun v => (b1, v) :: p) fuel
          else a.search rest fuel

/-- How an insertion ended. -/
structure InsertResult where
  area  : BindArea
  ok    : Bool
  /-- Relocations made. -/
  walk  : Nat
  /-- Placed by the search. -/
  tree  : Bool
  deriving DecidableEq, Repr

/-- insert(k, v) of R131, the DRBG read from draw `n` on. -/
def BindArea.insert (a : BindArea) (e : BindEntry) (n : Nat) : InsertResult :=
  let c := bucketsOf a.key e.key
  match a.freeWay c.1, a.freeWay c.2 with
  | some w, _ => { area := a.putWay c.1 w e, ok := true, walk := 0, tree := false }
  | none, some w => { area := a.putWay c.2 w e, ok := true, walk := 0, tree := false }
  | none, none =>
    let r := a.relocate e c.1 n 32
    match r.2.1 with
    | none => { area := r.1, ok := true, walk := r.2.2, tree := false }
    | some h =>
      let d := bucketsOf a.key h.key
      let starts := ([0, 1, 2, 3].map fun w => [(d.1, w)]) ++ [0, 1, 2, 3].map fun w => [(d.2, w)]
      match r.1.search starts 20 with
      | some p =>
        match p with
        | (b, w) :: _ => { area := (r.1.movePath p).putWay b w h, ok := true, walk := 32, tree := true }
        | [] => { area := r.1, ok := false, walk := 32, tree := false }
      | none =>
        if r.1.stash.length < 64 then { area := { r.1 with stash := r.1.stash ++ [h] }, ok := true, walk := 32, tree := false }
        else { area := r.1, ok := false, walk := 32, tree := false }

/-- A key removed from an area. -/
def BindArea.remove (a : BindArea) (k : BitVec 320) : BindArea :=
  { a with ways := a.ways.filter (·.2.key != k), stash := a.stash.filter (·.key != k) }

/-- Every entry of an area. -/
def BindArea.all (a : BindArea) : List BindEntry := a.ways.map (·.2) ++ a.stash

/-- Entries bound (BIND_COUNT). -/
def Bindings.count (t : Bindings) : Nat := t.active.all.length + t.inHand.isSome.toNat

/-- Entries whose target is a context (BINDINGS, R117). -/
def Bindings.targeting (t : Bindings) (c : Nat) : Nat :=
  (t.active.all.filter fun e => e.target.toNat == c).length

/-- A change made to every entry of an area that `p` picks. -/
def BindArea.update (a : BindArea) (p : BindEntry → Bool) (f : BindEntry → BindEntry) : BindArea :=
  { a with ways := a.ways.map fun e => if p e.2 then (e.1, f e.2) else e
           stash := a.stash.map fun e => if p e then f e else e }

/-- TARGET and TARGET_GEN of every LANE_BOUND entry of a lane rewritten in place (R130), in the tables being built too
(R133). -/
def Bindings.retarget (t : Bindings) (l c : Nat) (g : BitVec 16) : Bindings :=
  let p := fun e : BindEntry => e.laneBound && e.lane.toNat == l
  let f := fun e : BindEntry => { e with target := BitVec.ofNat 20 c, targetGen := g }
  { t with active := t.active.update p f, build := t.build.map fun a => BindArea.update a p f }

/-- A re-key starts: a new key and an empty second area; source 246 (R133). -/
def State.rekeyStart (s : State) : State :=
  let t := (s.raise 246).drbgNext
  { t with bind := { t.bind with build := some { key := s.drbgBlock.extractLsb' 0 128 } } }

/-- A re-key starts by itself when the active stash holds more than 48 entries (R133). -/
def State.rekeyIfFull (s : State) : State :=
  if 48 < s.bind.active.stash.length ∧ s.bind.build.isNone then s.rekeyStart else s

/-- BINDINGS of a context brought up to date (R117). -/
def State.countBindings (s : State) (c : Nat) : State :=
  if c = 0 then s else s.modCtx c fun r => { r with bindings := BitVec.ofNat 16 (s.bind.targeting c) }

/-- The LANE_BOUND entries of a lane follow its new object; BINDINGS of the contexts that they leave and reach are counted again (R117,
R130). -/
def State.retarget (s : State) (l c : Nat) : State :=
  let old := (s.bind.active.all.filter fun e => e.laneBound && e.lane.toNat == l).map (·.target.toNat)
  (c :: old).foldl State.countBindings { s with bind := s.bind.retarget l c (s.ctxRec c).gen }

/-- What an insertion leaves in a stash: a build whose stash has passed 48 starts again; a full active stash starts a re-key (R133). -/
def State.rekeyCheck (s : State) : State :=
  if s.bind.build.any fun a => decide (48 < a.stash.length) then s.rekeyStart else s.rekeyIfFull

/-- An insertion into the binding table; false where it is answered busy. An insertion during a build is repeated into
the new table (R131, R133). -/
def State.bindInsert (s : State) (e : BindEntry) : Bool × State :=
  if 1048576 ≤ s.bind.count then (false, { s with bind := { s.bind with bindBusy := s.bind.bindBusy + 1 } })
  else
    let r := s.bind.active.insert e s.draws
    if r.ok then
      let b := { s.bind with
        active := r.area
        build := s.bind.build.map fun a => (a.insert e (s.draws + 32)).area
        longestWalk := if s.bind.longestWalk.toNat < r.walk then BitVec.ofNat 8 r.walk else s.bind.longestWalk
        treeInserts := if r.tree then s.bind.treeInserts + 1 else s.bind.treeInserts
        stashPeak := if s.bind.stashPeak.toNat < r.area.stash.length then BitVec.ofNat 8 r.area.stash.length else s.bind.stashPeak }
      (true, (({ s with bind := b, draws := s.draws + 64 }).countBindings e.target.toNat).rekeyCheck)
    else (false, { s with bind := { s.bind with bindBusy := s.bind.bindBusy + 1 }, draws := s.draws + 64 })

/-- A removal from the binding table (R133, R134). -/
def State.bindRemove (s : State) (k : BitVec 320) : State :=
  match s.bind.lookup k with
  | none => s
  | some e =>
    ({ s with bind := { s.bind with active := s.bind.active.remove k, build := s.bind.build.map fun a => BindArea.remove a k } }).countBindings
      e.target.toNat

/-! ### The rows of the re-key -/

/-- REKEY_REQUEST: a write of 1 starts a background re-key; one in progress starts again with another key (R133). -/
def execRekeyRequest (s : State) : Out := .next s.rekeyStart

/-- REKEY_SWITCH: the build is complete; table, key and stash bank switch in one cycle. A new stash above 48 entries
starts the build again (R133). -/
def execRekeySwitch (s : State) : Out :=
  match s.bind.build with
  | none => .next s
  | some a =>
    let built := s.bind.active.all.foldl (fun (b : BindArea) e =>
      if (b.inBuckets e.key).isSome ∨ b.stash.any (·.key == e.key) then b else (b.insert e s.draws).area) a
    if 48 < built.stash.length then .next s.rekeyStart
    else
      .next ({ s with bind := { s.bind with
        active := built, build := none, rekeys := s.bind.rekeys + 1
        stashPeak := if s.bind.stashPeak.toNat < built.stash.length then BitVec.ofNat 8 built.stash.length else s.bind.stashPeak } }.raise 246)

end Sys2Proof.Machine
end

