-- ==== Sys2Proof/Machine/Flags.lean ====
section
/-! DEFINITION. Conditions, results and the divide flags of the engines (R155, R164, R165). The engine has no flags
register: a condition is a 0 or 1 in a general register. -/
namespace Sys2Proof.Machine

/-- A condition's value (R164). -/
def condW (c : Bool) : W24 := if c then 1 else 0

/-- Rotation right by a count modulo 24 (R165). -/
def rorW (v : W24) (n : Nat) : W24 := v.rotateRight (n % 24)

/-- Rotation left by a count modulo 24 (R165). -/
def rolW (v : W24) (n : Nat) : W24 := v.rotateLeft (n % 24)

/-- Results of the three-register operations (R165, R181). -/
def aluEval : AluOp → W24 → W24 → W24
  | .add, a, b => a + b
  | .sub, a, b => a - b
  | .and, a, b => a &&& b
  | .or, a, b => a ||| b
  | .xor, a, b => a ^^^ b
  | .min, a, b => if a.slt b then a else b
  | .max, a, b => if a.slt b then b else a
  | .minu, a, b => if a.ult b then a else b
  | .maxu, a, b => if a.ult b then b else a
  | .sll, a, b => a <<< b.toNat
  | .srl, a, b => a >>> b.toNat
  | .sra, a, b => a.sshiftRight b.toNat
  | .ror, a, b => rorW a b.toNat
  | .rol, a, b => rolW a b.toNat
  | .seq, a, b => condW (a == b)
  | .sne, a, b => condW (a != b)
  | .slt, a, b => condW (a.slt b)
  | .sltu, a, b => condW (a.ult b)
  | .sle, a, b => condW (!(b.slt a))
  | .sleu, a, b => condW (!(b.ult a))

/-- Results of the long immediate operations; shift counts are zero-extended, the rest sign-extended (R183, R184). -/
def immEval : ImmOp → W24 → BitVec 18 → W24
  | .addi, a, i => a + s18w i
  | .andi, a, i => a &&& s18w i
  | .ori, a, i => a ||| s18w i
  | .xori, a, i => a ^^^ s18w i
  | .slli, a, i => a <<< i.toNat
  | .srli, a, i => a >>> i.toNat
  | .srai, a, i => a.sshiftRight i.toNat
  | .rori, a, i => rorW a i.toNat
  | .roli, a, i => rolW a i.toNat
  | .seqi, a, i => condW (a == s18w i)
  | .snei, a, i => condW (a != s18w i)
  | .slti, a, i => condW (a.slt (s18w i))
  | .sltui, a, i => condW (a.ult (s18w i))
  | .sgti, a, i => condW ((s18w i).slt a)
  | .sgtui, a, i => condW ((s18w i).ult a)

/-- NEG (R165, R181). -/
def negW (a : W24) : W24 := 0 - a

/-- ABS (R165, R181). -/
def absW (a : W24) : W24 := if a.slt 0 then 0 - a else a

/-- The exact 48-bit product, signed (R165). -/
def mulS (a b : W24) : BitVec 48 := BitVec.ofInt 48 (a.toInt * b.toInt)

/-- The exact 48-bit product, unsigned (R165). -/
def mulU (a b : W24) : BitVec 48 := BitVec.ofNat 48 (a.toNat * b.toNat)

/-- Signed divide: quotient toward zero, remainder with the sign of the dividend; the two corners and their flags
(R165). -/
def divS (a b : W24) : DivRes :=
  if b = 0 then { lo := 0xFFFFFF, hi := a, dov := false, dz := true }
  else if a = 0x800000 ∧ b = 0xFFFFFF then { lo := 0x800000, hi := 0, dov := true, dz := false }
  else { lo := BitVec.ofInt 24 (a.toInt.tdiv b.toInt), hi := BitVec.ofInt 24 (a.toInt.tmod b.toInt), dov := false, dz := false }

/-- Unsigned divide and its corner (R165). -/
def divU (a b : W24) : DivRes :=
  if b = 0 then { lo := 0xFFFFFF, hi := a, dov := false, dz := true }
  else { lo := a / b, hi := a % b, dov := false, dz := false }

/-- MDB: a result is in flight (R155, R168). -/
def Engine.mdb (x : Engine) : Bool := !x.products.isEmpty || x.divide.isSome

/-- ESTAT as MFSR reads it (R155). -/
def Engine.estat (x : Engine) : W24 :=
  (pack [(x.ie.toNat, 0), (x.act.toNat, 1), (x.dov.toNat, 6), (x.dz.toNat, 7), (x.mdb.toNat, 8)]).setWidth 24

end Sys2Proof.Machine
end

