-- ==== Sys2Proof/Machine/Vector.lean ====
section
/-! DEFINITION. The vector unit (chapter 10): assignment, delivery, registers. Arrivals are in Ops. -/
namespace Sys2Proof.Machine

/-- Target row t. -/
def VectorUnit.target (v : VectorUnit) (t : Nat) : TgtRow := v.tgt.look {} t

/-- A source's level as a number above the base level 0 (R169). -/
def SrcRow.above (r : SrcRow) : Nat := r.level.toNat + 1

/-- Engine e is WAITING, or HALTED after HALT: the cases that moderation and boundaries do not hold (R214, R217). -/
def Engine.idle (x : Engine) : Bool :=
  match x.run with
  | .waitE | .waitT _ => true
  | .halted h => h && !x.haltReq
  | _ => false

/-- Engine e may be entered now: at a boundary behind an instruction, WAITING, HALTED after HALT, or STALLED at level 3 (R214, R218). -/
def Engine.open (x : Engine) (level : Nat) : Bool :=
  match x.run with
  | .running => !x.entered
  | .waitE | .waitT _ => true
  | .halted h => h && !x.haltReq
  | .stallLoad _ | .stallStore .. => level == 4

/-- Engine target e is ready for a source above level `cur`; `chain` marks a selection by RETI (R214, R217). -/
def State.engReady (s : State) (e : Nat) (r : SrcRow) (cur : Nat) (chain : Bool) : Bool :=
  let x := s.eng e
  x.ie && decide (r.above > cur) && x.open r.above && !x.faulted && x.e1.isNone &&
    decide ((s.tile (tileOf e)).power ≠ .cold) &&
    (!(s.vu.target e).heldMod || x.idle || r.above == 4 || chain)

/-- Host vector v is ready (R214). -/
def State.hostReady (s : State) (v : Nat) : Bool :=
  s.rings.msixEn && !s.rings.msixFnMask && !(s.rings.msix.look 1 (4 * v + 3)).getLsbD 0 && s.rings.busMaster &&
    !(s.vu.target (96 + v)).hold && !(s.vu.target (96 + v)).heldMod

/-- Target t is ready for source row r; engine `chain` is seen at the level it returns to (R214, R215). -/
def State.ready (s : State) (r : SrcRow) (chain : Option (Nat × Nat)) (t : Nat) : Bool :=
  if t < 96 then
    match chain with
    | some (e, k) => if t = e then s.engReady e r k true else s.engReady t r (s.eng t).level false
    | none => s.engReady t r (s.eng t).level false
  else s.hostReady (t - 96)

/-- The target a source is assigned to in this cycle: round robin after LAST_TARGET over its ready enabled targets
(R215). -/
def State.assigned (s : State) (r : SrcRow) (chain : Option (Nat × Nat)) : Option Nat :=
  if r.pending ∧ r.en then
    ((List.range 160).map fun i => (r.lastTarget.toNat + 1 + i) % 160).find? fun t =>
      r.mask.getLsbD t && s.ready r chain t
  else none

/-- The winner among sources: the highest level, then the highest number (R215, R27). -/
def winnerOf (l : List (Nat × SrcRow)) : Option (Nat × SrcRow) :=
  l.foldl (fun best c =>
    match best with
    | none => some c
    | some b => if b.2.level.toNat < c.2.level.toNat ∨ (b.2.level = c.2.level ∧ b.1 < c.1) then some c else some b) none

/-- The winner that target t selects now; none while GHOLD or asleep (R215, R216, R223). -/
def State.winner (s : State) (t : Nat) (chain : Option (Nat × Nat)) : Option (Nat × SrcRow) :=
  if s.vu.ghold ∨ s.watcher.asleep then none
  else winnerOf (s.vu.src.filter fun c => s.assigned c.2 chain == some t)

/-- A delivery of source n to target t: PENDING clears, DELIVERED counts, LAST_TARGET and LAST_SRC are set and
moderation starts (R211, R215, R217, R221). -/
def VectorUnit.deliver (v : VectorUnit) (n t : Nat) : VectorUnit :=
  let g := v.target t
  { v with
    src := v.src.modify {} n fun r => { r with pending := false, delivered := r.delivered + 1, lastTarget := BitVec.ofNat 8 t }
    tgt := v.tgt.put t { g with lastSrc := BitVec.ofNat 8 n, heldMod := g.heldMod || decide (g.holdoff ≠ 0) } }

/-- LAST_SRC of level L of engine e (R220, R222). -/
def VectorUnit.entered (v : VectorUnit) (e l n : Nat) : VectorUnit :=
  { v with lastSrc := v.lastSrc.put (4 * e + l) (BitVec.ofNat 8 n) }

/-- The vector of source n at an engine: VBASE + 4 × n (R154, R170). -/
def Engine.vector (x : Engine) (n : Nat) : W18 := (x.vbase ++ (0 : BitVec 10)) + BitVec.ofNat 18 (4 * n)

/-- The address and data of MSI-X vector v (R219, R277). -/
def Rings.vectorOf (r : Rings) (v : Nat) : W64 × W32 :=
  (r.msix.look 0 (4 * v + 1) ++ r.msix.look 0 (4 * v), r.msix.look 0 (4 * v + 2))

/-- One MSI-X write, a 4-byte write to host memory (R219). -/
def State.msixWrite (s : State) (v : Nat) : State :=
  let m := s.rings.vectorOf v
  { s with
    rings := { s.rings with msixWrites := s.rings.msixWrites ++ [(v, m.1, m.2)] }
    hostMem := hostStore s.hostMem m.1.toNat (toLE 4 m.2.toNat) }

/-- The snapshot of source n (R212). -/
def VectorUnit.snap (v : VectorUnit) (n : Nat) : VectorUnit :=
  let r := v.row n
  { v with snapArrivals := r.arrivals, snapDelivered := r.delivered, snapCoalesced := r.coalesced,
           snapDropped := r.dropped, snapPending := r.pending, snapSrc := BitVec.ofNat 8 n }

/-- The read-clear of a source's COUNT (R211). -/
def State.takeCount (s : State) (n : Nat) : W32 × State :=
  let r := s.vu.row n
  (pack [(r.count.toNat, 0), (r.pending.toNat, 8)], { s with vu := { s.vu with src := s.vu.src.put n { r with count := 0 } } })

/-- A write of RAISE: one arrival at sources 0 to 95, other values refused (R221, R19). -/
def State.raiseWrite (s : State) (m n : Nat) : State := if n < 96 then s.raise n else s.addrFault m

/-- A read of the vector unit's window (R221); a write-only register reads 0 (log entry 10). -/
def State.vuRead (s : State) (off : Nat) : Option (W32 × State) :=
  let v := s.vu
  if off = 0 then some (pack [(v.ghold.toNat, 0)], s)
  else if off = 4 then some (pack [((v.src.filter (·.2.pending)).length, 0)], s)
  else if off = 8 ∨ off = 0xC then some (0, s)
  else if off = 0x10 then some (v.snapArrivals, s)
  else if off = 0x14 then some (v.snapDelivered, s)
  else if off = 0x18 then some (v.snapCoalesced, s)
  else if off = 0x1C then some (v.snapDropped, s)
  else if off = 0x20 then some (pack [(v.snapPending.toNat, 0), (v.snapSrc.toNat, 8)], s)
  else if 0x1000 ≤ off ∧ off < 0x2000 then
    let n := (off - 0x1000) / 16
    let r := v.row n
    if off % 16 = 0 then some (pack [(r.level.toNat, 0), (r.en.toNat, 2)], s)
    else if off % 16 = 4 then some (s.takeCount n)
    else if off % 16 = 8 then some (pack [(r.lastTarget.toNat, 0)], s)
    else none
  else if 0x2000 ≤ off ∧ off < 0x4000 then
    let r := v.row ((off - 0x2000) / 32)
    some (if off % 32 / 4 < 5 then wordOf r.mask (off % 32 / 4) else 0, s)
  else if 0x6000 ≤ off ∧ off < 0x6500 then
    let g := v.target ((off - 0x6000) / 8)
    if off % 8 = 0 then some (pack [(g.holdoff.toNat, 0), (g.hold.toNat, 10)], s)
    else some (pack [(g.heldMod.toNat, 0), (g.lastSrc.toNat, 8)], s)
  else if 0x8000 ≤ off ∧ off < 0x8080 then
    some ((s.watcher.watch.look 0 ((off - 0x8000) / 4)).setWidth 32, s)
  else if off = 0x8080 then some (s.watcher.sleepDropped, s)
  else if off = 0x8084 then some (s.watcher.wakes, s)
  else if off = 0x8088 then some (pack [(s.watcher.wakeSrc.toNat, 0), (s.watcher.wakeValid.toNat, 8)], s)
  else if 0x8100 ≤ off ∧ off < 0x8500 then
    some ((s.watcher.sleepCount.look 0 ((off - 0x8100) / 4)).setWidth 32, s)
  else none

/-- A write of LEVEL and EN of source n. -/
def SrcRow.writeCfg (r : SrcRow) (v be : W32) : SrcRow :=
  let x := merge (pack [(r.level.toNat, 0), (r.en.toNat, 2)]) v be
  { r with level := x.extractLsb' 0 2, en := x.getLsbD 2 }

/-- The bits of a source's MASK that writes reach: targets 0 to 7 alone for source 228 (R251). -/
def maskBits (n : Nat) (m : BitVec 160) : BitVec 160 := if n = 228 then m &&& 0xFF else m

/-- A write of the vector unit's window by master m; none where it is refused (R19, R221). -/
def State.vuWrite (s : State) (m off : Nat) (v be : W32) : Option State :=
  if off = 0xC then some (s.raiseWrite m (bits (v &&& be) 0 8))
  else if ¬ s.fw m then none
  else if off = 0 then
    some { s with vu := { s.vu with ghold := (merge (pack [(s.vu.ghold.toNat, 0)]) v be).getLsbD 0 } }
  else if off = 8 then some { s with vu := s.vu.snap (bits (v &&& be) 0 8) }
  else if off < 0x24 then some s
  else if 0x1000 ≤ off ∧ off < 0x2000 then
    let n := (off - 0x1000) / 16
    let r := s.vu.row n
    if off % 16 = 0 then some { s with vu := { s.vu with src := s.vu.src.put n (r.writeCfg v be) } }
    else if off % 16 = 4 then some s
    else if off % 16 = 8 then
      let x := merge (pack [(r.lastTarget.toNat, 0)]) v be
      let l : BitVec 8 := x.extractLsb' 0 8
      some { s with vu := { s.vu with src := s.vu.src.put n { r with lastTarget := if l.toNat < 160 then l else 0x9F } } }
    else none
  else if 0x2000 ≤ off ∧ off < 0x4000 then
    let n := (off - 0x2000) / 32
    let i := off % 32 / 4
    let r := s.vu.row n
    let mask := maskBits n (setWord r.mask i (merge (wordOf r.mask i) v be))
    let vu := { s.vu with src := s.vu.src.put n { r with mask := if i < 5 then mask else r.mask } }
    some { s with vu := vu, engines := markHeld vu n s.engines }
  else if 0x6000 ≤ off ∧ off < 0x6500 then
    let t := (off - 0x6000) / 8
    let g := s.vu.target t
    if off % 8 = 0 then
      let x := merge (pack [(g.holdoff.toNat, 0), (g.hold.toNat, 10)]) v be
      let h := { g with holdoff := x.extractLsb' 0 10, hold := x.getLsbD 10 && decide (96 ≤ t) }
      some { s with vu := { s.vu with tgt := s.vu.tgt.put t h } }
    else some s
  else if 0x8000 ≤ off ∧ off < 0x8080 then
    let i := (off - 0x8000) / 4
    let x := merge ((s.watcher.watch.look 0 i).setWidth 32) v be
    some { s with watcher := { s.watcher with watch := s.watcher.watch.put i (x.extractLsb' 0 9) } }
  else if off = 0x8080 ∨ off = 0x8084 ∨ off = 0x8088 ∨ (0x8100 ≤ off ∧ off < 0x8500) then some s
  else none

/-- A read of the tile's slice words by engine e (R222). -/
def State.sliceRead (s : State) (e off : Nat) : Option (W24 × State) :=
  if off < 0x100 then
    let r := s.takeCount off
    some (r.1.setWidth 24, r.2)
  else if 0x100 ≤ off ∧ off < 0x104 then some ((s.vu.lastSrc.look 0 (4 * e + (off - 0x100))).setWidth 24, s)
  else if off = 0x104 then some (0, s)
  else none

/-- A write of the tile's slice words by engine e (R222). -/
def State.sliceWrite (s : State) (e off : Nat) (v : W24) : Option State :=
  if off < 0x104 then some s
  else if off = 0x104 then some (s.raiseWrite e (bits v 0 8))
  else none

/-! ### The rows of the vector unit -/

/-- SOURCE_ARRIVAL: one raising of a source is counted (R211, R220); no block raises a number that R213 names as never raised. -/
def execSourceArrival (n : Src) (s : State) : Out := .next (if neverRaised n then s else s.raise n)

/-- SRC_COUNT_READ: a read returns COUNT and clears it, whichever master makes it (R211, R221). -/
def execSrcCountRead (_m : Master) (n : Src) (s : State) : Out := .next (s.takeCount n).2

/-- SNAP_SEL: the counters and PENDING of a source are copied (R212, R221). -/
def execSnapSel (m : Master) (n : Src) (s : State) : Out :=
  .next (if s.fw m then { s with vu := s.vu.snap n } else s.addrFault m)

/-- RAISE: one arrival at the source written, by any master; 96 to 255 are refused (R221). -/
def execRaise (m : Master) (n : Src) (s : State) : Out := .next (s.raiseWrite m n)

/-- A wait whose condition holds in the cycle of E1 completes first (R195). -/
def State.finishWait (s : State) (x : Engine) : Engine :=
  match x.run with
  | .waitE => if x.evl &&& x.evm ≠ 0 then { x with run := .running, pc := x.pc + 1 } else x
  | .waitT g => if ((s.tnow.setWidth 24) - g).slt 0 then x else { x with run := .running, pc := x.pc + 1 }
  | _ => x

/-- DELIVERY: target t acts on the sources assigned to it; an engine's slice selects at E1, a host target makes one
MSI-X write (R215, R217, R219). -/
def execDelivery (t : Target) (s : State) : Out :=
  match s.winner t none with
  | none => .next s
  | some (n, r) =>
    if t.val < 96 then
      let x := s.finishWait (s.eng t)
      .next { s with
        vu := (s.vu.deliver n t).entered t r.level.toNat n
        engines := s.engines.put t { x with e1 := some (Fin.ofNat 256 n, r.level, x.vector n) } }
    else .next { s.msixWrite (t - 96) with vu := s.vu.deliver n t }

/-- MODERATION_EXPIRY: the hold after a delivery ends (R217). -/
def execModerationExpiry (t : Target) (s : State) : Out :=
  .next { s with vu := { s.vu with tgt := s.vu.tgt.modify {} t fun g => { g with heldMod := false } } }

end Sys2Proof.Machine
end

