-- ==== Sys2Proof/Machine/Router.lean ====
section
/-! DEFINITION. The event router (chapter 11): waves, task inputs, groups, takes, registers. -/
namespace Sys2Proof.Machine

/-- Channel c. -/
def Router.chanAt (r : Router) (c : Nat) : ChanRow := r.chan.look {} c
/-- Task input t. -/
def Router.taskAt (r : Router) (t : Nat) : TaskRow := r.task.look {} t

/-- A task input that some chapter names (R227). -/
def taskExists (t : Nat) : Bool := decide (t < 1604)

/-- An event output that some chapter names (R227, R395). -/
def outExists (o : Nat) : Bool := decide (o ≤ 64) || (decide (66 ≤ o) && decide (o ≤ 81))

/-- One arrival at a task input (R229). -/
def TaskRow.arrive (r : TaskRow) : TaskRow :=
  if r.arr = 15 then { r with arrivals := r.arrivals + 1, dropped := r.dropped + 1, ovf := true }
  else if r.arr = 0 then { r with arrivals := r.arrivals + 1, arr := 1 }
  else { r with arrivals := r.arrivals + 1, coalesced := r.coalesced + 1, arr := r.arr + 1 }

/-- k arrivals, one at a time (R228, R229). -/
def TaskRow.arriveN (r : TaskRow) (k : Nat) : TaskRow := iterate TaskRow.arrive k r

/-- A take: the count is returned and cleared; a take that finds 0 counts nothing (R229). -/
def TaskRow.take (r : TaskRow) : TaskRow :=
  if r.arr = 0 then r else { r with arr := 0, delivered := r.delivered + 1 }

/-- OVF becomes set by these arrivals: source 225 (R229). -/
def TaskRow.overflows (r : TaskRow) (k : Nat) : Bool := !r.ovf && (r.arriveN k).ovf

/-- The task input is subscribed to the channel (R227, R228). -/
def TaskRow.hears (r : TaskRow) (c : Nat) : Bool := r.subEn && r.subCh.toNat == c

/-- What a wave makes of one task input: arrivals, and the take the router makes itself for group switches and wake
inputs (R228, R229). -/
def TaskRow.wave (r : TaskRow) (t k : Nat) : TaskRow :=
  if 1536 ≤ t ∧ t < 1604 then (r.arriveN k).take else r.arriveN k

/-! ### Groups (R233) -/

/-- The multiplicity that a take at task input t returns after k arrivals (R229). -/
def takenCount (r : TaskRow) (k : Nat) : Nat := (r.arriveN k).arr.toNat

/-- Group g after the takes of one window: a disable wins over an enable or a toggle, a load is an enable for its mask
and a disable for the rest, toggles that meet neither apply in sequence (R233). -/
def groupAfter (takes : List (SwitchRow × Nat)) (g : Nat) (on : Bool) : Bool :=
  let off := takes.any fun c => (c.1.action == 1 && c.1.mask.getLsbD g) || (c.1.action == 3 && !c.1.mask.getLsbD g)
  let en := takes.any fun c => (c.1.action == 0 || c.1.action == 3) && c.1.mask.getLsbD g
  let flips : Nat := (takes.filter fun c => c.1.action == 2 && c.1.mask.getLsbD g).foldl (fun n c => n + c.2) 0
  if off then false else if en then true else if flips % 2 = 1 then !on else on

/-- Every group after the takes of one window (R233). -/
def groupsAfter (takes : List (SwitchRow × Nat)) (en : W32) : W32 :=
  if takes.isEmpty then en
  else BitVec.ofNat 32 ((List.range 32).foldl (fun a g => if groupAfter takes g (en.getLsbD g) then a + 2 ^ g else a) 0)

/-- The declaration's change of the groups (R233, R70 step 1). -/
def Router.declare (r : Router) : Router :=
  { r with groupEn := (r.groupEn ||| r.declOn) &&& ~~~(r.declOff &&& ~~~r.declOn) }

/-- GROUP_EN, DECL_ON and DECL_OFF back at their reset values (R234). -/
def Router.groupsReset (r : Router) : Router := { r with groupEn := 0xFFFFFFFD, declOn := 2, declOff := 1 }

/-! ### Waves (R228, R231) -/

/-- The channel's own enable and its group's (R225). -/
def Router.mayFire (r : Router) (c : Nat) : Bool :=
  (r.chanAt c).en && (decide (c < 256) || r.groupEn.getLsbD ((c - 256) / 8))

/-- The subscribed task inputs of a channel. -/
def Router.subscribers (r : Router) (c : Nat) : Tab TaskRow := r.task.filter fun e => e.2.hears c

/-- A wave of multiplicity k of channel c: the channel blocks, every subscribed task input and the course port take the
arrivals, the router makes its own takes (R228, R229, R231, R233, R235, R237). -/
def Router.wave (r : Router) (c k : Nat) : Router :=
  let subs := r.subscribers c
  let takes := (subs.filter fun e => decide (1536 ≤ e.1 ∧ e.1 < 1600)).map fun e =>
    (r.switch.look {} (e.1 - 1536), takenCount e.2 k)
  let wakes := (subs.filter fun e => decide (1600 ≤ e.1 ∧ e.1 < 1604)).length
  { r with
    chan := r.chan.modify {} c fun x =>
      { x with fired := x.fired + BitVec.ofNat 32 k, blocking := true, waves := x.waves + 1 }
    task := r.task.map fun e => if e.2.hears c then (e.1, e.2.wave e.1 k) else e
    port := r.port.modify {} c (·.arriveN k)
    groupEn := groupsAfter takes r.groupEn
    wakeReqs := r.wakeReqs + BitVec.ofNat 32 wakes
    wakeAsked := r.wakeAsked || decide (0 < wakes) }

/-- The overflows a wave raises source 225 for: task inputs and the course port (R229). -/
def Router.overflows (r : Router) (c k : Nat) : Nat :=
  ((r.subscribers c).filter fun e => e.2.overflows k).length + ((r.port.look {} c).overflows k).toNat

/-- Engines of tiles that are cold or in repair hold no EVL: a mark reaches the others (R160, R236, R254, R346). -/
def State.markWarm (s : State) (e bit : Nat) : State := if s.tilePowered (tileOf e) then s.mark e bit else s

/-- The EVL bits of the engines whose task inputs a wave reaches (R227, R229). -/
def markSubscribers (s : State) (subs : Tab TaskRow) : State :=
  subs.foldl (fun s e => if e.1 < 1536 then s.markWarm (e.1 / 16) (e.1 % 16) else s) s

/-- k publications on channel c in one capture window: a wave, or blocked, or gated (R225, R228, R231). -/
def State.publishN (s : State) (c k : Nat) : State :=
  if ¬ s.router.mayFire c then
    { s with router := { s.router with chan := s.router.chan.modify {} c fun x => { x with gated := x.gated + BitVec.ofNat 32 k } } }
  else if (s.router.chanAt c).blocking then
    ({ s with router := { s.router with chan := s.router.chan.modify {} c fun x => { x with blocked := x.blocked + BitVec.ofNat 32 k } } }).raiseN 224 k
  else
    markSubscribers (({ s with router := s.router.wave c k }).raiseN 225 (s.router.overflows c k)) (s.router.subscribers c)

/-- One publication (R226). -/
def State.publish (s : State) (c : Nat) : State := s.publishN c 1

/-- No producer outside the always-on domain is active in PARK and DEEP (R237). -/
def State.producersOff (s : State) : Bool := s.power.phase == .park || s.power.phase == .deep

/-- A producer outside the always-on domain publishes (R237). -/
def State.publishCore (s : State) (c : Nat) : State := if s.producersOff then s else s.publish c

/-- n publications on channel c in consecutive ENGCLK cycles: those of the first three cycles fall in the capture window of 2 ns, the others
behind it (R7, R196, R228, R236; log entry 111). -/
def State.publishRun (s : State) (c n : Nat) : State :=
  if s.producersOff || n == 0 then s
  else
    let t := s.publishN c (min n 3)
    if 3 < n then t.publishN c (n - 3) else t

/-- A block publishes through event output o (R226). -/
def State.eventOutput (s : State) (o : Nat) : State :=
  let r := s.router.out.look {} o
  if r.en then s.publish r.ch.toNat else s

/-- A publication of an engine by value: bits above 8 not 0 publish nothing and are an unassigned access (R196). -/
def State.publishValue (s : State) (e : Nat) (v : W24) : State :=
  if v.toNat < 512 then s.publishCore v.toNat else s.addrFault e

/-- A take at a task input: what it reads, and the state after (R229). -/
def State.takeTask (s : State) (t : Nat) : W32 × State :=
  let r := s.router.taskAt t
  (pack [(r.arr.toNat, 0), (r.ovf.toNat, 4), ((decide (r.arr ≠ 0)).toNat, 5)],
   { s with router := { s.router with task := s.router.task.put t r.take } })

/-- The snapshot of task input t (R230). -/
def Router.snap (r : Router) (t : Nat) : Router :=
  let x := r.taskAt t
  { r with snapArrivals := x.arrivals, snapDelivered := x.delivered, snapCoalesced := x.coalesced,
           snapDropped := x.dropped, snapPending := decide (x.arr ≠ 0), snapInput := BitVec.ofNat 11 t }

/-! ### Registers (R238, R239) -/

/-- Word 0 of a channel's registers. -/
def ChanRow.word (x : ChanRow) : W32 :=
  pack [(x.rearm.toNat, 0), (x.en.toNat, 8), (x.blocking.toNat, 9), (x.rateHit.toNat, 10), (x.rateMax.toNat, 16)]

/-- A write of word 0 of a channel: REARM 0 stores 1, RATE_HIT is write-1-clear (R231, R238). -/
def ChanRow.write (x : ChanRow) (v be : W32) : ChanRow :=
  let y := merge x.word v be
  let re : BitVec 8 := y.extractLsb' 0 8
  { x with rearm := if re = 0 then 1 else re, en := y.getLsbD 8, rateMax := y.extractLsb' 16 8,
           rateHit := x.rateHit && !(v &&& be).getLsbD 10 }

/-- The subscription word of a task input. -/
def TaskRow.subWord (x : TaskRow) : W32 := pack [(x.subCh.toNat, 0), (x.subEn.toNat, 9)]

/-- A write of the subscription word. -/
def TaskRow.writeSub (x : TaskRow) (v be : W32) : TaskRow :=
  let y := merge x.subWord v be
  { x with subCh := y.extractLsb' 0 9, subEn := y.getLsbD 9 }

/-- A write of the count word: OVF is write-1-clear (R238). -/
def TaskRow.writeArr (x : TaskRow) (v be : W32) : TaskRow := { x with ovf := x.ovf && !(v &&& be).getLsbD 4 }

/-- A read of the router's window (R238). -/
def State.routerRead (s : State) (off : Nat) : Option (W32 × State) :=
  let r := s.router
  if off = 0 then some (r.wakeReqs, s)
  else if off = 4 then some (0, s)
  else if off = 8 then some (r.snapArrivals, s)
  else if off = 0xC then some (r.snapDelivered, s)
  else if off = 0x10 then some (r.snapCoalesced, s)
  else if off = 0x14 then some (r.snapDropped, s)
  else if off = 0x18 then some (pack [(r.snapPending.toNat, 0), (r.snapInput.toNat, 16)], s)
  else if 0x1000 ≤ off ∧ off < 0x3000 then
    let x := r.chanAt ((off - 0x1000) / 16)
    if off % 16 = 0 then some (x.word, s)
    else if off % 16 = 4 then some (x.fired, s)
    else if off % 16 = 8 then some (x.blocked, s)
    else some (x.gated, s)
  else if 0x3000 ≤ off ∧ off < 0x3080 then some (pack [((r.groupEn.getLsbD ((off - 0x3000) / 4)).toNat, 0)], s)
  else if off = 0x3080 then some (r.declOn, s)
  else if off = 0x3084 then some (r.declOff, s)
  else if 0x3100 ≤ off ∧ off < 0x3300 then
    let x := r.switch.look {} ((off - 0x3100) / 8)
    some (if off % 8 = 0 then x.mask else x.action.setWidth 32, s)
  else if 0x4000 ≤ off ∧ off < 0xC000 then
    let t := (off - 0x4000) / 16
    if ¬ taskExists t then none
    else if off % 16 = 0 then some ((r.taskAt t).subWord, s)
    else if off % 16 = 4 then some (s.takeTask t)
    else none
  else if 0xC000 ≤ off ∧ off < 0xD000 then
    let o := (off - 0xC000) / 4
    let x := r.out.look {} o
    if outExists o then some (pack [(x.ch.toNat, 0), (x.en.toNat, 9)], s) else none
  else none

/-- A write of the router's window by master m; none where refused (R19, R238). -/
def State.routerWrite (s : State) (m off : Nat) (v be : W32) : Option State :=
  let r := s.router
  if ¬ s.fw m then none
  else if off = 4 then some { s with router := r.snap (bits (v &&& be) 0 11) }
  else if off < 0x1C then some s
  else if 0x1000 ≤ off ∧ off < 0x3000 then
    let c := (off - 0x1000) / 16
    if off % 16 = 0 then some { s with router := { r with chan := r.chan.put c ((r.chanAt c).write v be) } } else some s
  else if 0x3000 ≤ off ∧ off < 0x3080 then
    let g := (off - 0x3000) / 4
    let on := (merge (pack [((r.groupEn.getLsbD g).toNat, 0)]) v be).getLsbD 0
    let bit : W32 := BitVec.ofNat 32 (2 ^ g)
    some { s with router := { r with groupEn := if on then r.groupEn ||| bit else r.groupEn &&& ~~~bit } }
  else if off = 0x3080 then some { s with router := { r with declOn := merge r.declOn v be } }
  else if off = 0x3084 then some { s with router := { r with declOff := merge r.declOff v be } }
  else if 0x3100 ≤ off ∧ off < 0x3300 then
    let n := (off - 0x3100) / 8
    let x := r.switch.look {} n
    let y := if off % 8 = 0 then { x with mask := merge x.mask v be }
      else { x with action := (merge (x.action.setWidth 32) v be).extractLsb' 0 2 }
    some { s with router := { r with switch := r.switch.put n y } }
  else if 0x4000 ≤ off ∧ off < 0xC000 then
    let t := (off - 0x4000) / 16
    if ¬ taskExists t then none
    else if off % 16 = 0 then some { s with router := { r with task := r.task.modify {} t (·.writeSub v be) } }
    else if off % 16 = 4 then some { s with router := { r with task := r.task.modify {} t (·.writeArr v be) } }
    else none
  else if 0xC000 ≤ off ∧ off < 0xD000 then
    let o := (off - 0xC000) / 4
    let x := r.out.look {} o
    let y := merge (pack [(x.ch.toNat, 0), (x.en.toNat, 9)]) v be
    if outExists o then
      some { s with router := { r with out := r.out.put o { ch := y.extractLsb' 0 9, en := y.getLsbD 9 } } }
    else none
  else none

/-- A read of engine e's router words (R239). -/
def State.routerPortRead (s : State) (e off : Nat) : Option (W24 × State) :=
  if off < 0x10 then
    let x := s.takeTask (16 * e + off)
    some ((x.1 &&& 0x1F).setWidth 24, x.2)
  else if 0x10 ≤ off ∧ off < 0x20 then some ((s.router.taskAt (16 * e + (off - 0x10))).subWord.setWidth 24, s)
  else if off = 0x20 then some (0, s)
  else none

/-- A write of engine e's router words (R239). -/
def State.routerPortWrite (s : State) (e off : Nat) (v : W24) : Option State :=
  let r := s.router
  if off < 0x10 then
    some { s with router := { r with task := r.task.modify {} (16 * e + off) (·.writeArr (v.setWidth 32) 0xFFFFFF) } }
  else if 0x10 ≤ off ∧ off < 0x20 then
    some { s with router := { r with task := r.task.modify {} (16 * e + (off - 0x10)) (·.writeSub (v.setWidth 32) 0xFFFFFF) } }
  else if off = 0x20 then some (s.publishValue e v)
  else none

/-! ### The rows of the event router -/

/-- PUBLICATION: k publications reach a channel within one capture window (R228, R231, R232). -/
def execPublication (c : Chan) (k : Nat) (s : State) : Out := .next (if k = 0 then s else s.publishN c k)

/-- PUBLISH: an engine's write of its PUBLISH word (R226, R239). -/
def execPublish (e : Eng) (v : W24) (s : State) : Out := .next (s.publishValue e v)

/-- ARR_TAKE: a read of ARR takes the count, whichever master makes it (R229, R238). -/
def execArrTake (t : TaskInput) (s : State) : Out := .next (s.takeTask t).2

/-- BLOCK_TASK_START: a block starts its task once, with the count as its multiplicity (R229). -/
def execBlockTaskStart (t : TaskInput) (s : State) : Out :=
  .next { s with router := { s.router with task := s.router.task.modify {} t TaskRow.take } }

/-- REARM_BLOCK_END: the block of a channel ends (R231). -/
def execRearmBlockEnd (c : Chan) (s : State) : Out :=
  .next { s with router := { s.router with chan := s.router.chan.modify {} c fun x => { x with blocking := false } } }

/-- A channel's window ends (R232). -/
def ChanRow.windowEnd (x : ChanRow) : ChanRow :=
  { x with waves := 0, rateHit := x.rateHit || (decide (x.rateMax ≠ 0) && decide (x.waves > x.rateMax.toNat)) }

/-- The channels whose window's count exceeds RATE_MAX (R232). -/
def Router.overRate (r : Router) : Nat :=
  (r.chan.filter fun e => decide (e.2.rateMax ≠ 0) && decide (e.2.waves > e.2.rateMax.toNat)).length

/-- RATE_WINDOW_END: a 400-tick window ends; each channel above its RATE_MAX sets RATE_HIT and raises source 226
(R232). -/
def execRateWindowEnd (s : State) : Out :=
  let chan := s.router.chan.map fun e => (e.1, ChanRow.windowEnd e.2)
  .next (({ s with router := { s.router with chan := chan } }).raiseN 226 s.router.overRate)

/-- SNAP_SEL of the router: the counters of a task input are copied (R230, R238). -/
def execRouterSnapSel (m : Master) (t : TaskInput) (s : State) : Out :=
  .next (if s.fw m then { s with router := s.router.snap t } else s.addrFault m)

end Sys2Proof.Machine
end

