-- ==== Sys2Proof/Machine/Mailbox.lean ====
section
/-! DEFINITION. The mailboxes (chapter 12). -/
namespace Sys2Proof.Machine

/-- Channel c. -/
def Mailboxes.row (m : Mailboxes) (c : Nat) : MboxRow := m.ch.look {} c

/-- ENFORCED mode (R243). -/
def Mailboxes.enforced (m : Mailboxes) : Bool := m.locked && !m.test

/-- Channel c of the mailboxes replaced. -/
def State.setMbox (s : State) (c : Nat) (x : MboxRow) : State := { s with mbox := { s.mbox with ch := s.mbox.ch.put c x } }

/-- A write refused under enforcement: VIOLATIONS and source 229 (R244). -/
def State.violation (s : State) : State :=
  { s with mbox := { s.mbox with violations := s.mbox.violations + 1 } }.raise 229

/-- A SEND or staging write of master m on the channel is allowed (R244). -/
def Mailboxes.maySend (b : Mailboxes) (m c : Nat) : Bool :=
  !b.enforced || ((b.row c).valid && (b.row c).sender.toNat == m)

/-- An ACK of master m on the channel is allowed (R244). -/
def Mailboxes.mayAck (b : Mailboxes) (m c : Nat) : Bool :=
  !b.enforced || ((b.row c).valid && (b.row c).receiver.toNat == m)

/-- Word 0 of a message (R242). -/
def slotWord0 (m : Nat) (tag : BitVec 16) : W24 := tag ++ (0 : BitVec 1) ++ BitVec.ofNat 7 m

/-- The channel after a successful send: staging words copied, word 0 stamped (R245). -/
def MboxRow.sendTo (x : MboxRow) (m : Nat) (tag : BitVec 16) : MboxRow :=
  { x with slot := (x.stage.del 0).put 0 (slotWord0 m tag), full := true, acked := false, sent := x.sent + 1, lastResult := 1 }

/-- The notice a successful send gives its receiver (R245). -/
def State.noticeReceiver (s : State) (x : MboxRow) : State :=
  if x.receiver.toNat = 96 then s.raise 231
  else if x.valid ∧ x.receiver.toNat < 96 then s.markWarm x.receiver.toNat 16 else s

/-- A SEND write (R245). -/
def State.mailSend (s : State) (m c : Nat) (tag : BitVec 16) : State :=
  let x := s.mbox.row c
  if ¬ s.mbox.maySend m c then s.violation
  else if x.full then (s.setMbox c { x with refused := x.refused + 1, lastResult := 2 }).raise 230
  else (s.setMbox c (x.sendTo m tag)).noticeReceiver x

/-- The master that sent the message in the slot (R242). -/
def MboxRow.slotSender (x : MboxRow) : Nat := bits (x.slot.look 0 0) 0 7

/-- The notice an effective ACK gives the sender (R246). -/
def State.noticeSender (s : State) (x : MboxRow) : State :=
  if x.slotSender = 96 then s.raise 232 else if x.slotSender < 96 then s.markWarm x.slotSender 17 else s

/-- An ACK write (R246). -/
def State.mailAck (s : State) (m c : Nat) (v : W24) : State :=
  let x := s.mbox.row c
  if ¬ s.mbox.mayAck m c then s.violation
  else if x.full then
    (s.setMbox c { x with ackVal := v, full := false, acked := true, acks := x.acks + 1 }).noticeSender x
  else s.setMbox c { x with stray := x.stray + 1 }

/-- A staging write of word i, 1 to 15 (R241, R244). -/
def State.mailStage (s : State) (m c i : Nat) (v : W24) : State :=
  let x := s.mbox.row c
  if s.mbox.maySend m c then s.setMbox c { x with stage := x.stage.put i v } else s.violation

/-- STATE of a channel (R253). -/
def MboxRow.stateWord (x : MboxRow) : W32 := pack [(x.full.toNat, 0), (x.acked.toNat, 1), (x.lastResult.toNat, 2)]

/-- The binding word of a channel (R253). -/
def MboxRow.bindWord (x : MboxRow) : W32 := pack [(x.sender.toNat, 0), (x.receiver.toNat, 8), (x.valid.toNat, 15)]

/-- The control word (R253). -/
def Mailboxes.ctlWord (b : Mailboxes) : W32 := pack [(b.locked.toNat, 0), (b.test.toNat, 1), (b.crossLimit.toNat, 16)]

/-- A write of LOCKED = 1 by masters 0 to 7 or 98 (R243). -/
def State.mailLock (s : State) (m : Nat) : Option State :=
  if tile0 m || m == 98 then some { s with mbox := { s.mbox with locked := true } } else none

/-- A write of the control word: LOCKED by masters 0 to 7 and 98, TEST by 99 with the debug port open, CROSS_LIMIT by
the masters that may write the block's set-up (R243, R253; log entry 11). -/
def State.mailCtl (s : State) (m : Nat) (v be : W32) : Option State :=
  let b := s.mbox
  let y := merge b.ctlWord v be
  if m = 99 ∧ s.debugOpen then some { s with mbox := { b with test := y.getLsbD 1, crossLimit := y.extractLsb' 16 16 } }
  else if tile0 m || m == 98 then
    some { s with mbox := { b with locked := b.locked || y.getLsbD 0, crossLimit := y.extractLsb' 16 16 } }
  else none

/-- A read of the central window (R253). -/
def State.mailRead (s : State) (off : Nat) : Option (W32 × State) :=
  let b := s.mbox
  if off < 0x20000 then
    let x := b.row (off / 0x80)
    let i := off % 0x80 / 4
    some (if i = 0 then 0 else if i < 16 then (x.stage.look 0 i).setWidth 32 else (x.slot.look 0 (i - 16)).setWidth 32, s)
  else if off < 0x24000 then
    let x := b.row ((off - 0x20000) / 16)
    some (if off % 16 = 0 then x.bindWord else if off % 16 = 4 then x.stateWord
      else if off % 16 = 8 then 0 else x.ackVal.setWidth 32, s)
  else if 0x40000 ≤ off ∧ off < 0x44000 then
    let x := b.row ((off - 0x40000) / 16)
    some (if off % 16 = 0 then x.sent else if off % 16 = 4 then x.refused
      else if off % 16 = 8 then x.acks else x.stray, s)
  else if off = 0x60000 then some (b.ctlWord, s)
  else if off = 0x60004 then some (pack [(b.crossA.toNat, 0), (b.crossB.toNat, 16)], s)
  else if off = 0x60008 then some (b.violations, s)
  else if off = 0x6000C then some (b.crossings, s)
  else none

/-- A write of the binding table: OPEN with LOCKED 0, masters 0 to 7 and 98 (R243). -/
def State.mailBind (s : State) (m c : Nat) (v be : W32) : Option State :=
  let x := s.mbox.row c
  let y := merge x.bindWord v be
  if ¬ (tile0 m || m == 98) then none
  else if s.mbox.locked then some s
  else some (s.setMbox c { x with sender := y.extractLsb' 0 7, receiver := y.extractLsb' 8 7, valid := y.getLsbD 15 })

/-- Master m takes part in the mailboxes: the debug port while it is open (R241, R339). -/
def State.mailMaster (s : State) (m : Nat) : Bool := decide (m < 99) || (m == 99 && s.debugOpen)

/-- A write of the central window by master m; none where refused; bits [31:24] alone write nothing (R16, R19, R241, R242, R253). -/
def State.mailWrite (s : State) (m off : Nat) (v be : W32) : Option State :=
  if !s.mailMaster m then none
  else if off < 0x24000 && be &&& 0xFFFFFF == 0 then some s
  else if off < 0x20000 then
    let c := off / 0x80
    let i := off % 0x80 / 4
    if i = 0 then some (s.mailSend m c (v.extractLsb' 8 16 &&& be.extractLsb' 8 16))
    else if i < 16 then
      some (s.mailStage m c i ((merge (((s.mbox.row c).stage.look 0 i).setWidth 32) v be).setWidth 24))
    else some s
  else if off < 0x24000 then
    let c := (off - 0x20000) / 16
    if off % 16 = 0 then s.mailBind m c v be
    else if off % 16 = 8 then some (s.mailAck m c ((v &&& be).setWidth 24))
    else some s
  else if 0x40000 ≤ off ∧ off < 0x44000 then some s
  else if off = 0x60000 then s.mailCtl m v be
  else if off = 0x60004 ∨ off = 0x60008 ∨ off = 0x6000C then some s
  else none

/-- A read of engine e's mailbox words (R252). -/
def State.mailPortRead (s : State) (e off : Nat) : Option (W24 × State) :=
  let c := (s.eng e).chSel.toNat
  let x := s.mbox.row c
  if off = 0 then some ((s.eng e).chSel.setWidth 24, s)
  else if off < 0x10 then some (x.stage.look 0 off, s)
  else if off = 0x10 then some (0, s)
  else if 0x20 ≤ off ∧ off < 0x30 then some (x.slot.look 0 (off - 0x20), s)
  else if off = 0x30 then some (0, s)
  else if off = 0x31 then some (x.ackVal, s)
  else if off = 0x32 then some (x.stateWord.setWidth 24, s)
  else none

/-- A write of engine e's mailbox words (R252). -/
def State.mailPortWrite (s : State) (e off : Nat) (v : W24) : Option State :=
  let c := (s.eng e).chSel.toNat
  if off = 0 then some (s.modEng e fun x => { x with chSel := v.extractLsb' 0 10 })
  else if off < 0x10 then some (s.mailStage e c off v)
  else if off = 0x10 then some (s.mailSend e c (v.extractLsb' 8 16))
  else if 0x20 ≤ off ∧ off < 0x30 then some s
  else if off = 0x30 then some (s.mailAck e c v)
  else if off = 0x31 ∨ off = 0x32 then some s
  else none

/-! ### Crossings (R250) -/

/-- The sender and receiver of a channel as the crossing sees them (R250). -/
def Mailboxes.ends (b : Mailboxes) (c : Nat) : Nat × Nat :=
  let x := b.row c
  (if b.enforced then x.sender.toNat else x.slotSender, x.receiver.toNat)

/-- Engine e waits in WAITE for an acknowledgement alone (R250). -/
def Engine.ackWait (x : Engine) : Bool := x.run == .waitE && x.evm == 0x020000

/-- A crossing holds on channels a and b (R250). -/
def State.crossing (s : State) (a b : Nat) : Bool :=
  let p := s.mbox.ends a
  let q := s.mbox.ends b
  (s.mbox.row a).full && (s.mbox.row b).full && p.1 == q.2 && p.2 == q.1 && p.1 != p.2 &&
    decide (p.1 < 96) && decide (p.2 < 96) && (s.eng p.1).ackWait && (s.eng p.2).ackWait

/-- The mark of one episode (R250). -/
def State.episode (s : State) (a b : Nat) : Nat × Nat × W32 × W32 :=
  (min a b, max a b, (s.mbox.row (min a b)).sent, (s.mbox.row (max a b)).sent)

/-! ### The rows of the mailboxes -/

/-- SEND: a write of a channel's SEND register, TAG in bits [23:8] (R241, R245). -/
def execSend (m : Master) (c : Mbox) (v : W32) (s : State) : Out :=
  .next (if s.mailMaster m then s.mailSend m c (v.extractLsb' 8 16) else s.addrFault m)

/-- ACK: a write of a channel's ACK register (R241, R246). -/
def execAck (m : Master) (c : Mbox) (v : W32) (s : State) : Out :=
  .next (if s.mailMaster m then s.mailAck m c (v.setWidth 24) else s.addrFault m)

/-- MAILBOX_LOCK: a write of 1 to LOCKED (R243); refused from other masters (R19). -/
def execMailboxLock (m : Master) (s : State) : Out := .next ((s.mailLock m).getD (s.addrFault m))

/-- CROSSING_DETECTED: a crossing has held for CROSS_LIMIT; once per episode, never with CROSS_LIMIT 0; an engine that has left its WAITE
since has no mark of it, and the episode is a new one (R250). -/
def execCrossingDetected (a b : Mbox) (s : State) : Out :=
  let ep := s.episode a b
  let p := s.mbox.ends a
  if s.crossing a b ∧ s.mbox.crossLimit ≠ 0 ∧ ¬ (ep ∈ (s.eng p.1).crossed ∧ ep ∈ (s.eng p.2).crossed) then
    let s1 := (s.modEng p.1 fun x => { x with crossed := ep :: x.crossed }).modEng p.2 fun x => { x with crossed := ep :: x.crossed }
    .next ({ s1 with mbox := { s1.mbox with crossA := BitVec.ofNat 10 ep.1, crossB := BitVec.ofNat 10 ep.2.1,
                                            crossings := s1.mbox.crossings + 1 } }.raise 228)
  else .next s

end Sys2Proof.Machine
end

