-- ==== Sys2Proof/Machine/Slots.lean ====
section
/-! DEFINITION. The DRAM slot tables (chapter 13, R267 to R274). -/
namespace Sys2Proof.Machine

/-- The default owner of slot k (R272). -/
def defaultOwner (k : Nat) : BitVec 3 :=
  match k % 16 with
  | 0 | 4 | 8 | 12 | 14 => 2
  | 1 | 5 | 9 => 0
  | 2 | 6 | 10 => 1
  | 3 | 11 => 4
  | 7 => 3
  | 13 => 5
  | _ => 6

/-- Owner of slot k in copy B (true) or A (R270). -/
def Slots.owner (t : Slots) (copyB : Bool) (k : Nat) : BitVec 3 :=
  (if copyB then t.b else t.a).look (defaultOwner k) k

/-- A copy holds a class-6 entry (R271). -/
def Slots.hasSix (t : Slots) (copyB : Bool) : Bool := (List.range 128).any fun k => t.owner copyB k == 6

/-- Owner of slot k in a copy replaced. -/
def Slots.setOwner (t : Slots) (copyB : Bool) (k : Nat) (v : BitVec 3) : Slots :=
  if copyB then { t with b := t.b.put k v } else { t with a := t.a.put k v }

/-- A copy that is active or selected by a pending SLOT_SEL (R271). -/
def Slots.inForce (t : Slots) (copyB : Bool) : Bool := t.active == copyB || (t.swapPending && t.sel == copyB)

/-- A write of one entry; refused where it would leave a copy in force without class 6 (R270, R271). -/
def Slots.writeEntry (t : Slots) (copyB : Bool) (k : Nat) (v : BitVec 3) : Option Slots :=
  let n := t.setOwner copyB k v
  if t.inForce copyB ∧ ¬ n.hasSix copyB then none else some n

/-- A write of SLOT_SEL; refused where it selects a copy without class 6 (R270, R271). -/
def Slots.writeSel (t : Slots) (b : Bool) : Option Slots :=
  if t.hasSix b then some { t with sel := b, swapPending := true } else none

/-- The usual class of an access to the DRAM (R267). -/
def usualClass : DramAccess → Fin 7
  | .portRing | .staging | .evidenceHod => 0
  | .unitRead => 1
  | .rootPort => 2
  | .contextRecord | .bindingTable | .contextLog => 3
  | .engine | .commandWord | .list | .statusWord | .hod => 4
  | .hostWindow | .hostCourse => 5

/-- The class of an access: 6 for those made for the last course, from the declaration until LC_DONE (R267). -/
def State.dramClass (s : State) (r : DramRequest) : Fin 7 :=
  if r.lastCourse && s.holdup.declared && !s.holdup.lcOver then 6 else usualClass r.access

/-- A request in its class's queue (R267, R268). -/
def State.dramWait (s : State) (r : DramRequest) : DramWait := { cls := s.dramClass r, bytes := r.bytes, since := r.since }

/-- The classes with a waiting request, each with the wait of its oldest one at a FABCLK cycle (R268, R274). -/
def classWaits (q : List DramWait) (now : Nat) : List (Fin 7 × Nat) :=
  (List.finRange 7).filterMap fun c =>
    match q.filter (·.cls == c) with
    | [] => none
    | r :: rest => some (c, rest.foldl (fun (a : Nat) x => max a (now - x.since)) (now - r.since))

/-- A slot's bytes given to a class's requests in arrival order; what a longer request has left stays first in its class (R268). -/
def serveClass (c : Nat) : Nat → List DramWait → List DramWait
  | _, [] => []
  | n, r :: rest =>
    if r.cls.val ≠ c then r :: serveClass c n rest
    else if n < r.bytes then { r with bytes := r.bytes - n } :: serveClass c 0 rest
    else serveClass c (n - r.bytes) rest

/-- The waiting class whose oldest request has waited longest; among equals the higher class (R268). -/
def oldestClass (w : List (Fin 7 × Nat)) : Option (Fin 7) :=
  (w.foldl (fun best c =>
    match best with
    | none => some c
    | some b => if b.2 < c.2 ∨ (b.2 = c.2 ∧ b.1 < c.1) then some c else some b) none).map (·.1)

/-- The recipient of a slot of an owner: the owner, else after a declaration class 6, else the oldest waiting class; with
whether it is served as owner (R268). -/
def recipient (owner : BitVec 3) (declared : Bool) (w : List (Fin 7 × Nat)) : Option (BitVec 3 × Bool) :=
  if w.any fun c => c.1.val == owner.toNat then some (owner, true)
  else if declared ∧ w.any (fun c => c.1.val == 6) then some (6, false)
  else (oldestClass w).map fun c => (BitVec.ofNat 3 c.val, false)

/-- LONGEST_WAIT raised to the waits now seen (R274). -/
def Slots.noteWaits (t : Slots) (w : List (Fin 7 × Nat)) : Tab W32 :=
  w.foldl (fun m c => m.put c.1.val (BitVec.ofNat 32 (max (m.look 0 c.1.val).toNat (min c.2 0xFFFFFFFF)))) t.longest

/-- A read of the DRAM controller's window (R274). -/
def State.slotRead (s : State) (off : Nat) : Option (W32 × State) :=
  let t := s.slots
  if off = 0 then some (pack [(t.sel.toNat, 0), (t.active.toNat, 1), (t.swapPending.toNat, 2)], s)
  else if off = 4 then some (t.cur.setWidth 32, s)
  else if off = 8 then some (t.frames, s)
  else if 0x100 ≤ off ∧ off < 0x11C then some (t.longest.look 0 ((off - 0x100) / 4), s)
  else if 0x1000 ≤ off ∧ off < 0x1200 then some ((t.owner false ((off - 0x1000) / 4)).setWidth 32, s)
  else if 0x1200 ≤ off ∧ off < 0x1400 then some ((t.owner true ((off - 0x1200) / 4)).setWidth 32, s)
  else none

/-- A write of the DRAM controller's window by master m; none where refused (R271, R274). -/
def State.slotWrite (s : State) (m off : Nat) (v be : W32) : Option State :=
  let t := s.slots
  let put := fun (o : Option Slots) => o.map fun n => { s with slots := n }
  if ¬ s.fw m then none
  else if off = 0 then
    if be.getLsbD 0 then put (t.writeSel (v.getLsbD 0)) else some s
  else if off = 4 ∨ off = 8 ∨ (0x100 ≤ off ∧ off < 0x11C) then some s
  else if 0x1000 ≤ off ∧ off < 0x1200 then
    let k := (off - 0x1000) / 4
    put (t.writeEntry false k ((merge ((t.owner false k).setWidth 32) v be).extractLsb' 0 3))
  else if 0x1200 ≤ off ∧ off < 0x1400 then
    let k := (off - 0x1200) / 4
    put (t.writeEntry true k ((merge ((t.owner true k).setWidth 32) v be).extractLsb' 0 3))
  else none

/-! ### The rows of the slot tables -/

/-- SLOT_START at a FABCLK cycle: the requests that have arrived join their classes' queues; the next slot is given to its owner class or by
the rule of idle slots, and moves up to 4,096 bytes of that class's requests (R267, R268, R270). -/
def execSlotStart (arrivals : SlotArrivals) (s : State) : Out :=
  let k := s.slots.cur + 1
  let q := s.slots.queue ++ arrivals.new.map s.dramWait
  let w := classWaits q arrivals.now
  let r := recipient (s.slots.owner s.slots.active k.toNat) s.holdup.declared w
  .next { s with slots := { s.slots with
    cur := k
    served := r
    queue := match r with | some x => serveClass x.1.toNat 4096 q | none => q
    longest := s.slots.noteWaits w } }

/-- SLOT_SEL: the copy to be active from the next frame boundary (R270, R271). -/
def execSlotSel (m : Master) (v : W32) (s : State) : Out :=
  .next ((s.slotWrite m 0 v 0xFFFFFFFF).getD (s.addrFault m))

/-- FRAME_BOUNDARY: a pending copy becomes active; FRAMES counts (R270, R274). -/
def execFrameBoundary (s : State) : Out :=
  .next { s with slots := { s.slots with
    active := if s.slots.swapPending then s.slots.sel else s.slots.active
    swapPending := false
    frames := s.slots.frames + 1 } }

end Sys2Proof.Machine
end

