-- ==== Sys2Proof/Machine/DictTable.lean ====
section
/-! DEFINITION. The entries of the object dictionary (R299, R300): type, access, default, persistence and range of each,
from the tables of the chapters that own them, and the value in force of a stored entry. -/
namespace Sys2Proof.Machine

/-- Types of R300 by their length: a number (bytes, signed), a Boolean, a visible string, an octet string or domain of
permitted lengths `lo` to `hi`, or of one of the listed lengths. -/
inductive DType
  | num (bytes : Nat) (signed : Bool)
  | bool
  | vstr (max : Nat)
  | octets (lo hi : Nat)
  | lengths (ns : List Nat)
  deriving DecidableEq, Repr

/-- Access kinds of R301. -/
inductive DAccess
  | const | ro | wo | rw | once
  deriving DecidableEq, Repr

/-- Ranges of the entry alone: bounds; 0 or bounds; one of a list; a multiple of a step within bounds; none. -/
inductive DRange
  | any
  | bounds (lo hi : Int)
  | zeroOr (lo hi : Int)
  | oneOf (vs : List Int)
  | step (lo hi k : Int)
  deriving DecidableEq, Repr

/-- One entry. -/
structure DEntry where
  ty      : DType
  acc     : DAccess
  persist : Bool := false
  dflt    : Bytes := []
  range   : DRange := .any
  deriving DecidableEq, Repr

/-- A read-only number of n bytes. -/
def DEntry.ro (n : Nat) (signed : Bool := false) : DEntry := { ty := .num n signed, acc := .ro }
/-- A constant of n bytes. -/
def DEntry.const (n v : Nat) : DEntry := { ty := .num n false, acc := .const, dflt := toLE n v }
/-- A writable persistent number with its default and range. -/
def DEntry.rw (n d : Nat) (r : DRange) (signed : Bool := false) : DEntry :=
  { ty := .num n signed, acc := .rw, persist := true, dflt := toLE n d, range := r }
/-- A writable persistent Boolean, default 0. -/
def DEntry.flag : DEntry := { ty := .bool, acc := .rw, persist := true, dflt := [0] }
/-- A read-only string or domain. -/
def DEntry.roStr (lo hi : Nat) : DEntry := { ty := .octets lo hi, acc := .ro }
/-- A write-only entry. -/
def DEntry.wo (t : DType) : DEntry := { ty := t, acc := .wo }

open DEntry

/-- Lane configuration (R31). -/
def dLane : Nat → Option DEntry
  | 0x01 => some (rw 1 0 (.bounds 0 8))
  | 0x02 => some (rw 4 0x200000 (.step 0x40000 0x1000000 0x10000))
  | 0x03 => some (rw 1 0 (.bounds 0 2))
  | 0x04 => some (rw 1 75 (.bounds 50 100))
  | 0x05 => some (rw 4 10000 (.bounds 100 3600000))
  | 0x06 => some (rw 2 64 (.bounds 0 65535))
  | 0x07 => some (rw 4 1000 (.bounds 100 60000))
  | 0x08 => some (rw 2 64 (.bounds 0 1024))
  | 0x09 => some (rw 2 20 (.bounds 0 500))
  | 0x0A => some (rw 1 0 (.bounds 0 7))
  | 0x0B => some (rw 1 0 (.bounds 0 255))
  | 0x0C => some { ty := .octets 0 128, acc := .rw, persist := true }
  | 0x0D => some (rw 4 3600 (.zeroOr 60 86400))
  | 0x0E => some (ro 4)
  | _ => none

/-- Lane ledger (R54, R88, R428). -/
def dLedger : Nat → Option DEntry
  | 0x01 | 0x02 | 0x03 | 0x04 | 0x05 | 0x06 | 0x08 => some (ro 8)
  | 0x07 => some (roStr 48 48)
  | 0x09 => some (ro 2)
  | _ => none

/-- Lane source binding (R134). -/
def dBinding : Nat → Option DEntry
  | 0x01 | 0x02 | 0x03 | 0x04 => some { ty := .lengths [0, 40], acc := .rw, persist := true }
  | 0x05 => some flag
  | 0x06 => some (ro 1)
  | _ => none

/-- Communication area (R314). -/
def dComm : Nat → Nat → Option DEntry
  | 0x1000, 0 => some (const 4 0)
  | 0x1001, 0 => some (ro 1)
  | 0x1010, 1 => some { ty := .num 4 false, acc := .rw, dflt := toLE 4 1 }
  | 0x1011, 1 => some { ty := .num 4 false, acc := .rw, dflt := toLE 4 1 }
  | 0x1015, 0 => some (rw 2 1000 (.bounds 0 65535))
  | 0x1017, 0 => some (rw 2 1000 (.bounds 0 65535))
  | 0x1018, 1 => some (const 4 0x0A7B)
  | 0x1018, 2 => some (const 4 0x9600)
  | 0x1018, 3 => some (const 4 0x10000)
  | 0x1018, 4 => some { ty := .num 4 false, acc := .const }
  | _, _ => none

/-- The default of SLOT_TABLE (R272): one class per byte. -/
def slotTableDefault : Bytes := (List.range 128).map fun k => (defaultOwner k).setWidth 8

/-- The default of TEMP_CURVE (R425). -/
def tempCurveDefault : Bytes :=
  [(-40, 800, 2800), (-30, 850, 2200), (-20, 900, 1750), (0, 960, 1300), (25, 1000, 1000), (50, 1020, 850),
    (70, 1030, 800), ((85 : Int), 1030, 780)].flatMap fun p =>
      toLE 2 (BitVec.ofInt 16 p.1).toNat ++ toLE 2 p.2.1 ++ toLE 2 p.2.2

/-- Device-wide area (R136, R210 apart, R264, R272, R314, R372, R412). -/
def dDevice : Nat → Nat → Option DEntry
  | 0x2000, 1 => some (ro 1)
  | 0x2000, 2 => some (ro 8)
  | 0x2000, 3 => some (roStr 10 10)
  | 0x2000, 4 => some (ro 1)
  | 0x2000, 5 => some (ro 4)
  | 0x2000, 6 => some { ty := .vstr 64, acc := .rw, persist := true }
  | 0x2001, n => if 1 ≤ n ∧ n ≤ 12 then some (ro 1) else none
  | 0x2002, 1 => some (ro 1)
  | 0x2002, 2 => some (ro 1)
  | 0x2002, 3 => some (ro 1)
  | 0x2002, 4 => some (rw 4 0 (.zeroOr 60 31536000))
  | 0x2002, 5 => some (ro 4)
  | 0x2002, 6 => some (ro 4)
  | 0x2002, 7 => some { ty := .num 1 false, acc := .wo, range := .bounds 0 2 }
  | 0x2002, 8 => some (ro 4)
  | 0x2003, 1 => some (ro 2 true)
  | 0x2003, 2 => some (ro 2 true)
  | 0x2003, 3 => some (rw 1 115 (.bounds 85 120))
  | 0x2003, 4 => some (ro 4)
  | 0x2003, 5 => some (roStr 32 32)
  | 0x2100, 1 => some (ro 4)
  | 0x2100, 2 => some (rw 4 256 (.bounds 0 65536))
  | 0x2100, 3 => some (ro 8)
  | 0x2100, 4 => some (ro 8)
  | 0x2100, 5 => some (ro 4)
  | 0x2100, 6 => some (ro 4)
  | 0x2100, 7 => some { ty := .bool, acc := .ro }
  | 0x2100, 8 => some (ro 8)
  | 0x2100, 9 => some (rw 2 60 (.bounds 10 3600))
  | 0x2100, 0xA => some (rw 4 1024 (.bounds 512 4096))
  | 0x2101, 1 => some (ro 4)
  | 0x2101, 2 => some (ro 1)
  | 0x2101, 3 => some (ro 1)
  | 0x2101, 4 => some (ro 4)
  | 0x2101, 5 => some (wo .bool)
  | 0x2101, 6 => some (ro 1)
  | 0x2101, 7 => some (ro 4)
  | 0x2101, 8 => some (ro 4)
  | 0x2200, 1 => some (rw 2 50 (.bounds 1 65535))
  | 0x2201, 1 => some { ty := .octets 128 128, acc := .rw, persist := true, dflt := slotTableDefault }
  | _, _ => none

/-- Hold-up, horizon and rails (R59, R60, R65, R67, R68, R409). -/
def dHoldup (idx sub : Nat) : Option DEntry :=
  if 0x4100 ≤ idx ∧ idx < 0x4200 then (if sub = 1 then some (rw 1 1 (.bounds 1 255)) else none)
  else match idx, sub with
  | 0x4000, 1 => some (rw 4 50000 (.bounds 1000 500000))
  | 0x4000, 2 => some (rw 2 5400 (.bounds 2500 6000))
  | 0x4000, 3 => some (rw 2 2700 (.bounds 1000 4000))
  | 0x4000, 4 => some (rw 1 85 (.bounds 50 98))
  | 0x4000, 5 => some (rw 4 5000 (.bounds 0 100000))
  | 0x4000, 6 => some (rw 4 4000 (.bounds 500 50000))
  | 0x4000, 7 => some (rw 4 40000 (.bounds 1000 200000))
  | 0x4000, 8 => some (rw 4 9000 (.bounds 1000 9000))
  | 0x4000, 9 => some (rw 8 0x80000000 (.bounds 0x4000000 0x80000000))
  | 0x4000, 0xA => some (rw 4 100000 (.bounds 10000 2000000))
  | 0x4000, 0xB => some { ty := .octets 48 48, acc := .rw, persist := true, dflt := tempCurveDefault }
  | 0x4001, 1 => some (ro 4)
  | 0x4001, 2 => some (ro 4)
  | 0x4001, 3 => some (ro 2 true)
  | 0x4001, 4 => some (roStr 10 10)
  | 0x4001, 5 => some (ro 2)
  | 0x4001, 6 => some (ro 2 true)
  | 0x4001, 7 => some (ro 4)
  | 0x4001, 8 => some (ro 8)
  | 0x4001, 9 => some (ro 1)
  | 0x4002, 1 => some (rw 2 8000 (.bounds 6000 30000))
  | 0x4002, 2 => some (rw 2 500 (.bounds 100 2000))
  | 0x4002, 3 => some (rw 2 250 (.bounds 2 2000))
  | 0x4002, 4 => some (rw 2 3300 .any)
  | 0x4002, 5 => some (rw 2 100 (.bounds 10 10000))
  | 0x4002, 6 => some (ro 4)
  | 0x4002, 7 => some (ro 4)
  | 0x4003, 1 => some (rw 4 12000 (.bounds 2000 100000))
  | 0x4004, n => if 1 ≤ n ∧ n ≤ 8 then some { ty := .octets 44 44, acc := .rw, persist := true, dflt := toLE 44 0 } else none
  | 0x4005, 1 => some (rw 2 365 (.bounds 30 730))
  | 0x4005, 2 => some (rw 4 512 (.bounds 64 4096))
  | 0x4005, 3 => some (wo .bool)
  | 0x4005, 4 => some (roStr 10 10)
  | 0x4005, 5 => some (ro 4)
  | 0x4006, 1 => some (rw 4 1000 (.bounds 250 10000))
  | 0x4010, n => if 1 ≤ n ∧ n ≤ 4 then some (ro 8 true) else if n = 5 then some (roStr 32 32) else none
  | _, _ => none

/-- Security and life cycle (R315, chapter 16). -/
def dSecurity (idx sub : Nat) : Option DEntry :=
  if 0x4840 ≤ idx ∧ idx < 0x4848 then
    (match sub with
     | 1 => some (rw 4 0 .any)
     | 2 => some (roStr 0 97)
     | 3 => some (roStr 224 224)
     | _ => none)
  else match idx, sub with
  | 0x4800, 1 => some (ro 1)
  | 0x4801, 1 => some (roStr 48 48)
  | 0x4801, 2 => some (wo (.octets 97 97))
  | 0x4801, 3 => some (ro 1)
  | 0x4801, 4 => some (wo .bool)
  | 0x4801, 5 => some (rw 2 600 (.bounds 60 3600))
  | 0x4802, n => if 1 ≤ n ∧ n ≤ 4 then some { ty := .octets 97 97, acc := .once, persist := true }
    else if n = 5 then some (rw 1 0 (.bounds 0 15)) else none
  | 0x4810, 1 => some (rw 1 1 (.bounds 0 1))
  | 0x4810, 2 => some (rw 1 0 (.bounds 0 1))
  | 0x4810, 3 => some (const 1 2)
  | 0x4820, 1 => some (roStr 480 480)
  | 0x4820, 2 => some (roStr 48 48)
  | 0x4830, 1 => some (wo (.octets 8 8))
  | 0x4850, 1 => some (roStr 0 97)
  | 0x4850, 2 => some (roStr 0 1024)
  | 0x4860, 1 => some (ro 4)
  | 0x4860, 2 => some (ro 4)
  | 0x4870, n => if 1 ≤ n ∧ n ≤ 4 then some { ty := .octets 48 48, acc := .rw }
    else if n = 5 then some { ty := .num 1 false, acc := .wo, range := .bounds 0 15 }
    else if n = 6 then some { ty := .num 1 false, acc := .rw, range := .bounds 0 64 }
    else if n = 7 then some (ro 4) else none
  | _, _ => none

/-- Recovery ladder and fault counters (R113, R315, R319, R356). -/
def dLadder (idx sub : Nat) : Option DEntry :=
  if 0x5100 ≤ idx ∧ idx < 0x5170 then
    (match sub with
     | 1 => some (rw 1 3 (.bounds 1 15))
     | 2 => some (rw 4 60000 (.bounds 1000 3600000))
     | 3 => some (rw 2 10 (.bounds 1 10000))
     | 4 | 5 | 6 | 7 => some (ro 4)
     | _ => none)
  else match idx, sub with
  | 0x5000, 1 => some (rw 1 3 (.bounds 1 15))
  | 0x5000, 2 => some (rw 4 86400000 (.bounds 60000 604800000))
  | 0x5000, 3 => some (rw 1 3 (.bounds 1 15))
  | 0x5000, 4 => some (rw 1 3 (.bounds 1 15))
  | 0x5000, 5 => some (rw 2 150 (.bounds 0 1500))
  | 0x5000, 6 => some (rw 2 60 (.bounds 1 3600))
  | 0x5000, 7 => some (ro 4)
  | 0x5000, 8 => some (ro 8)
  | 0x5000, 9 => some (rw 4 31536 (.bounds 1 4294967295))
  | 0x5001, 1 => some (rw 2 10 (.bounds 1 1000))
  | 0x5001, 2 => some (rw 2 100 (.bounds 10 10000))
  | 0x5001, 3 => some (rw 2 1000 (.bounds 100 60000))
  | 0x5001, 4 => some (rw 2 2000 (.bounds 500 10000))
  | 0x5001, 5 => some (roStr 16 16)
  | 0x5001, 6 => some (ro 4)
  | 0x5010, 1 => some (ro 8)
  | 0x5010, 2 => some (ro 4)
  | 0x5010, 3 => some (ro 8)
  | 0x5010, 4 => some (ro 4)
  | 0x5010, 5 => some (rw 4 1000 (.bounds 1 4294967295))
  | 0x5020, 1 | 0x5020, 2 | 0x5020, 3 => some (ro 4)
  | 0x5030, 1 | 0x5030, 2 | 0x5030, 3 => some (ro 2)
  | 0x5040, 1 => some (roStr 24 24)
  | _, _ => none

/-- Outside interfaces (R316, R398). 5802h is named twice, as MEMBER0, MEMBER1 and NS_TYPE of wythe 1 (5801h+w, R316)
and as NVME_IO_TIMEOUT and NVME_ADMIN_TIMEOUT (chapter 19): the timeouts are held at 1_5802h (log entry 13). -/
def dOutside (idx sub : Nat) : Option DEntry :=
  if 0x5830 ≤ idx ∧ idx < 0x583A then
    (match sub with
     | 1 => some (rw 1 0 (if idx < 0x5838 then .bounds 0 2 else .oneOf [0, 3, 4, 5]))
     | 2 => some { ty := .lengths [0, 8], acc := .rw, persist := true }
     | 3 => some { ty := .lengths [0, 17], acc := .rw, persist := true }
     | 4 => some flag
     | 5 => some (rw 2 0 (.bounds 0 4094))
     | 6 => some (ro 1)
     | 7 => some (ro 4)
     | _ => none)
  else if 0x5850 ≤ idx ∧ idx < 0x5854 then
    (match sub with
     | 1 => some (rw 1 0 (.bounds 0 2))
     | 2 => some (rw 4 48000 (.oneOf [16000, 32000, 48000]))
     | 3 => some (rw 1 16 (.bounds 1 16))
     | 4 => some (rw 1 32 (.oneOf [16, 24, 32]))
     | 5 => some (rw 1 4 (.bounds 2 4))
     | 6 => some (rw 1 0 (.bounds 0 2))
     | 7 => some (rw 1 10 (.bounds 1 20))
     | _ => none)
  else if 0x5861 ≤ idx ∧ idx < 0x5864 then
    (match sub with
     | 1 => some (rw 1 2 (.bounds 0 2))
     | 2 => some (rw 4 500000 (.bounds 125000 1000000))
     | 3 => some (rw 4 2000000 (.bounds 1000000 8000000))
     | _ => none)
  else match idx, sub with
  | 0x5800, 1 => some (rw 1 3 (.bounds 0 3))
  | 0x5800, 2 => some (ro 1)
  | 0x5800, 3 => some (rw 1 0 (.bounds 0 31))
  | 0x5801, 1 | 0x5801, 2 | 0x5802, 1 | 0x5802, 2 => some (rw 8 0 .any)
  | 0x5801, 3 | 0x5802, 3 => some (ro 1)
  | 0x15802, 1 => some (rw 2 2000 (.bounds 100 30000))
  | 0x15802, 2 => some (rw 2 10000 (.bounds 1000 60000))
  | 0x5810, 1 => some (rw 1 1 (.bounds 1 127))
  | 0x5810, 2 => some (rw 4 500000 (.bounds 125000 1000000))
  | 0x5810, 3 => some (rw 4 2000000 (.bounds 1000000 8000000))
  | 0x5810, 4 => some (ro 4)
  | 0x5811, 1 => some (rw 2 0 (.bounds 0 0x3FF))
  | 0x5811, 2 => some (ro 4)
  | 0x5811, 3 => some (ro 1)
  | 0x5820, 1 => some (rw 1 1 (.bounds 0 3))
  | 0x5820, 2 => some (rw 2 0 (.bounds 0 0x3FF))
  | 0x5820, 3 => some (rw 1 0 (.bounds 0 127))
  | 0x5820, 4 => some flag
  | 0x5820, 5 => some (rw 4 300 (.bounds 10 86400))
  | 0x5820, 6 => some (rw 2 10 (.bounds 1 1000))
  | 0x5820, 7 => some (wo (.octets 10 10))
  | 0x5820, 8 => some (ro 4 true)
  | 0x5820, 9 => some (ro 4)
  | 0x5840, 1 => some (rw 1 0xFF .any)
  | 0x5840, 2 => some (ro 4)
  | 0x5870, 1 => some (rw 4 0 .any)
  | 0x5870, 2 => some (rw 1 10 .any)
  | 0x5870, 3 => some (rw 4 1000 (.bounds 1000 1000000))
  | 0x5870, 4 => some (rw 2 1024 (.step 128 16256 128))
  | 0x5870, 5 => some (rw 4 0 .any)
  | 0x5880, 1 => some (rw 4 400000 (.oneOf [100000, 400000, 1000000]))
  | 0x5880, 2 => some (rw 4 400000 (.oneOf [100000, 400000, 1000000]))
  | _, _ => none

/-- Host queues (R280, R417). -/
def dHost (idx sub : Nat) : Option DEntry :=
  if 0x6400 ≤ idx ∧ idx < 0x6800 then
    (if sub = 1 then some (rw 1 (1 + (idx - 0x6400) % 11) (.bounds 1 11)) else none)
  else match idx, sub with
  | 0x6000, 1 => some (ro 2)
  | 0x6000, 2 => some (ro 8)
  | 0x6000, 3 => some (ro 4)
  | 0x6000, 4 => some (ro 4)
  | 0x6002, 1 => some (ro 2)
  | 0x6002, 2 => some (ro 8)
  | 0x6002, 3 => some (ro 4)
  | _, _ => none

/-- Retention classes and object requests (R317, R318). -/
def dRetention (idx sub : Nat) : Option DEntry :=
  if 0x6800 ≤ idx ∧ idx < 0x6900 then
    (match sub with
     | 1 => some (rw 4 0 (.bounds 0 876000))
     | 2 => some flag
     | 3 => some { ty := .vstr 32, acc := .rw, persist := true }
     | _ => none)
  else match idx, sub with
  | 0x6F00, 1 => some (wo (.octets 8 8))
  | 0x6F00, 2 => some (ro 4)
  | _, _ => none

/-- Firmware and decode table (R210, R320). -/
def dFirmware : Nat → Nat → Option DEntry
  | 0x7000, 1 => some (ro 1)
  | 0x7000, 2 => some (ro 4)
  | 0x7000, 3 => some (roStr 48 48)
  | 0x7000, 4 => some (rw 4 0 .any)
  | 0x7000, 5 => some (ro 4)
  | 0x7001, 1 => some (wo (.octets 1 0xFFFFFFFF))
  | 0x7001, 2 => some (wo .bool)
  | 0x7010, 1 => some (roStr 48 48)
  | 0x7010, 2 => some (ro 4)
  | 0x7010, 3 => some (rw 4 0 .any)
  | 0x7010, 4 => some (ro 2)
  | 0x7010, 5 => some (ro 4)
  | _, _ => none

/-- The listed entry of an index and sub-index (R299). -/
def dictListed (idx sub : Nat) : Option DEntry :=
  if idx < 0x2000 then dComm idx sub
  else if idx < 0x3000 then dDevice idx sub
  else if idx < 0x3100 then dLane sub
  else if idx < 0x3200 then dLedger sub
  else if idx < 0x3300 then dBinding sub
  else if idx < 0x4000 then none
  else if idx < 0x4800 then dHoldup idx sub
  else if idx < 0x5000 then dSecurity idx sub
  else if idx < 0x5800 then dLadder idx sub
  else if idx < 0x6000 then dOutside idx sub
  else if idx < 0x6800 then dHost idx sub
  else if idx < 0x7000 then dRetention idx sub
  else if idx < 0x8000 then dFirmware idx sub
  else dOutside idx sub

/-- The key of an entry in the table of values. -/
def dictKey (idx sub : Nat) : Nat := 256 * idx + sub

/-- The value in force of a stored entry: as last set, or its default (R301). -/
def State.dictBytes (s : State) (idx sub : Nat) : Bytes :=
  s.dict.vals.look (match dictListed idx sub with | some e => e.dflt | none => []) (dictKey idx sub)

/-- The value in force of a stored number. -/
def State.cfg (s : State) (idx sub : Nat) : Nat := leNat (s.dictBytes idx sub)

/-- A stored entry set. -/
def State.setDict (s : State) (idx sub : Nat) (v : Bytes) : State :=
  { s with dict := { s.dict with vals := s.dict.vals.put (dictKey idx sub) v } }

/-- Lane configuration entry `sub` of lane l (R31). -/
def State.laneCfg (s : State) (l sub : Nat) : Nat := s.cfg (0x3000 + l) sub

end Sys2Proof.Machine
end

