-- ==== Sys2Proof/Machine/Mortar.lean ====
section
/-! DEFINITION. The mortar arbiter and pool (chapter 13, R256 to R266, R430). -/
namespace Sys2Proof.Machine

/-- The pool a job needs: the ECDSA units for SIGN, VERIFY, coping and razing signatures, else the SHA-384 units
(R259, R260). -/
def JobKind.ecdsa : JobKind → Bool
  | .seal _ => false
  | .cope _ => true
  | .soft op .. => op != 1
  | .verify _ record => record

/-- The units of a pool: 0 to 7 SHA-384, 8 and 9 ECDSA (R265). -/
def unitsOf (ecdsa : Bool) : List (Fin 10) := if ecdsa then [8, 9] else [0, 1, 2, 3, 4, 5, 6, 7]

/-- Input i. -/
def Mortar.row (m : Mortar) (i : Nat) : InputRow := m.input.look {} i

/-- A unit holds a job. -/
def Mortar.busy (m : Mortar) (u : Fin 10) : Bool := m.input.any fun r => r.2.jobs.any fun j => j.unit == some u

/-- The input and job holding unit u. -/
def Mortar.holder (m : Mortar) (u : Fin 10) : Option (Nat × Job) :=
  m.input.findSome? fun r => (r.2.jobs.find? fun j => j.unit == some u).map fun j => (r.1, j)

/-- A job waits for the pool. -/
def Job.waits (j : Job) (ecdsa : Bool) : Bool := j.unit.isNone && j.kind.ecdsa == ecdsa

/-- The first waiting job of a pool gets unit u (R260, R261). -/
def grantFirst (ecdsa : Bool) (u : Fin 10) (no : Nat) : List Job → List Job
  | [] => []
  | j :: r => if j.waits ecdsa then { j with unit := some u, order := no } :: r else j :: grantFirst ecdsa u no r

/-- A grant on input i (R261). -/
def Mortar.grant (m : Mortar) (ecdsa : Bool) (i : Nat) (u : Fin 10) : Mortar :=
  let r := m.row i
  { m with input := m.input.put i { r with jobs := grantFirst ecdsa u m.grantNo r.jobs, grants := r.grants + 1 }
           grantNo := m.grantNo + 1 }

/-- The unit most recently granted to an input within a pool (R261). -/
def lastGranted (ecdsa : Bool) (l : List Job) : Option Job :=
  (l.filter fun j => j.unit.isSome && j.kind.ecdsa == ecdsa).foldl (fun best j =>
    match best with
    | none => some j
    | some b => if b.order < j.order then some j else some b) none

/-- A revocation on input i: the job discards its unit and returns first among the waiting jobs (R261, R262). -/
def Mortar.revoke (m : Mortar) (i : Nat) (j : Job) : Mortar :=
  let r := m.row i
  let q := { r with jobs := { j with unit := none } :: r.jobs.erase j, revoked := r.revoked + 1 }
  { m with input := m.input.put i q }

/-- The lowest input below i that holds a unit of the pool, and the job most recently granted to it (R261). -/
def Mortar.victim (m : Mortar) (ecdsa : Bool) (i : Nat) : Option (Nat × Job) :=
  (List.range i).findSome? fun j => (lastGranted ecdsa (m.row j).jobs).map fun b => (j, b)

/-- One turn of the loop for input i: a free unit, or one revoked from the lowest holder (R261). -/
def Mortar.serve (m : Mortar) (ecdsa : Bool) (i : Nat) : Mortar :=
  if (m.row i).jobs.any (·.waits ecdsa) then
    match (unitsOf ecdsa).find? fun u => !m.busy u with
    | some u => m.grant ecdsa i u
    | none =>
      match m.victim ecdsa i with
      | some (j, b) =>
        match b.unit with
        | some u => (m.revoke j b).grant ecdsa i u
        | none => m
      | none => m
  else m

/-- The arbitration of one cycle over both pools, input 15 first (R261). -/
def Mortar.arbitrate (m : Mortar) : Mortar :=
  [false, true].foldl (fun m p =>
    (List.range 16).foldl (fun m k => iterate (fun m => m.serve p (15 - k)) 8 m) m) m

/-- Age of a job in microseconds by TNOW: from its entry into its queue on, revocations included (R264). -/
def Job.age (j : Job) (now : BitVec 48) : Nat := (now - j.since).toNat * 10 / 768

/-- A waiting job is older than STARVE_LIMIT: by TNOW, or since STARVATION_DETECTED said so (R264). -/
def Job.starves (j : Job) (limit : Nat) (now : BitVec 48) : Bool := j.unit.isNone && (j.starved || decide (limit < j.age now))

/-- STARVING as the waiting jobs give it (R264). -/
def Mortar.starvingNow (m : Mortar) (now : BitVec 48) : BitVec 15 :=
  BitVec.ofNat 15 ((List.range 15).foldl (fun a i =>
    if (m.row i).jobs.any fun j => j.starves m.starveLimit.toNat now then a + 2 ^ i else a) 0)

/-- The arbiter after a change: arbitration, then STARVING, raising 192 + i for each bit that becomes set
(R261, R264). -/
def State.mortarTurn (s : State) (m : Mortar) : State :=
  let a := if s.inRung2 0x58 then m else m.arbitrate
  let now := a.starvingNow s.tnow
  let new := now &&& ~~~s.mortar.starving
  (List.range 15).foldl (fun s i => if new.getLsbD i then s.raise (192 + i) else s)
    { s with mortar := { a with starving := now } }

/-- The input has a free queue entry (R257). -/
def Mortar.room (m : Mortar) (i : Nat) : Bool := decide ((m.row i).jobs.length < 8)

/-- A job takes an entry of input i's queue (R257). -/
def State.queueJob (s : State) (i : Nat) (j : Job) : State :=
  let r := s.mortar.row i
  { s with mortar := { s.mortar with input := s.mortar.input.put i { r with jobs := r.jobs ++ [{ j with since := s.tnow }] } } }

/-- The arbiter's decision behind the requests and the freed units of one cycle (R261, R263). -/
def State.turnNow (s : State) : State := s.mortarTurn s.mortar

/-- A job enters input i's queue (R257). -/
def State.enqueueJob (s : State) (i : Nat) (j : Job) : State := (s.queueJob i j).turnNow

/-- A job that holds unit u leaves its input, which counts it completed; its unit is given away together with the requests of the same
cycle (R259, R263, R265). -/
def State.finishJob (s : State) (i : Nat) (j : Job) : State :=
  let r := s.mortar.row i
  let q := { r with jobs := r.jobs.erase j, completed := r.completed + 1 }
  { s with mortar := { s.mortar with input := s.mortar.input.put i q } }

/-- The granted job of a kind, with its input (used by the lane's own completions). -/
def Mortar.grantedJob (m : Mortar) (k : JobKind) : Option (Nat × Job) :=
  m.input.findSome? fun r => (r.2.jobs.find? fun j => j.kind == k && j.unit.isSome).map fun j => (r.1, j)

/-- A job of that kind is in some queue. -/
def Mortar.hasJob (m : Mortar) (k : JobKind) : Bool := m.input.any fun r => r.2.jobs.any fun j => j.kind == k

/-! ### Software jobs (R258, R259) -/

/-- A descriptor's fields (R258). -/
structure JobDesc where
  op   : BitVec 4
  key  : BitVec 3
  tag  : BitVec 16
  len  : Nat
  src  : DevAddr
  dst  : DevAddr
  sig  : DevAddr
  reservedOk : Bool
  deriving DecidableEq, Repr

/-- The 32 bytes of a descriptor as fields; KEY_SLOT is reserved except for SIGN, SIG except for VERIFY (R258). -/
def readJobDesc (b : Bytes) : JobDesc :=
  let w := BitVec.ofNat 256 (leNat b)
  let op : BitVec 4 := w.extractLsb' 0 4
  { op := op, key := w.extractLsb' 4 3, tag := w.extractLsb' 16 16, len := bits w 32 32,
    src := w.extractLsb' 64 35, dst := w.extractLsb' 128 35, sig := w.extractLsb' 192 35,
    reservedOk := decide (bits w 7 9 = 0) && decide (bits w 99 29 = 0) && decide (bits w 163 29 = 0) &&
      decide (bits w 227 29 = 0) && (op == 2 || decide (bits w 4 3 = 0)) && (op == 3 || decide (bits w 192 35 = 0)) }

/-- Sealing key slot n holds a key (R331). -/
def State.slotHoldsKey (s : State) (n : Nat) : Bool := decide (s.cfg (0x4840 + n) 1 ≠ 0) && !s.sec.fuse.sealDestroyed

/-- The private scalar of a slot under an epoch (R331). -/
def State.scalarOf (s : State) (n : Nat) (epoch : W32) : BitVec 384 :=
  Config.deriveKey (toBE 48 s.sec.fuse.secret.toNat) (toLE 4 s.sec.fuse.serial.toNat)
    ([0x53, 0x59, 0x4E, 0x53] ++ toLE 1 n ++ toLE 4 epoch.toNat)

/-- The private scalar of a slot (R331). -/
def State.slotScalar (s : State) (n : Nat) : BitVec 384 := s.scalarOf n (BitVec.ofNat 32 (s.cfg (0x4840 + n) 1))

/-- The checks of R259 in their order; 0 where all pass. `sign` says that the submitter may sign here. -/
def State.jobStatus (s : State) (d : JobDesc) (sign : Bool) : Status :=
  if d.dst.toNat % 8 ≠ 0 ∨ (d.op = 3 ∧ d.sig.toNat % 8 ≠ 0) then 0x0102
  else if ¬ devRangeOk d.src.toNat d.len false ∨ ¬ devRangeOk d.dst.toNat 104 true ∨
      (d.op = 3 ∧ ¬ devRangeOk d.sig.toNat 193 false) then 0x0103
  else if ¬ d.reservedOk then 0x0104
  else if ¬ ((d.op = 1 ∧ 1 ≤ d.len ∧ d.len ≤ 0x1000000) ∨ ((d.op = 2 ∨ d.op = 3) ∧ 1 ≤ d.len ∧ d.len ≤ 4096)) then 0x0107
  else if d.op = 2 ∧ ¬ sign then 0x0801
  else if d.op = 2 ∧ ¬ s.slotHoldsKey d.key.toNat then 0x0804
  else 0

/-- The completion word of a job (R259). -/
def completionWord (status : Status) (tag : BitVec 16) (input : Nat) : Bytes :=
  toLE 8 (status.toNat + tag.toNat * 2 ^ 16 + input * 2 ^ 32)

/-- The first two checks pass for DST, so that a completion word can be written (R259). -/
def dstOk (d : JobDesc) : Bool := decide (d.dst.toNat % 8 = 0) && devRangeOk d.dst.toNat 104 true

/-- What follows a job's end: EVL bit 19 of its engine, the completion of its host entry (R259, R282). -/
def State.jobNotice (s : State) (engine : Option Eng) : State :=
  match engine with
  | some e => s.markWarm e.val 19
  | none => s

/-- A rejected job: completion word, or REJECT_STATUS and REJECT_TAG; source 207; EVL bit 19 (R259). -/
def State.jobRejected (s : State) (d : JobDesc) (st : Status) (input : Nat) (engine : Option Eng) : State :=
  let s1 := if dstOk d then s.setBytes (d.dst.toNat + 0x60) (completionWord st d.tag input)
    else { s with mortar := { s.mortar with rejectStatus := st, rejectTag := d.tag } }
  (s1.raise 207).jobNotice engine

/-- A submission on input i whose address is accepted: refused while the queue is full, else checked and queued
(R257, R259). -/
def State.submitJob (s : State) (i : Nat) (addr : Nat) (sign : Bool) (engine : Option Eng) (host : Option EntryRef) : State :=
  if ¬ s.mortar.room i then
    let r := s.mortar.row i
    { s with mortar := { s.mortar with input := s.mortar.input.put i { r with subRefused := r.subRefused + 1 } } }.raise 207
  else
    let d := readJobDesc (s.devBytes addr 32)
    let st := s.jobStatus d sign
    if st ≠ 0 then s.jobRejected d st i engine
    else s.enqueueJob i { kind := .soft d.op d.key d.len d.src d.dst d.sig, tag := d.tag, engine := engine, host := host }

/-- A descriptor address is accepted: 32-byte aligned in general DRAM (R258, R266, R430). -/
def jobAddrOk (a : Nat) : Bool := decide (a % 32 = 0) && decide (a + 31 < 0x370000000)

/-- A submission by an engine on its tile's input (R256, R266). -/
def State.submitEngine (s : State) (e : Nat) (hi : BitVec 11) : State :=
  let a := (hi ++ (s.eng e).submitLo).toNat
  if jobAddrOk a then s.submitJob (tileOf e) a (decide (e < 8)) (some (Fin.ofNat 96 e)) none else s.addrFault e

/-- SUBMIT12_HI held for a master (R430). -/
def State.heldHi (s : State) (m : Nat) : BitVec 3 :=
  if m < 96 then (s.eng m).submit12Hi else s.mortar.submit12Hi.look 0 m

/-- A write of SUBMIT12_HI by a master (R430). -/
def State.setHeldHi (s : State) (m : Nat) (v : BitVec 3) : State :=
  if m < 96 then s.modEng m fun x => { x with submit12Hi := v }
  else { s with mortar := { s.mortar with submit12Hi := s.mortar.submit12Hi.put m v } }

/-- A write of SUBMIT12_LO: a submission on input 12 (R430). -/
def State.submit12 (s : State) (m : Nat) (lo : W32) : State :=
  let a := (s.heldHi m ++ lo).toNat
  if jobAddrOk a then
    s.submitJob 12 a false (if m < 96 then some (Fin.ofNat 96 m) else none) none
  else s.addrFault m

/-- What a completed software job places at DST, and its status (R259). -/
def State.jobResult (s : State) (k : JobKind) : Bytes × Status :=
  match k with
  | .soft op key len src _ sig =>
    if op = 1 then (toBE 48 (Config.sha384 (s.devBytes src.toNat len)).toNat, 0)
    else if op = 2 then (toBE 96 (Config.ecdsaSign (s.slotScalar key.toNat) (s.devBytes src.toNat len)).toNat, 0)
    else
      let b := s.devBytes sig.toNat 193
      ([], if Config.ecdsaVerify (b.drop 96) (s.devBytes src.toNat len) (b.take 96) then 0 else 0x0304)
  | _ => ([], 0)

/-- A software job's completion: result at DST, then the completion word, then EVL bit 19 (R259). -/
def State.jobDone (s : State) (i : Nat) (j : Job) : State × Status :=
  match j.kind with
  | .soft _ _ _ _ dst _ =>
    let r := s.jobResult j.kind
    let s1 := (s.setBytes dst.toNat r.1).setBytes (dst.toNat + 0x60) (completionWord r.2 j.tag i)
    ((s1.finishJob i j).jobNotice j.engine, r.2)
  | _ => (s, 0)

/-! ### Registers (R265, R266) -/

/-- OLDEST_AGE of an input: the greatest age of its waiting jobs (R265). -/
def InputRow.oldestAge (r : InputRow) (now : BitVec 48) : W32 :=
  BitVec.ofNat 32 ((r.jobs.filter (·.unit.isNone)).foldl (fun (a : Nat) j => max a (min (j.age now) 0xFFFFFFFF)) 0)

/-- STARVE_LIMIT written: the entry 2200h:01h has the same value; what is past a limit is judged by the new one (R264, R265). -/
def State.setStarveLimit (s : State) (v : BitVec 16) : State :=
  let x : BitVec 16 := if v = 0 then 1 else v
  let t := s.setDict 0x2200 1 (toLE 2 x.toNat)
  t.mortarTurn { t.mortar with
    starveLimit := x
    input := t.mortar.input.map fun (e : Nat × InputRow) =>
      (e.1, if s.mortar.starveLimit.toNat < x.toNat then { e.2 with jobs := e.2.jobs.map fun j => { j with starved := false } } else e.2) }

/-- A read of the arbiter's window (R265). -/
def State.mortarRead (s : State) (off : Nat) : Option (W32 × State) :=
  let m := s.mortar
  if off = 0 then some (m.starveLimit.setWidth 32, s)
  else if off = 4 then some (m.starving.setWidth 32, s)
  else if off = 8 then some (pack [(m.rejectStatus.toNat, 0), (m.rejectTag.toNat, 16)], s)
  else if off = 0x10 ∨ off = 0x14 then some (0, s)
  else if 0x100 ≤ off ∧ off < 0x300 then
    let r := m.row ((off - 0x100) / 32)
    let g := (r.jobs.filter (·.unit.isSome)).length
    if off % 32 = 0 then some (pack [(r.jobs.length - g, 0), (g, 4)], s)
    else if off % 32 = 4 then some (r.grants, s)
    else if off % 32 = 8 then some (r.revoked, s)
    else if off % 32 = 0xC then some (r.completed, s)
    else if off % 32 = 0x10 then some (r.subRefused, s)
    else if off % 32 = 0x14 then some (r.oldestAge s.tnow, s)
    else none
  else if 0x400 ≤ off ∧ off < 0x428 then
    match m.holder (Fin.ofNat 10 ((off - 0x400) / 4)) with
    | some (i, _) => some (pack [(i, 0), (1, 4)], s)
    | none => some (0, s)
  else none

/-- A write of the arbiter's window by master m; none where refused (R265, R430). -/
def State.mortarWrite (s : State) (m off : Nat) (v be : W32) : Option State :=
  if ¬ s.fw m then none
  else if off = 0 then
    some (s.setStarveLimit ((merge (s.mortar.starveLimit.setWidth 32) v be).extractLsb' 0 16))
  else if off = 0x10 then some (s.submit12 m (v &&& be))
  else if off = 0x14 then some (s.setHeldHi m ((v &&& be).extractLsb' 0 3))
  else if off = 4 ∨ off = 8 then some s
  else if 0x100 ≤ off ∧ off < 0x300 ∧ off % 32 < 0x18 then some s
  else if 0x400 ≤ off ∧ off < 0x428 then some s
  else none

/-- A read of engine e's mortar words (R266). -/
def State.mortarPortRead (s : State) (e off : Nat) : Option (W24 × State) :=
  if off = 0 ∨ off = 1 then some (0, s)
  else if off = 2 then some (BitVec.ofNat 24 (8 - (s.mortar.row (tileOf e)).jobs.length), s)
  else none

/-- A write of engine e's mortar words (R266). -/
def State.mortarPortWrite (s : State) (e off : Nat) (v : W24) : Option State :=
  if off = 0 then some (s.modEng e fun x => { x with submitLo := v })
  else if off = 1 then some (s.submitEngine e (v.extractLsb' 0 11))
  else if off = 2 then some s
  else none

/-! ### The rows of the arbiter -/

/-- SUBMIT_HI: an engine's write submits on its tile's input (R266). -/
def execSubmitHi (e : Eng) (v : W32) (s : State) : Out := .next (s.submitEngine e (v.extractLsb' 0 11))

/-- SUBMIT12_LO: a write submits on input 12, masters 0 to 7 and the open debug port (R265, R430). -/
def execSubmit12Lo (m : Master) (v : W32) (s : State) : Out :=
  .next (if s.fw m then s.submit12 m v else s.addrFault m)

/-- The first waiting job of an age is marked as past STARVE_LIMIT. -/
def starveAged (now : BitVec 48) (age : Nat) : List Job → List Job
  | [] => []
  | j :: r => if j.unit.isNone && j.age now == age then { j with starved := true } :: r else j :: starveAged now age r

/-- The oldest waiting job of an input is marked as past STARVE_LIMIT (R264). -/
def starveOldest (now : BitVec 48) (l : List Job) : List Job :=
  starveAged now ((l.filter (·.unit.isNone)).foldl (fun (a : Nat) j => max a (j.age now)) 0) l

/-- STARVATION_DETECTED: input i's oldest waiting job passes STARVE_LIMIT; STARVING bit and source 192 + i (R264). -/
def execStarvationDetected (i : Fin 15) (s : State) : Out :=
  let r := s.mortar.row i
  .next (s.mortarTurn { s.mortar with input := s.mortar.input.put i { r with jobs := starveOldest s.tnow r.jobs } })

end Sys2Proof.Machine
end

