-- ==== Sys2Proof/Machine/Holdup.lean ====
section
/-! DEFINITION. The hold-up controller: horizon, shares, hold-up-inadequate, charge ledger (chapter 03, R58 to R67). -/
namespace Sys2Proof.Machine

/-! ### EMCY messages (R307) -/

/-- An EMCY event: its error register bit is set, or cleared; the message is sent unless it falls within the inhibit time of
the previous one (R307). -/
def State.emcy (s : State) (code : BitVec 16) (bit : Nat) (on : Bool) (source : Nat) (status : Status) : State :=
  let mask : BitVec 8 := BitVec.ofNat 8 (2 ^ bit)
  let reg := if on then s.dict.errorReg ||| mask else s.dict.errorReg &&& ~~~mask
  let soon := match s.dict.emcyAt with
    | none => false
    | some t => decide ((s.tnow - t).toNat < 7680 * s.cfg 0x1015 0)
  { s with dict := { s.dict with
      errorReg := reg
      emcyAt := if soon then s.dict.emcyAt else some s.tnow
      emcySuppressed := if soon then satAdd s.dict.emcySuppressed 1 else s.dict.emcySuppressed
      emcy := if soon then s.dict.emcy else s.dict.emcy ++ [(code, reg, BitVec.ofNat 8 source, status)] } }

/-! ### Exact fractions -/

/-- A fraction of a positive denominator. -/
structure Frac where
  num : Int
  den : Nat := 1
  deriving DecidableEq, Repr

def Frac.mul (a b : Frac) : Frac := { num := a.num * b.num, den := a.den * b.den }
def Frac.sub (a b : Frac) : Frac := { num := a.num * b.den - b.num * a.den, den := a.den * b.den }
def Frac.add (a b : Frac) : Frac := { num := a.num * b.den + b.num * a.den, den := a.den * b.den }
/-- A quotient by 0, on which the spec states nothing: a free value of the dividend (log entry 105). -/
def Frac.byZero (a : Frac) : Frac := { num := (Config.quotientByZero a.num).1, den := (Config.quotientByZero a.num).2 + 1 }
/-- Quotient by a number. -/
def Frac.over (a : Frac) (n : Nat) : Frac := if n = 0 then a.byZero else { num := a.num, den := a.den * n }
/-- Quotient by a fraction that is not negative. -/
def Frac.div (a b : Frac) : Frac := if b.num.toNat = 0 then a.byZero else { num := a.num * b.den, den := a.den * b.num.toNat }
def Frac.le (a b : Frac) : Bool := decide (a.num * b.den ≤ b.num * a.den)
def Frac.min (a b : Frac) : Frac := if a.le b then a else b
def Frac.max (a b : Frac) : Frac := if a.le b then b else a
def Frac.floor (a : Frac) : Int := a.num / (a.den : Int)

/-! ### The temperature curve (R59, R425) -/

/-- Point n of TEMP_CURVE: temperature, cfac, rfac. -/
def curvePoint (b : Bytes) (n : Nat) : Int × Int × Int :=
  ((BitVec.ofNat 16 (fieldAt b (6 * n) 2)).toInt, fieldAt b (6 * n + 2) 2, fieldAt b (6 * n + 4) 2)

/-- A factor at temperature t: linear between points, flat outside them (R59). -/
def curveAt (b : Bytes) (f : Int × Int × Int → Int) (t : Int) : Frac :=
  let p := curvePoint b
  if t ≤ (p 0).1 then { num := f (p 0) }
  else
    match (List.range 7).find? fun n => decide ((p n).1 < t) && decide (t ≤ (p (n + 1)).1) with
    | some n =>
      let dt := (p (n + 1)).1 - (p n).1
      { num := f (p n) * dt + (f (p (n + 1)) - f (p n)) * (t - (p n).1), den := dt.toNat }
    | none => { num := f (p 7) }

/-! ### The horizon (R58) -/

/-- C_MEAS, C_NOMINAL until the first bank test, in mF (R59). -/
def State.cMeas (s : State) : Nat := match s.holdup.cMeas with | some c => c.toNat | none => s.cfg 0x4000 1

/-- The bank's capacitance corrected for temperature, in mF (R58). -/
def State.bankC (s : State) : Frac :=
  let b := s.dictBytes 0x4000 0xB
  let f := fun t => curveAt b (·.2.1) t
  (Frac.min { num := 1 } ((f s.holdup.tbank.toInt).div (f s.holdup.tMeas.toInt))).mul { num := s.cMeas }

/-- The bank's ESR corrected for temperature, in µΩ (R58). -/
def State.bankEsr (s : State) : Frac :=
  let b := s.dictBytes 0x4000 0xB
  let f := fun t => curveAt b (·.2.2) t
  (Frac.max { num := 1 } ((f s.holdup.tbank.toInt).div (f s.holdup.tMeas.toInt))).mul { num := s.holdup.esrMeas.toNat }

/-- v_floor in mV: VMIN raised by the ESR drop at the last course's end-of-discharge current (R58). -/
def State.vFloor (s : State) : Frac :=
  let vmin := s.cfg 0x4000 3
  (Frac.add { num := vmin } (((s.bankEsr.mul { num := 100 * s.cfg 0x4000 8 }).over (s.cfg 0x4000 4 * vmin)).over 1000))

/-- e_use in nanojoules at a bank voltage in mV (R58). -/
def State.eUse (s : State) (v : Nat) : Frac :=
  let fl := s.vFloor
  if Frac.le { num := v } fl then { num := 0 }
  else (s.bankC.mul (Frac.sub { num := v * v } (fl.mul fl))).mul { num := s.cfg 0x4000 4, den := 200 }

/-- A 4004h entry's MODEL and E_B (R65). -/
def State.ebEntry (s : State) (n : Nat) : Bytes × Nat :=
  let b := s.dictBytes 0x4004 (n + 1)
  (slice b 0 40, fieldAt b 40 4)

/-- A model number without trailing spaces (R65). -/
def trimModel (b : Bytes) : Bytes := (b.reverse.dropWhile (· == 0x20)).reverse

/-- Entry n holds a model. -/
def State.ebUsed (s : State) (n : Nat) : Bool := (s.ebEntry n).1.any (· != 0)

/-- The model numbers of the configured SSDs (R65). -/
def State.ssdModels (s : State) : List Bytes :=
  ((List.range 4).filter fun m => s.wythes.configured.getLsbD (m / 2) && (s.wythes.member.look {} m).ready).map fun m =>
    trimModel (s.holdup.model.look [] (bits (s.wythes.member.look {} m).entry 0 2))

/-- Entry n's MODEL matches a configured SSD (R65). -/
def State.ebMatches (s : State) (n : Nat) : Bool := s.ebUsed n && s.ssdModels.contains (trimModel (s.ebEntry n).1)

/-- e_B in pJ per byte (R65). -/
def State.eB (s : State) : Nat :=
  match (List.range 8).filter s.ebMatches with
  | [] => s.cfg 0x4003 1
  | l => l.foldl (fun e n => Nat.max e (s.ebEntry n).2) 0

/-- e_reserve in nanojoules: P_RIDE × T_DECLARE + E_GUARD (R58). -/
def State.eReserve (s : State) : Int := (s.cfg 0x4000 7 * s.cfg 0x4002 3 * 1000 + s.cfg 0x4000 5 * 1000000 : Nat)

/-- H at a bank voltage (R58). -/
def State.horizonAt (s : State) (v : Nat) : Nat :=
  let spare := Frac.sub (s.eUse v) { num := s.eReserve + (s.cfg 0x4000 6 * 1000000 : Nat) }
  Nat.min (((spare.mul { num := 1000 }).over s.eB).floor.toNat) (s.cfg 0x4000 9)

/-! ### Shares (R60) -/

/-- A lane's part of the state. -/
def State.lane (s : State) (l : Nat) : LaneSt := s.lanes.look {} l

/-- Lane l replaced. -/
def State.setLane (s : State) (l : Nat) (x : LaneSt) : State := { s with lanes := s.lanes.put l x }

/-- Lane l changed by `f`. -/
def State.modLane (s : State) (l : Nat) (f : LaneSt → LaneSt) : State := s.setLane l (f (s.lane l))

/-- HOLD_WEIGHT of lane l (R60). -/
def State.weight (s : State) (l : Nat) : Nat := s.cfg (0x4100 + l) 1

/-- The active lanes (R60). -/
def State.activeLanes (s : State) : List Nat := (s.lanes.filter fun e => e.2.active).map (·.1)

/-- Every lane's share of H recomputed over the active lanes (R60). -/
def State.reshare (s : State) : State :=
  let total : Nat := s.activeLanes.foldl (fun n l => n + s.weight l) 0
  { s with lanes := s.lanes.map fun e =>
      (e.1, { e.2 with share := if e.2.active then BitVec.ofNat 64 (s.holdup.horizon.toNat * s.weight e.1 / total) else 0 }) }

/-! ### Hold-up-inadequate (R62) -/

/-- Σ BRICK_SIZE over the active lanes (R62). -/
def State.brickSum (s : State) : Nat := s.activeLanes.foldl (fun n l => n + s.laneCfg l 2) 0

/-- Σ INFLIGHT over all lanes (R62, R68). -/
def State.inflightSum (s : State) : Nat := s.lanes.foldl (fun n e => n + e.2.inflight.toNat) 0

/-- The causes that hold now, as bits 1 to 3 (R62). -/
def State.causes (s : State) : BitVec 4 :=
  let h := s.holdup.horizon.toNat
  BitVec.ofNat 4 ((decide (h < s.brickSum)).toNat * 2 + (decide (s.inflightSum > h)).toNat * 4 + s.holdup.weakBank.toNat * 8)

/-- Raising or clearing of hold-up-inadequate: source 211, channel 260, EMCY (R62, R234, R307). -/
def State.signal211 (s : State) (on : Bool) : State :=
  ((s.raise 211).publish 260).emcy (if on then 0x3200 else 0) 2 on 211 0

/-- AT_RISK of a brick that is filling (R39, R62). -/
def Fill.risked (f : Fill) : Fill := if f.payload.isEmpty then f else { f with atRisk := true }

/-- AT_RISK of the bricks that fill and of every lane's next record (R39, R46, R62). -/
def LaneSt.atRisk (x : LaneSt) : LaneSt :=
  { x with
    fill := x.fill.risked, nextFill := x.nextFill.map Fill.risked
    led := { x.led with atRisk := true } }

/-- The causes looked at again: a new cause raises; while raised the cause bits follow (R62). -/
def State.judgeInadequate (s : State) : State :=
  let c := s.causes
  if c = 0 then
    { s with holdup := { s.holdup with
        clearSince := if s.holdup.clearSince.isSome then s.holdup.clearSince else some s.tnow
        inadequate := s.holdup.inadequate &&& 1 } }
  else
    let t := { s with
      holdup := { s.holdup with clearSince := none, inadequate := c ||| 1 }
      lanes := s.lanes.map fun e => (e.1, e.2.atRisk) }
    if s.holdup.inadequate.getLsbD 0 then t else t.signal211 true

/-- A command HOLDUP_INADEQUATE_CLEAR: no cause has held for 10 s; it clears if H ≥ 1.25 × Σ BRICK_SIZE (R62). -/
def execHoldupInadequateClear (s : State) : Out :=
  .next (if s.holdup.inadequate.getLsbD 0 && decide (s.causes = 0) &&
      decide (4 * s.holdup.horizon.toNat ≥ 5 * s.brickSum) then
    { s with holdup := { s.holdup with inadequate := 0 } }.signal211 false else s)

/-- HORIZON_UPDATE: the lowest bank voltage sample of the last millisecond and the thermistor's temperature give H, the
shares and the causes (R58, R60, R62). -/
def State.horizonUpdate (s : State) (v : Nat) (t : Int) : State :=
  let a := { s with holdup := { s.holdup with vbank := BitVec.ofNat 16 v, tbank := BitVec.ofInt 16 t } }
  let b := { a with holdup := { a.holdup with
    eUsable := BitVec.ofNat 32 ((a.eUse v).over 1000000).floor.toNat
    horizon := if s.inRung2 0x66 then 0 else BitVec.ofNat 64 (a.horizonAt v) } }
  b.reshare.judgeInadequate

/-- HORIZON_UPDATE (R58). -/
def execHorizonUpdate (v : Nat) (t : Int) (s : State) : Out := .next (s.horizonUpdate v t)

/-! ### The journal's lines (R54, R77) -/

/-- MAGIC, VERSION and ENTRY_LEN check (R75, R77). -/
def JHead.ok (h : JHead) : Bool := h.magic == 0x4A4E5953 && h.version == 0x100 && h.entryLen == 0xD0

/-- The constants of the header written anew (R75). -/
def JHead.formatted (h : JHead) : JHead := { h with magic := 0x4A4E5953, version := 0x100, entryLen := 0xD0 }

/-- The 512 bytes of the header (R75). -/
def JHead.bytes (h : JHead) : Bytes :=
  toLE 512 (packNat ([(h.magic.toNat, 0), (h.version.toNat, 32), (h.entryLen.toNat, 48), (h.updateSeq.toNat, 64),
    (h.mono.toNat, 128), (h.powerLoss.toNat, 192), (h.lcStarted.toNat, 193), (h.lcDone.toNat, 194), (h.ladder.toNat, 195),
    (h.declCause.toNat, 208), (h.qIn.toNat, 256), (h.qOut.toNat, 320), (h.qStored.toNat, 384), (h.qLeak.toNat, 448)] ++
    (List.range 4).map fun m => ((h.copeTail.look 0 m).toNat, 512 + 64 * m)))

/-- The 208 bytes of a lane entry (R76). -/
def JEntry.bytes (e : JEntry) : Bytes :=
  toLE 208 (packNat ([(e.accepted.toNat, 0), (e.durable.toNat, 64), (e.lost.toNat, 128), (e.refused.toNat, 192),
    (e.context.toNat, 256), (e.isOpen.toNat, 276), (e.atRisk.toNat, 277), (e.degraded.toNat, 278), (e.lastSeq.toNat, 320),
    (leNat (toBE 48 e.lastDigest.toNat), 384), (e.recordSeq.toNat, 768), (leNat (toBE 48 e.lastRecord.toNat), 832),
    (e.streamEnd.toNat, 1472), (e.skipped.toNat, 1536)] ++
    (List.range 4).map fun m => ((e.tail.look 0 m).toNat, 1216 + 64 * m)))

/-- The 64 KiB of the journal as applied: the header at 0000h, lane L's entry at 0200h + L × 00D0h, zeros from D200h on (R75, R76). -/
def Journal.bytes (j : Journal) : Bytes :=
  j.head.bytes ++ ((List.range 256).flatMap fun l => (j.entry.look {} l).bytes) ++ List.replicate 0x2E00 0

/-- The header as it stands with its waiting line. -/
def Journal.now (j : Journal) : JHead := j.headLine.getD j.head

/-- A header line queued (R77). -/
def State.headLine (s : State) (f : JHead → JHead) : State :=
  { s with journal := { s.journal with headLine := some (f s.journal.now) } }

/-- The lane's journal line queued, or merged into the one waiting (R54, R77). -/
def State.lineOf (s : State) (l : Nat) : State :=
  { s with journal := { s.journal with line := s.journal.line.put l (s.lane l).led } }

/-- One update applied to the header or one lane's entry (R75, R77). -/
def Journal.apply (j : Journal) (mono : W64) : Option Nat → Journal
  | none =>
    match j.headLine with
    | none => j
    | some h => { j with head := { h with updateSeq := h.updateSeq + 1, mono := mono }, headLine := none }
  | some l =>
    match j.line.find? (·.1 == l) with
    | none => j
    | some e =>
      let up := fun h : JHead => { h with updateSeq := h.updateSeq + 1, mono := mono }
      { j with entry := j.entry.put l e.2, line := j.line.del l, head := up j.head, headLine := j.headLine.map up }

/-- Every waiting line applied, as before any start (R77). -/
def Journal.applyAll (j : Journal) (mono : W64) : Journal :=
  (j.line.foldl (fun a e => a.apply mono (some e.1)) j).apply mono none

/-! ### The charge ledger (R67) -/

/-- One current sample, in µA: its charge over 10 µs in whole nC enters one term; the rest is carried (R67). -/
def State.charge (s : State) (i : Int) : State :=
  let t := s.holdup.chargeRem + 10 * i
  let q := t.tdiv 1000
  let a := { s with holdup := { s.holdup with chargeRem := t - 1000 * q } }
  a.headLine fun h =>
    let qi := if 0 ≤ q then h.qIn + BitVec.ofInt 64 q else h.qIn
    let qo := if 0 ≤ q then h.qOut else h.qOut + BitVec.ofInt 64 (-q)
    { h with qIn := qi, qOut := qo, qStored := qi - qo - h.qLeak }

/-- CURRENT_SAMPLE (R67). -/
def execCurrentSample (i : Int) (s : State) : Out := .next (s.charge i)

/-- The charge ledger's comparison with the bank, every 60 s while the charger is idle: the difference is declared leakage;
above 5 % of c × Vbank it raises source 216 and is counted (R67). -/
def State.leakage (s : State) (v : Nat) : State :=
  let want := (s.bankC.mul { num := 1000 * v }).floor
  let h := s.journal.now
  let d := h.qStored.toInt - want
  let a := s.headLine fun h =>
    let k := h.qLeak + BitVec.ofInt 64 d
    { h with qLeak := k, qStored := h.qIn - h.qOut - k }
  if 20 * d.natAbs > want.natAbs then
    { a.raise 216 with holdup := { a.holdup with faultCount := satAdd a.holdup.faultCount 1 } }
  else a

end Sys2Proof.Machine
end

