-- ==== Sys2Proof/Machine/Wythe.lean ====
section
/-! DEFINITION. The wythes: members, zones, streams, labels, the context log (chapter 02, R48 to R50; R126). -/
namespace Sys2Proof.Machine

/-! ### Members -/

/-- Member 2w + m. -/
def State.member (s : State) (m : Nat) : MemberSt := s.wythes.member.look {} m

/-- Member 2w + m changed by `f`. -/
def State.modMember (s : State) (m : Nat) (f : MemberSt → MemberSt) : State :=
  { s with wythes := { s.wythes with member := s.wythes.member.put m (f (s.member m)) } }

/-- The configured wythes (R316). -/
def State.wytheList (s : State) : List Nat := [0, 1].filter fun w => s.wythes.configured.getLsbD w

/-- A wythe of two SSDs (R48). -/
def State.striped (s : State) (w : Nat) : Bool := (s.member (2 * w + 1)).entry != 0

/-- The members of a wythe. -/
def State.membersOf (s : State) (w : Nat) : List Nat := if s.striped w then [2 * w, 2 * w + 1] else [2 * w]

/-- The members of the configured wythes. -/
def State.memberList (s : State) : List Nat := s.wytheList.flatMap s.membersOf

/-- The member that number n of a striped sequence goes to (R48, R126). -/
def State.memberFor (s : State) (w n : Nat) : Nat := if s.striped w then 2 * w + n % 2 else 2 * w

/-- The member of brick n of lane l (R48, R119). -/
def State.brickMember (s : State) (w l n : Nat) : Nat := s.memberFor w (l + n)

/-- Only one wythe is configured (R46, R76). -/
def State.degraded (s : State) : Bool := s.wytheList.length == 1

/-- The largest LBA size among the configured members (R39, R385). -/
def State.maxLba (s : State) : Nat := s.memberList.foldl (fun n m => Nat.max n (s.member m).lba) 512

/-- EXTENT_LEN of a payload length (R39). -/
def State.extentLen (s : State) (n : Nat) : Nat := (576 + n + s.maxLba - 1) / s.maxLba * s.maxLba

/-- The smallest Zone Append Size Limit among the configured zoned members, if any (R385). -/
def State.appendLimit (s : State) : Option Nat :=
  s.memberList.foldl (fun a m =>
    let b := s.member m
    if b.zoned ∧ b.zasl ≠ 0 then some (match a with | none => b.zasl | some x => Nat.min x b.zasl) else a) none

/-- A command to a member's SSD, for the outside. -/
def State.ssd (s : State) (m : Nat) (c : SsdCmd) : State :=
  { s with wythes := { s.wythes with issued := s.wythes.issued ++ [(m, c)] } }

/-- Bytes written with FUA: Zone Append to a zone, or Write at an LBA of a conventional namespace (R48, R49). -/
def State.ssdWrite (s : State) (m zone lba : Nat) (b : Bytes) : State :=
  s.ssd m (if (s.member m).zoned then .append zone b else .write lba b)

/-- A zone reset: Zone Management Send on a zoned namespace; on a conventional one Deallocate over the emulated zone, then zeros with
FUA to its first 4,096 bytes (R50, R52). -/
def State.resetZone (s : State) (m n : Nat) : State :=
  if (s.member m).zoned then s.ssd m (.resetZone n)
  else (s.ssd m (.deallocate n)).ssd m (.write (n * (s.member m).zoneLbas) (List.replicate 4096 0))

/-- The root port of a member (R316). -/
def State.portOf (s : State) (m : Nat) : Nat := bits (s.member m).entry 0 2

/-! ### Zones and streams (R49, R50) -/

/-- The first zone of the pool (R50). -/
def MemberSt.pool (b : MemberSt) : Nat := 2 * b.z + 3

/-- A pool zone in use. -/
def MemberSt.used (b : MemberSt) (n : Nat) : Bool := b.coping.any (·.zone == n) || b.data.any (·.1 == n)

/-- The lowest free zone from n on, among `fuel` zones. -/
def MemberSt.freeFrom (b : MemberSt) (n : Nat) : Nat → Option Nat
  | 0 => none
  | k + 1 => if b.used n then b.freeFrom (n + 1) k else some n

/-- The lowest free pool zone (R50). -/
def MemberSt.freeZone (b : MemberSt) : Option Nat := b.freeFrom b.pool (b.zones - b.pool)

/-- The stream of a lane and retention class (R49). -/
def streamKey (l c : Nat) : Nat := 256 * l + c

/-- A zone of its own for a stream: the lowest free pool zone (R49). -/
def MemberSt.enter (b : MemberSt) (k : Nat) : Option MemberSt :=
  b.freeZone.map fun n =>
    { b with stream := b.stream.put k { zone := n, next := n * b.zoneLbas }, data := b.data ++ [(n, k)] }

/-- The stream can have an active zone on the member: the one it uses, or a free one within the active resources (R49,
R385). -/
def MemberSt.openStream (b : MemberSt) (k : Nat) : Option MemberSt :=
  if b.stream.any (·.1 == k) then some b
  else if b.maxActive ≠ 0 ∧ b.maxActive < b.stream.length + 1 + 3 then none
  else b.enter k

/-- LBAs of a length on a member. -/
def MemberSt.lbas (b : MemberSt) (n : Nat) : Nat := (n + b.lba - 1) / b.lba

/-- An extent of n LBAs fits behind a stream's place in its zone (R49). -/
def MemberSt.fits (b : MemberSt) (p : StreamPos) (n : Nat) : Bool := decide (p.next + n ≤ (p.zone + 1) * b.zoneLbas)

/-- The command that finishes a full zone: Zone Management Send on a zoned namespace, none on a conventional one (R49). -/
def State.finish (s : State) (m n : Nat) : State := if (s.member m).zoned then s.ssd m (.finishZone n) else s

/-! ### Labels (R50) -/

/-- LEN of a label of n coping zones (R50). -/
def labelLen (n : Nat) : Nat := 4096 * ((96 + 16 * n + 4095) / 4096)

/-- A label record as bytes (R50). -/
def State.labelBytes (s : State) (m : Nat) : Bytes :=
  let b := s.member m
  let body := [0x53, 0x59, 0x4E, 0x4C] ++ toLE 2 0x100 ++ toLE 1 (m / 2) ++ toLE 1 (m % 2) ++ toLE 8 b.labelSeq.toNat ++
    toLE 4 s.sec.fuse.serial.toNat ++ toLE 4 b.lba ++ toLE 8 b.zoneLbas ++ toLE 4 b.z ++ toLE 1 b.regionB.toNat ++
    toLE 3 0 ++ toLE 4 b.coping.length ++ toLE 4 (labelLen b.coping.length) ++
    b.coping.flatMap fun c => toLE 4 c.zone ++ toLE 4 0 ++ toLE 8 c.lastMono.toNat
  padTo (labelLen b.coping.length) (body ++ toBE 48 (Config.sha384 body).toNat)

/-- A new label is written with FUA at the active label zone's write pointer, or in the other label zone, reset first (R50). -/
def State.writeLabel (s : State) (m : Nat) : State :=
  let b := s.member m
  let n := b.lbas (labelLen b.coping.length)
  let t := if b.labelNext + n ≤ b.zoneLbas then
      s.modMember m fun b => { b with labelSeq := b.labelSeq + 1, labelNext := b.labelNext + n }
    else
      (s.resetZone m (1 - b.labelZone)).modMember m fun b =>
        { b with labelSeq := b.labelSeq + 1, labelZone := 1 - b.labelZone, labelNext := n }
  let c := t.member m
  t.ssdWrite m c.labelZone (c.labelZone * c.zoneLbas + c.labelNext - n) (t.labelBytes m)

/-- The governing label among those read: the highest LABEL_SEQ whose digest verifies (R50). -/
def labelOk (b : Bytes) : Bool :=
  let n := fieldAt b 0x28 4
  slice b 0 4 == [0x53, 0x59, 0x4E, 0x4C] && fieldAt b 4 2 == 0x100 && decide (1 ≤ n) && decide (n ≤ 65536) &&
    slice b (0x30 + 16 * n) 48 == toBE 48 (Config.sha384 (b.take (0x30 + 16 * n))).toNat

/-- The governing label (R50). -/
def governing (ls : List Bytes) : Option Bytes :=
  (ls.filter labelOk).foldl (fun best b =>
    match best with
    | none => some b
    | some a => if fieldAt a 8 8 < fieldAt b 8 8 then some b else some a) none

/-- The coping zone table of a label (R50). -/
def labelZones (b : Bytes) : List CopeZone :=
  (List.range (fieldAt b 0x28 4)).map fun i =>
    { zone := fieldAt b (0x30 + 16 * i) 4, lastMono := BitVec.ofNat 64 (fieldAt b (0x38 + 16 * i) 8) }

/-! ### Coping zones (R50) -/

/-- The active coping zone is left: it is finished or closed with its LAST_MONO, the lowest free pool zone becomes active and
a label is written; none where no pool zone is free (R50). -/
def State.nextCoping (s : State) (m : Nat) : Option State :=
  let b := s.member m
  match b.freeZone with
  | none => none
  | some n =>
    let old := b.coping.dropLast ++ (b.coping.getLast?.toList.map fun c => { c with lastMono := b.copeMono })
    let t := match b.coping.getLast? with | some c => s.finish m c.zone | none => s
    some ((t.modMember m fun b =>
      { b with coping := old ++ [{ zone := n, lastMono := 0xFFFFFFFFFFFFFFFF }], copeNext := 0, copeMono := 0 }).writeLabel m)

/-- Room for a coping record in the member's active coping zone (R49, R50). -/
def State.copingRoom (s : State) (m : Nat) : Option State :=
  let b := s.member m
  if b.copeNext + b.lbas 1024 ≤ b.zoneLbas then some s else s.nextCoping m

/-- The LBA of a member's coping write pointer (R49). -/
def MemberSt.copeLba (b : MemberSt) : Nat := ((b.coping.getLast?.map (·.zone)).getD 0) * b.zoneLbas + b.copeNext

/-- The place taken by a record's write on a member (R48, R49). -/
def State.issueRecord (s : State) (m : Nat) (mono : W64) : State :=
  s.modMember m fun b => { b with copeNext := b.copeNext + b.lbas 1024
                                  copeMono := if b.copeMono ≤ mono then mono else b.copeMono }

/-- A record written with FUA to a member's coping zone (R48, R49). -/
def State.writeRecord (s : State) (m : Nat) (mono : W64) (bytes : Bytes) : State :=
  let b := s.member m
  (s.ssdWrite m ((b.coping.getLast?.map (·.zone)).getD 0) b.copeLba (padTo (b.lbas 1024 * b.lba) bytes)).issueRecord m mono

/-- A record issued to the members of its number on every configured wythe, with the LBAs of its places by wythe, or left waiting with
source 144 + port where a member has no coping zone for it (R48, R50). -/
def State.issueRecords (s : State) (seq : Nat) (mono : W64) (bytes : Bytes) : State × List (Nat × Nat) × Bool :=
  let ms := s.wytheList.map fun w => s.memberFor w seq
  let r := ms.foldl (fun (a : State × Bool) m =>
    match a.1.copingRoom m with
    | some t => (t, a.2)
    | none => (a.1.raise (144 + a.1.portOf m), false)) (s, true)
  if r.2 ∧ ms ≠ [] then
    (ms.foldl (fun t m => t.writeRecord m mono bytes) r.1, s.wytheList.map fun w => (w, (r.1.member (s.memberFor w seq)).copeLba), true)
  else (r.1, [], false)

/-- Coping zones other than the active one whose LAST_MONO lies below the lowest OPEN_MONO are reset and dropped from the
table (R50, R125). -/
def State.releaseCoping (s : State) (low : Nat) (m : Nat) : State :=
  let b := s.member m
  let gone := b.coping.dropLast.filter fun c => decide (c.lastMono.toNat < low)
  if gone.isEmpty then s
  else
    ((gone.foldl (fun t c => t.resetZone m c.zone) s).modMember m fun b =>
      { b with coping := b.coping.filter fun c => !gone.contains c }).writeLabel m

/-! ### The context log (R126) -/

/-- Bytes of a log region of a member, Z zones of K LBAs (R50). -/
def MemberSt.regionBytes (b : MemberSt) : Nat := b.z * b.zoneLbas * b.lba

/-- Every context that has a record other than the default. -/
def State.ctxList (s : State) : List Nat := (s.ctx.cache.map (·.ctx) ++ s.ctx.table.map (·.1)).eraseDups

/-- The contexts a member's log holds: not FREE, not context 0, with images on this member (R126). -/
def State.loggedOn (s : State) (m : Nat) : List Nat :=
  s.ctxList.filter fun c => c != 0 && (s.ctxRec c).state != 0 && s.memberFor (m / 2) (s.ctxRec c).imageSeq.toNat == m

/-- The first zone of a member's active log region (R50). -/
def MemberSt.region (b : MemberSt) : Nat := if b.regionB then b.z + 2 else 2

/-- An image written with FUA behind those in a member's active log region, one LBA each (R50, R126). -/
def State.putLog (s : State) (m : Nat) (img : Bytes) : State :=
  let b := s.member m
  let used := s.ctx.logUsed.look 0 m
  let zone := b.region + used / b.lba / b.zoneLbas
  let t := s.ssdWrite m zone (zone * b.zoneLbas + used / b.lba % b.zoneLbas) (padTo b.lba img)
  { t with ctx := { t.ctx with logUsed := t.ctx.logUsed.put m (used + b.lba) } }

/-- Every context that a member's log holds is imaged into the other region, a label names it active and the full region is reset
(R126). -/
def State.regionChange (s : State) (m : Nat) : State :=
  let b := s.member m
  let cs := s.loggedOn m
  let a := s.modMember m fun b => { b with regionB := !b.regionB }
  let t := cs.foldl (fun t c => t.putLog m ((t.ctxRec c).bytes c)) { a with ctx := { a.ctx with logUsed := a.ctx.logUsed.put m 0 } }
  let u := (List.range b.z).foldl (fun t i => t.resetZone m (b.region + i)) (t.writeLabel m)
  { u with ctx := { u.ctx with imagesWritten := u.ctx.imagesWritten + BitVec.ofNat 64 cs.length } }

/-- LOG_REGION of a member: as it is set, within what its zones hold (R50, R126). -/
def State.logRegion (s : State) (m : Nat) : Nat := Nat.min (s.cfg 0x2100 0xA * 0x100000) (s.member m).regionBytes

/-- One image written to one member's log, which changes its region at 90 % (R126). -/
def State.logImage (img : Bytes) (s : State) (m : Nat) : State :=
  let t := s.putLog m img
  if 10 * t.ctx.logUsed.look 0 m ≥ 9 * s.logRegion m then t.regionChange m else t

/-- The image with a number written to its member on every configured wythe (R126). -/
def State.writeImage (s : State) (seq : Nat) (img : Bytes) : State :=
  let t := (s.wytheList.map fun w => s.memberFor w seq).foldl (State.logImage img) s
  { t with ctx := { t.ctx with imagesWritten := t.ctx.imagesWritten + 1 } }

/-- The record of a context imaged: IMAGE_SEQ from the device's counter, the image written, or queued until the SSDs are ready
(R126; log entry 16). Context 0 is never imaged. -/
def State.image (s : State) (c : Nat) : State :=
  if c = 0 then s
  else
    let n := s.ctx.imageSeq + 1
    let t := { s with ctx := { s.ctx.set c { s.ctxRec c with imageSeq := n } with imageSeq := n } }
    if t.wythes.ssdsReady && !t.wytheList.isEmpty then t.writeImage n.toNat ((t.ctxRec c).bytes c)
    else { t with ctx := { t.ctx with imageQueue := t.ctx.imageQueue ++ [(c, t.ctxRec c)] } }

/-- Queued images written (R126, R127). -/
def State.flushImages (s : State) : State :=
  let t := s.ctx.imageQueue.foldl (fun t e => t.writeImage e.2.imageSeq.toNat (e.2.bytes e.1)) s
  { t with ctx := { t.ctx with imageQueue := [] } }

/-! ### Locations (R118, R119) -/

/-- The LOC_EXT contexts of an object, in their order (R118). -/
def State.exts (s : State) (c : Nat) : List Nat := s.extChain 80000 (s.ctxRec c).extContext.toNat

/-- The last LOC_EXT context of an owner's chain, 0 for none. -/
def State.lastExt (s : State) (c : Nat) : Nat := (s.exts c).getLast?.getD 0

/-- Places for entries left in an object's chain (R118). -/
def State.extRoom (s : State) (c : Nat) : Nat := ((s.exts c).map fun x => 13 - (s.ctxRec x).locs.length).foldl (fun (a : Nat) b => a + b) 0

/-- Places of the chain that belong to copies being written (R119). -/
def State.extHeld (s : State) (c : Nat) : Nat :=
  (s.nvme.filter fun n => match n.use with | .append _ _ _ o (some _) => o == c | _ => false).length

/-- Another LOC_EXT context with entries `es` at the end of an object's chain, with its images; none where the free list is empty
(R118, R119, R126). -/
def State.newExt (s : State) (c : Nat) (es : List LocEntry) : Option State :=
  let x := s.lastExt c
  match s.takeFree { state := 5, owner := BitVec.ofNat 20 c, locs := es } with
  | none => none
  | some (n, t) =>
    let u := t.image n
    some (if x = 0 then (u.modCtx c fun r => { r with extContext := BitVec.ofNat 20 n }).image c
          else (u.modCtx x fun r => { r with nextExt := BitVec.ofNat 20 n }).image x)

/-- A location entry added to an object's chain, with its images, leaving `keep` places; none where another LOC_EXT context is needed
and the free list is empty (R118, R119, R126). -/
def State.addLoc (s : State) (c : Nat) (e : LocEntry) (keep : Nat) : Option State :=
  match (s.exts c).find? fun x => decide ((s.ctxRec x).locs.length < 13) with
  | some x => if keep < s.extRoom c then some ((s.modCtx x fun r => { r with locs := r.locs ++ [e] }).image x) else s.newExt c [e]
  | none => s.newExt c [e]

/-- A place in an object's chain kept for a copy before it is written; none where the free list is empty (R119). -/
def State.reserveLoc (s : State) (c : Nat) : Option State := if s.extHeld c < s.extRoom c then some s else s.newExt c []

/-- The zones of member m that an object's record names (R117, R118). -/
def State.zonesOf (s : State) (m c : Nat) : List Nat :=
  let b := s.member m
  let r := s.ctxRec c
  let ones : W64 := 0xFFFFFFFFFFFFFFFF
  let ends := ([r.firstLba.look ones m, r.lastLba.look ones m].filter (· != ones)).map (·.toNat)
  let ext := (s.extChain 80000 r.extContext.toNat).flatMap fun x =>
    ((s.ctxRec x).locs.filter fun e => e.member.toNat == m).map (·.lba.toNat)
  (ends ++ ext).map (· / b.zoneLbas)

/-- A data zone of a member is reset once every object in it is razed and its stream has moved on (R52 step 4). -/
def State.resetRazed (s : State) (m : Nat) : State :=
  let b := s.member m
  let live := (s.ctxList.filter fun c => (s.ctxRec c).state == 2 || (s.ctxRec c).state == 3).flatMap (s.zonesOf m)
  let razed := (s.ctxList.filter fun c => (s.ctxRec c).state == 4).flatMap (s.zonesOf m)
  let gone := b.data.filter fun d => razed.contains d.1 && !live.contains d.1 && !b.stream.any (fun e => e.2.zone == d.1)
  if gone.isEmpty then s
  else
    (gone.foldl (fun t d => t.resetZone m d.1) s).modMember m fun b =>
      { b with data := b.data.filter fun d => !gone.contains d }

end Sys2Proof.Machine
end

