-- ==== Sys2Proof/Machine/Lane.lean ====
section
/-! DEFINITION. Lanes: admission, staging, cutting, sealing, writing, object open and close, coping records (chapters 02
and 03). The commands that use these operations stand in LaneCmd. -/
namespace Sys2Proof.Machine

/-! ### Small facts -/

/-- TIME_TRUSTED: locked, or in holdover within its limit (R45, R383). -/
def State.trusted (s : State) : Bool := s.time.source != 0

/-- The monotonic counter, 0 while unseeded. -/
def State.mono (s : State) : W64 := s.time.mono.getD 0

/-- The tile that serves a lane: TILE of its object's context (log entry 17). -/
def State.laneTile (s : State) (l : Nat) : Nat :=
  match (s.lane l).obj with
  | some o => if (s.ctxRec o.ctx).tile = 0 then 1 + l % 11 else (s.ctxRec o.ctx).tile.toNat
  | none => 1 + l % 11

/-- A course waits in a SEAL or COPE of the lane. -/
def Course.hashes (x : Course) (l : Nat) : Bool :=
  match x.wait with | some (.seal k ..) => k == l | some (.cope k ..) => k == l | _ => false

/-- The arbiter input of a lane's jobs: its tile's, that of the course whose SEAL or COPE asks for them, or 15 in the last course (R71,
R92, R256). -/
def State.laneInput (s : State) (l : Nat) : Nat :=
  if s.holdup.lastCourse then 15
  else match s.courses.held.find? fun (e : Nat × Course) => e.2.hashes l with
    | some e => (s.ctxRec e.1).tile.toNat
    | none => s.laneTile l

/-- A filling buffer opened with the lane's entries in force (R32). -/
def State.newFill (s : State) (l : Nat) : Fill :=
  { size := s.laneCfg l 2, align := s.laneCfg l 3, alignMin := s.laneCfg l 4, age := s.laneCfg l 5
    note := s.dictBytes (0x3000 + l) 0xC }

/-- Payload capacity (R37). -/
def Fill.capacity (f : Fill) : Nat := f.size - 576

/-- The lane's first bound key (R39; log entry 18). -/
def State.laneKey (s : State) (l : Nat) : BitVec 320 := ((s.bind.order.look [] l).head?).getD 0

/-- A brick of the lane may close now: the sealing buffer is free, the restart scan is done, the counter is seeded and no
evidence record is in progress in it (R38, R80, R369, R145). -/
def State.canClose (s : State) (l : Nat) : Bool :=
  let x := s.lane l
  x.sealing.isNone && x.scanned && s.time.mono.isSome && (x.openRec.isNone || x.nextFill.isSome)

/-- A full brick may close: the writing buffer is free as well, so that a new brick can start (R13, R38). -/
def State.canFull (s : State) (l : Nat) : Bool := s.canClose l && (s.lane l).writing.isNone

/-- The buffer that takes the lane's bytes changed: the next object's while one waits to close, else the filling buffer (R30). -/
def LaneSt.modNewest (x : LaneSt) (f : Fill → Fill) : LaneSt :=
  match x.nextFill with
  | some g => { x with nextFill := some (f g) }
  | none => { x with fill := f x.fill }

/-- The buffer that takes the lane's bytes (R30). -/
def LaneSt.newest (x : LaneSt) : Fill := x.nextFill.getD x.fill

/-- The closure ends an object. -/
def CloseAct.ends : CloseAct → Bool
  | .object _ => true
  | _ => false

/-- The object to which the lane's bytes go while its last owed closure is that of the object before it (R30). -/
def LaneSt.nextObject (x : LaneSt) : Option ObjChain :=
  match x.acts.reverse with
  | .object (some o) :: r => if r.any CloseAct.ends then none else some o
  | _ => none

/-! ### Header and trailer (R39, R40) -/

/-- What a header holds beyond the filling buffer. -/
structure HeadIn where
  gap : Bool
  last : Bool
  short : Bool
  reason : Nat
  len : Nat
  lost : Nat
  status : Status
  base : W64
  first : BitVec 80
  final : BitVec 80
  restart : Bool
  risk : Bool
  deriving DecidableEq, Repr

/-- The 512 header bytes; SSRC is 0 in a gap brick alone (R39; log entry 106). -/
def State.header (s : State) (l : Nat) (o : ObjChain) (f : Fill) (h : HeadIn) : Bytes :=
  let rtp := !h.gap && decide (o.sourceType ≤ 3)
  let n := fun (g : BitVec 16 × W32 → Nat) (p : Option (BitVec 16 × W32)) =>
    if rtp then (match p with | some v => g v | none => 0) else 0
  toLE 512 (packNat
    [(0x424E5953, 0), (0x0100, 32), (0x0200, 48), (if h.gap then 2 else 1, 64), (o.sourceType, 72),
     ((o.nextSeq == 0).toNat, 80), (h.last.toNat, 81), ((!h.gap && f.auStart).toNat, 82), ((!h.gap && f.recCont).toNat, 83),
     (h.short.toNat, 84), (s.trusted.toNat, 85), (h.risk.toNat, 86), (h.restart.toNat, 87), (h.reason, 88),
     (l, 96), (o.ctx, 128), (o.nextSeq.toNat, 192), (h.len, 256), (s.extentLen h.len, 288), (o.offset.toNat, 320),
     (h.base.toNat, 384), (h.first.toNat, 448), (h.final.toNat, 528), (s.mono.toNat, 640),
     (if h.gap then 0 else f.packets, 704), (if h.gap then 0 else f.gaps, 736), (if h.gap then 0 else f.late, 768),
     ((s.lane l).refusedSince.toNat, 800), (if rtp then f.ssrc.toNat else 0, 832),
     (n (·.1.toNat) f.rtpFirst, 864), (n (·.1.toNat) f.rtpLast, 880), (n (·.2.toNat) f.rtpFirst, 896),
     (n (·.2.toNat) f.rtpLast, 928), (h.lost, 960), (h.status.toNat, 1024),
     (leNat (toBE 48 o.prevDigest.toNat), 1152), (leNat (toBE 48 o.genesis.toNat), 1536), (o.openTime.toNat, 1920),
     ((f.key.getD (s.laneKey l)).toNat, 2048), (leNat (padTo 128 f.note), 2560)])

/-- A brick as it lies on a wythe: header, payload, trailer, padding (R39, R40). -/
def Brick.image (b : Brick) : Bytes :=
  padTo b.extent (b.header ++ b.payload ++ toBE 48 (b.digest.getD 0).toNat ++ toLE 4 0x544E5953 ++
    toLE 4 b.payload.length ++ toLE 8 b.seq.toNat)

/-- The genesis value of an object (R41); without an identity key the public key is 97 zero bytes (log entry 19). -/
def State.genesis (s : State) (l c : Nat) (t : BitVec 80) : Digest :=
  let pub := if s.sec.fuse.lc = 0 ∨ s.sec.fuse.identityDestroyed then toLE 97 0
    else toBE 97 (Config.publicKey s.sec.fuse.identity).toNat
  Config.sha384 (pub ++ toLE 2 l ++ toLE 4 c ++ toLE 10 t.toNat)

/-! ### Seal and signature jobs (R43, R47, R256, R257) -/

/-- A lane's seal job enters its input's queue, or the lane holds it while the queue is full (R43, R257). -/
def State.askSeal (s : State) (l : Nat) : State :=
  if s.mortar.room (s.laneInput l) then
    (s.modLane l fun x => { x with sealHeld := false }).queueJob (s.laneInput l) { kind := .seal (Fin.ofNat 256 l) }
  else s.modLane l fun x => { x with sealHeld := true }

/-- A record's signature job, in the same way. -/
def State.askSign (s : State) (l : Nat) : State :=
  if s.mortar.room (s.laneInput l) then
    (s.modLane l fun x => { x with signHeld := false }).queueJob (s.laneInput l) { kind := .cope (Fin.ofNat 256 l) }
  else s.modLane l fun x => { x with signHeld := true }

/-- A seal job asked for, and the arbiter's decision (R43, R261). -/
def State.requestSeal (s : State) (l : Nat) : State := (s.askSeal l).turnNow

/-- A signature job asked for, and the arbiter's decision (R47, R261). -/
def State.requestSign (s : State) (l : Nat) : State := (s.askSign l).turnNow

/-- The input of a VERIFY's jobs: 14, or 15 for those of context 0 after a declaration (R92, R256). -/
def State.verifyInput (s : State) (c : Nat) : Nat := if c = 0 ∧ s.holdup.declared then 15 else 14

/-- The job of a VERIFY enters its input's queue where the queue has room; while it has none, the course waits without one (R92, R257). -/
def State.askVerify (s : State) (c : Nat) (record : Bool) : State :=
  if s.mortar.room (s.verifyInput c) && !s.mortar.hasJob (.verify c record) then
    s.queueJob (s.verifyInput c) { kind := .verify c record }
  else s

/-- The VERIFYs whose job found no room ask again (R257). -/
def State.retryVerify (s : State) : State :=
  s.courses.held.foldl (fun t e =>
    match e.2.wait with
    | some (.verify record ..) => t.askVerify e.1 record
    | _ => t) s

/-- Jobs that lanes and VERIFYs hold enter the queues that have room again, then the arbiter decides for the cycle (R257, R261, R263). -/
def State.retryHeld (s : State) : State :=
  let t := s.lanes.foldl (fun t e =>
    let a := if (t.lane e.1).sealHeld then t.askSeal e.1 else t
    if (a.lane e.1).signHeld then a.askSign e.1 else a) s
  t.retryVerify.turnNow

/-! ### Closing bricks (R30, R37, R38, R41) -/

/-- The chain of the lane's object after a brick of n payload bytes has closed. -/
def ObjChain.closed (o : ObjChain) (n : Nat) (gap : Bool) : ObjChain :=
  { o with nextSeq := o.nextSeq + 1, offset := o.offset + BitVec.ofNat 64 n, restart := false
           restartData := if gap then o.restartData else false }

/-- A brick taken into the sealing buffer, its seal job requested (R13, R43). -/
def State.seal (s : State) (l : Nat) (b : Brick) (o : ObjChain) (f : Fill) : State :=
  (s.modLane l fun x => { x with sealing := some b, obj := some o, fill := f, refusedSince := 0 }).requestSeal l

/-- The filling brick closes with a reason at byte `cut` of its payload; the next brick opens with it, and what lies beyond is its first
payload (R32, R37; log entry 106). -/
def State.closeBrick (s : State) (l : Nat) (reason : Nat) (last : Bool) (cut : Nat) : State :=
  let x := s.lane l
  match x.obj with
  | none => s
  | some o =>
    let f := x.fill
    let p := f.payload.take cut
    let rest := f.payload.drop cut
    let n := p.length
    let empty := f.payload.isEmpty
    let h : HeadIn := {
      gap := false, last := last, short := decide (n < f.capacity), reason := reason, len := n, lost := 0, status := 0
      base := if empty then x.led.accepted else f.base
      first := if empty then s.time.now else f.timeFirst, final := if empty then s.time.now else f.timeLast
      restart := o.restart || o.restartData, risk := f.atRisk || s.holdup.inadequate.getLsbD 0 }
    let b : Brick := {
      header := s.header l o f h, payload := p, ctx := o.ctx, seq := o.nextSeq
      streamEnd := o.offset + BitVec.ofNat 64 n, last := last, lost := 0, extent := s.extentLen n }
    let nf := s.newFill l
    let g := if rest.isEmpty then nf else
      { nf with payload := rest, recCont := true, base := f.base + BitVec.ofNat 64 n, timeFirst := f.timeLast
                timeLast := f.timeLast, ssrc := f.ssrc, key := f.key, atRisk := s.holdup.inadequate.getLsbD 0 }
    s.seal l b (o.closed n false) g

/-- The gap brick of a declared loss is sealed as the next brick of the chain (R41). -/
def State.gapBrick (s : State) (l count : Nat) (status : Status) (last : Bool) : State :=
  let x := s.lane l
  match x.obj with
  | none => s
  | some o =>
    let h : HeadIn := {
      gap := true, last := last, short := true, reason := 5, len := 0, lost := count, status := status
      base := x.led.accepted, first := s.time.now, final := s.time.now, restart := o.restart
      risk := s.holdup.inadequate.getLsbD 0 }
    let b : Brick := {
      header := s.header l o (s.newFill l) h, payload := [], ctx := o.ctx, seq := o.nextSeq, streamEnd := o.offset
      last := last, lost := BitVec.ofNat 64 count, gapStatus := status, extent := s.extentLen 0 }
    s.seal l b (o.closed 0 true) x.fill

/-- DEADLINE at an object's close: the close time plus the class's period, 0 for none (R117, R317). -/
def State.deadlineOf (s : State) (c : Nat) : BitVec 48 :=
  let p := s.cfg (0x6800 + (s.ctxRec c).retClass.toNat) 1
  if p = 0 then 0 else s.time.now.extractLsb' 0 48 + BitVec.ofNat 48 (3600 * p)

/-- The change of an object's context from OPEN to CLOSED, with its deadline; it is imaged when the LAST brick is DURABLE
(R116, R117, R126). -/
def State.closeCtx (s : State) (c : Nat) : State :=
  s.modCtx c fun r => { r with state := 3, deadline := s.deadlineOf c }

/-- The lane's object leaves the filling buffer: it waits for its LAST brick to become DURABLE, and the next one, if any, has
the buffer (R30, R429). -/
def State.handOver (s : State) (l : Nat) (next : Option ObjChain) : State :=
  let x := s.lane l
  let f := x.nextFill.getD (s.newFill l)
  match x.obj with
  | none => s.modLane l fun x => { x with obj := next, fill := f, nextFill := none }
  | some o => (s.closeCtx o.ctx).modLane l fun x => { x with older := x.older ++ [o], obj := next, fill := f, nextFill := none }

/-- One owed closure carried out (R30, R37, R41). -/
def State.actOne (s : State) (l : Nat) : CloseAct → State
  | .brick r => if (s.lane l).fill.payload.isEmpty then s else s.closeBrick l r false (s.lane l).fill.payload.length
  | .gap n st ends =>
    let t := s.gapBrick l n st ends.isSome
    match ends with
    | none => t
    | some next => (t.handOver l next).modLane l fun x => { x with fill := (t.lane l).fill }
  | .object next =>
    if (s.lane l).obj.isNone then s
    else (s.closeBrick l 4 true (s.lane l).fill.payload.length).handOver l next

/-- The lane's filling brick has reached its capacity (R37). -/
def LaneSt.full (x : LaneSt) : Bool := x.obj.isSome && decide (x.fill.capacity ≤ x.fill.payload.length)

/-- The lane closes what is due while its sealing buffer is free: a full brick, which also needs the writing buffer, then owed
closures, then a brick whose close is due (R13, R37, R38, R145). -/
def State.pumpOne (s : State) (l : Nat) : State :=
  let x := s.lane l
  if !s.canClose l then s
  else if x.full then (if s.canFull l then s.closeBrick l 0 false x.fill.capacity else s)
  else match x.acts with
    | a :: r => (s.modLane l fun x => { x with acts := r }).actOne l a
    | [] =>
      if x.obj.isNone then s
      else match x.fill.due with
        | some r => if x.fill.payload.isEmpty then s else s.closeBrick l r false x.fill.payload.length
        | none => s

/-! ### Opening objects (R30, R123, R428) -/

/-- Sealing keys exist in this life-cycle state and lanes may open (R335). -/
def State.lanesAllowed (s : State) : Bool := s.sec.fuse.lc == 1 || s.sec.fuse.lc == 2

/-- The lane has the bound key that it opens with: any key; for type 08h a key of KEY_TYPE 07h in KEY0 (R284, R428). -/
def State.keyed (s : State) (l : Nat) : Bool :=
  let ks := s.bind.order.look [] l
  if s.laneCfg l 1 = 8 then ks.any fun k => bits k 0 8 == 7 && k.toNat == leNat (s.dictBytes (0x3200 + l) 1) else !ks.isEmpty

/-- The status of an attempt to open lane l before a context is taken; 0 where it may (R428). -/
def State.openCheck (s : State) (l : Nat) : Status :=
  if s.laneCfg l 1 = 0 ∨ ¬ s.keyed l then 0x030A
  else if s.wytheList.isEmpty then 0x0407
  else if ¬ s.lanesAllowed ∨ ¬ s.slotHoldsKey (s.laneCfg l 0xA) then 0x0804
  else match s.appendLimit with
    | some n => if n < s.extentLen (s.laneCfg l 2 - 576) then 0x0107 else 0
    | none => 0

/-- The lane's stream opened on every member of every configured wythe, once the SSDs are ready (R49, R370). -/
def State.openStreams (s : State) (l c : Nat) : Option State :=
  if !s.wythes.ssdsReady then some s
  else s.memberList.foldl (fun a m =>
    match a with
    | none => none
    | some t => ((t.member m).openStream (streamKey l c)).map fun b => t.modMember m fun _ => b) (some s)

/-- The tails of the lane's entry set to its streams' places (R429). -/
def State.setTails (s : State) (l c : Nat) : State :=
  s.modLane l fun x => { x with led := { x.led with
    tail := s.memberList.foldl (fun t m =>
      match (s.member m).stream.find? (·.1 == streamKey l c) with
      | some e => t.put m (BitVec.ofNat 64 e.2.next)
      | none => t) x.led.tail } }

/-- A context taken for a lane's object opened at `time`, with its record and image; none where the free list is empty, or not yet
rebuilt. The store's claim of identity 97 lasts no longer than this (R117, R122, R123, R126, R127). -/
def State.takeObjectAt (s : State) (l : Nat) (time : BitVec 80) : Option (ObjChain × State) :=
  let st := s.laneCfg l 1
  if !s.ctx.restoreDone then none
  else match s.takeFree { state := 2, lane := BitVec.ofNat 8 l, sourceType := BitVec.ofNat 8 st
                          retClass := BitVec.ofNat 8 (s.laneCfg l 0xB), openTime := time, openMono := s.mono
                          tile := BitVec.ofNat 4 (1 + l % 11) } with
  | none => none
  | some (c, t) =>
    let g := s.genesis l c time
    some ({ ctx := c, sourceType := st, openTime := time, genesis := g, prevDigest := g, lastDigest := g }, t.image c)

/-- A context taken for a lane's new object (R30). -/
def State.takeObject (s : State) (l : Nat) : Option (ObjChain × State) := s.takeObjectAt l s.time.now

/-- The journal entry names an object with no DURABLE brick (R429). -/
def JEntry.startObject (e : JEntry) (o : ObjChain) : JEntry :=
  { e with context := BitVec.ofNat 20 o.ctx, isOpen := true, lastSeq := 0xFFFFFFFFFFFFFFFF, lastDigest := o.genesis
           streamEnd := 0 }

/-- A new object opens on the lane: bindings follow it, shares are recomputed, its span starts (R30, R60, R130). -/
def State.opened (s : State) (l : Nat) (o : ObjChain) : State :=
  let t := s.modLane l fun x => { x with active := true, openStatus := 0, span := s.laneCfg l 0xD, spanSince := s.tnow }
  (t.retarget l o.ctx).reshare

/-- Before the context table is rebuilt a lane opens into HELD staging with an object whose context, 0 here, is taken at the restore
(R80, R127, R370; log entry 38). -/
def State.openHeld (s : State) (l : Nat) : State :=
  let o : ObjChain := { ctx := 0, sourceType := s.laneCfg l 1, openTime := s.time.now, genesis := 0, prevDigest := 0, lastDigest := 0 }
  let t := s.modLane l fun x => if x.obj.isSome then { x with scanned := false } else
    { x with obj := some o, fill := s.newFill l, scanned := false
             copeBricks := s.laneCfg l 6, copePeriod := s.laneCfg l 7, copeSince := s.tnow, bricksSince := 0 }
  t.opened l (((s.lane l).obj).getD o)

/-- The object of a lane opened before the restore gets its context, where one is free and its stream has a zone (R117, R123, R127,
R428). -/
def State.nameObject (s : State) (l : Nat) : State :=
  match (s.lane l).obj with
  | none => s
  | some p =>
    if p.ctx ≠ 0 then s
    else match s.openStreams l (s.laneCfg l 0xB) with
      | none => if (s.lane l).active then s else s.modLane l fun x => { x with openStatus := 0x0309 }
      | some a =>
        match a.takeObjectAt l p.openTime with
        | none => if (s.lane l).active then s else s.modLane l fun x => { x with openStatus := 0x0503 }
        | some (o, b) =>
          let c := (b.setTails l (s.laneCfg l 0xB)).modLane l fun x => { x with
            obj := some { o with sourceType := p.sourceType }
            openStatus := if x.active then 0 else x.openStatus, scanned := true
            led := { x.led.startObject o with degraded := s.degraded } }
          (if (c.lane l).active then c.retarget l o.ctx else c).lineOf l

/-- The object that a start found open still stands and no closure of it is owed: the lane opens into it (R42, R428). -/
def LaneSt.standsOpen (x : LaneSt) : Bool := x.obj.isSome && !x.acts.contains (.object none)

/-- An attempt to open lane l; its outcome is OPEN_STATUS (R428). -/
def State.openLane (s : State) (l : Nat) : State :=
  let fail := fun (st : Status) => s.modLane l fun x => { x with openStatus := st }
  if (s.lane l).active then s.nameObject l
  else if s.openCheck l ≠ 0 then fail (s.openCheck l)
  else if !s.ctx.restoreDone then s.openHeld l
  else if (s.lane l).standsOpen then (match (s.lane l).obj with | some o => s.opened l o | none => s)
  else match s.openStreams l (s.laneCfg l 0xB) with
    | none => fail 0x0309
    | some a =>
      match a.takeObject l with
      | none => fail 0x0503
      | some (o, b) =>
        let first := (b.lane l).older.isEmpty && (b.lane l).obj.isNone
        let c := if first then b.setTails l (s.laneCfg l 0xB) else b
        let d := c.modLane l fun x =>
          if x.obj.isNone && x.acts.isEmpty then
            { x with obj := some o, fill := s.newFill l
                     led := if first then { x.led.startObject o with degraded := s.degraded } else x.led
                     copeBricks := s.laneCfg l 6, copePeriod := s.laneCfg l 7, copeSince := s.tnow, bricksSince := 0 }
          else { x with acts := x.acts.map fun a => if a = .object none then .object (some o) else a }
        (d.opened l o).lineOf l

/-- The lane's object closes and a new one opens; where a configured wythe has no zone for it, or no context is free, the object
stays open, its span restarts and the open is retried at every brick close; for want of a context source 245 is raised (R30, R49,
R123; log entry 107). -/
def State.renew (s : State) (l : Nat) : State :=
  let stays := s.modLane l fun x => { x with spanSince := s.tnow, openRetry := true }
  match s.openStreams l (s.laneCfg l 0xB) with
  | none => stays
  | some t =>
    match t.takeObject l with
    | none => stays.raise 245
    | some (o, u) =>
      (u.modLane l fun x => { x with acts := x.acts ++ [.object (some o)], openRetry := false }).opened l o

/-- An open that found no context is retried at a brick close (R123). -/
def State.retryOpen (s : State) (l : Nat) : State := if (s.lane l).openRetry then s.renew l else s

/-- All that is due on the lane closes; a brick close retries an open (R37, R38, R123). -/
def State.pump (s : State) (l : Nat) : State :=
  let t := iterate (·.pumpOne l) ((s.lane l).acts.length + 2) s
  if (s.lane l).sealing.isNone ∧ (t.lane l).sealing.isSome then t.retryOpen l else t

/-- A closure is owed and carried out as soon as the sealing buffer is free. -/
def State.owe (s : State) (l : Nat) (a : CloseAct) : State := (s.modLane l fun x => { x with acts := x.acts ++ [a] }).pump l

/-! ### Admission and staging (R12, R56, R57, R61) -/

/-- Bytes added to the lane's refusal count (R56). -/
def State.addRefused (s : State) (l n : Nat) : State :=
  (s.modLane l fun x => { x with
    led := { x.led with refused := x.led.refused + BitVec.ofNat 64 n }, refusedSince := satAdd x.refusedSince n }).lineOf l

/-- Bytes refused for the lane's source; a deferred USB read is not counted (R56). -/
def State.refuse (s : State) (l n : Nat) : State :=
  let usb := match (s.lane l).obj with | some o => o.sourceType == 7 | none => false
  if usb then s else s.addRefused l n

/-- A record appended to the filling payload (R37, R39). -/
def Fill.append (f : Fill) (r : Rec) (now : BitVec 80) (base : W64) (records risk : Bool) : Fill :=
  let g := if f.payload.isEmpty then
      { f with base := base, timeFirst := now, auStart := r.auStart, ssrc := r.ssrc, key := r.key, atRisk := risk }
    else f
  { g with
    payload := f.payload ++ r.bytes, timeLast := now, packets := g.packets + records.toNat, gaps := g.gaps + r.gaps
    late := g.late + r.late.toNat, rtpFirst := if g.rtpFirst.isSome then g.rtpFirst else r.rtp
    rtpLast := if r.rtp.isSome then r.rtp else g.rtpLast }

/-- Records keep whole bricks' boundaries: ALIGN is on and the source type is 01h to 06h (R37). -/
def Fill.whole (f : Fill) (sourceType : Nat) : Bool := f.align != 0 && decide (sourceType ≤ 6)

/-- The record opens an access unit or random-access point at which the brick aligns (R37). -/
def Fill.aligns (f : Fill) (r : Rec) : Bool :=
  ((f.align == 1 && r.auStart) || (f.align == 2 && r.rapFirst)) && !f.payload.isEmpty &&
    decide (f.alignMin * f.capacity ≤ 100 * f.payload.length)

/-- Always-on ticks in a day (R355). -/
def dayTicks : Nat := 76800 * 86400000

/-- OUTAGE_YEAR: the internal-class outage of the last 365 days, in ms (R355). -/
def State.outageYear (s : State) : Nat :=
  (s.ladder.outageDays.filter fun e => decide (s.aon / dayTicks < e.1 + 365)).foldl (fun (n : Nat) e => n + e.2) 0

/-- The outage of a rung entry since an always-on time: added to OUTAGE_TOTAL, and to the day's internal-class outage; passing
OUTAGE_BUDGET raises source 255 (R355). -/
def State.outage (s : State) (since : Nat) (external : Bool) : State :=
  let ms := (s.aon - since) / 76800
  let day := s.aon / dayTicks
  let days := if external then s.ladder.outageDays
    else Tab.modify (s.ladder.outageDays.filter fun e => decide (day < e.1 + 365)) 0 day (· + ms)
  let t := { s with ladder := { s.ladder with outageTotal := s.ladder.outageTotal + BitVec.ofNat 64 ms, outageDays := days } }
  if s.outageYear ≤ s.cfg 0x5000 9 ∧ s.cfg 0x5000 9 < t.outageYear then t.raise 255 else t

/-- The first staging write after a rung 3 or 4 ends its outage (R355). -/
def State.outageEnd (s : State) : State :=
  match s.ladder.owed with
  | none => s
  | some (since, external) => { s with ladder := { s.ladder with owed := none } }.outage since external

/-- An admitted record's bytes put into the lane's newest buffer, ACCEPTED and HELD from then on (R12). -/
def State.taken (s : State) (l : Nat) (o : ObjChain) (r : Rec) (hold : Bool) : State :=
  let n := r.bytes.length
  (s.modLane l fun x =>
    let y := x.modNewest fun f =>
      f.append r s.time.now x.led.accepted (decide (o.sourceType ≤ 6)) (s.holdup.inadequate.getLsbD 0)
    { y with
      openRec := if hold then some { start := x.newest.payload.length, timeLast := x.newest.timeLast } else x.openRec
      led := { x.led with accepted := x.led.accepted + BitVec.ofNat 64 n }, inflight := x.inflight + BitVec.ofNat 64 n }).lineOf l

/-- The staging of an admitted record: closing before it where the brick is full at a record boundary or aligned, the bytes
become ACCEPTED and HELD, and a brick that reaches its capacity closes (R12, R37). A record that both opens an aligned point and
does not fit closes the brick as full (log entry 106). `hold`: the record of an evidence descriptor, whose brick does not close
while it is in progress (R145). -/
def State.stage (s : State) (l : Nat) (o : ObjChain) (r : Rec) (hold : Bool := false) : State :=
  let n := r.bytes.length
  let f := (s.lane l).fill
  let aligned := f.aligns r && s.canClose l
  let before :=
    if f.whole o.sourceType && !f.payload.isEmpty && decide (f.capacity < f.payload.length + n) then
      s.closeBrick l 0 false f.payload.length
    else if aligned then s.closeBrick l 1 false f.payload.length
    else s
  let t := before.taken l o { r with auStart := r.auStart || aligned } hold
  ((if (s.lane l).sealing.isNone ∧ (before.lane l).sealing.isSome then t.retryOpen l else t).pump l).judgeInadequate.outageEnd

/-- A record offered while the object before its own waits to close: the first brick of the next object takes it in the third
buffer, if that is free and the record fits (R13, R30, R38). -/
def State.offerNext (s : State) (l : Nat) (r : Rec) (hold : Bool) : State × Status :=
  let x := s.lane l
  let n := r.bytes.length
  let f := x.nextFill.getD (s.newFill l)
  match x.nextObject with
  | none => (s.refuse l n, 0x0401)
  | some o =>
    if x.inflight.toNat + n > x.share.toNat ∨ x.openRec.isSome ∨ (x.nextFill.isNone ∧ x.writing.isSome) ∨
        f.capacity < f.payload.length + n then (s.refuse l n, 0x0401)
    else ((((s.modLane l fun y => { y with nextFill := some f }).taken l o r hold).judgeInadequate).outageEnd, 0)

/-- A record or unit offered to lane l, admitted or refused whole; the status is 0 where it was admitted (R61). The gap before a record that
is not admitted stands in no brick (R34; log entry 106). -/
def State.offer (s : State) (l : Nat) (r : Rec) (hold : Bool := false) : State × Status :=
  let x := s.lane l
  let n := r.bytes.length
  let f := x.fill
  if s.holdup.declared then (s.refuse l n, 0x0402)
  else if s.holdup.closed then (s.refuse l n, 0x0401)
  else if !x.acts.isEmpty then s.offerNext l r hold
  else match x.obj with
    | none => (s.refuse l n, 0x0401)
    | some o =>
      if x.inflight.toNat + n > x.share.toNat then
        let t := if !f.payload.isEmpty && s.canClose l then
          (s.closeBrick l 2 false f.payload.length).retryOpen l else s
        (t.refuse l n, 0x0401)
      else if x.openRec.isSome || decide (f.capacity ≤ f.payload.length) ||
          (decide (f.capacity < f.payload.length + n) && !s.canFull l) then (s.refuse l n, 0x0401)
      else (s.stage l o r hold, 0)

/-! ### Writing (R48, R49, R119, R429) -/

/-- The stream of a lane's object on a member. -/
def State.streamOf (s : State) (l c : Nat) : Nat := streamKey l (s.ctxRec c).retClass.toNat

/-- The zones that an extent needs: where it does not fit, the stream moves into the next zone; the first result says whether
every member has a place, the second whether a zone was entered (R49). -/
def State.placeExtent (s : State) (l : Nat) (b : Brick) : State × Bool × Bool :=
  let k := s.streamOf l b.ctx
  (s.wytheList.map fun w => s.brickMember w l b.seq.toNat).foldl (fun (a : State × Bool × Bool) m =>
    let mb := a.1.member m
    match mb.stream.find? (·.1 == k) with
    | some e =>
      if mb.fits e.2 (mb.lbas b.extent) then a
      else match mb.enter k with
        | some mb2 => (((a.1.finish m e.2.zone).modMember m fun _ => mb2).resetRazed m, a.2.1, true)
        | none => (a.1, false, a.2.2)
    | none =>
      match mb.enter k with
      | some mb2 => (a.1.modMember m fun _ => mb2, a.2.1, true)
      | none => (a.1, false, a.2.2)) (s, true, false)

/-- The location entries that a brick needs: it is the object's first extent in a zone entered after its first one (R119). -/
def State.locsFor (s : State) (l : Nat) (b : Brick) : List LocEntry :=
  let r := s.ctxRec b.ctx
  let ones : W64 := 0xFFFFFFFFFFFFFFFF
  (s.wytheList.map fun w => s.brickMember w l b.seq.toNat).filterMap fun m =>
    let mb := s.member m
    match mb.stream.find? (·.1 == s.streamOf l b.ctx) with
    | none => none
    | some e =>
      let last := r.lastLba.look ones m
      if r.firstLba.look ones m = ones ∨ last = ones ∨ last.toNat / mb.zoneLbas = e.2.zone then none
      else some { lba := BitVec.ofNat 48 e.2.next, member := BitVec.ofNat 2 m, repair := false, brickSeq := b.seq }

/-- Every entry added, or none where the free list runs out (R119). -/
def State.addLocs (s : State) (c : Nat) (es : List LocEntry) : Option State :=
  es.foldl (fun a e => match a with | none => none | some t => t.addLoc c e (s.extHeld c)) (some s)

/-- The members among `ms` for which the lane's entry, as applied, does not name the zone of the stream: their next write needs a
tail line first (R429). -/
def State.tailsDue (s : State) (l k : Nat) (ms : List Nat) : List Nat :=
  ms.filter fun m =>
    let b := s.member m
    match b.stream.find? (·.1 == k) with
    | some e => decide ((((s.journal.entry.look {} l).tail.look 0 m).toNat / b.zoneLbas) ≠ e.2.zone)
    | none => false

/-- Tails that name the place of a stream on member m, where they lie in another zone (R429). -/
def State.tailTo (s : State) (k : Nat) (t : Tab W64) (m : Nat) : Tab W64 :=
  match (s.member m).stream.find? (·.1 == k) with
  | some e => if (t.look 0 m).toNat / (s.member m).zoneLbas = e.2.zone then t else t.put m (BitVec.ofNat 64 e.2.next)
  | none => t

/-- The tail line of a stream's zones queued; the lane's writes wait for it (R429). -/
def State.queueTails (s : State) (l k : Nat) (ms : List Nat) : State :=
  (s.modLane l fun x => { x with tailWait := true, led := { x.led with tail := ms.foldl (s.tailTo k) x.led.tail } }).lineOf l

/-- The write of the lane's brick to wythe w with FUA: Zone Append to its stream's zone, or Write at the allocation pointer, which
moves on (R48, R49). -/
def State.writeBrick (s : State) (l : Nat) (b : Brick) (w : Nat) : State :=
  let m := s.brickMember w l b.seq.toNat
  let k := s.streamOf l b.ctx
  let p := (s.member m).stream.look { zone := 0, next := 0 } k
  let t := (s.ssdWrite m p.zone p.next b.image).modMember m fun mb =>
    { mb with stream := mb.stream.put k { p with next := p.next + mb.lbas b.extent } }
  t.modLane l fun x => { x with writing := x.writing.map fun v => { v with placed := v.placed ++ [(w, p.next)] } }

/-- The writes of the brick in the writing buffer issued to every configured wythe, unless a zone's tail line is not yet
applied, no zone is free, or no LOC_EXT context is free: then source 245 is raised and the take is retried (R48, R119,
R429). -/
def State.issueBrick (s : State) (l : Nat) : State :=
  match (s.lane l).writing with
  | none => s
  | some b =>
    if b.issued ∨ (s.lane l).tailWait ∨ s.wytheList.isEmpty ∨ !s.wythes.ssdsReady then s
    else
      let p := s.placeExtent l b
      let k := p.1.streamOf l b.ctx
      let ms := p.1.wytheList.map fun w => p.1.brickMember w l b.seq.toNat
      if !(p.1.tailsDue l k ms).isEmpty then p.1.queueTails l k ms
      else if !p.2.1 then p.1
      else match p.1.addLocs b.ctx (p.1.locsFor l b) with
        | none => p.1.raise 245
        | some t =>
          let u := t.wytheList.foldl (fun t w => t.writeBrick l b w) t
          u.modLane l fun x => { x with writing := x.writing.map fun v => { v with issued := true } }

/-- A sealed brick moves to the writing buffer when it is free (R13, R48). -/
def State.toWriting (s : State) (l : Nat) : State :=
  let x := s.lane l
  match x.writing, x.sealing with
  | none, some b =>
    if b.digest.isSome then (s.modLane l fun x => { x with sealing := none, writing := some b }).issueBrick l else s
  | _, _ => s

/-! ### Coping records (R45 to R47) -/

/-- The ledger read of a record of an object's chain (R47). -/
def State.ledgerRead (s : State) (l : Nat) (o : ObjChain) : LedRead :=
  let x := s.lane l
  { lastSeq := o.lastSeq, lastDigest := o.lastDigest, count := o.durableSince
    accepted := x.led.accepted, durable := x.led.durable, inflight := x.inflight, lost := x.led.lost
    refused := x.led.refused, time := s.time.now, source := s.time.source, trusted := s.trusted
    horizon := s.holdup.horizon, share := x.share, energy := s.holdup.eUsable, mono := s.mono
    openSeq := match x.obj with | some p => p.nextSeq | none => o.nextSeq }

/-- Bytes 000h to 39Fh of a record (R46, R51). -/
def State.recordBody (s : State) (l : Nat) (q : RecReq) (d : LedRead) (seq : W64) (slot : Nat) (epoch : W32) : Bytes :=
  let x := s.lane l
  toLE 0x3A0 (packNat
    [(0x434E5953, 0), (0x0100, 32), (0x0400, 48), (q.kind, 64), (d.trusted.toNat, 72),
     ((x.led.atRisk || s.holdup.inadequate.getLsbD 0).toNat, 73), ((s.ctxRec q.ctx).hold.toNat, 74), (x.restartRec.toNat, 75),
     (s.degraded.toNat, 76), (l, 80), (q.ctx, 96), (seq.toNat, 128), (d.lastSeq.toNat, 192), (d.count, 256),
     (leNat (toBE 48 d.lastDigest.toNat), 320), (leNat (toBE 48 x.signedDigest.toNat), 704), (d.accepted.toNat, 1088),
     (d.durable.toNat, 1152), (d.inflight.toNat, 1216), (d.lost.toNat, 1280), (d.refused.toNat, 1344), (d.time.toNat, 1408),
     (d.source.toNat, 1488), (d.horizon.toNat, 1536), (d.share.toNat, 1600), (d.energy.toNat, 1664), (d.mono.toNat, 1728),
     (d.openSeq.toNat, 1792), (slot, 1856), (epoch.toNat, 1888), (leNat (padTo 256 q.area), 2048)])

/-- The lane's chain of a context. -/
def LaneSt.chainOf (x : LaneSt) (c : Nat) : Option ObjChain :=
  match x.obj with
  | some o => if o.ctx = c then some o else x.older.find? (·.ctx == c)
  | none => x.older.find? (·.ctx == c)

/-- The lane's chain of a context changed by `f`. -/
def LaneSt.modChain (x : LaneSt) (c : Nat) (f : ObjChain → ObjChain) : LaneSt :=
  let g := fun (o : ObjChain) => if o.ctx = c then f o else o
  { x with obj := x.obj.map g, older := x.older.map g
           acts := x.acts.map fun a => match a with | .object (some o) => .object (some (g o)) | a => a }

/-- Every chain of the lane changed by `f`. -/
def LaneSt.mapChains (x : LaneSt) (f : ObjChain → ObjChain) : LaneSt :=
  { x with obj := x.obj.map f, older := x.older.map f
           acts := x.acts.map fun a => match a with | .object (some o) => .object (some (f o)) | a => a }

/-- A record formed: its ledger read, its place in the lane's chain of records, its signature requested; both counts of R45
restart. Without a key in the slot no record is written (R45 to R47, R332). -/
def State.formRecord (s : State) (l : Nat) (q : RecReq) : State :=
  let slot := s.laneCfg l 0xA
  let x := s.lane l
  let rd := match q.read, x.chainOf q.ctx, q.located with
    | some d, _, _ => some d
    | none, some o, _ => some (s.ledgerRead l o)
    | none, none, some g =>
      let r := s.ctxRec q.ctx
      some (s.ledgerRead l { ctx := q.ctx, sourceType := r.sourceType.toNat, openTime := r.openTime, genesis := 0, prevDigest := g
                             nextSeq := r.lastSeq + 1, lastSeq := r.lastSeq, lastDigest := g })
    | none, none, none => none
  match rd with
  | none => s
  | some d =>
    if !s.slotHoldsKey slot then s
    else
      let epoch := BitVec.ofNat 32 (s.cfg (0x4840 + slot) 1)
      let seq := x.signedSeq + 1
      let w : RecWait := { req := q, seq := seq, body := s.recordBody l q d seq slot epoch, slot := slot, epoch := epoch }
      let t := s.modLane l fun x =>
        let y := x.mapChains fun o => { o with durableSince := 0 }
        { y with rec1 := some w, cadenceDue := false, bricksSince := 0, copeSince := s.tnow, restartRec := false
                 copeBricks := s.laneCfg l 6, copePeriod := s.laneCfg l 7
                 led := { y.led with atRisk := s.holdup.inadequate.getLsbD 0 } }
      t.requestSign l

/-- The lane's next record, once none waits for signature: first those due by KIND, then a merged cadence point (R45). -/
def State.nextRecord (s : State) (l : Nat) : State :=
  let x := s.lane l
  if x.rec1.isSome ∨ ¬ x.scanned ∨ s.time.mono.isNone then s
  else match x.recQueue with
    | q :: r => (s.modLane l fun x => { x with recQueue := r }).formRecord l q
    | [] =>
      match x.cadenceDue, x.obj with
      | true, some o => (s.modLane l fun x => { x with cadenceDue := false }).formRecord l { kind := 1, ctx := o.ctx }
      | _, _ => s

/-- A record falls due (R45). -/
def State.recordDue (s : State) (l : Nat) (q : RecReq) : State :=
  (s.modLane l fun x => { x with recQueue := x.recQueue ++ [q] }).nextRecord l

/-- A cadence point: a record of KIND 01h falls due, or is merged into the next and counted while one waits (R45). -/
def State.cadence (s : State) (l : Nat) : State :=
  let x := s.lane l
  if x.obj.isNone then s
  else
    let t := s.modLane l fun x => { x with
      cadenceDue := true, copeMerged := if x.rec1.isSome then satAdd x.copeMerged 1 else x.copeMerged }
    t.nextRecord l

/-- Signed records whose writes are not issued are issued in order as the members have room (R48, R50). -/
def State.issueRecordsOf (s : State) (l : Nat) : State :=
  (s.lane l).recWrites.foldl (fun t w =>
    if w.issued || !s.wythes.ssdsReady then t
    else
      let r := t.issueRecords w.seq.toNat w.mono w.bytes
      if r.2.2 then r.1.modLane l fun x => { x with
        recWrites := x.recWrites.map fun v => if v.seq = w.seq then { v with issued := true, placed := r.2.1 } else v }
      else r.1) s

/-- The record waiting is signed: its SHA-384 is the next record's PREV_RECORD, and its writes are issued (R46 to R48). -/
def State.signed (s : State) (l : Nat) (w : RecWait) : State :=
  let sig := Config.ecdsaSign (s.scalarOf w.slot w.epoch) w.body
  let bytes := w.body ++ toBE 96 sig.toNat
  let t := s.modLane l fun x => { x with
    rec1 := none, signedSeq := w.seq, signedDigest := Config.sha384 bytes
    recWrites := x.recWrites ++ [{ kind := w.req.kind, ctx := w.req.ctx, seq := w.seq, bytes := bytes
                                   mono := BitVec.ofNat 64 (fieldAt w.body 0xD8 8) }] }
  (t.issueRecordsOf l).nextRecord l

/-! ### Completion (R30, R48, R54, R429) -/

/-- The context record after a brick has become DURABLE (R117). -/
def CtxRec.brickDone (r : CtxRec) (b : Brick) (places : List (Nat × Nat)) : CtxRec :=
  let ones : W64 := 0xFFFFFFFFFFFFFFFF
  { r with
    lastSeq := b.seq, objPayload := r.objPayload + BitVec.ofNat 64 b.payload.length
    firstLba := places.foldl (fun t p => if t.look ones p.1 = ones then t.put p.1 (BitVec.ofNat 64 p.2) else t) r.firstLba
    lastLba := places.foldl (fun t p => t.put p.1 (BitVec.ofNat 64 p.2)) r.lastLba }

/-- The ledger line of a DURABLE brick (R54, R429). -/
def JEntry.brickDone (e : JEntry) (b : Brick) (tails : List (Nat × Nat)) (next : Option ObjChain) : JEntry :=
  let a := { e with
    durable := e.durable + BitVec.ofNat 64 b.payload.length, lastSeq := b.seq, lastDigest := b.digest.getD 0
    streamEnd := b.streamEnd, tail := tails.foldl (fun t p => t.put p.1 (BitVec.ofNat 64 p.2)) e.tail }
  if b.last then (match next with | some o => a.startObject o | none => { a with isOpen := false }) else a

/-- The brick in the writing buffer is DURABLE (R12, R30, R48, R54, R429). -/
def State.brickDurable (s : State) (l : Nat) (b : Brick) : State :=
  let x := s.lane l
  let places := (b.written.filter fun p => s.wytheList.contains p.1).map fun p => (s.brickMember p.1 l b.seq.toNat, p.2)
  let tails := places.map fun p => (p.1, p.2 + (s.member p.1).lbas b.extent)
  let y := x.modChain b.ctx fun o =>
    { o with lastSeq := b.seq, lastDigest := b.digest.getD 0, durableSince := o.durableSince + 1 }
  let older := if b.last then y.older.filter (·.ctx != b.ctx) else y.older
  let next := if b.last then (older ++ y.obj.toList).head? else none
  let n := BitVec.ofNat 64 b.payload.length
  let t := (s.modCtx b.ctx fun r => r.brickDone b places).setLane l { y with
    writing := none, older := older, inflight := y.inflight - n, bricksSince := y.bricksSince + 1
    led := { y.led.brickDone b tails next with degraded := s.degraded } }
  let u := t.lineOf l
  if b.last then
    let q : RecReq := { kind := 3, ctx := b.ctx, read := (y.chainOf b.ctx).map (u.ledgerRead l) }
    (u.image b.ctx).recordDue l q
  else if x.copeBricks ≠ 0 ∧ x.copeBricks ≤ x.bricksSince + 1 then u.cadence l
  else u

/-- Every configured wythe has completed the brick. -/
def State.brickComplete (s : State) (b : Brick) : Bool :=
  !s.wytheList.isEmpty && s.wytheList.all fun w => b.written.any (·.1 == w)

/-- A signed record is on every configured wythe: the journal takes RECORD_SEQ, LAST_RECORD (R48, R76); a razing record makes
step 3 of R52 due. -/
def State.recordDone (s : State) (l : Nat) (w : RecWrite) : State :=
  (s.modLane l fun x => { x with
    recWrites := x.recWrites.filter (·.seq != w.seq)
    razeReady := if w.kind = 4 then x.razeReady ++ [(w.ctx, w.seq)] else x.razeReady
    doneRecords := x.doneRecords ++ [(w.seq, w.bytes)]
    led := { x.led with recordSeq := w.seq, lastRecord := Config.sha384 w.bytes } }).lineOf l

/-- Records that every configured wythe has completed become DURABLE in order (R48). -/
def State.recordsDone (s : State) (l : Nat) : State :=
  (s.lane l).recWrites.foldl (fun t w =>
    if !t.wytheList.isEmpty && t.wytheList.all (w.written.contains ·) then t.recordDone l w else t) s

/-- What the writing buffer holds completes where every configured wythe has written it; the next sealed brick follows, and the
lane closes what is due (R48, R54). -/
def State.settle (s : State) (l : Nat) : State :=
  let t := match (s.lane l).writing with
    | some b => if b.issued && s.brickComplete b then s.brickDurable l b else s
    | none => s
  ((t.recordsDone l).toWriting l).pump l

/-! ### Object close and lane close (R30) -/

/-- The bytes of records and units standing in the lane's port ring are discarded; what is dropped is counted by the caller's
interface (R30, R378). -/
def State.closeLane (s : State) (l : Nat) : State :=
  let t := s.modLane l fun x => { x with
    active := false, openStatus := 0x030A, ring := [], windows := [], openRetry := false }
  t.reshare.owe l (.object none)

end Sys2Proof.Machine
end

