-- ==== Sys2Proof/Machine/Course.lean ====
section
/-! DEFINITION. Courses: command words, fetching and checking, status words, suspension, resume and end (chapter 04). The
commands' own meanings stand in CourseCmd. -/
namespace Sys2Proof.Machine

/-! ### Fields of a command word (R82) -/

def wOp (w : BitVec 256) : Nat := bits w 0 8
def wNext (w : BitVec 256) : Bool := w.getLsbD 8
def wPost (w : BitVec 256) : Bool := w.getLsbD 9
def wSpan (w : BitVec 256) : Bool := w.getLsbD 10
def wList (w : BitVec 256) : Bool := w.getLsbD 11
def wSuspend (w : BitVec 256) : Bool := w.getLsbD 12
def wSkip (w : BitVec 256) : Bool := w.getLsbD 13
def wTol (w : BitVec 256) : Nat := bits w 14 2
def wCount (w : BitVec 256) : Nat := bits w 32 32
def wAddr (w : BitVec 256) : BitVec 40 := w.extractLsb' 64 40
def wSel (w : BitVec 256) : BitVec 24 := w.extractLsb' 128 24
def wCtx (w : BitVec 256) : Nat := bits w 152 20
def wParam (w : BitVec 256) : W64 := w.extractLsb' 192 64

/-- A control word: NOP, JUMP, BRANCH, WAIT, POST (R91). -/
def wControl (w : BitVec 256) : Bool := decide (1 ≤ wOp w) && decide (wOp w ≤ 5)

/-- The context a word acts on (R82). -/
def wObject (w : BitVec 256) (own : Nat) : Nat := if wCtx w = 0 then own else wCtx w

/-! ### Addresses of R83 -/

/-- The host bus address of a host-form address (R83). -/
def hostAddr (base : W64) (a : BitVec 40) : Nat := (base.toNat + bits a 0 39) % 2 ^ 64

/-- A byte of host memory as the command's reads give it, else as the device last wrote it, else 0 (log entry 20). -/
def State.hostByte (s : State) (h : HostRead) (x : Nat) : Byte :=
  match h.find? fun b => decide (b.1 ≤ x) && decide (x < b.1 + b.2.length) with
  | some b => b.2.getD (x - b.1) 0
  | none => Tab.look s.hostMem 0 x

/-- `n` bytes at a 40-bit address (R83). -/
def State.readAt (s : State) (base : W64) (h : HostRead) (a : BitVec 40) (n : Nat) : Bytes :=
  if a.getLsbD 39 then (List.range n).map fun i => s.hostByte h ((hostAddr base a + i) % 2 ^ 64)
  else s.devBytes (bits a 0 35) n

/-- Bytes written at a 40-bit address (R83). -/
def State.writeAt (s : State) (base : W64) (a : BitVec 40) (b : Bytes) : State :=
  if a.getLsbD 39 then s.hostWrite (hostAddr base a) b else s.setBytes (bits a 0 35) b

/-- An address's form: host form needs a HOST_BASE, device form needs bits [38:35] clear (R83). -/
def formOk (hosted : Bool) (a : BitVec 40) : Bool :=
  if a.getLsbD 39 then hosted else decide (bits a 35 4 = 0)

/-- A whole range passes R83. -/
def rangeOk (hosted : Bool) (a : BitVec 40) (n : Nat) (write : Bool) : Bool :=
  formOk hosted a && (a.getLsbD 39 || decide (n = 0) || devRangeOk (bits a 0 35) n write)

/-- The pieces of a scatter list of n bytes from entry i on; false where an entry fails (R86). -/
def State.listPieces (s : State) (base : W64) (hosted : Bool) (h : HostRead) (write : Bool) (list : BitVec 40) (i left : Nat) :
    Nat → List (BitVec 40 × Nat) × Bool
  | 0 => ([], decide (left = 0))
  | fuel + 1 =>
    if left = 0 then ([], true)
    else
      let at_ := list + BitVec.ofNat 40 (8 * i)
      let e := BitVec.ofNat 64 (leNat (s.readAt base h at_ 8))
      let a : BitVec 40 := e.extractLsb' 0 40
      let n := min (bits e 40 24) left
      if rangeOk hosted at_ 8 false && decide (n ≠ 0) && rangeOk hosted a n write then
        let r := s.listPieces base hosted h write list (i + 1) (left - n) fuel
        ((a, n) :: r.1, r.2)
      else ([], false)

/-- The pieces of memory that the first n of a word's COUNT bytes lie in: a list's entries are fetched as the transfer reaches them;
false where one of those is malformed (R86). -/
def State.pieces (s : State) (base : W64) (hosted : Bool) (h : HostRead) (write : Bool) (w : BitVec 256) (n : Nat) :
    List (BitVec 40 × Nat) × Bool :=
  if wList w then s.listPieces base hosted h write (wAddr w) 0 n 65536
  else ([(wAddr w, n)], true)

/-- The bytes in pieces of memory. -/
def State.gatherPieces (s : State) (base : W64) (h : HostRead) (ps : List (BitVec 40 × Nat)) : Bytes :=
  ps.flatMap fun p => s.readAt base h p.1 p.2

/-- Bytes placed over pieces of memory, as many as there are. -/
def State.scatter (s : State) (base : W64) : List (BitVec 40 × Nat) → Bytes → State
  | [], _ => s
  | p :: r, b => if b.isEmpty then s else (s.writeAt base p.1 (b.take p.2)).scatter base r (b.drop p.2)

/-! ### Courses held -/

/-- The course of a context. -/
def State.course (s : State) (c : Nat) : Course := s.courses.held.look {} c

/-- The course of a context replaced. -/
def State.setCourse (s : State) (c : Nat) (x : Course) : State :=
  { s with courses := { s.courses with held := s.courses.held.put c x } }

/-- The course of a context changed by `f`. -/
def State.modCourse (s : State) (c : Nat) (f : Course → Course) : State := s.setCourse c (f (s.course c))

/-- A course runs: held and not suspended (R105). -/
def State.courseRuns (s : State) (c : Nat) : Bool := (s.ctxRec c).course && !(s.ctxRec c).suspended

/-- Its tile can run it: clocked and powered; after a declaration courses of tiles 1 to 11 stand where they are (R105, R110,
R362). -/
def State.courseTile (s : State) (c : Nat) : Bool :=
  s.tilePowered (s.ctxRec c).tile.toNat && (!s.holdup.declared || (s.ctxRec c).tile == 0)

/-- An engine of a tile, which one is a free value (R105; log entry 2). -/
def State.anyEngine (s : State) (tile : Nat) : Nat := 8 * tile + (Config.freeBits 3 s.draws).toNat

/-! ### Submission entries completed by courses (R109, R287) -/

/-- The entry a reference names still stands, with no completion. -/
def TakenEntry.open (t : TakenEntry) (e : EntryRef) : Bool := t.no == e.no && t.done.isNone

/-- An entry's completion becomes ready, once; a second one, or one of an entry that recovery has completed, is discarded and counted
in STALE (R22, R290, R293, R294). -/
def State.entryDone (s : State) (e : EntryRef) (d : RingDone) : State :=
  let p := s.rings.pair.look {} e.queue
  if p.entries.any (·.open e) then
    let q := { p with entries := p.entries.map fun t => if t.open e then { t with started := true, done := some d } else t }
    { s with rings := { s.rings with pair := s.rings.pair.put e.queue q } }
  else
    { s with rings := { s.rings with
        pair := s.rings.pair.put e.queue { p with stale := p.stale + 1 }
        staleTotal := satAdd s.rings.staleTotal 1 } }

/-- The host submission that started a course completes, once, with LAST_STATUS beside the status (R22, R109, R290). -/
def State.completeStart (s : State) (c : Nat) (st : Status) (detail : W64) : State :=
  match (s.course c).entry with
  | none => s
  | some e =>
    (s.entryDone e { status := st, detail := detail, aux := (s.ctxRec c).lastStatus }).modCourse c fun x => { x with entry := none }

/-! ### Status words (R89, R90) -/

/-- The 32 bytes of a status word (R89). -/
def statusBytes (r : CtxRec) (c kind : Nat) (addr : BitVec 40) (op engine : Nat) (v : WordResult) : Bytes :=
  toLE 32 (packNat
    [(v.status.toNat, 0), (op, 16), (kind, 24), (v.diff.toNat, 27), (v.skipped.toNat, 28), (v.second.isSome.toNat, 29),
     (addr.toNat, 32), (engine, 72), (v.residual.toNat, 80), (c, 112), (r.resumeCause.toNat, 132),
     ((v.second.getD 0).toNat, 136), ((r.postSeq + 1).toNat, 152), (v.detail.toNat, 192)])

/-- ENGINE of a status word: the one that runs the course, FFh for a course that no engine holds (R89). -/
def State.engineOf (s : State) (c : Nat) : Nat :=
  if (s.ctxRec c).suspended || !s.courses.held.any (·.1 == c) then 0xFF else (s.course c).engine

/-- The opcode of the word at an address for OPCODE of R89; of a word in host memory that the device has not read it is a free value
(log entry 109). -/
def State.opcodeAt (s : State) (a : BitVec 40) : Nat :=
  if a.getLsbD 39 then (Config.freeBits 8 s.draws).toNat else (s.devByte (bits a 0 35)).toNat

/-- A status word written at the course's status address, then its notification channel fires (R90, R104). -/
def State.postStatus (s : State) (c kind : Nat) (addr : BitVec 40) (op : Nat) (v : WordResult) : State :=
  let r := s.ctxRec c
  let t := s.writeAt r.hostBase r.statusAddr (statusBytes r c kind addr op (s.engineOf c) v)
  let u := t.setCtx c { r with postSeq := r.postSeq + 1 }
  if r.notifyEn then u.publishCore r.notify.toNat else u

/-! ### Causes, resume, suspension, end (R106 to R109) -/

/-- The highest cause of a set. -/
def highest (v : BitVec 16) : Option Nat := (List.range 16).reverse.find? fun i => v.getLsbD i

/-- Causes that end a SUSPEND: 1, 2, 3, 4, 7, 8, 9 (R107). -/
def suspendMask : BitVec 16 := 0x039E

/-- Causes that end a WAIT: those of its mask, 4, 8 and 9 always, 6 with a timeout (R107). -/
def waitMask (w : BitVec 256) : BitVec 16 :=
  ((wParam w).extractLsb' 0 16 &&& 0x00BE) ||| 0x0310 ||| (if wCount w = 0 then 0 else 0x0040)

/-- A course becomes ready: it stands behind those that are (R28, R105). -/
def State.queueReady (s : State) (c : Nat) : State :=
  { s with courses := { s.courses with ready := s.courses.ready.filter (· != c) ++ [c] } }

/-- A ready course has been taken, or is none any more. -/
def State.unready (s : State) (c : Nat) : State := { s with courses := { s.courses with ready := s.courses.ready.filter (· != c) } }

/-- The tile takes its ready courses in arrival order: no ready course of the tile stands before this one (R28, R105). -/
def State.myTurn (s : State) (c : Nat) : Bool :=
  (s.courses.ready.takeWhile (· != c)).all (fun d => (s.ctxRec d).tile != (s.ctxRec c).tile) || !s.courses.ready.contains c

/-- A suspended course with an enabled pending cause resumes on the highest one, if the claim on its context can be taken
(R106, R108, R120). -/
def State.tryResume (s : State) (c : Nat) : State :=
  let r := s.ctxRec c
  let x := s.course c
  if !(r.course && r.suspended) then s
  else match highest (r.pending &&& x.mask) with
    | none => s
    | some n =>
      let e := s.anyEngine r.tile.toNat
      match s.tryClaim c e (some c) with
      | none => s
      | some t =>
        ((t.modCtx c fun r => { r with
            suspended := false, resumeCause := BitVec.ofNat 4 n, pending := r.pending &&& ~~~(BitVec.ofNat 16 (2 ^ n)) }).setCourse c
          { addr := r.resumeAddr, fresh := true, engine := e, hosted := x.hosted, entry := x.entry }).drawn.queueReady c

/-- Suspended courses whose contexts share a full cache set with a context: a resume among them may wait for a way (R120). -/
def State.setWaiters (s : State) (c : Nat) : List Nat :=
  if s.ctx.cache.length < 8 ∨ (s.ctx.waySet c).length < 8 then []
  else (s.courses.held.filter fun e => e.1 != c && (s.ctxRec e.1).suspended && s.ctx.setOf e.1 == s.ctx.setOf c).map (·.1)

/-- A claim released; a course of the context that waits for it resumes, and those that waited for a way of its cache set (R106, R120,
R122). -/
def State.release (s : State) (c : Nat) : State :=
  let t := (s.releaseClaim c).tryResume c
  (t.setWaiters c).foldl State.tryResume t

/-- A resume cause arrives for a context that holds a course, or that is not yet restored and keeps it pending (R108, R127). -/
def State.cause (s : State) (c n : Nat) : State :=
  let r := s.ctxRec c
  if !r.course && (s.ctx.restoreDone || r.state != 0) then s
  else
    let bit : BitVec 16 := BitVec.ofNat 16 (2 ^ n)
    let t := if r.pending &&& bit = 0 then s
      else { s with courses := { s.courses with merged := satAdd s.courses.merged 1 } }
    (t.setCtx c { r with pending := r.pending ||| bit }).tryResume c

/-- The claims that a course took on other contexts are released at its end (R109, R122). -/
def State.releaseTaken (s : State) (c : Nat) : State :=
  ((s.ctx.courseClaim.filter fun e => e.2 == c && e.1 != c).map (·.1)).foldl State.release s

/-- The course state of a record cleared (R109). -/
def CtxRec.endCourse (r : CtxRec) : CtxRec :=
  { r with course := false, suspended := false, lenMem := false, notifyEn := false, notify := 0, pending := 0, resumeCause := 0
           lastStatus := 0, resumeAddr := 0, postSeq := 0, statusAddr := 0, hostBase := 0 }

/-- The course counters at an end (R113). -/
def CourseStore.countEnd (t : CourseStore) (st : Status) : CourseStore :=
  if st = 0 then t
  else if 0x0101 ≤ st ∧ st ≤ 0x017F then { t with malformed := satAdd t.malformed 1 }
  else if 0x0100 ≤ st ∧ st ≤ 0x01FF then t
  else { t with errorEnds := satAdd t.errorEnds 1 }

/-- No INGEST of a course runs on a lane any more (R93). -/
def State.ingestOff (s : State) (c : Nat) : State :=
  { s with lanes := s.lanes.map fun (e : Nat × LaneSt) => (e.1, if e.2.ingest = some c then { e.2 with ingest := none } else e.2) }

/-- The course of a context ends without a status word: its state is cleared, its host submission completes with `st`, its
claims are released, the record is imaged (R109, R126). -/
def State.dropCourse (s : State) (c : Nat) (st : Status) (detail : W64 := 0) : State :=
  let a := s.completeStart c st detail
  let b := { a with
    courses := { a.courses.countEnd st with held := a.courses.held.del c, ready := a.courses.ready.filter (· != c) }
    lanes := a.lanes.map fun (e : Nat × LaneSt) => (e.1, if e.2.ingest = some c then { e.2 with ingest := none } else e.2) }
  let d := ((b.modCtx c CtxRec.endCourse).image c).releaseTaken c
  if d.ctx.courseClaim.any fun e => e.1 == c && e.2 == c then d.releaseClaim c else d

/-- A course ends: KIND 1 status word, then everything of its end (R109). -/
def State.endCourse (s : State) (c : Nat) (addr : BitVec 40) (op : Nat) (v : WordResult) : State :=
  (s.postStatus c 1 addr op v).dropCourse c v.status v.detail

/-- A course suspends at an address: KIND 4 word if asked for, state stored, claim released, its host submission completes, the
record is imaged; a pending enabled cause resumes it at once (R106, R108, R109, R126). -/
def State.suspend (s : State) (c : Nat) (resume : BitVec 40) (w : BitVec 256) (mask : BitVec 16) (channel : Option (BitVec 9)) :
    State :=
  let a := if wPost w then s.postStatus c 4 resume (if resume = (s.course c).addr then wOp w else s.opcodeAt resume) {} else s
  let b := a.completeStart c 0 0
  let d := (b.modCtx c fun r => { r with suspended := true, resumeAddr := resume }).setCourse c
    { hosted := (b.course c).hosted, mask := mask, channel := channel }
  (d.image c).release c

/-! ### What follows a word (R87, R91, R102) -/

/-- The span's memory forgotten, and the word ended. -/
def Course.next (x : Course) (addr : BitVec 40) : Course :=
  { addr := addr, engine := x.engine, hosted := x.hosted, entry := x.entry, stop := x.stop }

/-- A status of a malformed word (R91, R113). -/
def malformed (st : Status) : Bool := decide (0x0101 ≤ st) && decide (st ≤ 0x017F)

/-- The status a course ends with after a word: LAST_STATUS where it is a control word (R91). -/
def State.lastOf (s : State) (c : Nat) (w : BitVec 256) (v : WordResult) : WordResult :=
  { v with status := if wControl w then (s.ctxRec c).lastStatus else v.status }

/-- After a word that does not jump: the course continues, ends, or waits to see whether a BRANCH follows (R91, R108). -/
def State.afterWord (s : State) (c : Nat) (w : BitVec 256) (v : WordResult) : State :=
  let x := s.course c
  if x.stop then s.endCourse c x.addr (wOp w) { v with status := 0x0181 }
  else if malformed v.status then s.endCourse c x.addr (wOp w) v
  else if !wNext w then s.endCourse c x.addr (wOp w) (s.lastOf c w v)
  else
    let y := x.next (x.addr + 32)
    if v.status = 0 then (if wPost w then s.postStatus c 2 x.addr (wOp w) v else s).setCourse c y
    else s.setCourse c { y with failed := some (x.addr, w, v) }

/-- After a JUMP or a taken BRANCH (R102). -/
def State.jumpTo (s : State) (c : Nat) (w : BitVec 256) (target : BitVec 40) : State :=
  let x := s.course c
  if x.stop then s.endCourse c x.addr (wOp w) { status := 0x0181 }
  else (if wPost w then s.postStatus c 2 x.addr (wOp w) {} else s).setCourse c (x.next target)

/-- The result of R87 and R89 of a command's end. -/
def WordEnd.result (e : WordEnd) (w : BitVec 256) : WordResult :=
  let diff := e.long || (decide (e.count ≠ 0) && decide (e.done < e.count))
  let ok := match wTol w with | 0 => false | 1 => !e.long | _ => true
  { status := if e.status == 0 && diff && !ok then 0x0180 else e.status, diff := diff, skipped := wSkip w, second := e.second
    residual := if e.long then 0 else BitVec.ofNat 32 (e.count - e.done), detail := e.detail }

/-- A word of a span that is not its last is over: POST acts on it, and the continuation word follows; a stop ends the course there
(R85, R108). -/
def State.spanOn (s : State) (c : Nat) (w : BitVec 256) (f : Course → Course) (v : WordResult := {}) : State :=
  let x := s.course c
  let y := f { x with
    addr := x.addr + 32, word := none, head := some (x.head.getD w), spanWords := x.spanWords + 1, total := x.total + wCount w
    wait := none }
  if x.stop then s.endCourse c x.addr (wOp w) { status := 0x0181, residual := BitVec.ofNat 32 (y.total - y.done) }
  else (if wPost w then s.postStatus c 2 x.addr (wOp w) v else s).setCourse c y

/-- A command other than a control word ends; within a span it ends at the span's last word, and the words before that one are passed
over (R85, R87, R91; log entry 109). After a declaration the courses of tiles 1 to 11 stand where they are, with no status word
(R110). -/
def State.finishWord (s : State) (c : Nat) (e : WordEnd) : State :=
  match (s.course c).word with
  | none => s
  | some w =>
    let v := e.result w
    if s.holdup.declared && (s.ctxRec c).tile != 0 then s
    else if wSpan w && !malformed e.status then s.spanOn c w (fun y => { y with spanEnd := some e }) v
    else (s.modCtx c fun r => { r with lastStatus := v.status, lenMem := v.diff }).afterWord c w v

/-! ### Checking a fetched word (R84, R92, R113, R115) -/

/-- Opcodes of R92. -/
def opAssigned (op : Nat) : Bool :=
  (decide (1 ≤ op) && decide (op ≤ 5)) || (decide (0x10 ≤ op) && decide (op ≤ 0x18)) || (decide (0x20 ≤ op) && decide (op ≤ 0x24))

/-- Bits of SELECTOR and PARAM that a word's command defines (R92, R103); of NVME's PARAM bits [39:35] are none (R82; log entry 109).
`t` is the lane's source type for INGEST. -/
def definedBits (w : BitVec 256) (t : Nat) : Nat × Nat :=
  let all := 0xFFFFFFFFFFFFFFFF
  let place := if (wSel w).getLsbD 3 then 0x1FFFFFFFFFFFF else all
  match wOp w with
  | 0x03 => (0, 0xFFFF001F)
  | 0x04 => (0, 0x01FF03BE)
  | 0x05 => (0, all)
  | 0x10 => (0xFF, if wSkip w then 3 else if t = 7 then all else 0)
  | 0x11 => (0xFF, 3)
  | 0x12 => (0xFF, 0x1FF)
  | 0x13 => (3, 0)
  | 0x14 => (0xF, place)
  | 0x15 => (0xB, place)
  | 0x16 => (0, 0xFFFF)
  | 0x17 => (0x1F, 0)
  | 0x18 => (0xFF, 0)
  | 0x20 => (0x1F, 1)
  | 0x21 => (7, 0x7FFFFFFFF)
  | 0x22 => (0x737, if bits (wSel w) 4 2 = 0 then all else 0)
  | 0x23 => (0x13, 0)
  | 0x24 => (0x13, 0)
  | _ => (0, 0)

/-- The receive direction of ETH, CAN and TDM (R103). -/
def wReceives (w : BitVec 256) : Bool := (wSel w).getLsbD 4

/-- Source types 01h to 06h (R35). -/
def packetType (t : Nat) : Bool := decide (1 ≤ t) && decide (t ≤ 6)

/-- The command accepts SPAN and LIST (R84). -/
def spanAccepted (w : BitVec 256) (t : Nat) : Bool :=
  [0x13, 0x14, 0x20, 0x22, 0x23, 0x24].contains (wOp w) || (wOp w == 0x10 && t == 8)

/-- The command accepts SKIP (R84). -/
def skipAccepted (w : BitVec 256) (t : Nat) : Bool :=
  (wOp w == 0x10 && packetType t) || [0x14, 0x22].contains (wOp w) || ([0x20, 0x23, 0x24].contains (wOp w) && wReceives w)

/-- A flag is set that the command or the position does not accept (R84, R106). -/
def badFlag (w : BitVec 256) (t : Nat) (cont : Bool) : Bool :=
  ((wSpan w || wList w) && !spanAccepted w t) || (wSkip w && !skipAccepted w t) || (wSuspend w && cont) ||
    (decide (wTol w ≠ 0) && decide (wTol w ≠ 3) && wControl w)

/-- A continuation word that differs from the word that began the span (R85). -/
def spanDiffers (head w : BitVec 256) : Bool :=
  wOp head != wOp w || wSel head != wSel w || wCtx head != wCtx w || wParam head != wParam w || wSkip head != wSkip w ||
    wTol head != wTol w

/-- The command has an address of its own for this word (R92). -/
def usesAddress (w : BitVec 256) (t : Nat) : Bool :=
  match wOp w with
  | 0x02 | 0x03 | 0x13 | 0x14 | 0x17 | 0x18 | 0x20 | 0x21 | 0x22 | 0x23 | 0x24 => !wSkip w
  | 0x10 => t == 8
  | 0x12 => (wParam w).getLsbD 8
  | _ => false

/-- The bytes a word reaches at ADDRESS, and whether it writes them (R83, R92). -/
def extentOf (w : BitVec 256) : Nat × Bool :=
  match wOp w with
  | 0x12 => (1024, true)
  | 0x14 | 0x22 => (wCount w, true)
  | 0x17 => (32 * wCount w, true)
  | 0x18 => (48 * wCount w, true)
  | 0x20 | 0x23 | 0x24 => (wCount w, wReceives w)
  | 0x21 => (64, false)
  | _ => (wCount w, false)

/-- The alignment that ADDRESS must have (R86, R102, R138). -/
def alignOf (w : BitVec 256) : Nat :=
  match wOp w with
  | 0x02 | 0x03 | 0x17 => 32
  | _ => if wList w then 8 else 1

/-- ADDRESS passes R83. -/
def addressOk (w : BitVec 256) (hosted : Bool) : Bool :=
  if wOp w = 2 ∨ wOp w = 3 ∨ wList w then formOk hosted (wAddr w)
  else if wOp w = 0x17 then !(wAddr w).getLsbD 39 && rangeOk hosted (wAddr w) (extentOf w).1 true
  else rangeOk hosted (wAddr w) (extentOf w).1 (extentOf w).2

/-- NVME's data buffer passes R83; it is in device form (R103). -/
def bufferOk (w : BitVec 256) : Bool :=
  wOp w != 0x21 || decide (wCount w = 0) || devRangeOk (bits (wParam w) 0 35) (wCount w) true

/-- A value out of range (R82, R84, R87, R88, R92 to R103); `tile` is the course's tile, `before` what the span's earlier words count. -/
def badValue (w : BitVec 256) (t tile before : Nat) : Bool :=
  let op := wOp w
  let sel := wSel w
  let p := wParam w
  let test := bits p 0 4
  let usesCtx := op == 0x13 || op == 0x14 || op == 0x15 || op == 0x16 || (op == 3 && (test == 6 || test == 8))
  wTol w == 3 || (!usesCtx && wCtx w != 0) || (!usesAddress w t && wAddr w != 0) ||
    ([1, 2, 3, 5, 0x11, 0x12, 0x16].contains op && wCount w != 0) ||
    (op == 3 && decide (8 < test)) || (op == 0x10 && wSkip w && bits p 0 2 == 3) || (op == 0x11 && bits p 0 2 == 3) ||
    (op == 0x12 && bits p 0 8 != 1 && bits p 0 8 != 2) ||
    (op == 0x13 && (wCount w == 0 || (sel.getLsbD 1 && before + wCount w != 1024 && !wSpan w))) ||
    (op == 0x14 && bits sel 0 2 == 3) ||
    (op == 0x16 && p != 0 && p != 1 && p != 2 && p != 0xFFFF) ||
    (op == 0x17 && (wCount w == 0 || decide (65535 < wCount w) || (bits sel 0 5 != 0x1F && bits sel 0 5 / 2 != tile))) ||
    (op == 0x18 && (wCount w == 0 || decide (256 < bits sel 0 8 + wCount w))) ||
    (op == 0x20 && decide (9 < bits sel 0 4)) || (op == 0x21 && decide (0x200000 < wCount w)) ||
    (op == 0x22 && bits sel 4 2 == 3)

/-- A form allowed only in the course of context 0 after a declaration (R94, R95). -/
def onlyLast (w : BitVec 256) : Bool :=
  (wOp w == 0x11 && bits (wParam w) 0 2 == 2) || (wOp w == 0x12 && bits (wParam w) 0 8 == 2)

/-- The source type INGEST meets on a lane (R84). -/
def State.laneType (s : State) (l : Nat) : Nat :=
  match (s.lane l).obj with
  | some o => o.sourceType
  | none => s.laneCfg l 1

/-- The first failed check of a word fetched at an address, in the order of R115; 0 where none fails (R113). -/
def State.checkWord (s : State) (c : Nat) (a : BitVec 40) (w : BitVec 256) : Status :=
  let x := s.course c
  let t := s.laneType (bits (wSel w) 0 8)
  let m := definedBits w t
  let reserved := bits w 16 16 != 0 || bits w 104 24 != 0 || bits w 172 20 != 0 ||
    (wSel w &&& ~~~(BitVec.ofNat 24 m.1)) != 0 || (wParam w &&& ~~~(BitVec.ofNat 64 m.2)) != 0
  if !opAssigned (wOp w) then 0x0101
  else if bits a 0 5 ≠ 0 ∨ (usesAddress w t ∧ (wAddr w).toNat % alignOf w ≠ 0) then 0x0102
  else if (usesAddress w t && !addressOk w x.hosted) || !bufferOk w then 0x0103
  else if reserved then 0x0104
  else if badFlag w t x.head.isSome then 0x0105
  else if (match x.head with | some h => spanDiffers h w | none => false) then 0x0106
  else if badValue w t (s.ctxRec c).tile.toNat x.total then 0x0107
  else if onlyLast w ∧ ¬ (c = 0 ∧ (s.holdup.declared ∨ s.ladder.warm.isSome)) then 0x0109
  else if 256 ≤ x.spanWords then 0x010A
  else 0

/-- A word address is in general DRAM or in host memory (R81). -/
def wordAddrOk (hosted : Bool) (a : BitVec 40) : Bool :=
  if a.getLsbD 39 then hosted else decide (a.toNat + 31 < 0x370000000)

/-! ### Starting a course (R104) -/

/-- The refusal of a start before the claim: context 0, a stale handle, a status address misaligned or not permitted
(log entry 21). -/
def State.startCheck (s : State) (c : Nat) (gen : BitVec 16) (status : BitVec 40) (hosted : Bool) : Status :=
  if c = 0 then 0x0506
  else if !s.handleOk c gen then 0x0505
  else if bits status 0 5 ≠ 0 then 0x0102
  else if !rangeOk hosted status 32 true then 0x0103
  else 0

/-- The sweep has not yet delivered cause 1 to a course that begins (R125). -/
def State.notSwept (s : State) (c : Nat) : State := { s with ctx := { s.ctx with sweptFor := s.ctx.sweptFor.del c } }

/-- The tile of a course: TILE of its record; a context other than 0 whose TILE firmware has left at 0 gets one of tiles 1 to 11, which
one is a free value (R105, R117; log entry 110). -/
def State.tileFor (s : State) (c : Nat) : BitVec 4 :=
  let t := (s.ctxRec c).tile
  if c = 0 ∨ t ≠ 0 then t else BitVec.ofNat 4 (1 + (Config.freeBits 4 s.draws).toNat % 11)

/-- A claimed context becomes the home of a running course (R104, R126). -/
def State.begin (s : State) (c : Nat) (addr status : BitVec 40) (notify : Option (BitVec 8)) (base : W64)
    (entry : Option EntryRef) (hosted : Bool) : State :=
  ((((s.notSwept c).modCtx c fun r => { r with
      course := true, suspended := false, lenMem := false, notifyEn := notify.isSome, notify := notify.getD 0, pending := 0
      resumeCause := 0, lastStatus := 0, resumeAddr := 0, postSeq := 0, statusAddr := status, hostBase := base
      tile := s.tileFor c }).setCourse c
    { addr := addr, engine := s.anyEngine (s.tileFor c).toNat, hosted := hosted, entry := entry }).drawn.queueReady c).image c

/-- A start request of master m: claim, then the state of the context (R104, R122). -/
def State.startCourse (s : State) (m c : Nat) (gen : BitVec 16) (addr status : BitVec 40) (notify : Option (BitVec 8))
    (base : W64) (entry : Option EntryRef) : State × Status :=
  let st := s.startCheck c gen status entry.isSome
  if st = 0x0505 then (s.staleRef, st)
  else if st ≠ 0 then (s, st)
  else match s.tryClaim c m (some c) with
    | none => (s.claimLost, 0x0501)
    | some t =>
      let r := t.ctxRec c
      if r.course then (t.releaseClaim c, 0x0502)
      else if ¬ (r.state = 1 ∨ r.state = 2 ∨ r.state = 3) then (t.releaseClaim c, 0x0503)
      else (t.begin c addr status notify base entry entry.isSome, 0)

/-- A request to a course that is not its start: refused for context 0 and where no course is held (R108, R135). -/
def State.causeStatus (s : State) (c : Nat) : Status :=
  if c = 0 then 0x0506 else if (s.ctxRec c).course then 0 else 0x0504

/-- A course razes the object of a context: its claim on it stands (R53, R99). -/
def State.razes (s : State) (c : Nat) : Bool := s.courses.held.any fun e => e.2.wait == some (.raze c)

/-- The refusal of a requested resume cause: an offload request meets the razing claim, or finds the object razed (R53, R108). -/
def State.requestStatus (s : State) (c k : Nat) : Status :=
  if c ≠ 0 ∧ k = 2 ∧ s.razes c then 0x0501
  else if c ≠ 0 ∧ k = 2 ∧ (s.ctxRec c).state = 4 then 0x0306
  else s.causeStatus c

/-- A stop request: a running course stops at its word boundary, an INGEST or a SEAL that waits for its object close at once, the close
staying requested; a suspended course ends at once (R93, R94, R108). -/
def State.stopCourse (s : State) (c : Nat) : State :=
  let r := s.ctxRec c
  let x := s.course c
  if r.suspended then s.drawn.endCourse c r.resumeAddr (s.opcodeAt r.resumeAddr) { status := 0x0181 }
  else
    let t := s.modCourse c fun x => { x with stop := true }
    match x.wait with
    | some (.ingest l) =>
      let n := BitVec.ofNat 64 x.done
      (t.modLane l fun y => { y with ingest := none }).finishWord c
        { status := 0x0181, count := x.total, done := x.done, detail := n }
    | some (.seal l 1 o) =>
      if (s.lane l).openRetry && ((s.lane l).obj.map (·.ctx)) == some o then t.finishWord c { status := 0x0181 } else t
    | _ =>
      if x.word.isNone then
        t.drawn.endCourse c x.addr (t.opcodeAt x.addr) { status := 0x0181, residual := BitVec.ofNat 32 (x.total - x.done) }
      else t

/-! ### The rows -/

/-- A running course with no word held fetches one: read once and checked completely; SUSPEND is honoured except in the first fetch
after a resume; after a failed word only a BRANCH goes on (R91, R106, R111 to R113). -/
def State.fetchNext (s : State) (c : Nat) (h : Bytes) : State :=
    let x := s.course c
    let w := BitVec.ofNat 256 (leNat (if x.addr.getLsbD 39 then h.take 32 else s.devBytes (bits x.addr 0 35) 32))
    match x.failed with
    | some (a, fw, v) =>
      if wordAddrOk x.hosted x.addr && wOp w == 3 then
        let t := if wPost fw then s.postStatus c 2 a (wOp fw) v else s
        let y := { x with failed := none }
        let u := t.setCourse c y
        let st := u.checkWord c x.addr w
        if st ≠ 0 then u.endCourse c x.addr 3 { status := st }
        else if wSuspend w then u.suspend c x.addr w suspendMask none
        else u.setCourse c { y with word := some w }
      else s.endCourse c a (wOp fw) (s.lastOf c fw v)
    | none =>
      let rest := x.total - x.done
      if !wordAddrOk x.hosted x.addr then
        s.endCourse c x.addr 0 { status := if bits x.addr 0 5 ≠ 0 then 0x0102 else 0x0103, residual := BitVec.ofNat 32 rest }
      else
        let st := s.checkWord c x.addr w
        if st ≠ 0 then
          s.endCourse c x.addr (wOp w) { status := st, residual := BitVec.ofNat 32 (rest + wCount w) }
        else if wSuspend w && !x.fresh then s.suspend c x.addr w suspendMask none
        else s.setCourse c { x with word := some w, fresh := false }

/-- COMMAND_WORD_FETCH: the tile takes its ready courses in arrival order, then fetches for them (R105, R111). `h` is what a read of
host memory gives for a word in host form. -/
def State.fetchWord (s : State) (c : Nat) (h : Bytes) : State :=
  if !s.courseRuns c || (s.course c).word.isSome || !s.courseTile c || !s.myTurn c then s else (s.unready c).fetchNext c h

/-- COMMAND_WORD_FETCH (R111, R113). -/
def execCommandWordFetch (c : CtxId) (h : Bytes) (s : State) : Out := .next (s.fetchWord c h)

/-- A request to the context store is stale: an old TILE_GEN, or a handle of another generation (R124). -/
def State.claimStale (s : State) (c : Nat) (q : Claimant) : Bool :=
  (decide (q.master.val < 96) && (s.tile (tileOf q.master)).gen != q.tileGen) ||
    (match q.handle with | some g => !s.handleOk c g | none => false)

/-- A request to the context store that is refused as stale, else what `f` makes of it (R124). -/
def State.checked (s : State) (c : Nat) (q : Claimant) (f : State) : State :=
  if s.claimStale c q then s.staleRef.answer q.master 0x0505 else f

/-- COURSE_START: firmware on tile 0 starts a course (R104, R124). -/
def execCourseStart (e : Eng) (tileGen : BitVec 16) (handle : CtxHandle) (addr status : BitVec 40) (notify : Option (BitVec 8))
    (s : State) : Out :=
  let r := s.startCourse e handle.ctx handle.gen addr status notify 0 none
  .next (if e.val < 8 then
      s.checked handle.ctx { master := Fin.ofNat 100 e.val, tileGen := tileGen, handle := none } (r.1.answer e r.2)
    else s.addrFault e)

/-- RESUME_CAUSE: a cause arrives for a context. Requests (2, 3, 4, 7) come from firmware with its handle and are refused as R53 and R108
say, those that name context 0 with 0506h; context 0 takes cause 8 alone; reserved codes are never delivered (R107, R108, R124,
R135). -/
def execResumeCause (ask : CtxAsk) (k : Fin 16) (s : State) : Out :=
  let c := ask.ctx
  let q := ask.claimant
  .next (
    if k.val = 2 ∨ k.val = 3 ∨ k.val = 4 ∨ k.val = 7 then
      s.checked c q (if s.requestStatus c k = 0 then (s.cause c k).answer q.master 0 else s.answer q.master (s.requestStatus c k))
    else if k.val = 8 then (if c.val = 0 ∧ s.holdup.declared then s.cause 0 8 else s)
    else if c.val = 0 ∨ k.val = 0 ∨ 10 ≤ k.val then s
    else s.cause c k)

/-- WAIT_TIMEOUT: the timeout of the WAIT in which the course is suspended elapses: cause 6 (R107). -/
def execWaitTimeout (c : CtxId) (s : State) : Out :=
  .next (if (s.ctxRec c).suspended && (s.course c).channel.isSome && (s.course c).mask.getLsbD 6 then s.cause c 6 else s)

/-- STOP_REQUEST of firmware: 0506h for context 0, 0504h without a course, 0501h while another holds the claim of a suspended
one (R108, R122, R135). -/
def State.stopStatus (s : State) (c : Nat) : Status :=
  if s.causeStatus c ≠ 0 then s.causeStatus c
  else if (s.ctxRec c).suspended && (s.ctxRec c).claimed then 0x0501 else 0

def execStopRequest (ask : CtxAsk) (s : State) : Out :=
  let c := ask.ctx
  let q := ask.claimant
  .next (s.checked c q (if s.stopStatus c = 0 then (s.stopCourse c).answer q.master 0 else s.answer q.master (s.stopStatus c)))

/-- COURSE_PORT_TAKE: the store takes a channel's course port and delivers cause 5 to every context suspended in a WAIT naming
the channel (R235). -/
def State.coursePort (s : State) (ch : Nat) : State :=
  ((s.courses.held.filter fun e => (s.ctxRec e.1).suspended && (e.2.channel.map (·.toNat)) == some ch).map (·.1)).foldl
    (fun t c => t.cause c 5) s

end Sys2Proof.Machine
end

