-- ==== Sys2Proof/Machine/Ingest.lean ====
section
/-! DEFINITION. A running INGEST: what becomes of each record offered to a lane (R61, R88, R93). -/
namespace Sys2Proof.Machine

/-- SKIP_UNTIL of the lane's INGEST where it runs under SKIP (R88, R93). -/
def State.ingestSkip (s : State) (l : Nat) : Option Nat :=
  match (s.lane l).ingest with
  | none => none
  | some c =>
    match (s.course c).word with
    | some w => if wSkip w then some (bits (wParam w) 0 2) else none
    | none => none

/-- The INGEST running on a lane ends with a status (R93). -/
def State.ingestEnd (s : State) (l : Nat) (st : Status) (long : Bool) : State :=
  match (s.lane l).ingest with
  | none => s
  | some c =>
    let x := s.course c
    (s.modLane l fun y => { y with ingest := none }).finishWord c
      { status := st, count := x.total, done := x.done, long := long, detail := BitVec.ofNat 64 x.done }

/-- The next n bytes would carry the INGEST past its COUNT (R93). -/
def State.ingestOver (s : State) (l n : Nat) : Bool :=
  match (s.lane l).ingest with
  | none => false
  | some c => decide ((s.course c).total ≠ 0) && decide ((s.course c).total < (s.course c).done + n)

/-- n bytes are accepted or skipped; reaching COUNT ends the INGEST (R93). -/
def State.ingestAdd (s : State) (l n : Nat) : State :=
  match (s.lane l).ingest with
  | none => s
  | some c =>
    let t := s.modCourse c fun x => { x with done := x.done + n }
    let x := t.course c
    if x.total ≠ 0 ∧ x.total ≤ x.done then
      t.ingestEnd l 0 (match s.ingestSkip l with | some u => u == 1 || u == 2 | none => false)
    else t

/-- Bytes counted in SKIPPED (R88). -/
def State.countSkipped (s : State) (l n : Nat) : State :=
  (s.modLane l fun x => { x with led := { x.led with skipped := x.led.skipped + BitVec.ofNat 64 n } }).lineOf l

/-- A record under SKIP: it ends the skip and is left, passes the cap and is left, or is discarded; the flag says whether it was
taken (R88, R93). -/
def State.skipRecord (s : State) (l : Nat) (until_ : Nat) (r : Rec) : State × Bool :=
  if (until_ = 1 ∧ r.auStart) ∨ (until_ = 2 ∧ r.rap) then (s.ingestEnd l 0 false, false)
  else if s.ingestOver l r.bytes.length then (s.ingestEnd l 0 (until_ == 1 || until_ == 2), false)
  else ((s.countSkipped l r.bytes.length).ingestAdd l r.bytes.length, true)

/-- A record offered under the lane's INGEST; the flag says whether it was taken from its source: admitted, refused or skipped.
A record past COUNT is left for the next INGEST; a refused USB read is deferred (R56, R61, R93). -/
def State.ingestRecord (s : State) (l : Nat) (r : Rec) (hold : Bool := false) : State × Bool :=
  match s.ingestSkip l with
  | some u => s.skipRecord l u r
  | none =>
    if s.ingestOver l r.bytes.length then (s.ingestEnd l 0 false, false)
    else
      let o := s.offer l r hold
      if o.2 = 0 then (o.1.ingestAdd l r.bytes.length, true)
      else (o.1, s.laneType l != 7)

/-- A block or frame record's prefix (R35, R36, R145). -/
def blockPrefix (len : Nat) (gap : Bool) (time : BitVec 80) : Bytes :=
  toLE 16 (packNat [(len, 0), (gap.toNat, 18), (time.toNat, 32)])

end Sys2Proof.Machine
end

