-- ==== Sys2Proof/Machine/Hod.lean ====
section
/-! DEFINITION. Hods, their descriptors and bonds (chapter 06). -/
namespace Sys2Proof.Machine

/-! ### Bonds (R141, R142) -/

/-- A bond entry's fields (R141). -/
structure Bond where
  ty     : Nat
  e      : Nat
  c      : Nat
  first  : Nat
  take   : Nat
  stride : Nat
  deriving DecidableEq, Repr

/-- The fields of a bond entry: E, C and the number of channels taken stand one higher than their fields (R141). -/
def readBond (b : BitVec 128) : Bond :=
  { ty := bits b 0 3, e := bits b 4 2 + 1, c := bits b 8 6 + 1, first := bits b 16 6, take := bits b 24 6 + 1, stride := bits b 32 32 }

/-- The entry is valid (R141). -/
def bondValid (b : BitVec 128) : Bool :=
  let f := readBond b
  decide (1 ≤ f.ty ∧ f.ty ≤ 4) && bits b 3 1 == 0 && bits b 6 2 == 0 && bits b 14 2 == 0 && bits b 22 2 == 0 && bits b 30 2 == 0 &&
    bits b 64 64 == 0 && decide (f.first + f.take ≤ f.c) && (f.ty != 4 || f.c == 8 * f.e) &&
    ((f.ty != 2 && f.ty != 3) || (f.first == 0 && f.take == f.c)) &&
    (if f.ty = 3 then f.stride != 0 && f.stride % 16 == 0 else f.stride == 0)

/-- The bond frame F (R142). -/
def Bond.frame (f : Bond) : Nat :=
  match f.ty with
  | 0 => 16
  | 1 | 2 => f.c * f.e
  | 3 => f.c * (if f.e = 3 then 48 else 16)
  | _ => 128 * f.e

/-- The output length O of an input length (R142). -/
def Bond.outLen (f : Bond) (len : Nat) : Nat :=
  match f.ty with
  | 1 => len * f.take / f.c
  | 4 => len * f.take / (8 * f.e)
  | _ => len

/-- The output as (offset from DST, byte) pairs (R142). -/
def Bond.place (f : Bond) (inp : Bytes) : List (Nat × Byte) :=
  let at_ := fun i => inp.getD i 0
  let len := inp.length
  let n := len / (f.c * f.e)
  match f.ty with
  | 0 => (List.range len).map fun k => (k, at_ k)
  | 1 => (List.range f.take).flatMap fun c => (List.range n).flatMap fun r => (List.range f.e).map fun j =>
      (c * n * f.e + r * f.e + j, at_ (r * f.c * f.e + (f.first + c) * f.e + j))
  | 2 => (List.range n).flatMap fun r => (List.range f.c).flatMap fun c => (List.range f.e).map fun j =>
      (r * f.c * f.e + c * f.e + j, at_ (c * n * f.e + r * f.e + j))
  | 3 => (List.range f.c).flatMap fun c => (List.range (len / f.c)).map fun k => (c * f.stride + k, at_ (c * (len / f.c) + k))
  | _ =>
    let m := len / f.e / 8
    (List.range f.take).flatMap fun b => (List.range m).map fun q =>
      (b * m + q, BitVec.ofNat 8 ((List.range 8).foldl (fun (v : Nat) i =>
        v + ((at_ ((8 * q + i) * f.e + (f.first + b) / 8)).getLsbD ((f.first + b) % 8)).toNat * 2 ^ i) 0))

/-- The output bytes in order, for a bond whose output is contiguous. -/
def Bond.output (f : Bond) (inp : Bytes) : Bytes :=
  let p := f.place inp
  (List.range (f.outLen inp.length)).map fun o => ((p.find? fun e => e.1 == o).map (·.2)).getD 0

/-! ### Descriptors (R140) -/

def dBond (d : BitVec 256) : Nat := bits d 0 6
def dBondEn (d : BitVec 256) : Bool := d.getLsbD 8
def dEvid (d : BitVec 256) : Bool := d.getLsbD 9
def dIrq (d : BitVec 256) : Bool := d.getLsbD 10
def dGap (d : BitVec 256) : Bool := d.getLsbD 11
def dLaneNo (d : BitVec 256) : Nat := bits d 16 8
def dLen (d : BitVec 256) : Nat := bits d 32 32
def dSrc (d : BitVec 256) : Nat := bits d 64 35
def dDst (d : BitVec 256) : Nat := bits d 128 35
def dTime (d : BitVec 256) : BitVec 80 := d.extractLsb' 128 80

/-- The bond in force for a descriptor: plain copy without BOND_EN (R142). -/
def bondOf (d : BitVec 256) (b : BitVec 128) : Bond :=
  if dBondEn d then readBond b else { ty := 0, e := 1, c := 1, first := 0, take := 1, stride := 0 }

/-- The named entry can be used. -/
def bondUsable (d : BitVec 256) (b : BitVec 128) : Bool := !dBondEn d || bondValid b

/-- An evidence record's length, 16 + O, or 16 + LEN where the entry is invalid (R143, R145). -/
def recordLen (d : BitVec 256) (b : BitVec 128) : Nat :=
  16 + (if bondUsable d b then (bondOf d b).outLen (dLen d) else dLen d)

/-- The checks of R143 in order; `lanePath` says that the lane path queued it. -/
def descStatus (d : BitVec 256) (b : BitVec 128) (lanePath : Bool) : Status :=
  let f := bondOf d b
  let ok := bondUsable d b
  let reserved := bits d 6 2 != 0 || bits d 12 4 != 0 || bits d 24 8 != 0 || bits d 99 29 != 0 || bits d 224 15 != 0 ||
    (if dEvid d then bits d 208 16 != 0 else bits d 163 61 != 0 || dGap d || dLaneNo d != 0) || (!dBondEn d && dBond d != 0)
  if dSrc d % 16 ≠ 0 ∨ (!dEvid d ∧ dDst d % 16 ≠ 0) then 0x0601
  else if ok ∧ (dLen d = 0 ∨ dLen d % 16 ≠ 0 ∨ 0x1000000 < dLen d ∨ dLen d % f.frame ≠ 0) then 0x0602
  else if dEvid d ∧ ok ∧ 65520 < f.outLen (dLen d) then 0x0602
  else if ok ∧ f.ty = 3 ∧ f.stride < dLen d / f.c then 0x0602
  else if reserved then 0x0603
  else if !ok then 0x0603
  else if (dEvid d ∧ !lanePath) ∨ (lanePath ∧ ¬ (f.ty = 0 ∨ f.ty = 1 ∨ f.ty = 4)) then 0x0603
  else 0

/-! ### Hods (R137 to R139) -/

/-- Hod h. -/
def State.hod (s : State) (h : Nat) : HodSt := s.hods.look {} h

/-- Hod h changed by `f`. -/
def State.modHod (s : State) (h : Nat) (f : HodSt → HodSt) : State := { s with hods := s.hods.put h (f (s.hod h)) }

/-- A new descriptor finds room: the queue has a free entry and DIS is 0 (R138, R146). -/
def HodSt.room (x : HodSt) : Bool := decide (x.queue.length < 32) && !x.dis

/-- A course or lane joins those that wait for a free entry, behind the ones that came earlier (R28, R138). -/
def HodSt.wait (x : HodSt) (i : HodIssuer) : HodSt := if x.waiting.contains i then x else { x with waiting := x.waiting ++ [i] }

/-- A waiter that has its entry, or waits no more. -/
def HodSt.unwait (x : HodSt) (i : HodIssuer) : HodSt := { x with waiting := x.waiting.filter (· != i) }

/-- The hod that a tile's MOVE with 1Fh, or the lane path, takes (R138). -/
def State.pickHod (s : State) (t : Nat) : Nat :=
  let a := s.hod (2 * t)
  let b := s.hod (2 * t + 1)
  if a.dis && !b.dis then 2 * t + 1
  else if b.dis && !a.dis then 2 * t
  else if a.queue.length < b.queue.length then 2 * t else 2 * t + 1

/-- Who may write HOD_SUBMIT and the bond table of a hod (R138, R139). -/
def State.hodIssuer (s : State) (m h : Nat) : Bool := s.fw m || decide (m < 96 ∧ tileOf m = h / 2)

/-- A refused submission (R138). -/
def State.hodRefused (s : State) (h : Nat) : State :=
  (s.modHod h fun x => { x with subRefused := satAdd x.subRefused 1 }).raise 190

/-- A HOD_SUBMIT write (R138, R139). -/
def State.hodSubmit (s : State) (m h a : Nat) : State :=
  if (s.hod h).room && a % 32 == 0 && decide (a + 31 < 0x370000000) then
    s.modHod h fun x => { x with queue := x.queue ++ [{ addr := a, issuer := .submit m }] }
  else s.hodRefused h

/-! ### MOVE (R100, R138) -/

/-- Descriptors of a MOVE handed over while its hod has room and none has failed; `n` bounds the loop. -/
def State.moveFeed (s : State) (c : Nat) : Nat → State
  | 0 => s
  | n + 1 =>
    let x := s.course c
    match x.wait, x.word with
    | some (.move h handed done good bad), some w =>
      if bad ≠ 0 ∨ wCount w ≤ handed then s
      else if (s.hod h).room then
        let a := bits (wAddr w) 0 35 + 32 * handed
        ((s.modHod h fun y => { y.unwait (.move c) with queue := y.queue ++ [{ addr := a, issuer := .move c }] }).setCourse c
          { x with wait := some (.move h (handed + 1) done good bad) }).moveFeed c n
      else s.modHod h (·.wait (.move c))
    | _, _ => s

/-- The descriptors that an earlier MOVE of a course left behind no longer report to it (R138). -/
def State.moveForget (s : State) (c : Nat) : State :=
  let f := fun (e : HodEntry) => if e.issuer = .move c then { e with issuer := .ended } else e
  { s with hods := s.hods.map fun (x : Nat × HodSt) =>
      (x.1, { x.2.unwait (.move c) with
        queue := x.2.queue.map f, dropped := x.2.dropped.map f
        work := x.2.work.map fun w => if w.issuer = .move c then { w with issuer := .ended } else w }) }

/-- A descriptor of a MOVE has completed: the rest is handed over, or the command ends (R100, R138). -/
def State.moveDone (s : State) (c : Nat) (st : Status) : State :=
  let x := s.course c
  match x.wait, x.word with
  | some (.move h handed done good bad), some w =>
    let bad1 := if bad = 0 then st else bad
    let good1 := if st = 0 then good + 1 else good
    let t := s.setCourse c { x with wait := some (.move h handed (done + 1) good1 bad1) }
    if done + 1 = handed ∧ (handed = wCount w ∨ bad1 ≠ 0) then
      t.finishWord c { status := bad1, count := wCount w, done := good1, detail := BitVec.ofNat 64 good1 }
    else t.moveFeed c 32
  | _, _ => s

/-! ### The lane path (R138, R145) -/

/-- The bond of a lane's block: interleave to planar over the slots of its TDM key, or the transpose of the 32 GPIO lines
(R142; log entry 23). -/
def State.laneBond (s : State) (k : BitVec 320) : Bond :=
  if bits k 0 8 = 3 then
    let p := s.iface.tdm.look {} (bits k 8 8)
    { ty := 1, e := p.store, c := p.slots, first := bits k 160 16, take := bits k 176 16, stride := 0 }
  else { ty := 4, e := 4, c := 32, first := 0, take := 32, stride := 0 }

/-- The lowest bond entry of a hod that is the lane's bond (log entry 23). -/
def State.bondEntryFor (s : State) (h : Nat) (f : Bond) : Option Nat :=
  (List.range 64).find? fun i =>
    let b := (s.hod h).bonds.look 0 i
    bondValid b && readBond b == f

/-- The evidence descriptor of a block (R140, R145). -/
def State.laneDesc (s : State) (l h : Nat) (u : RingUnit) : BitVec 256 :=
  let i := s.bondEntryFor h (s.laneBond u.key)
  BitVec.ofNat 256 (packNat [(i.getD 63, 0), (1, 8), (1, 9), ((s.lane l).gapNext.toNat, 11), (l, 16), (u.bytes.length, 32),
    (u.time.toNat, 128)])

/-- A lane has an evidence descriptor queued or in progress (R145). -/
def State.laneBusy (s : State) (l : Nat) : Bool :=
  s.hods.any fun e => e.2.queue.any (·.issuer == .lane l) || (match e.2.work with | some w => w.issuer == .lane l | none => false) ||
    e.2.dropped.any (·.issuer == .lane l)

/-- The hod that a lane's block takes: the one for which it waits already, else the one that the counts name (R138). -/
def State.laneHodNo (s : State) (l tile : Nat) : Nat :=
  if (s.hod (2 * tile)).waiting.contains (.lane l) then 2 * tile
  else if (s.hod (2 * tile + 1)).waiting.contains (.lane l) then 2 * tile + 1
  else s.pickHod tile

/-- The lane's next block is handed to a hod of the INGEST's tile, if the lane has none there and the hod has room; else it waits
there for a free entry (R138, R145). -/
def State.laneHod (s : State) (l : Nat) : State :=
  let x := s.lane l
  match x.ring, x.ingest with
  | u :: rest, some c =>
    if (s.laneType l == 4 || s.laneType l == 6) && !s.laneBusy l && (x.acts.isEmpty || x.nextObject.isSome) then
      let h := s.laneHodNo l (s.ctxRec c).tile.toNat
      let d := s.laneDesc l h u
      if s.ingestOver l (recordLen d ((s.hod h).bonds.look 0 (dBond d))) && (s.ingestSkip l).isNone then s.ingestEnd l 0 false
      else if (s.hod h).room then
        (s.modLane l fun x => { x with ring := rest, gapNext := false }).modHod h fun y =>
          { y.unwait (.lane l) with queue := y.queue ++ [{ addr := 0, issuer := .lane l, block := some (u, d) }] }
      else s.modHod h (·.wait (.lane l))
    else s
  | _, _ => s

/-- Lanes whose INGEST waits for a hod of a tile try again (R138). -/
def State.laneRetry (s : State) : State := (s.lanes.map (·.1)).foldl State.laneHod s

/-! ### Starting and completing (R137, R140, R143 to R145) -/

/-- One waiter of hod h served, oldest first, while there is room (R28, R138). -/
def State.hodServe (s : State) (h : Nat) : State :=
  match (s.hod h).room, (s.hod h).waiting with
  | true, i :: _ =>
    let t := s.modHod h (·.unwait i)
    match i with
    | .move c => t.moveFeed c 32
    | .lane l => (t.modHod h (·.wait (.lane l))).laneHod l
    | _ => t
  | _, _ => s

/-- Where a hod may write (R15, R17, R144; log entry 24). -/
def hodWritable (a : Nat) : Bool := match regionOf a with | .dram | .tileData => true | _ => false

/-- The word of the mailboxes' window at an address; reads there are open to every master (R18, R244, R253; log entry 24). -/
def State.hodPort (s : State) (a : Nat) : Option W32 :=
  if 0x7A2000000 ≤ a ∧ a < 0x7A3000000 then (s.mailRead (a / 4 * 4 - 0x7A2000000)).map (·.1) else none

/-- Where a hod's read finds something. -/
def State.hodReadable (s : State) (a : Nat) : Bool :=
  match regionOf a with
  | .control => (s.hodPort a).isSome
  | .unassigned => false
  | _ => true

/-- The bytes a hod reads. -/
def State.hodBytes (s : State) (a n : Nat) : Bytes :=
  (List.range n).map fun i =>
    match s.hodPort (a + i) with
    | some v => BitVec.ofNat 8 (bits v (8 * ((a + i) % 4)) 8)
    | none => s.devByte (a + i)

/-- Bytes 1Ch to 1Fh of a descriptor at completion: DONE and STATUS (R140). -/
def doneBytes (st : Status) : Bytes := toLE 4 (0x8000 + st.toNat * 65536)

/-- A descriptor has its DONE writeback; then the engine's EVL bit 18, the IRQ source, the MOVE or the lane that waits
(R100, R140, R148, R160). -/
def State.descNotify (s : State) (h : Nat) (addr : Nat) (issuer : HodIssuer) (irq : Bool) (st : Status) : State :=
  let a := match issuer with
    | .lane _ => s
    | _ => if hodWritable (addr + 0x1C) then s.setBytes (addr + 0x1C) (doneBytes st) else s.addrFaultF (0x40 + h)
  let b := if irq then a.raise (176 + h / 2) else a
  match issuer with
  | .submit m => if m < 96 then b.markWarm m 18 else b
  | .move c => b.moveDone c st
  | .lane l => b.laneHod l
  | .ended => b

/-- Room has come up in hod h's queue: those that wait for it are served in arrival order (R28, R138). -/
def State.hodRoom (s : State) (h : Nat) : State := iterate (·.hodServe h) (s.hod h).waiting.length s

/-- The evidence descriptor of a lane at its start: its record is admitted whole or refused; skipped under SKIP. The status is
what it completes with, none while it is in progress (R88, R145). -/
def State.evidStart (s : State) (l : Nat) (d : BitVec 256) (b : BitVec 128) (u : RingUnit) : State × Option Status :=
  let o := (bondOf d b).output (padTo (dLen d) u.bytes)
  let r : Rec := { bytes := blockPrefix o.length (dGap d) (dTime d) ++ o, key := some u.key }
  match (s.lane l).ingest with
  | none =>
    let q := s.offer l r true
    (q.1, if q.2 = 0 then none else some q.2)
  | some _ =>
    match s.ingestSkip l with
    | some k =>
      let q := s.skipRecord l k r
      (if q.2 then q.1 else q.1.modLane l fun x => { x with ring := u :: x.ring }, some 0)
    | none =>
      let q := s.offer l r true
      if q.2 = 0 then (q.1.ingestAdd l r.bytes.length, none) else (q.1, some q.2)

/-- The hod's tile is powered and not in repair (R147, R362). -/
def State.hodPowered (s : State) (h : Nat) : Bool := s.tilePowered (h / 2) && !s.inRung2 (0x40 + h)

/-- DESCRIPTOR_START: the hod takes its next descriptor, latches it and its bond entry and checks it; an evidence record is
admitted or refused (R137, R143, R145). -/
def State.descStart (s : State) (h : Nat) : State :=
  let x := s.hod h
  match x.queue with
  | [] => s
  | e :: rest =>
    if !x.en || x.dis || x.work.isSome || !s.hodPowered h then s
    else
      let d := match e.block with | some b => b.2 | none => BitVec.ofNat 256 (leNat (s.devBytes e.addr 32))
      let b := x.bonds.look 0 (dBond d)
      let path := match e.issuer with | .lane _ => true | _ => false
      let st := descStatus d b path
      let s1 := s.modHod h fun y => { y with queue := rest }
      if st ≠ 0 then
        let a := (s1.modHod h fun y => { y with rejectCount := satAdd y.rejectCount 1 }).raise 188
        let a1 := if dEvid d then a.refuse (dLaneNo d) (recordLen d b) else a
        (a1.descNotify h e.addr e.issuer (dIrq d) st).hodRoom h
      else match e.issuer, e.block with
        | .lane l, some (u, _) =>
          let r := s1.evidStart l d b u
          (match r.2 with
           | none => r.1.modHod h fun y => { y with
               work := some { addr := 0, issuer := .lane l, desc := d, bond := b, accepted := some (recordLen d b) } }
           | some st =>
             let q := if st = 0 then r.1.modHod h fun y => { y with
               doneCount := y.doneCount + 1, bytesMoved := y.bytesMoved + BitVec.ofNat 64 (dLen d) } else r.1
             q.descNotify h 0 (.lane l) false st).hodRoom h
        | i, _ => (s1.modHod h fun y => { y with work := some { addr := e.addr, issuer := i, desc := d, bond := b } }).hodRoom h

/-- The bytes of a move as (device address, value): where input and output overlap and the move is not a plain copy downward, an
overlapping output byte is a free value (R144; log entry 2). -/
def State.movedBytes (s : State) (w : HodWork) : List (Nat × Byte) :=
  let d := w.desc
  let src := dSrc d
  let len := dLen d
  let plain := !dBondEn d && decide (dDst d ≤ src)
  ((bondOf d w.bond).place (s.hodBytes src len)).map fun p =>
    let a := (dDst d + p.1) % 2 ^ 35
    (a, if !plain && decide (src ≤ a) && decide (a < src + len) then Config.freeBits 8 (s.draws + p.1) else p.2)

/-- Bytes written by a hod; what R17 or R15 keeps from it is discarded (R144). -/
def State.hodWrite (s : State) (ps : List (Nat × Byte)) : State :=
  ps.foldl (fun t p => if hodWritable p.1 then t.setByte p.1 p.2 else t) s

/-- The 16-byte units of a set of addresses, each once. -/
def units16 (as : List Nat) : List Nat := (as.map (· / 16)).eraseDups

/-- A plain or bonded move carried out; each 16-byte unit of the input or the output that R19 covers is one refused access (R142,
R144; log entry 24). -/
def State.moveBytes (s : State) (h : Nat) (w : HodWork) : State :=
  let ps := s.movedBytes w
  let a := s.hodWrite ps
  let ins := (List.range (dLen w.desc / 16)).filter fun i => !s.hodReadable (dSrc w.desc + 16 * i)
  let outs := units16 ((ps.map (·.1)).filter fun p => !hodWritable p)
  let c := iterate (·.addrFaultF (0x40 + h)) (ins.length + outs.length) a
  { c with draws := c.draws + 0x40000000 }

/-- DESCRIPTOR_COMPLETE: the last output write and the DONE writeback are made; an evidence brick that its record filled closes
(R137, R140, R145). -/
def State.descComplete (s : State) (h : Nat) : State :=
  match (s.hod h).work with
  | none => s
  | some w =>
    let done := fun (t : State) => t.modHod h fun y => { y with
      work := none, doneCount := y.doneCount + 1, bytesMoved := y.bytesMoved + BitVec.ofNat 64 (dLen w.desc) }
    match w.issuer with
    | .lane l =>
      ((((done s).modLane l fun x => { x with openRec := none }).pump l).judgeInadequate.descNotify h 0 w.issuer false 0)
    | i => (done (s.moveBytes h w)).descNotify h w.addr i (dIrq w.desc) 0

/-! ### Disable (R146) -/

/-- The newest buffer cut where the evidence record in progress began: that record is no longer in it (R39, R41, R146). -/
def LaneSt.cutRecord (x : LaneSt) : LaneSt :=
  match x.openRec with
  | none => x
  | some o =>
    { x.modNewest fun f => { f with payload := f.payload.take o.start, timeLast := o.timeLast, packets := f.packets - 1 } with
      openRec := none }

/-- The evidence descriptor in progress is dropped: its n bytes become a declared loss, and the filling brick closes where the
record began, before a close of its object that came meanwhile (R41, R146). -/
def State.dropEvidence (s : State) (l n : Nat) : State :=
  let loss : List CloseAct := [.brick 5, .gap n 0x0604 none]
  (s.modLane l fun x => { x.cutRecord with acts := if x.nextFill.isSome then x.acts ++ loss else loss ++ x.acts }).pump l

/-- The hod and its queue are wiped with their tile by a rung 3; what was staged before an evidence record in progress stays in its
brick, and the record's bytes stay INFLIGHT for the restart scan (R78, R147). -/
def State.wipeHod (s : State) (h : Nat) : State :=
  let a := match (s.hod h).work with
    | some w => (match w.issuer with | .lane l => s.modLane l LaneSt.cutRecord | _ => s)
    | none => s
  a.modHod h fun x => { x with queue := [], work := none, waiting := [], dropped := [], dropping := false }

/-- The descriptor in progress at a write of DIS: an evidence record is lost, a plain move leaves its output positions with free
values (R146). -/
def State.dropWork (s : State) (w : HodWork) : State :=
  match w.issuer with
  | .lane l => s.dropEvidence l (w.accepted.getD 0)
  | _ =>
    let t := s.hodWrite ((s.movedBytes w).map fun p => (p.1, Config.freeBits 8 (s.draws + p.1)))
    { t with draws := t.draws + 0x800000000 }

/-- A queued evidence descriptor that is dropped was never admitted: its record length goes to REFUSED (R146). -/
def State.dropQueued (s : State) (h : Nat) (e : HodEntry) : State :=
  match e.issuer, e.block with
  | .lane l, some (_, d) => s.refuse l (recordLen d ((s.hod h).bonds.look 0 (dBond d)))
  | _, _ => s

/-- A write of 1 to DIS (R146). -/
def State.hodDisable (s : State) (h : Nat) : State :=
  let x := s.hod h
  if x.dis then s.modHod h fun y => { y with disClear := false }
  else
    let inWork := x.work.toList.map fun w => ({ addr := w.addr, issuer := w.issuer, latched := some w.desc } : HodEntry)
    let gone := inWork ++ x.queue
    let a := match x.work with | some w => s.dropWork w | none => s
    let b := x.queue.foldl (fun t e => t.dropQueued h e) a
    let c := b.modHod h fun y => { y with
      dis := true, work := none, queue := [], dropped := gone, dropping := !gone.isEmpty
      bytesMoved := if gone.isEmpty then y.bytesMoved else Config.freeBits 64 b.draws }
    c.drawn

/-- A write of 0 to DIS (R146). -/
def State.hodEnableAgain (s : State) (h : Nat) : State :=
  if (s.hod h).dropping then s.modHod h fun y => { y with disClear := true }
  else (s.modHod h fun y => { y with dis := false, disClear := false }).hodRoom h

/-- IRQ of a descriptor that completes without having started, or dropped while in progress (R140, R148). -/
def State.entryIrq (s : State) (e : HodEntry) : Bool :=
  match e.latched, e.block with
  | some d, _ => dIrq d
  | none, some b => dIrq b.2
  | none, none => dIrq (BitVec.ofNat 256 (leNat (s.devBytes e.addr 32)))

/-- The DONE writebacks of every dropped descriptor are made in queue order, DROPPING clears (R146). -/
def State.droppingClear (s : State) (h : Nat) : State :=
  let x := s.hod h
  if !x.dropping then s
  else
    let a := s.modHod h fun y => { y with
      dropped := [], dropping := false, dropCount := satAdd y.dropCount x.dropped.length
      dis := y.dis && !y.disClear, disClear := false }
    let b := x.dropped.foldl (fun t e => t.descNotify h e.addr e.issuer (t.entryIrq e) 0x0604) a
    (b.raise 189).hodRoom h

/-! ### Registers (R139, R141) -/

/-- Which registers of a hod's block exist. -/
def hodOffset (o : Nat) : Bool :=
  (decide (o < 0x24) && o % 4 == 0) || o == 0x28 || o == 0x2C || (decide (0x8000 ≤ o) && decide (o < 0x8400) && o % 4 == 0)

/-- A read of hod h's block at an offset (R139, R141). -/
def State.hodRead (s : State) (h o : Nat) : Option (W32 × State) :=
  let x := s.hod h
  if ¬ hodOffset o then none
  else if o = 0 then some (pack [(x.en.toNat, 0), (x.dis.toNat, 1)], s)
  else if o = 4 then some (pack [(x.queue.length, 0), (x.work.isSome.toNat, 6), (x.dropping.toNat, 7)], s)
  else if o = 0x10 ∨ o = 0x14 then some (wordOf x.doneCount ((o - 0x10) / 4), s)
  else if o = 0x18 then some (x.rejectCount, s)
  else if o = 0x1C then some (x.dropCount, s)
  else if o = 0x20 then some (x.subRefused, s)
  else if o = 0x28 ∨ o = 0x2C then some (wordOf x.bytesMoved ((o - 0x28) / 4), s)
  else if 0x8000 ≤ o then some (wordOf (x.bonds.look 0 ((o - 0x8000) / 16)) (o % 16 / 4), s)
  else some (0, s)

/-- HOD_CTL written: EN, and DIS by its own rule (R139, R146). -/
def State.hodCtl (s : State) (h : Nat) (v be : W32) : State :=
  if ¬ be.getLsbD 0 then s
  else
    let a := s.modHod h fun y => { y with en := v.getLsbD 0 }
    if v.getLsbD 1 then a.hodDisable h else if (a.hod h).dis then a.hodEnableAgain h else a

/-- A write of hod h's block by master m; none where refused (R139, R141). -/
def State.hodWriteReg (s : State) (m h o : Nat) (v be : W32) : Option State :=
  if ¬ hodOffset o then none
  else if o = 0 then (if s.fw m then some (s.hodCtl h v be) else none)
  else if 0x8000 ≤ o then
    if s.hodIssuer m h then
      let i := (o - 0x8000) / 16
      let b := (s.hod h).bonds.look 0 i
      let w := o % 16 / 4
      some (s.modHod h fun y => { y with bonds := y.bonds.put i (setWord b w (merge (wordOf b w) v be)) })
    else none
  else if o = 8 then
    if s.hodIssuer m h then some (s.modHod h fun y => { y with submitLo := merge y.submitLo v be }) else none
  else if o = 0xC then
    if s.hodIssuer m h then some (s.hodSubmit m h (((v &&& be).toNat % 8) * 2 ^ 32 + (s.hod h).submitLo.toNat)) else none
  else some s

/-! ### The rows -/

/-- HOD_SUBMIT (R138). -/
def execHodSubmit (m : Master) (h : Hod) (a : DevAddr) (s : State) : Out :=
  .next (if s.hodIssuer m h then s.hodSubmit m h a.toNat else s.addrFault m)

/-- HOD_EN_WRITE (R139). -/
def execHodEnWrite (m : Master) (h : Hod) (en : Bool) (s : State) : Out :=
  .next (if s.fw m then s.modHod h fun y => { y with en := en } else s.addrFault m)

/-- HOD_DIS_SET (R146). -/
def execHodDisSet (m : Master) (h : Hod) (s : State) : Out := .next (if s.fw m then s.hodDisable h else s.addrFault m)

/-- HOD_DIS_CLEAR (R146). -/
def execHodDisClear (m : Master) (h : Hod) (s : State) : Out :=
  .next (if s.fw m then (if (s.hod h).dis then s.hodEnableAgain h else s) else s.addrFault m)

/-- DESCRIPTOR_START (R137). -/
def execDescriptorStart (h : Hod) (s : State) : Out := .next (s.descStart h)

/-- DESCRIPTOR_COMPLETE (R137). -/
def execDescriptorComplete (h : Hod) (s : State) : Out := .next (if s.hodPowered h then s.descComplete h else s)

/-- DROPPING_CLEAR (R146). -/
def execDroppingClear (h : Hod) (s : State) : Out := .next (s.droppingClear h)

end Sys2Proof.Machine
end

