-- ==== Sys2Proof/Machine/Rtp.lean ====
section
/-! DEFINITION. RTP packets: parsing, reorder windows, source gaps, learning; the port rings of the lanes (chapter 02, R33 to R36;
R134; R378). -/
namespace Sys2Proof.Machine

/-! ### Fields of an RTP packet (R33, R36; the layouts of RFC 3550, RFC 6184 and RFC 7798 are PRESUMED, log entry 26) -/

def rtpByte (b : Bytes) (i : Nat) : Nat := (b.getD i 0).toNat
/-- A packet of RTP version 2 with its fixed header. -/
def rtpOk (b : Bytes) : Bool := decide (12 ≤ b.length) && rtpByte b 0 / 64 == 2
def rtpMarker (b : Bytes) : Bool := decide (128 ≤ rtpByte b 1)
def rtpSeq (b : Bytes) : BitVec 16 := BitVec.ofNat 16 (beNat (slice b 2 2))
def rtpTs (b : Bytes) : W32 := BitVec.ofNat 32 (beNat (slice b 4 4))
def rtpSsrc (b : Bytes) : W32 := BitVec.ofNat 32 (beNat (slice b 8 4))

/-- The payload: behind the CSRC list and the extension, before the padding. -/
def rtpPayload (b : Bytes) : Bytes :=
  let h := 12 + 4 * (rtpByte b 0 % 16)
  let n := if rtpByte b 0 / 16 % 2 = 1 then h + 4 + 4 * beNat (slice b (h + 2) 2) else h
  let pad := if rtpByte b 0 / 32 % 2 = 1 then rtpByte b (b.length - 1) else 0
  (b.take (b.length - pad)).drop n

/-- The first bytes of the units of an aggregation packet: each unit stands behind its 2-byte size and `extra` bytes. -/
def aggregated (extra : Nat) : Bytes → Nat → List Nat
  | _, 0 => []
  | b, fuel + 1 =>
    if b.length < 2 then []
    else rtpByte b (2 + extra) :: aggregated extra (b.drop (2 + extra + beNat (b.take 2))) fuel

/-- NAL types in an H.264 payload (RFC 6184). -/
def nal264 (p : Bytes) : List Nat :=
  let t := rtpByte p 0 % 32
  if p.isEmpty then []
  else if t = 24 then (aggregated 0 (p.drop 1) 8192).map (· % 32)
  else if t = 25 then (aggregated 0 (p.drop 3) 8192).map (· % 32)
  else if t = 26 then (aggregated 3 (p.drop 3) 8192).map (· % 32)
  else if t = 27 then (aggregated 4 (p.drop 3) 8192).map (· % 32)
  else if t = 28 ∨ t = 29 then [rtpByte p 1 % 32]
  else [t]

/-- NAL types in an H.265 payload (RFC 7798): a PACI packet carries a payload of the type of its own field behind its header
extension. -/
def nal265 (p : Bytes) : List Nat :=
  let t := rtpByte p 0 / 2 % 64
  let inner := rtpByte p 2 / 2 % 64
  let body := p.drop (4 + rtpByte p 2 % 2 * 16 + rtpByte p 3 / 16)
  if p.isEmpty then []
  else if t = 48 then (aggregated 0 (p.drop 2) 8192).map (· / 2 % 64)
  else if t = 49 then [rtpByte p 2 % 64]
  else if t = 50 then
    if inner = 48 then (aggregated 0 body 8192).map (· / 2 % 64)
    else if inner = 49 then [rtpByte body 0 % 64]
    else [inner]
  else [t]

/-- The packet carries a NAL unit of a random-access point (R36). -/
def rtpRap (sourceType : Nat) (b : Bytes) : Bool :=
  match sourceType with
  | 1 => (nal264 (rtpPayload b)).contains 5
  | 2 => (nal265 (rtpPayload b)).any fun t => decide (16 ≤ t) && decide (t ≤ 23)
  | _ => false

/-- The length of the record that n bytes of a packet or frame form: prefix and padding (R35, R36). -/
def paddedLen (n : Nat) : Nat := 16 + (n + 3) / 4 * 4

/-- The record of a packet (R35, R36). -/
def packetRecord (sourceType : Nat) (w : Window) (u : RingUnit) (reordered afterGap late : Bool) (gaps : Nat) : Rec :=
  let b := u.bytes
  let au := match w.prev with | none => true | some p => p.1 || p.2 != rtpTs b
  let rap := rtpRap sourceType b
  let prefix_ := toLE 16 (packNat [(b.length, 0), ((rtpMarker b).toNat, 16), (au.toNat, 17), (afterGap.toNat, 18),
    (reordered.toNat, 19), (rap.toNat, 20), (u.time.toNat, 32)])
  { bytes := padTo (paddedLen b.length) (prefix_ ++ b), auStart := au, rap := rap, rapFirst := rap && (au || !w.prevRap)
    rtp := some (rtpSeq b, rtpTs b), ssrc := rtpSsrc b, key := some u.key, gaps := gaps, late := late }

/-- The window after a packet has taken its place in the order. -/
def Window.staged (w : Window) (sourceType : Nat) (b : Bytes) : Window :=
  let au := match w.prev with | none => true | some p => p.1 || p.2 != rtpTs b
  { w with prev := some (rtpMarker b, rtpTs b), prevRap := rtpRap sourceType b || (!au && w.prevRap) }

/-! ### The reorder window (R33, R34) -/

/-- Order fixed for one packet: its record, and the window after it. -/
def Window.emit (w : Window) (t : Nat) (u : RingUnit) (reordered afterGap late : Bool) (gaps : Nat) (next : Option W32) :
    Window × List Rec :=
  ({ w.staged t u.bytes with next := next }, [packetRecord t w u reordered afterGap late gaps])

/-- Every held packet put into the order; the numbers missing before each are source gaps where `count` is set, those between held packets
too (R33; log entry 106). -/
def Window.release (w : Window) (t : Nat) (count : Bool) : List HeldPkt → Window × List Rec
  | [] => ({ w with held := [] }, [])
  | h :: r =>
    let n := match w.next with | some k => (h.seq - k).toNat | none => 0
    let a := w.emit t h.unit true (decide (n ≠ 0)) false (if count then n else 0) (some (h.seq + 1))
    let b := a.1.release t count r
    (b.1, a.2 ++ b.2)

/-- The held packets that follow in unbroken sequence put into the order (R33). -/
def Window.follow (w : Window) (t : Nat) : List HeldPkt → Window × List Rec
  | [] => ({ w with held := [] }, [])
  | h :: r =>
    if w.next = some h.seq then
      let a := w.emit t h.unit true false false 0 (some (h.seq + 1))
      let b := a.1.follow t r
      (b.1, a.2 ++ b.2)
    else ({ w with held := h :: r }, [])

/-- A packet held at its place in the rising order. -/
def holdAt (p : HeldPkt) : List HeldPkt → List HeldPkt
  | [] => [p]
  | h :: r => if (p.seq - h.seq).toInt < 0 then p :: h :: r else h :: holdAt p r

/-- A late packet: discarded or, without reordering, staged; counted in SRC_LATE either way (R33). -/
inductive LatePkt
  | none | discarded
  deriving DecidableEq, Repr

/-- What R33 makes of a packet in window w with REORDER_PKTS n: the window, the records whose order is now fixed, whether it was
discarded as late. A second copy of a held packet is late, and numbers missing between held packets are source gaps when the window
is given up (log entry 106). -/
def Window.take (w : Window) (t n : Nat) (u : RingUnit) (now : BitVec 48) : Window × List Rec × LatePkt :=
  let seq := rtpSeq u.bytes
  match w.next with
  | none =>
    let a := w.emit t u false false false 0 (some (seq.setWidth 32 + 1))
    (a.1, a.2, .none)
  | some next =>
    let d := (seq - next.setWidth 16).toNat
    if d ≤ 3000 then
      let s := next + BitVec.ofNat 32 d
      if w.held.any (·.seq == s) then (w, [], .discarded)
      else if d = 0 then
        let a := w.emit t u false false false 0 (some (s + 1))
        let b := a.1.follow t a.1.held
        (b.1, a.2 ++ b.2, .none)
      else if d ≤ n then
        ({ w with held := holdAt { seq := s, unit := u, since := now } w.held }, [], .none)
      else
        let a := w.release t true (w.held.filter fun h => decide ((h.seq - s).toInt < 0))
        let gap := match a.1.next with | some k => (s - k).toNat | none => 0
        let b := a.1.emit t u false (decide (gap ≠ 0)) false gap (some (s + 1))
        let c := b.1.release t true (w.held.filter fun h => decide (0 < (h.seq - s).toInt))
        (c.1, a.2 ++ b.2 ++ c.2, .none)
    else if 65436 ≤ d then
      if n = 0 then
        let a := w.emit t u false false true 0 (some next)
        (a.1, a.2, .none)
      else (w, [], .discarded)
    else
      let a := w.release t false w.held
      let s : W32 := next.extractLsb' 16 16 ++ seq
      let b := a.1.emit t u false true (decide (n = 0 ∧ 32768 ≤ d)) 0 (some (s + 1))
      (b.1, a.2 ++ b.2, .none)

/-! ### Offering records in order (R93) -/

/-- The records whose order is fixed are offered while an INGEST runs, or at a lane's close without one (R30, R93); `n` bounds
the loop. -/
def State.releaseReady (s : State) (l : Nat) (closing : Bool) : Nat → State
  | 0 => s
  | n + 1 =>
    let x := s.lane l
    match x.ready with
    | [] => s
    | r :: rest =>
      if x.ingest.isSome then
        let o := s.ingestRecord l r
        if o.2 then (o.1.modLane l fun y => { y with ready := rest }).releaseReady l closing n
        else if closing then o.1.releaseReady l closing n
        else o.1
      else if closing then ((s.offer l r).1.modLane l fun y => { y with ready := rest }).releaseReady l closing n
      else s

/-- Records put into the lane's order, then offered. -/
def State.putReady (s : State) (l : Nat) (rs : List Rec) : State :=
  let t := s.modLane l fun x => { x with ready := x.ready ++ rs }
  t.releaseReady l false (2 * (t.lane l).ready.length + 2)

/-- The reorder window of an SSRC on a lane. -/
def LaneSt.window (x : LaneSt) (ssrc : W32) : Window := x.windows.look {} ssrc.toNat

/-- A packet treated by its window (R33). -/
def State.rtpTake (s : State) (l : Nat) (u : RingUnit) : State :=
  let x := s.lane l
  let k := (rtpSsrc u.bytes).toNat
  let r := (x.windows.look {} k).take (s.laneType l) (s.laneCfg l 8) u s.tnow
  let t := s.modLane l fun y => { y with
    windows := y.windows.put k r.1
    fill := match r.2.2, y.nextFill with | .discarded, none => { y.fill with late := y.fill.late + 1 } | _, _ => y.fill
    nextFill := match r.2.2 with | .discarded => y.nextFill.map fun f => { f with late := f.late + 1 } | .none => y.nextFill }
  t.putReady l r.2.1

/-- Every held packet of every window put into the order (R30, R33). -/
def LaneSt.flushWindows (x : LaneSt) (t : Nat) : LaneSt :=
  x.windows.foldl (fun (y : LaneSt) w =>
    let r := w.2.release t true w.2.held
    { y with windows := y.windows.put w.1 r.1, ready := y.ready ++ r.2 }) x

/-- The packets that a lane holds when power loss or a tile repair interrupts it go to the refusal count (R26, R34). -/
def State.refuseHeld (s : State) (l : Nat) : State :=
  let x := s.lane l
  let n : Nat := x.windows.foldl (fun (a : Nat) w => w.2.held.foldl (fun (a : Nat) h => a + paddedLen h.unit.bytes.length) a) 0
  let m : Nat := x.ready.foldl (fun (a : Nat) r => a + r.bytes.length) 0
  if n + m = 0 then s
  else (s.modLane l fun y => { y with windows := y.windows.map fun w => (w.1, { w.2 with held := [] }), ready := [] }).addRefused l
    (n + m)

/-! ### Learning (R134) -/

/-- A key with its SSRC field 0. -/
def keyNoSsrc (k : BitVec 320) : BitVec 320 := k &&& ~~~(BitVec.ofNat 320 (0xFFFFFFFF * 2 ^ 192))

/-- The lane that learns a key: one with SSRC_LEARN set and a configured RTP key equal to it in every field but SSRC (R134). -/
def State.learner (s : State) (k : BitVec 320) : Option Nat :=
  if bits k 0 8 = 1 ∨ bits k 0 8 = 2 then
    (s.bind.active.all.find? fun e => e.laneBound && !e.learned && keyNoSsrc e.key == keyNoSsrc k &&
      s.cfg (0x3200 + e.lane.toNat) 5 == 1 && s.laneCfg e.lane.toNat 1 != 8).map (·.lane.toNat)
  else none

/-- The lane that a flow key belongs to: the bound one, or the one that learns it (R131, R134, R378). -/
def State.laneFor (s : State) (k : BitVec 320) : Option Nat :=
  match s.bind.lookup k with
  | some e => if e.laneBound then some e.lane.toNat else none
  | none => s.learner k

/-- A key learned by a lane, within 8 bound keys and one per 100 ms; false where a limit or the table refuses it (R134). -/
def State.learn (s : State) (l : Nat) (k : BitVec 320) : State × Bool :=
  let soon : Bool := match s.bind.lastLearn.find? (·.1 == l) with
    | some t => decide ((s.tnow - t.2).toNat < 7680000)
    | none => false
  if soon || decide (8 ≤ (s.bind.order.look [] l).length) then (s, false)
  else
    let c := match (s.lane l).obj with | some o => o.ctx | none => 0
    let r := s.bindInsert { key := k, target := BitVec.ofNat 20 c, lane := BitVec.ofNat 8 l, learned := true, laneBound := true
                            targetGen := (s.ctxRec c).gen }
    if r.1 then
      ({ r.2 with bind := { r.2.bind with order := r.2.bind.order.modify [] l (· ++ [k])
                                          lastLearn := r.2.bind.lastLearn.put l s.tnow } }, true)
    else (r.2, false)

/-- The learned keys of a lane removed, when it closes (R134). -/
def State.forgetLearned (s : State) (l : Nat) : State :=
  let ks := (s.bind.active.all.filter fun e => e.learned && e.lane.toNat == l).map (·.key)
  let t := ks.foldl State.bindRemove s
  { t with bind := { t.bind with order := t.bind.order.modify [] l fun o => o.filter fun k => !ks.contains k } }

/-! ### Port rings (R30, R378) -/

/-- The function of the interface that a flow key names (R129, R342). -/
def keyFunc (k : BitVec 320) : Nat :=
  let p := bits k 8 8
  match bits k 0 8 with
  | 1 | 2 => 0x10 + p
  | 3 => 0x30 + p
  | 4 => 0x34 + p
  | 5 => 0x3A
  | 6 => 0x28 + p
  | _ => 0x24

/-- Bytes discarded at an interface (R378). -/
def State.discard (s : State) (f n : Nat) : State :=
  { s with iface := { s.iface with discards := s.iface.discards.modify 0 f (satAdd · n) } }

/-- The bytes of the record that a unit would form on a lane (R35, R145, R378). -/
def State.unitRecordLen (s : State) (l : Nat) (u : RingUnit) : Nat :=
  match s.laneType l with
  | 1 | 2 | 3 | 5 => paddedLen u.bytes.length
  | 4 | 6 => 16 + (s.laneBond u.key).outLen u.bytes.length
  | _ => u.bytes.length

/-- A whole unit of a flow key has been received: it stands in the ring of the open lane that its key belongs to, or is refused
where the ring is full or power loss is declared, or is discarded and counted at its interface (R70, R378). -/
def State.unitArrives (s : State) (k : BitVec 320) (b : Bytes) (ringFull : Bool) : State :=
  match s.laneFor k with
  | none => s.discard (keyFunc k) b.length
  | some l =>
    let u : RingUnit := { bytes := b, key := k, time := s.time.now }
    if !(s.lane l).active then s.discard (keyFunc k) b.length
    else if s.holdup.declared then s.addRefused l (s.unitRecordLen l u)
    else if ringFull then s.addRefused l b.length
    else (s.modLane l fun x => { x with ring := x.ring ++ [u] }).laneHod l

/-! ### The lane's next record from its ring (R61, R93) -/

/-- The frame record of a CAN frame (R35). -/
def frameRecord (u : RingUnit) (gap : Bool) : Rec :=
  { bytes := padTo (paddedLen u.bytes.length) (blockPrefix u.bytes.length gap u.time ++ u.bytes), key := some u.key }

/-- The next unit of the lane's ring is offered while an INGEST runs: an RTP packet to its window, a CAN frame or a USB read to
admission, a block to a hod (R33, R93, R138). A packet that is no RTP packet is refused, one whose key the lane has lost is discarded
at its interface (log entry 106). -/
def State.takeUnit (s : State) (l : Nat) : State :=
  let x := s.lane l
  match x.ring, x.ingest with
  | u :: rest, some _ =>
    match s.laneType l with
    | 1 | 2 | 3 =>
      if !x.ready.isEmpty then s.releaseReady l false (2 * x.ready.length + 2)
      else
        let t := s.modLane l fun y => { y with ring := rest }
        if !rtpOk u.bytes then t.addRefused l (paddedLen u.bytes.length)
        else if (s.bind.lookup u.key).isSome then t.rtpTake l u
        else if s.learner u.key ≠ some l then t.discard (keyFunc u.key) u.bytes.length
        else
          let r := t.learn l u.key
          if r.2 then r.1.rtpTake l u else r.1.addRefused l (paddedLen u.bytes.length)
    | 5 =>
      let o := s.ingestRecord l (frameRecord u x.gapNext)
      if o.2 then o.1.modLane l fun y => { y with ring := y.ring.drop 1, gapNext := false } else o.1
    | 7 =>
      let o := s.ingestRecord l { bytes := u.bytes, key := some u.key }
      if o.2 then o.1.modLane l fun y => { y with ring := y.ring.drop 1, fileOffset := y.fileOffset + BitVec.ofNat 64 u.bytes.length }
      else o.1
    | _ => s.laneHod l
  | _, _ => s.releaseReady l false (2 * x.ready.length + 2)

/-- What waits for the lane's INGEST is offered to it as it starts (R93). -/
def State.ingestGo (s : State) (l : Nat) : State :=
  (s.releaseReady l false (2 * (s.lane l).ready.length + 2)).laneHod l

/-! ### Lane close (R30) -/

/-- The lane closes: packets held in its reorder windows are staged in order into the closing object, its INGEST ends with 030Ah,
what stands in its ring is discarded at its interface, its learned keys go, its object closes and no new one opens (R30, R93,
R134). -/
def State.laneClose (s : State) (l : Nat) : State :=
  let a := s.modLane l fun x => x.flushWindows (s.laneType l)
  let b := a.releaseReady l true (2 * (a.lane l).ready.length + 2)
  let c := b.ingestEnd l 0x030A false
  let d := (c.lane l).ring.foldl (fun t (u : RingUnit) => t.discard (keyFunc u.key) u.bytes.length) c
  (d.forgetLearned l).closeLane l

/-! ### The rows -/

/-- UNIT_RECEIVED: a receiving interface has received a whole unit of a flow key (R378). -/
def execUnitReceived (key : BitVec 320) (unit : Bytes) (ringFull : Bool) (s : State) : Out :=
  .next (s.unitArrives key unit ringFull)

/-- RECORD_OFFERED: the lane's next record is offered to admission (R61). -/
def execRecordOffered (l : Lane) (s : State) : Out := .next (s.takeUnit l)

/-- RTP_PACKET_RECEIVED: the lane's engine takes the next packet of the ring (R33). -/
def execRtpPacketReceived (l : Lane) (s : State) : Out :=
  .next (if [1, 2, 3].contains (s.laneType l) then s.takeUnit l else s)

/-- REORDER_TIMEOUT: the oldest held packet of an SSRC has waited REORDER_TIME (R33). -/
def execReorderTimeout (l : Lane) (ssrc : W32) (s : State) : Out :=
  let w := (s.lane l).window ssrc
  let r := w.release (s.laneType l) true w.held
  .next (if w.held.isEmpty then s
    else (s.modLane l fun x => { x with windows := x.windows.put ssrc.toNat r.1 }).putReady l r.2)

end Sys2Proof.Machine
end

