-- ==== Sys2Proof/Machine/Verify.lean ====
section
/-! DEFINITION. Locating and checking bricks and coping records that are read from the wythes (chapter 02, R51; R119). -/
namespace Sys2Proof.Machine

/-! ### Fields of a brick as read (R39, R40) -/

def hKind (b : Bytes) : Nat := fieldAt b 8 1
def hCtx (b : Bytes) : Nat := fieldAt b 0x10 4 % 0x100000
def hLane (b : Bytes) : Nat := fieldAt b 0x0C 2
def hSeq (b : Bytes) : Nat := fieldAt b 0x18 8
def hLen (b : Bytes) : Nat := fieldAt b 0x20 4
def hExtent (b : Bytes) : Nat := fieldAt b 0x24 4
def hOffset (b : Bytes) : Nat := fieldAt b 0x28 8
def hBase (b : Bytes) : Nat := fieldAt b 0x30 8
def hMono (b : Bytes) : Nat := fieldAt b 0x50 8
def hLost (b : Bytes) : Nat := fieldAt b 0x78 8
def hLast (b : Bytes) : Bool := (b.getD 10 0).getLsbD 1
def hPrev (b : Bytes) : Digest := BitVec.ofNat 384 (beNat (slice b 0x90 48))
def hGenesis (b : Bytes) : Digest := BitVec.ofNat 384 (beNat (slice b 0xC0 48))

/-- DIGEST of a brick's trailer (R40). -/
def tDigest (b : Bytes) : Digest := BitVec.ofNat 384 (beNat (slice b (512 + hLen b) 48))

/-- MAGIC, VERSION and HDR_LEN have their constant values (R51). -/
def headerConst (b : Bytes) : Bool := fieldAt b 0 4 == 0x424E5953 && fieldAt b 4 2 == 0x0100 && fieldAt b 6 2 == 0x0200

/-- The extent holds the payload and a trailer that agrees with the header (R51). -/
def trailerOk (b : Bytes) : Bool :=
  let n := hLen b
  decide (576 + n ≤ b.length) && fieldAt b (512 + n + 48) 4 == 0x544E5953 && fieldAt b (512 + n + 52) 4 == n &&
    fieldAt b (512 + n + 56) 8 == hSeq b

/-- SHA-384 over header and payload equals DIGEST (R51). -/
def digestOk (b : Bytes) : Bool := Config.sha384 (b.take (512 + hLen b)) == tDigest b

/-- Every reserved field of the header is zero (R39, R51). -/
def headerReserved (b : Bytes) : Bool :=
  let h : BitVec 4096 := BitVec.ofNat 4096 (leNat (b.take 512))
  bits h 91 5 == 0 && bits h 112 16 == 0 && bits h 148 44 == 0 && bits h 608 32 == 0 && bits h 1040 112 == 0 &&
    bits h 2000 48 == 0 && bits h 2368 192 == 0 && bits h 3584 512 == 0

/-- The checks of R51 on a brick, its location apart; `prev` is the digest that its PREV_DIGEST must equal, none where the
predecessor was not found. -/
def checkBrick (b : Bytes) (prev : Option Digest) : Status :=
  if !headerConst b then 0x0307
  else if !trailerOk b then 0x0303
  else if !digestOk b then 0x0301
  else if some (hPrev b) ≠ prev then 0x0302
  else if !headerReserved b then 0x0307
  else 0

/-- KEY_SLOT and KEY_EPOCH of a coping record (R46). -/
def rSlot (b : Bytes) : Nat := fieldAt b 0xE8 1
def rEpoch (b : Bytes) : W32 := BitVec.ofNat 32 (fieldAt b 0xEC 4)
def rSeq (b : Bytes) : Nat := fieldAt b 0x10 8
def rKind (b : Bytes) : Nat := fieldAt b 8 1
def rLane (b : Bytes) : Nat := fieldAt b 0x0A 2
def rCtx (b : Bytes) : Nat := fieldAt b 0x0C 4

/-- The checks of R51 on a coping record. -/
def State.checkRecord (s : State) (b : Bytes) : Status :=
  if fieldAt b 0 4 ≠ 0x434E5953 ∨ fieldAt b 4 2 ≠ 0x0100 ∨ fieldAt b 6 2 ≠ 0x0400 ∨ 7 < rSlot b then 0x0307
  else if rEpoch b = 0 ∨ s.sec.fuse.sealDestroyed ∨ s.sec.fuse.lc = 0 then 0x0804
  else if Config.ecdsaVerify (toBE 97 (Config.publicKey (s.scalarOf (rSlot b) (rEpoch b))).toNat) (slice b 0 0x3A0)
      (slice b 0x3A0 96) then 0
  else 0x0304

/-! ### Reading a wythe (R97, R119) -/

/-- What a read of the wythes finds. -/
inductive Found
  | bytes (b : Bytes)
  /-- Nothing stands at the location (0308h for a brick). -/
  | missing
  /-- The read failed with this status: 0905h, or 0901h after a rung 2 (R97). -/
  | failed (st : Status)
  deriving DecidableEq, Repr

/-- What a member gives at an LBA. -/
def mediumAt (md : Medium) (m lba : Nat) : Found :=
  match md.find? fun (e : Extent) => e.member.val == m && e.lba == lba with
  | none => .missing
  | some e => match e.res with
    | .data b => .bytes b
    | .failed => .failed 0x0905
    | .rung2 => .failed 0x0901

/-- Step 3 of R119: the first extent or the REPAIR 0 entry with the greatest BRICK_SEQ no greater than n. -/
def State.startLba (s : State) (c m n : Nat) : Nat :=
  let r := s.ctxRec c
  let first := (r.firstLba.look 0xFFFFFFFFFFFFFFFF m).toNat
  let es := (s.extChain 80000 r.extContext.toNat).flatMap fun x =>
    ((s.ctxRec x).locs.filter fun e => !e.repair && e.member.toNat == m && decide (e.brickSeq.toNat ≤ n)).map fun e =>
      (e.brickSeq.toNat, e.lba.toNat)
  (es.foldl (fun (a : Nat × Nat) e => if a.1 ≤ e.1 then e else a) (0, first)).2

/-- Step 2 of R119: the latest REPAIR entry of brick n on a member. -/
def State.repairLba (s : State) (c m n : Nat) : Option Nat :=
  (((s.extChain 80000 (s.ctxRec c).extContext.toNat).flatMap fun x =>
    (s.ctxRec x).locs.filter fun e => e.repair && e.member.toNat == m && e.brickSeq.toNat == n).getLast?).map (·.lba.toNat)

/-- Steps 4 and 5 of R119: the walk from an LBA; `met` is the greatest BRICK_SEQ met, `best` the last extent of brick n. -/
def walk (md : Medium) (m lbaSize c n : Nat) (lba met : Nat) (best : Found) : Nat → Found
  | 0 => best
  | fuel + 1 =>
    match mediumAt md m lba with
    | .missing => best
    | .failed st => .failed st
    | .bytes b =>
      let next := lba + (hExtent b + lbaSize - 1) / lbaSize
      if hExtent b = 0 then best
      else if hCtx b ≠ c ∨ hSeq b < met then walk md m lbaSize c n next met best fuel
      else if n < hSeq b then best
      else walk md m lbaSize c n next (hSeq b) (if hSeq b = n then .bytes b else best) fuel

/-- Brick n of an object on a wythe (R119). -/
def State.findBrick (s : State) (md : Medium) (w c n : Nat) : Found :=
  let l := (s.ctxRec c).lane.toNat
  let m := s.brickMember w l n
  match s.repairLba c m n with
  | some a => mediumAt md m a
  | none => walk md m (s.member m).lba c n (s.startLba c m n) 0 .missing (md.length + 1)

/-- The first 576 + PAYLOAD_LEN bytes, or the payload alone (R97 FORM). -/
def brickForm (b : Bytes) (payloadOnly : Bool) : Bytes :=
  if payloadOnly then slice b 512 (hLen b) else slice b 0 (576 + hLen b)

/-- The digest a brick's PREV_DIGEST must equal: the predecessor's, or the genesis value for brick 0 (R41, R51). -/
def State.prevDigest (s : State) (md : Medium) (w c n : Nat) : Option Digest :=
  if n = 0 then some (s.genesis (s.ctxRec c).lane.toNat c (s.ctxRec c).openTime)
  else match s.findBrick md w c (n - 1) with
    | .bytes b => some (tDigest b)
    | _ => match s.findBrick md (1 - w) c (n - 1) with
      | .bytes b => if s.wytheList.contains (1 - w) then some (tDigest b) else none
      | _ => none

/-- The checks of R51 on brick n of an object as one wythe gives it; the result of R98. -/
def State.verifyBrick (s : State) (md : Medium) (w c n : Nat) : Status :=
  if n = 0 ∧ (s.sec.fuse.lc = 0 ∨ s.sec.fuse.identityDestroyed) then 0x0805
  else match s.findBrick md w c n with
    | .missing => 0x0308
    | .failed st => st
    | .bytes b => checkBrick b (s.prevDigest md w c n)

end Sys2Proof.Machine
end

