-- ==== Sys2Proof/Machine/CourseCmd.lean ====
section
/-! DEFINITION. The command words of courses: control words, lane commands, brick and record transfers, razing, hod moves, ledger
snapshots (chapter 04, R91 to R102). The raw port operations stand in Raw. -/
namespace Sys2Proof.Machine

/-- The held word of a running course on a tile that can run it, if it has not started and has the opcode (R105, R113). -/
def State.heldWord (s : State) (c op : Nat) : Option (BitVec 256) :=
  let x := s.course c
  match x.word with
  | some w => if s.courseRuns c && x.wait.isNone && s.courseTile c && wOp w == op then some w else none
  | none => none

/-- What a command with word w is asked for so far, the span's earlier words included (R85). -/
def State.asked (s : State) (c : Nat) (w : BitVec 256) : Nat := (s.course c).total + wCount w

/-- The word of a course carried out by `f` where it can start; else nothing happens. A word of a span whose command has ended already
only adds its COUNT (R85). -/
def State.onWord (s : State) (c op : Nat) (f : BitVec 256 → State) : Out :=
  match s.heldWord c op, (s.course c).spanEnd with
  | some w, none => .next (f w)
  | some w, some e => .next ((if op = 0x10 then s.ingestOff c else s).finishWord c { e with count := s.asked c w })
  | none, _ => .next s

/-- A context holds an evidence object (R92, R116). -/
def State.holdsObject (s : State) (o : Nat) : Bool := (s.ctxRec o).state == 2 || (s.ctxRec o).state == 3

/-! ### Control words (R102) -/

/-- The test of a BRANCH (R102). -/
def State.branchTest (s : State) (c : Nat) (w : BitVec 256) : Bool :=
  let p := wParam w
  let v := bits p 16 16
  let r := s.ctxRec c
  let o := s.ctxRec (wObject w c)
  match bits p 0 4 with
  | 0 => true
  | 1 => r.lastStatus.toNat == v
  | 2 => bits r.lastStatus 8 8 == v % 256
  | 3 => r.resumeCause.toNat == v % 16
  | 4 => r.lastStatus != 0
  | 5 => r.lenMem
  | 6 => o.hold
  | 7 => r.pending &&& BitVec.ofNat 16 v != 0
  | _ => o.deadline != 0 && decide (o.deadline.toNat ≤ bits s.time.now 0 48)

/-- BRANCH (R92, R102). -/
def State.branchWord (s : State) (c : Nat) (w : BitVec 256) : State :=
  let t := bits (wParam w) 0 4
  if (t = 6 ∨ t = 8) ∧ !s.holdsObject (wObject w c) then s.afterWord c w { status := 0x0503 }
  else if s.branchTest c w != (wParam w).getLsbD 4 then s.jumpTo c w (wAddr w)
  else s.afterWord c w {}

/-- WAIT: the course suspends and resumes at the following word (R102, R107). -/
def State.waitWord (s : State) (c : Nat) (w : BitVec 256) : State :=
  let x := s.course c
  if x.stop then s.endCourse c x.addr (wOp w) { status := 0x0181 }
  else s.suspend c (x.addr + 32) w (waitMask w) (some ((wParam w).extractLsb' 16 9))

/-- POST: a KIND 3 status word, unless the word ends the course (R90, R102). -/
def State.postWord (s : State) (c : Nat) (w : BitVec 256) : State :=
  let x := s.course c
  let v : WordResult := { detail := wParam w }
  (if wNext w && !x.stop then s.postStatus c 3 x.addr 5 v else s).afterWord c w v

/-! ### INGEST (R93) -/

/-- A byte string in units of at most 64 KiB (R61). -/
def unitsOfBytes (b : Bytes) : Nat → List Bytes
  | 0 => []
  | n + 1 => if b.isEmpty then [] else b.take 65536 :: unitsOfBytes (b.drop 65536) n

/-- Units of a host lane offered in order, until one is refused: the bytes accepted, and the refusal's status (R61, R93). -/
def State.offerUnits (s : State) (l : Nat) : List Bytes → State × Nat × Status
  | [] => (s, 0, 0)
  | u :: r =>
    let o := s.offer l { bytes := u }
    if o.2 ≠ 0 then (o.1, 0, o.2)
    else
      let q := o.1.offerUnits l r
      (q.1, u.length + q.2.1, q.2.2)

/-- INGEST of a host lane: the word's bytes are offered at once; over the words of a span it runs on the lane (R85, R93, R283). -/
def State.ingestHost (s : State) (c l : Nat) (w : BitVec 256) (h : HostRead) : State :=
  let x := s.course c
  let base := (s.ctxRec c).hostBase
  let ps := s.pieces base x.hosted h false w (wCount w)
  let b := s.gatherPieces base h ps.1
  let r := s.offerUnits l (unitsOfBytes b (b.length / 65536 + 1))
  let done := x.done + r.2.1
  let st : Status := if r.2.2 ≠ 0 then r.2.2 else if ps.2 then 0 else 0x0108
  if st = 0 ∧ wSpan w then (r.1.modLane l fun y => { y with ingest := some c }).spanOn c w fun y => { y with done := done }
  else (r.1.ingestOff c).finishWord c { status := st, count := s.asked c w, done := done, detail := BitVec.ofNat 64 done }

/-- A WRITE taken from a submission queue waits on the lane (R283). -/
def State.writeWaits (s : State) (l : Nat) : Bool :=
  s.rings.pair.any fun p => !p.2.txn && p.2.entries.any fun e =>
    bits e.raw 0 8 == 6 && bits e.raw 80 8 == l && e.done.isNone

/-- INGEST (R93, R283). -/
def State.ingestWord (s : State) (c : Nat) (w : BitVec 256) (h : HostRead) : State :=
  let l := bits (wSel w) 0 8
  if !(s.lane l).active then s.finishWord c { status := 0x030A, count := s.asked c w, done := (s.course c).done }
  else if (s.lane l).ingest.any (· != c) || s.writeWaits l then
    s.finishWord c { status := 0x030D, count := s.asked c w, done := (s.course c).done }
  else if s.laneType l = 8 then s.ingestHost c l w h
  else
    ((s.modLane l fun y => { y with
        ingest := some c, fileOffset := if s.laneType l = 7 ∧ !wSkip w then wParam w else y.fileOffset }).modCourse c fun x =>
      { x with wait := some (.ingest l), total := wCount w, done := 0 }).ingestGo l

/-! ### SEAL and COPE (R94, R95) -/

/-- A brick of the lane is closed and unsealed. -/
def LaneSt.unsealed (x : LaneSt) : Bool := match x.sealing with | some b => b.digest.isNone | none => false

/-- What a SEAL waits for has come (R94). -/
def LaneSt.sealReady (x : LaneSt) (mode ctx : Nat) : Bool :=
  match mode with
  | 1 => (x.obj.map (·.ctx)) != some ctx && !(match x.sealing with | some b => b.digest.isNone && b.ctx == ctx | none => false)
  | 2 => !x.acts.contains (.brick 6) && !x.unsealed
  | _ => !x.unsealed

/-- BRICK_SEQ of the last sealed brick of an object's chain (R92). -/
def State.lastSealed (s : State) (l ctx : Nat) : W64 :=
  match (s.lane l).chainOf ctx with
  | some o => o.nextSeq - 1
  | none => (s.ctxRec ctx).lastSeq

/-- A SEAL that waits ends where it may (R94). -/
def State.sealEnd (s : State) (c : Nat) : State :=
  match (s.course c).wait with
  | some (.seal l mode ctx) =>
    if (s.lane l).sealReady mode ctx then s.finishWord c { detail := s.lastSealed l ctx } else s
  | _ => s

/-- SEAL (R94). -/
def State.sealWord (s : State) (c : Nat) (w : BitVec 256) : State :=
  let l := bits (wSel w) 0 8
  let mode := bits (wParam w) 0 2
  let ctx := match (s.lane l).obj with | some o => o.ctx | none => 0
  if mode = 1 ∧ !(s.lane l).active then s.finishWord c { status := 0x030A }
  else
    let t := s.modCourse c fun x => { x with wait := some (.seal l mode ctx) }
    let u := match mode with | 1 => t.renew l |>.pump l | 2 => t.owe l (.brick 6) | _ => t
    u.sealEnd c

/-- RECORD_SEQ of the first record of the lane whose ledger read is still to come (R95). -/
def LaneSt.freshSeq (x : LaneSt) : W64 :=
  x.signedSeq + 1 + (if x.rec1.isSome then 1 else 0) + BitVec.ofNat 64 (x.recQueue.takeWhile fun q => q.read.isSome).length

/-- RECORD_SEQ of the lane's KIND 02h record that was asked for already: its last record (R71, R95). -/
def LaneSt.finalSeq (x : LaneSt) : W64 :=
  x.signedSeq + (if x.rec1.isSome then 1 else 0) + BitVec.ofNat 64 x.recQueue.length

/-- The record of a number is signed and on every wythe. -/
def LaneSt.recordSeqDone (x : LaneSt) (n : W64) : Bool :=
  decide (n.toNat ≤ x.signedSeq.toNat) && x.recWrites.all fun w => decide (n.toNat < w.seq.toNat)

/-- A COPE that waits ends where its record is DURABLE; the copy is written first; with 0804h where the lane's slot has lost its key
(R90, R95). -/
def State.copeEnd (s : State) (c : Nat) : State :=
  match (s.course c).wait with
  | some (.cope l first copy) =>
    match (s.lane l).doneRecords.find? fun r => decide (first.toNat ≤ r.1.toNat) with
    | none =>
      if (s.lane l).signedSeq < first ∧ !s.slotHoldsKey (s.laneCfg l 0xA) then s.finishWord c { status := 0x0804 } else s
    | some r =>
      let t := match copy with | some a => s.writeAt (s.ctxRec c).hostBase a r.2 | none => s
      t.finishWord c { detail := r.1 }
  | _ => s

/-- A RAZE that waits for its record ends with 0804h where none is written any more, the lane's slot having lost its key; a claim taken
for it is released (R52, R99). -/
def State.razeEnd (s : State) (c : Nat) : State :=
  match (s.course c).wait with
  | some (.raze o) =>
    let l := (s.ctxRec o).lane.toNat
    let x := s.lane l
    let mine := fun (q : RecReq) => q.kind == 4 && q.ctx == o
    if s.slotHoldsKey (s.laneCfg l 0xA) || x.recQueue.any mine || x.rec1.any (fun w => mine w.req) || x.razeReady.any (·.1 == o) ||
        x.recWrites.any (fun w => w.kind == 4 && w.ctx == o) then s
    else (if o = c then s else s.release o).finishWord c { status := 0x0804 }
  | _ => s

/-- COPE (R95). A lane without an open object ends it with 030Ah (log entry 109). -/
def State.copeWord (s : State) (c : Nat) (w : BitVec 256) : State :=
  let l := bits (wSel w) 0 8
  let p := wParam w
  match (s.lane l).obj with
  | none => s.finishWord c { status := 0x030A }
  | some o =>
    if !s.slotHoldsKey (s.laneCfg l 0xA) then s.finishWord c { status := 0x0804 }
    else
      let final := bits p 0 8 == 2 && (s.lane l).finalDone
      let first := if final then (s.lane l).finalSeq else (s.lane l).freshSeq
      let t := s.modCourse c fun x =>
        { x with wait := some (.cope l first (if p.getLsbD 8 then some (wAddr w) else none)) }
      if final then (if (s.lane l).recordSeqDone first then t.finishWord c { detail := first } else t)
      else if bits p 0 8 = 2 then
        (t.modLane l fun y => { y with finalDone := true }).recordDue l { kind := 2, ctx := o.ctx }
      else t.cadence l

/-- Courses whose SEAL, COPE or RAZE waits on the lane go on, then the lane's next block finds its hod (R94, R95, R99, R145). -/
def State.wake (s : State) (l : Nat) : State :=
  let cs := (s.courses.held.filter fun (e : Nat × Course) =>
    match e.2.wait with
    | some (.seal k ..) => k == l | some (.cope k ..) => k == l | some (.raze o) => (s.ctxRec o).lane.toNat == l | _ => false).map (·.1)
  let t := cs.foldl (fun t c => ((t.sealEnd c).copeEnd c).razeEnd c) s
  (t.modLane l fun x => { x with doneRecords := [] }).laneHod l

/-! ### APPEND (R96) -/

/-- The buffer of an APPEND passes as a brick of the object (R51, R96). -/
def State.appendBrickOk (s : State) (md : Medium) (wy o : Nat) (b : Bytes) : Bool :=
  let r := s.ctxRec o
  let n := hSeq b
  checkBrick b (s.prevDigest md wy o n) == 0 && hCtx b == o && hExtent b == b.length &&
    r.lastSeq != 0xFFFFFFFFFFFFFFFF && decide (n ≤ r.lastSeq.toNat) &&
    !(n == 0 && (s.sec.fuse.lc == 0 || s.sec.fuse.identityDestroyed))

/-- The refusal of an APPEND, 0 where it may write (R92, R96). -/
def State.appendCheck (s : State) (md : Medium) (wy o : Nat) (isRecord : Bool) (b : Bytes) : Status :=
  if !s.holdsObject o then 0x0503
  else if !(if isRecord then b.length == 1024 && s.checkRecord b == 0 else s.appendBrickOk md wy o b) then 0x030C
  else if !s.wytheList.contains wy then 0x0407
  else if s.wythes.failed.getLsbD wy then 0x0406
  else 0

/-- A command goes to an SSD's root port under the next command identifier (R103, R386). -/
def State.nvmeIssue (s : State) (port : Nat) (use : NvmeUse) : State :=
  let cid := s.nextCid.look 0 port
  { s with nvme := s.nvme ++ [{ port := port, cid := cid, use := use }], nextCid := s.nextCid.put port (cid + 1) }

/-- The stream of an object's lane and class on a member has room for n bytes: the zone is left for the next one where they do not
fit; none where no zone is free (R49). -/
def State.copyZone (s : State) (m k n : Nat) : Option State :=
  let b := s.member m
  match b.stream.find? (·.1 == k) with
  | some e => if b.fits e.2 (b.lbas n) then some s else (b.enter k).map fun b2 => ((s.finish m e.2.zone).modMember m fun _ => b2).resetRazed m
  | none => (b.enter k).map fun b2 => s.modMember m fun _ => b2

/-- An APPEND's command at LBA `lba` of member m, which a conventional namespace is written at (R49, R96). -/
def State.appendNvme (s : State) (c m o : Nat) (seq : Option W64) (lba : Nat) : State :=
  s.nvmeIssue (s.portOf m) (.append c m (if (s.member m).zoned then none else some lba) o seq)

/-- The write of a copy of an extent of n bytes is issued at its stream's place, once the tail line of a new zone is applied (R49, R96,
R429). -/
def State.copyIssue (s : State) (c m o : Nat) (seq : W64) (n : Nat) : State :=
  let l := (s.ctxRec o).lane.toNat
  let k := s.streamOf l o
  match s.copyZone m k n with
  | none => s.finishWord c { status := 0x0309, count := n }
  | some t =>
    if !(t.tailsDue l k [m]).isEmpty then
      (t.queueTails l k [m]).modLane l fun x => { x with
        copyWait := x.copyWait ++ [{ course := c, member := m, object := o, seq := seq }] }
    else
      let p := (t.member m).stream.look { zone := 0, next := 0 } k
      (t.modMember m fun b => { b with stream := b.stream.put k { p with next := p.next + b.lbas n } }).appendNvme c m o (some seq) p.next

/-- The copies of a lane that waited for a tail line are written (R429). -/
def State.retryCopies (s : State) (l : Nat) : State :=
  (s.lane l).copyWait.foldl (fun t w =>
    if (t.course w.course).wait = some .append then t.copyIssue w.course w.member w.object w.seq (t.course w.course).gather.length
    else t) (s.modLane l fun x => { x with copyWait := [] })

/-- The write of a copy of a record is issued to the member's coping zone (R49, R96). -/
def State.recordIssue (s : State) (c m o n : Nat) : State :=
  match s.copingRoom m with
  | none => s.finishWord c { status := 0x0309, count := n }
  | some t => (t.issueRecord m 0).appendNvme c m o none (t.member m).copeLba

/-- A copy of an extent, its location's place kept first; it waits with source 245 while no LOC_EXT context is free (R96, R119). -/
def State.copyStart (s : State) (c m o : Nat) (seq : W64) (n : Nat) : State :=
  match s.reserveLoc o with
  | some t => t.copyIssue c m o seq n
  | none =>
    let e : LocEntry := { lba := 0xFFFFFFFFFFFF, member := BitVec.ofNat 2 m, repair := true, brickSeq := seq }
    { s.raise 245 with ctx := { s.ctx with locWait := s.ctx.locWait ++ [(c, o, e)] } }

/-- APPEND (R85, R86, R96, R119). -/
def State.appendWord (s : State) (c : Nat) (w : BitVec 256) (h : HostRead) (md : Medium) : State :=
  let x := s.course c
  let base := (s.ctxRec c).hostBase
  let ps := s.pieces base x.hosted h false w (wCount w)
  let b := x.gather ++ s.gatherPieces base h ps.1
  let o := wObject w c
  let wy := bits (wSel w) 0 1
  let isRecord := (wSel w).getLsbD 1
  if !ps.2 then s.finishWord c { status := 0x0108, count := s.asked c w, done := b.length }
  else if wSpan w then s.spanOn c w fun y => { y with gather := b }
  else
    let st := s.appendCheck md wy o isRecord b
    if st ≠ 0 then s.finishWord c { status := st, count := s.asked c w }
    else
      let u := { s with lanes := s.lanes.map fun (e : Nat × LaneSt) => (e.1, { e.2 with copyWait := e.2.copyWait.filter (·.course != c) }) }
      let t := u.modCourse c fun y => { y with wait := some .append, gather := b }
      if isRecord then t.recordIssue c (s.memberFor wy (rSeq b)) o b.length
      else t.copyStart c (s.brickMember wy (s.ctxRec o).lane.toNat (hSeq b)) o (BitVec.ofNat 64 (hSeq b)) b.length

/-- A copy stands at an LBA: its location is entered in the place kept for it and the command ends; it waits where no LOC_EXT
context is free (R96, R119). -/
def State.appendPlaced (s : State) (c o : Nat) (e : LocEntry) : State :=
  let n := (s.course c).gather.length
  match s.addLoc o e 0 with
  | some t => t.finishWord c { count := n, done := n, detail := e.lba.setWidth 64 }
  | none => { s.raise 245 with ctx := { s.ctx with locWait := s.ctx.locWait ++ [(c, o, e)] } }

/-- An APPEND's write has completed (R96, R387). -/
def State.appendDone (s : State) (c m o : Nat) (seq : Option W64) (lba : Nat) (ok : Bool) : State :=
  let n := (s.course c).gather.length
  if !ok then s.finishWord c { status := 0x0406, count := n }
  else match seq with
    | none => s.finishWord c { count := n, done := n, detail := BitVec.ofNat 64 lba }
    | some k => s.appendPlaced c o { lba := BitVec.ofNat 48 lba, member := BitVec.ofNat 2 m, repair := true, brickSeq := k }

/-! ### READ (R97) -/

/-- The configured wythes that a WYTHE sub-field reads, in order (R97). -/
def State.readOrder (s : State) (w : BitVec 256) : List Nat :=
  (match bits (wSel w) 0 2 with | 0 => [0] | 1 => [1] | _ => [0, 1]).filter s.wytheList.contains

/-- The first wythe of an order whose read completes, else the last one's failure (R97). -/
def firstRead (f : Nat → Found) : List Nat → Found
  | [] => .missing
  | [w] => f w
  | w :: r => match f w with | .failed _ => firstRead f r | x => x

/-- Unit n of a READ: brick n of the object in its form, or the record for n = 0 (R97). -/
def State.readUnit (s : State) (md : Medium) (w : BitVec 256) (o n : Nat) : Found :=
  let p := wParam w
  if (wSel w).getLsbD 3 then
    firstRead (fun wy => match mediumAt md (2 * wy + bits p 48 1) (bits p 0 48) with
      | .bytes b => .bytes (padTo 1024 b)
      | x => x) (s.readOrder w)
  else
    match firstRead (fun wy => s.findBrick md wy o n) (s.readOrder w) with
    | .bytes b => .bytes (brickForm b ((wSel w).getLsbD 2))
    | x => x

/-- A READ in progress within one word: bytes for the word, what is left of the unit begun, the next unit, an error. -/
structure ReadAcc where
  out   : Bytes
  carry : Bytes
  next  : Nat
  st    : Status := 0
  deriving DecidableEq, Repr

/-- Units placed into the word's room; `last` is the number behind the last unit. Without SPAN no unit starts that does not fit
(R85, R97). -/
def State.readLoop (s : State) (md : Medium) (w : BitVec 256) (o last : Nat) (a : ReadAcc) : Nat → ReadAcc
  | 0 => a
  | fuel + 1 =>
    let room := wCount w - a.out.length
    if room = 0 then a
    else if !a.carry.isEmpty then
      s.readLoop md w o last { a with out := a.out ++ a.carry.take room, carry := a.carry.drop room } fuel
    else if last ≤ a.next then a
    else match s.readUnit md w o a.next with
      | .missing => { a with st := if (wSel w).getLsbD 3 then 0x030B else 0x0308 }
      | .failed st => { a with st := st }
      | .bytes b =>
        if wSpan w || decide (b.length ≤ room) then s.readLoop md w o last { a with carry := b, next := a.next + 1 } fuel
        else a

/-- The refusal of a READ or VERIFY before anything is read (R92, R97, R98). -/
def State.placeCheck (s : State) (w : BitVec 256) (o first : Nat) : Status :=
  let isRecord := (wSel w).getLsbD 3
  let r := s.ctxRec o
  if !s.holdsObject o then 0x0503
  else if (s.readOrder w).isEmpty then 0x0407
  else if isRecord && (wParam w).getLsbD 48 && (s.readOrder w).any fun k => !s.striped k then 0x0407
  else if !isRecord && (r.lastSeq == 0xFFFFFFFFFFFFFFFF || decide (r.lastSeq.toNat < first)) then 0x030B
  else 0

/-- LBAs of a record on the members that a word reads. -/
def State.recordLbas (s : State) (w : BitVec 256) : Nat :=
  let m := 2 * ((s.readOrder w).head?.getD 0) + bits (wParam w) 48 1
  (s.member m).lbas 1024

/-- READ (R85 to R88, R97). -/
def State.readWord (s : State) (c : Nat) (w : BitVec 256) (h : HostRead) (md : Medium) : State :=
  let x := s.course c
  let o := wObject w c
  let isRecord := (wSel w).getLsbD 3
  let first := if isRecord then 0 else (wParam w).toNat
  let begun := x.nextSeq.isSome
  let st := if begun then 0 else s.placeCheck w o first
  if st ≠ 0 then s.finishWord c { status := st, count := s.asked c w }
  else
    let last := if isRecord then 1 else (s.ctxRec o).lastSeq.toNat + 1
    let a := s.readLoop md w o last { out := [], carry := x.gather, next := x.nextSeq.getD first } (2 * (last + 2))
    let base := (s.ctxRec c).hostBase
    let ps := s.pieces base x.hosted h true w a.out.length
    let room : Nat := ps.1.foldl (fun (n : Nat) p => n + p.2) 0
    let t := if wSkip w then s else s.scatter base ps.1 a.out
    let done := x.done + (if wSkip w then a.out.length else min a.out.length room)
    let detail := BitVec.ofNat 64 (if wSkip w then done
      else if isRecord then bits (wParam w) 0 48 + s.recordLbas w * a.next else a.next)
    let st1 : Status := if !wSkip w && !ps.2 then 0x0108 else a.st
    if st1 = 0 ∧ wSpan w then t.spanOn c w fun y => { y with done := done, gather := a.carry, nextSeq := some a.next }
    else t.finishWord c { status := st1, count := s.asked c w, done := done, long := !a.carry.isEmpty, detail := detail }

/-! ### VERIFY (R98) -/

/-- The check of a record on one wythe (R51, R98). -/
def State.verifyRecord (s : State) (md : Medium) (w : BitVec 256) (wy : Nat) : Status :=
  let p := wParam w
  if p.getLsbD 48 && !s.striped wy then 0x0407
  else match mediumAt md (2 * wy + bits p 48 1) (bits p 0 48) with
    | .missing => 0x0307
    | .failed st => st
    | .bytes b => s.checkRecord (padTo 1024 b)

/-- The result of brick n, or of the record, on one wythe: 0407h where it is not configured (R96, R98). -/
def State.verifyOn (s : State) (md : Medium) (w : BitVec 256) (o n wy : Nat) : Status :=
  if !s.wytheList.contains wy then 0x0407
  else if (wSel w).getLsbD 3 then s.verifyRecord md w wy else s.verifyBrick md wy o n

/-- A wythe gives data of brick n, or of the record, that a job checks (R51, R92, R98). -/
def State.verifyData (s : State) (md : Medium) (w : BitVec 256) (o n wy : Nat) : Bool :=
  let p := wParam w
  let found := if (wSel w).getLsbD 3 then mediumAt md (2 * wy + bits p 48 1) (bits p 0 48) else s.findBrick md wy o n
  s.wytheList.contains wy && (match found with | .bytes _ => true | _ => false)

/-- The wythe that a WYTHE sub-field reads first (R98). -/
def firstWythe (w : BitVec 256) : Nat := if bits (wSel w) 0 2 = 1 then 1 else 0

/-- The second wythe is read too: both are, or the first one failed (R98). -/
def secondWythe (w : BitVec 256) (st : Status) : Bool := bits (wSel w) 0 2 == 3 || (bits (wSel w) 0 2 == 2 && st != 0)

/-- The first unit that a VERIFY names (R98). -/
def verifyFirst (w : BitVec 256) : Nat := if (wSel w).getLsbD 3 then bits (wParam w) 0 48 else (wParam w).toNat

/-- VERIFY ends with the results of its last unit, `good` units having passed (R98). -/
def State.verifyOver (s : State) (c : Nat) (w : BitVec 256) (good : Nat) (st : Status) (aux : Option Status) : State :=
  let isRecord := (wSel w).getLsbD 3
  let first := verifyFirst w
  let detail := if isRecord then (if good = 0 then first else first + s.recordLbas w) else first + good
  s.finishWord c { status := st, count := if isRecord then 0 else wCount w, done := good, detail := BitVec.ofNat 64 detail, second := aux }

/-- VERIFY waits for the job that checks its unit's data from one wythe (R92, R98). -/
def State.verifyAsk (s : State) (c : Nat) (w : BitVec 256) (md : Medium) (n left : Nat) (first : Option Status) : State :=
  let record := (wSel w).getLsbD 3
  ((s.modCourse c fun x => { x with wait := some (.verify record md n left first), done := n - verifyFirst w }).askVerify c record).turnNow

/-- VERIFY comes to unit n: a job for the data that the first wythe gives, else for the second's where that is read too; without data the
unit fails at once (R97, R98). -/
def State.verifyUnit (s : State) (c : Nat) (w : BitVec 256) (md : Medium) (n left : Nat) : State :=
  let o := wObject w c
  let a := s.verifyOn md w o n (firstWythe w)
  if s.verifyData md w o n (firstWythe w) then s.verifyAsk c w md n left none
  else if !secondWythe w a then s.verifyOver c w (n - verifyFirst w) a none
  else if s.verifyData md w o n 1 then s.verifyAsk c w md n left (some a)
  else s.verifyOver c w (n - verifyFirst w) a (some (s.verifyOn md w o n 1))

/-- The results of a unit are known: the next unit, or the end at the last one or at the first that fails (R98). -/
def State.verifyNext (s : State) (c : Nat) (w : BitVec 256) (md : Medium) (n left : Nat) (st : Status) (aux : Option Status) : State :=
  let bad := st != 0 || aux.getD 0 != 0
  if bad || decide (left ≤ 1) then s.verifyOver c w (n - verifyFirst w + (if bad then 0 else 1)) st aux
  else s.verifyUnit c w md (n + 1) (left - 1)

/-- The job of a VERIFY is complete: the data pass the checks of R51 or not (R51, R92, R98). -/
def State.verifyDone (s : State) (c : Nat) : State :=
  match (s.course c).wait, (s.course c).word with
  | some (.verify _ md n left first), some w =>
    let o := wObject w c
    match first with
    | none =>
      let a := s.verifyOn md w o n (firstWythe w)
      if !secondWythe w a then s.verifyNext c w md n left a none
      else if s.verifyData md w o n 1 then s.verifyAsk c w md n left (some a)
      else s.verifyNext c w md n left a (some (s.verifyOn md w o n 1))
    | some a => s.verifyNext c w md n left a (some (s.verifyOn md w o n 1))
  | _, _ => s

/-- VERIFY (R98). -/
def State.verifyWord (s : State) (c : Nat) (w : BitVec 256) (md : Medium) : State :=
  let o := wObject w c
  let isRecord := (wSel w).getLsbD 3
  let r := s.ctxRec o
  let first := verifyFirst w
  if !s.holdsObject o then s.finishWord c { status := 0x0503, count := wCount w }
  else if !isRecord && (r.lastSeq == 0xFFFFFFFFFFFFFFFF || decide (r.lastSeq.toNat < first)) then
    s.finishWord c { status := 0x030B, count := wCount w }
  else
    let left := r.lastSeq.toNat + 1 - first
    let n := if isRecord then 1 else if wCount w = 0 then left else min (wCount w) left
    s.verifyUnit c w md first n

/-! ### RAZE (R52, R53, R99) -/

/-- LAST_DIGEST of an object for its razing record: the genesis value where it has no brick, the lane's chain where one holds it,
else the brick's as located and checked on a configured wythe; or the status of that check (R46, R119). -/
def State.lastDigestOf (s : State) (md : Medium) (o : Nat) : Digest × Status :=
  let r := s.ctxRec o
  match (s.lane r.lane.toNat).chainOf o with
  | some k => (k.lastDigest, 0)
  | none =>
    if r.lastSeq = 0xFFFFFFFFFFFFFFFF then (s.genesis r.lane.toNat o r.openTime, 0)
    else
      let n := r.lastSeq.toNat
      match s.wytheList.find? fun wy => s.verifyBrick md wy o n == 0 with
      | some wy => (match s.findBrick md wy o n with | .bytes b => tDigest b | _ => 0, 0)
      | none => (0, match s.wytheList with | wy :: _ => s.verifyBrick md wy o n | [] => 0x0407)

/-- KIND_AREA of a razing record (R51). -/
def State.razeArea (s : State) (o cause : Nat) : Bytes :=
  let r := s.ctxRec o
  toLE 8 (r.lastSeq + 1).toNat ++ toLE 8 r.objPayload.toNat ++ toLE 1 r.retClass.toNat ++ toLE 1 0 ++ toLE 2 cause ++ toLE 12 0 ++
    toLE 10 r.openTime.toNat ++ toLE 6 0 ++ toBE 48 (s.genesis r.lane.toNat o r.openTime).toNat

/-- RAZE_CAUSE of a word (R99). -/
def razeCause (w : BitVec 256) (resume : BitVec 4) : Nat :=
  let p := bits (wParam w) 0 16
  if p = 0xFFFF then (if resume = 7 then 1 else if resume = 2 then 2 else 0) else p

/-- The refusal of a RAZE once the claim is held, 0 where razing runs (R52, R53, R99). -/
def State.razeCheck (s : State) (o : Nat) : Status :=
  let r := s.ctxRec o
  if r.state ≠ 3 then 0x0503
  else if r.hold then 0x0305
  else if !s.slotHoldsKey (s.laneCfg r.lane.toNat 0xA) then 0x0804
  else 0

/-- RAZE (R52, R99). -/
def State.razeWord (s : State) (c : Nat) (w : BitVec 256) (md : Medium) : State :=
  let o := wObject w c
  let claimed : Option State := if o = c then some s else s.tryClaim o (s.course c).engine (some c)
  match claimed with
  | none => s.claimLost.finishWord c { status := 0x0501 }
  | some t =>
    let d := t.lastDigestOf md o
    let st := if t.razeCheck o ≠ 0 then t.razeCheck o else d.2
    if st ≠ 0 then (if o = c then t else t.release o).finishWord c { status := st }
    else
      (t.modCourse c fun x => { x with wait := some (.raze o) }).recordDue (t.ctxRec o).lane.toNat
        { kind := 4, ctx := o, located := some d.1, area := t.razeArea o (razeCause w (t.ctxRec c).resumeCause) }

/-- The razing record of an object is DURABLE: the object is razed, a claim taken for it is released, the command ends and the
zones in which every object is razed are reset (R52). -/
def State.razed (s : State) (o : Nat) (seq : W64) : State :=
  let a := (s.modCtx o fun r => { r with state := 4 }).image o
  let b := a.memberList.foldl State.resetRazed a
  match (b.courses.held.find? fun (e : Nat × Course) => e.2.wait == some (.raze o)).map (·.1) with
  | none => b
  | some c => (if o = c then b else b.release o).finishWord c { detail := seq }

/-! ### MOVE and LEDGER (R100, R101) -/

/-- MOVE (R100, R138). -/
def State.moveWord (s : State) (c : Nat) (w : BitVec 256) : State :=
  let k := bits (wSel w) 0 5
  let h := if k = 0x1F then s.pickHod (s.ctxRec c).tile.toNat else k
  ((s.moveForget c).modCourse c fun x => { x with wait := some (.move h 0 0 0 0) }).moveFeed c 32

/-- The 48-byte ledger snapshot of a lane (R54). -/
def State.snapshot (s : State) (l : Nat) : Bytes :=
  let x := s.lane l
  toLE 8 x.led.accepted.toNat ++ toLE 8 x.led.durable.toNat ++ toLE 8 x.inflight.toNat ++ toLE 8 x.led.lost.toNat ++
    toLE 8 x.led.refused.toNat ++ toLE 8 s.mono.toNat

/-- LEDGER (R101). -/
def State.ledgerWord (s : State) (c : Nat) (w : BitVec 256) : State :=
  let l := bits (wSel w) 0 8
  let b := (List.range (wCount w)).flatMap fun i => s.snapshot (l + i)
  (s.writeAt (s.ctxRec c).hostBase (wAddr w) b).finishWord c { count := wCount w, done := wCount w }

/-! ### The rows -/

/-- NOP of a course (R102). -/
def execCourseNop (c : CtxId) (s : State) : Out := s.onWord c 1 fun w => s.afterWord c w {}
/-- JUMP (R102). -/
def execJump (c : CtxId) (s : State) : Out := s.onWord c 2 fun w => s.jumpTo c w (wAddr w)
/-- BRANCH (R102). -/
def execBranch (c : CtxId) (s : State) : Out := s.onWord c 3 (s.branchWord c)
/-- WAIT (R102). -/
def execWait (c : CtxId) (s : State) : Out := s.onWord c 4 (s.waitWord c)
/-- POST (R102). -/
def execPost (c : CtxId) (s : State) : Out := s.onWord c 5 (s.postWord c)
/-- INGEST (R93). -/
def execIngest (c : CtxId) (h : HostRead) (s : State) : Out := s.onWord c 0x10 fun w => s.ingestWord c w h
/-- SEAL (R94). -/
def execSeal (c : CtxId) (s : State) : Out := s.onWord c 0x11 (s.sealWord c)
/-- COPE (R95). -/
def execCope (c : CtxId) (s : State) : Out := s.onWord c 0x12 (s.copeWord c)
/-- APPEND (R96). -/
def execAppend (c : CtxId) (h : HostRead) (md : Medium) (s : State) : Out := s.onWord c 0x13 fun w => s.appendWord c w h md
/-- READ (R97). -/
def execRead (c : CtxId) (h : HostRead) (md : Medium) (s : State) : Out := s.onWord c 0x14 fun w => s.readWord c w h md
/-- VERIFY (R98). -/
def execVerify (c : CtxId) (md : Medium) (s : State) : Out := s.onWord c 0x15 fun w => s.verifyWord c w md
/-- RAZE (R99). -/
def execRaze (c : CtxId) (md : Medium) (s : State) : Out := s.onWord c 0x16 fun w => s.razeWord c w md
/-- MOVE (R100). -/
def execMove (c : CtxId) (s : State) : Out := s.onWord c 0x17 (s.moveWord c)
/-- LEDGER (R101). -/
def execLedger (c : CtxId) (s : State) : Out := s.onWord c 0x18 (s.ledgerWord c)

/-- COURSE_PORT_TAKE: the store takes a channel's course port and delivers cause 5 to every context waiting on it (R235). -/
def execCoursePortTake (ch : Chan) (s : State) : Out :=
  let p := s.router.port.look {} ch
  .next (if p.arr = 0 then s
    else ({ s with router := { s.router with port := s.router.port.put ch p.take } }).coursePort ch)

/-! ### Rows of the context store (R116, R119, R122 to R124) -/

/-- An answer to a claim sets EVL bit 20 of the engine that made it (R160). -/
def State.claimAnswered (s : State) (m : Nat) : State := if m < 96 then s.mark m 20 else s

/-- CONTEXT_CLAIM: claims that arrive in one cycle; the highest identity among those that are not stale wins a free context, every
other claimant is answered 0501h, a stale one 0505h (R27, R122, R124, R160). -/
def State.claimAll (s : State) (c : Nat) (qs : List Claimant) : State :=
  let stale := qs.filter (s.claimStale c)
  let live := (qs.filter fun q => !s.claimStale c q).map fun q => q.master.val
  let top : Nat := live.foldl (fun (a : Nat) m => Nat.max a m) 0
  let t := iterate State.staleRef stale.length s
  let won : Option State := if live.isEmpty then none else t.tryClaim c top none
  let lost := live.length - (if won.isSome then 1 else 0)
  let u := (qs.map (·.master.val)).foldl State.claimAnswered (iterate State.claimLost lost (won.getD t))
  { u with reply := qs.map fun q =>
      { dest := q.master, status := if s.claimStale c q then 0x0505 else if won.isSome && q.master.val == top then 0 else 0x0501 } }

def execContextClaim (c : CtxId) (qs : List Claimant) (s : State) : Out := .next (s.claimAll c qs)

/-- CONTEXT_RELEASE: the holder of a claim outside a course releases it; another master's request is answered 0501h (R122, R124). -/
def execContextRelease (q : Claimant) (c : CtxId) (s : State) : Out :=
  let r := s.ctxRec c
  let m := q.master
  .next (s.checked c q
    (if r.claimed && r.claimId.toNat == m.val && !s.ctx.courseClaim.any (·.1 == c.val) then (s.release c).answer m 0
    else s.answer m 0x0501))

/-- CONTEXT_ALLOCATE: firmware or the host takes the head of the free list, unless FREE_RESERVE or fewer are free; 0501h until
the table is restored (R116, R122, R123, R126). -/
def State.allocate (s : State) (m : Nat) : State :=
  if !s.ctx.restoreDone then s.answer m 0x0501
  else if freeCount s.ctx.free ≤ s.cfg 0x2100 2 then s.answer m 0x0503
  else match s.takeFree { state := 1 } with
    | none => s.answer m 0x0503
    | some (c, t) => { t.image c with reply := [{ dest := m, data := toLE 4 c ++ toLE 2 (t.ctxRec c).gen.toNat }] }

def execContextAllocate (q : Claimant) (s : State) : Out :=
  let m := q.master
  .next (if s.fw m || m.val == 96 then s.checked 0 { q with handle := none } (s.allocate m) else s.addrFault m)

/-- CONTEXT_FREE: the context and its LOC_EXT contexts become FREE (R116, R124, R126). -/
def State.freeContext (s : State) (m c : Nat) (gen : BitVec 16) : State :=
  if !s.handleOk c gen then s.staleRef.answer m 0x0505
  else if s.freeStatus c ≠ 0 then s.answer m (s.freeStatus c)
  else
    let xs := s.extChain 80000 (s.ctxRec c).extContext.toNat ++ [c]
    (xs.foldl (fun t x => (t.makeFree x).image x) s).answer m 0

def execContextFree (q : Claimant) (c : CtxId) (gen : BitVec 16) (s : State) : Out :=
  let m := q.master
  .next (if s.fw m || m.val == 96 then s.checked c { q with handle := none } (s.freeContext m c gen) else s.addrFault m)

/-- LOC_EXT_TAKE_RETRY: bricks and copies of an object that wait for a LOC_EXT context try again (R119). -/
def State.locRetry (s : State) (o : Nat) : State :=
  let ls := (s.lanes.filter fun (e : Nat × LaneSt) =>
    match e.2.writing with | some b => !b.issued && b.ctx == o | none => false).map (·.1)
  let a := ls.foldl State.issueBrick s
  let q := a.ctx.locWait.filter fun e => e.2.1 == o
  let b := { a with ctx := { a.ctx with locWait := a.ctx.locWait.filter fun e => e.2.1 != o } }
  q.foldl (fun t e =>
    if e.2.2.lba = 0xFFFFFFFFFFFF then t.copyStart e.1 e.2.2.member.toNat o e.2.2.brickSeq (t.course e.1).gather.length
    else t.appendPlaced e.1 o e.2.2) b

def execLocExtTakeRetry (o : CtxId) (s : State) : Out := .next (s.locRetry o)

end Sys2Proof.Machine
end

