-- ==== Sys2Proof/Machine/LaneCmd.lean ====
section
/-! DEFINITION. The rows of the lanes, the coping records, the journal and the bank (chapters 02 and 03), and the progress of the
last course (R71). -/
namespace Sys2Proof.Machine

/-! ### The last course (R71) -/

/-- An open lane whose KIND 02h record is due: nothing in flight, nothing owed, no record yet (R71 step 4). -/
def LaneSt.finalDue (x : LaneSt) : Bool := x.active && x.obj.isSome && x.inflight == 0 && x.acts.isEmpty && !x.finalDone

/-- The KIND 02h records that are due (R45, R71). -/
def State.finalRecords (s : State) : State :=
  s.lanes.foldl (fun t e =>
    if (t.lane e.1).finalDue then
      match (t.lane e.1).obj with
      | some o => (t.modLane e.1 fun x => { x with finalDone := true }).recordDue e.1 { kind := 2, ctx := o.ctx }
      | none => t
    else t) s

/-- No record of the lane is unsigned or unwritten. -/
def LaneSt.recordsClear (x : LaneSt) : Bool := x.rec1.isNone && x.recQueue.isEmpty && x.recWrites.isEmpty

/-- LC_DONE is set (R71 step 6, R234). -/
def State.lcDone (s : State) : State :=
  let a := { s with holdup := { s.holdup with lastCourse := false, lcOver := true, flushing := none } }
  ((a.headLine fun h => { h with lcDone := true }).raise 217).publish 270

/-- A Flush issued to every member, queued images written first (R71 step 5, R126). -/
def State.lcFlush (s : State) : State :=
  let a := s.flushImages
  let ms := a.memberList
  let b := ms.foldl (fun t m => (t.ssd m .flush).nvmeIssue (t.portOf m) (.flush m)) a
  let c := { b with holdup := { b.holdup with flushing := some ms } }
  if ms.isEmpty then (c.publish 269).lcDone else c

/-- The last course goes on as far as it can (R71 steps 4 and 5). -/
def State.lcStep (s : State) : State :=
  if !s.holdup.lastCourse || s.holdup.flushing.isSome then s
  else
    let a := s.finalRecords
    let drained := a.lanes.all fun e => e.2.inflight == 0
    let b := if drained && !a.holdup.drained then { a with holdup := { a.holdup with drained := true } }.publish 268 else a
    if drained && b.lanes.all fun e => e.2.recordsClear && !e.2.finalDue && e.2.acts.isEmpty then b.lcFlush else b

/-- What follows any progress of a lane: the last course, the courses that wait on the lane. -/
def State.laneMoved (s : State) (l : Nat) : State := s.lcStep.wake l

/-! ### Sealing and writing (R41, R44, R48, R54) -/

/-- The digest of a gap brick is complete: its bytes pass from INFLIGHT to LOST, EMCY (R41, R54, R307). -/
def State.gapSealed (s : State) (l : Nat) (b : Brick) : State :=
  if b.gapStatus = 0 then s
  else ((s.modLane l fun x => { x with inflight := x.inflight - b.lost, led := { x.led with lost := x.led.lost + b.lost } }).lineOf
    l).emcy 0xFF00 7 true 0 b.gapStatus

/-- The pass over a lane's closed brick is complete: the digest joins the chain, the brick moves on, the next may close (R38, R41,
R44, R48). -/
def State.sealDone (s : State) (l : Nat) (i : Nat) (j : Job) (b : Brick) : State :=
  let d := Config.sha384 (b.header ++ b.payload)
  let a := (s.finishJob i j).modLane l fun x =>
    { x.modChain b.ctx fun o => { o with prevDigest := d } with sealing := some { b with digest := some d } }
  let c := (a.gapSealed l b).retryHeld
  ((((c.toWriting l).pump l).judgeInadequate).laneMoved l)

/-- SEAL_COMPLETE (R44). -/
def execSealComplete (l : Lane) (s : State) : Out :=
  match s.mortar.grantedJob (.seal l), (s.lane l).sealing with
  | some (i, j), some b => .next (if b.digest.isNone then s.sealDone l i j b else s)
  | _, _ => .next s

/-- The LBA of a completed write: the one that Zone Append returns, or the one written at on a conventional member (R49). -/
def State.writtenAt (s : State) (m w lba : Nat) (placed : List (Nat × Nat)) : Nat :=
  if (s.member m).zoned then lba else ((placed.find? (·.1 == w)).map (·.2)).getD lba

/-- A wythe completes the write of the lane's brick (R48). -/
def State.brickWritten (s : State) (l w lba : Nat) : State :=
  s.modLane l fun x => { x with writing := x.writing.map fun b =>
    if b.issued && !b.written.any (·.1 == w) then
      { b with written := b.written ++ [(w, s.writtenAt (s.brickMember w l b.seq.toNat) w lba b.placed)] } else b }

/-- A wythe completes the write of the lane's oldest record that it has not completed; COPE_TAIL follows (R48, R75). -/
def State.recordWritten (s : State) (l w lba : Nat) : State :=
  match (s.lane l).recWrites.find? fun r => r.issued && !r.written.contains w with
  | none => s
  | some r =>
    let m := s.memberFor w r.seq.toNat
    let a := s.modLane l fun x => { x with recWrites := x.recWrites.map fun v =>
      if v.seq = r.seq then { v with written := v.written ++ [w] } else v }
    a.headLine fun h => { h with copeTail := h.copeTail.put m (BitVec.ofNat 64 (s.writtenAt m w lba r.placed + (s.member m).lbas 1024)) }

/-- WYTHE_WRITE_COMPLETE (R48, R54). -/
def execWytheWriteComplete (l : Lane) (isRecord : Bool) (w : Fin 2) (lba : Nat) (s : State) : Out :=
  let t := if isRecord then s.recordWritten l w lba else s.brickWritten l w lba
  .next (((t.settle l).judgeInadequate).laneMoved l)

/-- JOURNAL_APPLY: a bank of the journal, or the header's, applies one update; a write that waits for a tail line is issued (R77,
R429). -/
def execJournalApply (l : Option Lane) (s : State) : Out :=
  let t := { s with journal := s.journal.apply s.mono (l.map (·.val)) }
  .next (match l with
    | none => t
    | some l => if (s.lane l).tailWait then ((t.modLane l fun x => { x with tailWait := false }).issueBrick l).retryCopies l else t)

/-- BRICK_AGE_EXPIRY: BRICK_AGE has passed since the brick's first payload byte (R37). -/
def execBrickAgeExpiry (l : Lane) (s : State) : Out :=
  .next (if (s.lane l).newest.payload.isEmpty then s
    else (((s.modLane l fun x => x.modNewest fun f => { f with due := some 3 }).pump l).judgeInadequate).laneMoved l)

/-- LANE_OPEN_RETRY: a lane whose condition for opening lasts is tried again (R428). -/
def execLaneOpenRetry (l : Lane) (s : State) : Out := .next (s.openLane l)

/-- OBJECT_SPAN_EXPIRY: the object's span has passed: it closes and a new one opens (R30). -/
def execObjectSpanExpiry (l : Lane) (s : State) : Out :=
  .next (if (s.lane l).active && (s.lane l).span != 0 then ((s.renew l).pump l).laneMoved l else s)

/-! ### Coping records (R45 to R47) -/

/-- COPE_PERIOD_EXPIRY (R45). -/
def execCopePeriodExpiry (l : Lane) (s : State) : Out := .next (s.cadence l)

/-- COPING_RECORD_SIGNED (R47). -/
def execCopingRecordSigned (l : Lane) (s : State) : Out :=
  match s.mortar.grantedJob (.cope l), (s.lane l).rec1 with
  | some (i, j), some w => .next (((((s.finishJob i j).signed l w).retryHeld).settle l).laneMoved l)
  | _, _ => .next s

/-! ### Retention (R52, R125) -/

/-- A closed context with a course whose deadline has passed and for which cause 1 was not delivered. -/
def State.sweepDue (s : State) (c : Nat) : Bool :=
  let r := s.ctxRec c
  r.state == 3 && r.course && r.deadline != 0 && decide (r.deadline.toNat ≤ bits s.time.now 0 48) &&
    !s.ctx.sweptFor.any (fun e => e.1 == c && e.2 == r.deadline)

/-- Cause 1 delivered once for a deadline (R125). -/
def State.sweepOne (s : State) (c : Nat) : State :=
  ({ s with ctx := { s.ctx with sweptFor := s.ctx.sweptFor.put c (s.ctxRec c).deadline } }).cause c 1

/-- RETENTION_SWEEP (R50, R125). -/
def State.sweep (s : State) : State :=
  let a := (s.ctxList.filter s.sweepDue).foldl State.sweepOne s
  let monos := (a.ctxList.filter fun c => a.holdsObject c).map fun c => (a.ctxRec c).openMono.toNat
  let low : Nat := monos.foldl (fun (n : Nat) m => Nat.min n m) (2 ^ 64)
  a.memberList.foldl (fun t m => t.releaseCoping low m) a

def execRetentionSweep (s : State) : Out := .next s.sweep

/-- RAZE_RECORD_DURABLE: steps 3 and 4 of R52. -/
def execRazeRecordDurable (c : CtxId) (s : State) : Out :=
  match s.lanes.find? fun e => e.2.razeReady.any (·.1 == c.val) with
  | none => .next s
  | some e =>
    let seq := ((e.2.razeReady.find? (·.1 == c.val)).map (·.2)).getD 0
    .next ((s.modLane e.1 fun x => { x with razeReady := x.razeReady.filter (·.1 != c.val) }).razed c seq)

end Sys2Proof.Machine
end

