-- ==== Sys2Proof/Machine/Rings.lean ====
section
/-! DEFINITION. Host rings (chapter 14): queue pairs, doorbells, service order, entries, completions, epochs, the recovery scan; the
checks of a KX-1200 word (R415 to R417). The KX-1200 operations stand in Raw. -/
namespace Sys2Proof.Machine

/-! ### Pairs (R279) -/

/-- Queue pair q. -/
def State.pair (s : State) (q : Nat) : Pair := s.rings.pair.look {} q

/-- Pair q replaced. -/
def State.setPair (s : State) (q : Nat) (p : Pair) : State := { s with rings := { s.rings with pair := s.rings.pair.put q p } }

/-- Pair q changed by `f`. -/
def State.modPair (s : State) (q : Nat) (f : Pair → Pair) : State := s.setPair q (f (s.pair q))

/-- The slot of a position (R279). -/
def Pair.slot (p : Pair) (pos : W32) : Nat := pos.toNat % p.size.toNat

/-- The ownership mark of a position (R279). -/
def Pair.phase (p : Pair) (pos : W32) : Bool := pos.toNat / p.size.toNat % 2 == 0

/-- SERVICE_TILE (R279, R280). -/
def State.serviceTile (s : State) (q : Nat) : Nat :=
  match (s.pair q).serviceTile with
  | some t => t.toNat
  | none => s.cfg (0x6400 + q) 1

/-- `n` bytes of host memory from an address (log entry 20). -/
def State.hostBytes (s : State) (h : HostRead) (a n : Nat) : Bytes := (List.range n).map fun i => s.hostByte h ((a + i) % 2 ^ 64)

/-- A write of EN = 1 is accepted (R280). -/
def Pair.enableOk (p : Pair) : Bool :=
  (List.range 16).any (fun k => p.size.toNat == 2 ^ (k + 1)) && p.sqBase.toNat % 4096 == 0 && p.cqBase.toNat % 4096 == 0 &&
    p.shadow.toNat % 64 == 0 && decide (0x10000 ≤ p.maxXfer.toNat) && decide (p.maxXfer.toNat ≤ 0x1000000)

/-- The shadow record of a pair (R287). -/
def shadowBytes (taken : W32) (epoch : BitVec 16) : Bytes := toLE 64 (packNat [(taken.toNat, 0), (epoch.toNat, 32)])

/-- The shadow record written (R287). -/
def State.writeShadow (s : State) (q : Nat) (taken : W32) : State :=
  s.hostWrite (s.pair q).shadow.toNat (shadowBytes taken (s.pair q).epoch)

/-! ### Posting (R290, R291) -/

/-- The 32 bytes of a completion (R290). -/
def completionBytes (p : Pair) (q : Nat) (pos : W32) (cid : Nat) (d : RingDone) : Bytes :=
  toLE 32 (packNat
    [(cid, 0), ((p.phase pos).toNat, 16), (q, 32), (d.status.toNat, 48), (p.slot (pos + 1), 64), (p.epoch.toNat, 80),
     (d.detail.toNat, 96), (d.aux.toNat, 160)])

/-- The counters of a posted completion (R279, R280, R422). -/
def Rings.countDone (r : Rings) (q : Nat) (st : Status) : Rings :=
  let p := r.pair.look {} q
  let p1 := { p with
    malformed := if st = 0x0202 then p.malformed + 1 else p.malformed
    aborted := if st = 0x0201 then p.aborted + 1 else p.aborted }
  { r with
    pair := r.pair.put q p1
    abortedTotal := if st = 0x0201 then satAdd r.abortedTotal 1 else r.abortedTotal
    txnUntranslatable := if st = 0x0205 then satAdd r.txnUntranslatable 1 else r.txnUntranslatable }

/-- A completion goes out to host memory, is counted and raises its source (R290, R291). -/
def State.postDone (s : State) (q : Nat) (pos : W32) (cid : Nat) (d : RingDone) : State :=
  let p := s.pair q
  let a := s.hostWrite ((p.cqBase.toNat + 32 * p.slot pos) % 2 ^ 64) (completionBytes p q pos cid d)
  let b := { a with rings := a.rings.countDone q d.status }
  if p.irqEn then b.raise (96 + p.irqGroup.toNat) else b

/-- The first entry of the pair, if its completion is ready, posts; that of a WRITE not before the journal holds what it accepted (R55,
R291). -/
def State.postNext (s : State) (q : Nat) : State :=
  match (s.pair q).entries with
  | [] => s
  | e :: r =>
    match e.done with
    | none => s
    | some d =>
      if !(s.pair q).txn && bits e.raw 0 8 == 6 && s.journal.line.any (·.1 == bits e.raw 80 8) then s
      else (s.postDone q e.pos (bits e.raw 16 16) d).modPair q fun p => { p with entries := r, posted := e.pos + 1 }

/-! ### The recovery scan (R295) -/

/-- How many of `n` completion slots from position `pos` on carry the mark of their position (R295). -/
def State.scanPosted (s : State) (h : HostRead) (p : Pair) (pos : W32) : Nat → Nat
  | 0 => 0
  | n + 1 =>
    let b := s.hostByte h ((p.cqBase.toNat + 32 * p.slot pos + 2) % 2 ^ 64)
    if b.getLsbD 0 = p.phase pos then s.scanPosted h p (pos + 1) n + 1 else 0

/-- One position that is missing in host memory posts: what the device still holds, or 0201h with the CID of the submission slot
(R295). -/
def State.scanPost (s : State) (h : HostRead) (q : Nat) (held : List TakenEntry) (pos : W32) : State :=
  let p := s.pair q
  match held.find? fun e => e.pos == pos && e.done.isSome with
  | some e => s.postDone q pos (bits e.raw 16 16) (e.done.getD { status := 0x0201 })
  | none => s.postDone q pos (leNat (s.hostBytes h (p.sqBase.toNat + 64 * p.slot pos + 2) 2)) { status := 0x0201 }

/-- The recovery scan of pair q for TAKEN_POS t, the host's completion head at index `head`, and the entries the device still holds
(R295). -/
def State.recoverScan (s : State) (q : Nat) (h : HostRead) (t : W32) (head : Nat) (held : List TakenEntry) : State :=
  let p := s.pair q
  let n := (t.toNat + 0x100000000 - head) % p.size.toNat
  let hp := t - BitVec.ofNat 32 n
  let k := s.scanPosted h p hp n
  let a := (List.range (n - k)).foldl (fun u i => u.scanPost h q held (hp + BitVec.ofNat 32 (k + i))) s
  a.modPair q fun p => { p with takenPos := t, posted := t, cqHead := hp, entries := [] }

/-- Rung 2 of the endpoint: the scan of every enabled pair from the device's own copies (R295, R296; log entry 28). -/
def State.recoverAll (s : State) (h : HostRead) : State :=
  (s.rings.pair.filter fun e => e.2.en).foldl (fun t e =>
    let p := t.pair e.1
    t.recoverScan e.1 h p.takenPos (p.slot p.cqHead) p.entries) s

/-! ### Enable and disable (R280) -/

/-- EN = 1 written to a pair that is not enabled; what the pair still held of its time before is dropped (R280, R295; log entry 116). -/
def State.enablePair (s : State) (q : Nat) (h : HostRead) : State :=
  let p := s.pair q
  if !p.enableOk then s.setPair q { p with cfgErr := true }
  else
    let n := { p with
      en := true, cfgErr := false, serviceTile := some (BitVec.ofNat 4 (s.cfg (0x6400 + q) 1)), takenPos := 0, covered := 0
      posted := 0, cqHead := 0, credit := 0, entries := [] }
    let a := s.setPair q n
    if !p.recover then a
    else
      let t := BitVec.ofNat 32 (leNat (s.hostBytes h p.shadow.toNat 4))
      (a.recoverScan q h t p.cqHeadInit.toNat []).modPair q fun p => { p with covered := t }

/-- Every taken entry that no owner has completes with a status, unless it is complete (R280, R294). -/
def Pair.abort (p : Pair) (st : Status) : Pair :=
  { p with entries := p.entries.map fun e =>
      if e.handed || e.done.isSome then e else { e with started := true, done := some { status := st } } }

/-- Rung-1 retries of operations that have ended are given up (R343). -/
def State.forgetRetries (s : State) (p : RawOwner → Bool) : State :=
  { s with ladder := { s.ladder with func := s.ladder.func.map fun (e : Nat × FuncSt) =>
      (e.1, { e.2 with retries := e.2.retries.filter fun r => match r.op with | .raw o => !p o | _ => true }) } }

/-- The KX-1200 operations of a pair are forgotten: a later result of one is discarded (R294, R420). -/
def State.dropRaws (s : State) (q : Nat) : State :=
  let of := fun (o : RawOwner) => match o with | .entry k _ => k.val == q | .course _ => false
  { s.forgetRetries of with
    raws := s.raws.filter fun r => !of r.owner
    nvme := s.nvme.filter fun n => match n.use with | .raw o => !of o | _ => true }

/-- EN = 0 written: taking stops; what is not handed over completes with 0203h (R280). -/
def State.disablePair (s : State) (q : Nat) : State := (s.modPair q fun p => { p.abort 0x0203 with en := false }).dropRaws q

/-! ### Registers of the window (R277, R279, R285) -/

/-- Word 00h of a pair (R279). -/
def Pair.ctlWord (p : Pair) : W32 :=
  pack [(p.en.toNat, 0), (p.txn.toNat, 1), (p.recover.toNat, 2), (p.cfgErr.toNat, 3), (p.irqEn.toNat, 4), (p.weight.toNat, 8),
    (p.burst.toNat, 16), (p.irqGroup.toNat, 24)]

/-- A write of word 00h (R279, R280). -/
def State.pairCtl (s : State) (q : Nat) (v be : W32) (h : HostRead) : State :=
  let p := s.pair q
  let x := merge p.ctlWord v be
  if p.en then
    let a := s.setPair q { p with irqEn := x.getLsbD 4 }
    if x.getLsbD 0 then a else a.disablePair q
  else
    let a := s.setPair q { p with
      txn := x.getLsbD 1, recover := x.getLsbD 2, irqEn := x.getLsbD 4, weight := x.extractLsb' 8 8, burst := x.extractLsb' 16 7
      irqGroup := x.extractLsb' 24 5 }
    if x.getLsbD 0 then a.enablePair q h else a

/-- A write of another word of a pair; words 08h to 24h are closed while it is enabled (R279). -/
def Pair.writeWord (p : Pair) (o : Nat) (v be : W32) : Pair :=
  if o = 4 then { p with size := (merge (p.size.setWidth 32) v be).setWidth 17 }
  else if p.en then p
  else match o with
    | 0x08 => { p with sqBase := setWord p.sqBase 0 (merge (wordOf p.sqBase 0) v be) }
    | 0x0C => { p with sqBase := setWord p.sqBase 1 (merge (wordOf p.sqBase 1) v be) }
    | 0x10 => { p with cqBase := setWord p.cqBase 0 (merge (wordOf p.cqBase 0) v be) }
    | 0x14 => { p with cqBase := setWord p.cqBase 1 (merge (wordOf p.cqBase 1) v be) }
    | 0x18 => { p with shadow := setWord p.shadow 0 (merge (wordOf p.shadow 0) v be) }
    | 0x1C => { p with shadow := setWord p.shadow 1 (merge (wordOf p.shadow 1) v be) }
    | 0x20 => { p with maxXfer := (merge (p.maxXfer.setWidth 32) v be).setWidth 25 }
    | 0x24 =>
      let x := merge (pack [(p.cqHeadInit.toNat, 0), (p.cqPhaseInit.toNat, 16)]) v be
      { p with cqHeadInit := x.extractLsb' 0 16, cqPhaseInit := x.getLsbD 16 }
    | _ => p

/-- A word of a pair read (R279). -/
def State.pairWord (s : State) (q o : Nat) : W32 :=
  let p := s.pair q
  match o with
  | 0x00 => p.ctlWord
  | 0x04 => p.size.setWidth 32
  | 0x08 => wordOf p.sqBase 0
  | 0x0C => wordOf p.sqBase 1
  | 0x10 => wordOf p.cqBase 0
  | 0x14 => wordOf p.cqBase 1
  | 0x18 => wordOf p.shadow 0
  | 0x1C => wordOf p.shadow 1
  | 0x20 => p.maxXfer.setWidth 32
  | 0x24 => pack [(p.cqHeadInit.toNat, 0), (p.cqPhaseInit.toNat, 16)]
  | 0x28 => p.takenPos
  | 0x2C => pack [(p.epoch.toNat, 0), (s.serviceTile q, 16)]
  | 0x30 => p.malformed
  | 0x34 => p.aborted
  | 0x38 => p.stale
  | _ => p.dbErr

/-- An SQ doorbell with index t (R280, R285). -/
def Pair.sqDoorbell (p : Pair) (t : Nat) : Pair :=
  let h := p.slot p.posted
  let n := p.size.toNat
  let at_ := (t + n - h) % n
  let taken := (p.slot p.takenPos + n - h) % n
  if p.en ∧ t < n ∧ taken ≤ at_ then { p with covered := p.takenPos + BitVec.ofNat 32 (at_ - taken) }
  else { p with dbErr := p.dbErr + 1 }

/-- A CQ doorbell with index c (R280, R285). -/
def Pair.cqDoorbell (p : Pair) (c : Nat) : Pair :=
  let n := p.size.toNat
  let go := (c + n - p.slot p.cqHead) % n
  if p.en ∧ c < n ∧ go ≤ (p.posted - p.cqHead).toNat then { p with cqHead := p.cqHead + BitVec.ofNat 32 go }
  else { p with dbErr := p.dbErr + 1 }

/-- Bit v of the Pending Bit Array (R219). -/
def State.pendingBit (s : State) (v : Nat) : Bool :=
  let masked := s.rings.msixFnMask || (s.rings.msix.look 1 (4 * v + 3)).getLsbD 0
  masked && s.rings.msixEn && s.rings.busMaster && !(s.vu.target (96 + v)).hold && !(s.vu.target (96 + v)).heldMod &&
    s.vu.src.any fun e => e.2.pending && e.2.mask.getLsbD (96 + v)

/-- 32 bits of the Pending Bit Array from vector v on. -/
def State.pendingWord (s : State) (v : Nat) : W32 := pack ((List.range 32).map fun i => ((s.pendingBit (v + i)).toNat, i))

/-- Writes of the window are accepted from the host and from masters 0 to 7 (R279). -/
def ringMaster (m : Nat) : Bool := m == 96 || tile0 m

/-- A read of the host rings window; none where unassigned (R277, R279, R285). -/
def State.ringRead (s : State) (off : Nat) : Option (W32 × State) :=
  if off = 0 then some (s.rings.winBase.setWidth 32, s)
  else if 0x1000 ≤ off ∧ off < 0x3000 then some (0, s)
  else if 0x10000 ≤ off ∧ off < 0x20000 then some (s.pairWord ((off - 0x10000) / 64) (off % 64 / 4 * 4), s)
  else if 0x20000 ≤ off ∧ off < 0x20400 then
    let i := (off - 0x20000) / 4
    some (s.rings.msix.look (if i % 4 = 3 then 1 else 0) i, s)
  else if 0x21000 ≤ off ∧ off < 0x21008 then some (s.pendingWord (8 * (off - 0x21000)), s)
  else none

/-- A write of the host rings window by master m; none where refused (R277, R279, R285). -/
def State.ringWrite (s : State) (m off : Nat) (v be : W32) (h : HostRead) : Option State :=
  if !ringMaster m then none
  else if off = 0 then some { s with rings := { s.rings with winBase := (merge (s.rings.winBase.setWidth 32) v be).setWidth 2 } }
  else if 0x1000 ≤ off ∧ off < 0x3000 then
    let q := (off - 0x1000) / 8
    let i := bits (v &&& be) 0 16
    some (s.modPair q fun p => if off % 8 = 0 then p.sqDoorbell i else p.cqDoorbell i)
  else if 0x10000 ≤ off ∧ off < 0x20000 then
    let q := (off - 0x10000) / 64
    let o := off % 64
    some (if o = 0 then s.pairCtl q v be h else s.modPair q fun p => p.writeWord o v be)
  else if 0x20000 ≤ off ∧ off < 0x20400 then
    let i := (off - 0x20000) / 4
    let old := s.rings.msix.look (if i % 4 = 3 then 1 else 0) i
    some { s with rings := { s.rings with msix := s.rings.msix.put i (merge old v be) } }
  else if 0x21000 ≤ off ∧ off < 0x21008 then some s
  else none

/-! ### Checks of an entry (R281, R288, R416, R417) -/

/-- Only the listed fields, as (lowest bit, width), are non-zero. -/
def onlyFields (raw : BitVec 512) (fs : List (Nat × Nat)) : Bool :=
  raw &&& ~~~(fs.foldl (fun m f => m ||| BitVec.ofNat 512 ((2 ^ f.2 - 1) * 2 ^ f.1)) 0) == 0

/-- OPCODE of an entry. -/
def eOp (raw : BitVec 512) : Nat := bits raw 0 8

/-- The fields that a native opcode uses (R282); none where it is not assigned. -/
def nativeFields (op : Nat) : Option (List (Nat × Nat)) :=
  let head := [(0, 9), (16, 16)]
  let handle := [(32, 20), (64, 16)]
  match op with
  | 1 => some head
  | 2 => some (head ++ handle ++ [(88, 8), (96, 1), (256, 40), (320, 40), (384, 64)])
  | 3 | 5 => some (head ++ handle ++ [(160, 32)])
  | 4 => some (head ++ handle)
  | 6 => some (head ++ [(80, 8), (128, 32), (192, 64)])
  | 7 => some (head ++ [(256, 40)])
  | _ => none

/-- The checks of a native entry behind its PHASE (R288). -/
def nativeCheck (raw : BitVec 512) : Status :=
  match nativeFields (eOp raw) with
  | none => 0x0202
  | some fs =>
    let p := bits raw 160 32
    let ranged := match eOp raw with
      | 3 => p == 2 || p == 4 || p == 7
      | 5 => decide (p ≤ 1)
      | _ => true
    if onlyFields raw fs && ranged && bits raw 256 5 == 0 && bits raw 320 5 == 0 then 0 else 0x0202

/-- UNIT, SUB, LEN of a KX-1200 word (R415). -/
def kUnit (raw : BitVec 512) : Nat := bits raw 32 4
def kSub (raw : BitVec 512) : Nat := bits raw 36 4
def kLen (raw : BitVec 512) : Nat := bits raw 64 32

/-- The fields that a translated KX-1200 opcode uses and whether its ranges hold (R416, R417); none where it is not translated. -/
def kxFields (raw : BitVec 512) : Option (List (Nat × Nat) × Bool) :=
  let head := [(0, 9), (16, 16)]
  let data := head ++ [(32, 4), (64, 32), (96, 64)]
  let u := kUnit raw
  let n := kLen raw
  match eOp raw with
  | 0x01 => some (head, true)
  | 0x10 => some (data ++ [(36, 1)], decide (u ≤ 9) && decide (60 ≤ n) && decide (n ≤ 9212))
  | 0x11 => some (data ++ [(36, 1)], decide (u ≤ 9) && decide (64 ≤ n) && decide (n ≤ 9216))
  | 0x20 => some (data ++ [(36, 1), (160, 35)], decide (u ≤ 3) && decide (n ≤ 0x200000))
  | 0x30 => some (data ++ [(36, 3), (160, 64)], decide (u ≤ 7))
  | 0x31 | 0x32 => some (data ++ [(36, 3)], decide (u ≤ 7))
  | 0x40 | 0x41 | 0x50 | 0x51 => some (data, decide (u ≤ 3))
  | _ => none

/-- Codes that the KX-1200 defines and the device does not translate (R416). -/
def kxKnown (op : Nat) : Bool := [0x33, 0x60, 0x61, 0x70, 0x80].contains op

/-- The checks of a KX-1200 word behind its PHASE (R288, R416). -/
def kxCheck (raw : BitVec 512) : Status :=
  match kxFields raw with
  | some (fs, ok) => if onlyFields raw fs && ok then 0 else 0x0202
  | none => if kxKnown (eOp raw) && bits raw 9 7 == 0 && bits raw 256 256 == 0 then 0x0205 else 0x0202

/-- The checks of a taken entry (R288). -/
def Pair.check (p : Pair) (pos : W32) (raw : BitVec 512) : Status :=
  if raw.getLsbD 8 ≠ p.phase pos then 0x0202 else if p.txn then kxCheck raw else nativeCheck raw

/-! ### Service order and taking (R287, R289) -/

/-- Entries that a turn of the pair takes (R287, R289). -/
def Pair.turn (p : Pair) : Nat :=
  let room := p.size.toNat - 1 - (p.takenPos - p.cqHead).toNat
  if p.en then Nat.min (Nat.min p.burst.toNat p.credit) (Nat.min (p.covered - p.takenPos).toNat room) else 0

/-- The highest pair below `k` with a turn. -/
def Rings.nextBelow (r : Rings) (k : Nat) : Option Nat :=
  (r.pair.reverse.find? fun e => decide (e.1 < k) && decide (0 < e.2.turn)).map (·.1)

/-- A new round: every enabled pair has its weight as credit (R289). -/
def Rings.newRound (r : Rings) : Rings :=
  { r with cursor := 1024, served := false
           pair := r.pair.map fun e => (e.1, if e.2.en then { e.2 with credit := e.2.weight.toNat } else e.2) }

/-- The next pair to serve: later in this pass, in the next pass of the round, in the next round (R289). -/
def Rings.pick (r : Rings) : Rings × Option Nat :=
  match r.nextBelow r.cursor with
  | some q => (r, some q)
  | none =>
    match if r.served then r.nextBelow 1024 else none with
    | some q => ({ r with served := false }, some q)
    | none => (r.newRound, r.newRound.nextBelow 1024)

/-- One entry as taken: checked, and complete already where a check fails (R287, R288). -/
def State.takenEntry (s : State) (h : HostRead) (p : Pair) (i : Nat) : TakenEntry :=
  let pos := p.takenPos + BitVec.ofNat 32 i
  let raw := BitVec.ofNat 512 (leNat (s.hostBytes h (p.sqBase.toNat + 64 * p.slot pos) 64))
  let st := p.check pos raw
  let done : Option RingDone := if st = 0 then none else some { status := st }
  { pos := pos, no := s.rings.entriesTaken.toNat + i, raw := raw, started := decide (st ≠ 0), done := done }

/-- A take of n entries of pair q (R287, R289, R422). -/
def State.takeEntries (s : State) (h : HostRead) (q n : Nat) : State :=
  let p := s.pair q
  let es := (List.range n).map (s.takenEntry h p)
  let kx := if p.txn then (es.filter fun e => e.done.isNone).length else 0
  let a := s.writeShadow q (p.takenPos + BitVec.ofNat 32 n)
  let b := a.setPair q { p with
    takenPos := p.takenPos + BitVec.ofNat 32 n, credit := p.credit - n, entries := p.entries ++ es }
  { b with rings := { b.rings with
      cursor := q, served := true
      entriesTaken := b.rings.entriesTaken + BitVec.ofNat 64 n
      txnTranslated := b.rings.txnTranslated + BitVec.ofNat 64 kx } }

/-- ENTRY_TAKE: the next turn of the service order (R287 to R289). `h` is what reads of the submission slots give. -/
def State.entryTake (s : State) (h : HostRead) : State :=
  if s.iface.linkDown.getLsbD 4 then s
  else
    let r := s.rings.pick
    let a := { s with rings := r.1 }
    match r.2 with
    | none => a
    | some q => a.takeEntries h q (a.pair q).turn

def execEntryTake (h : HostRead) (s : State) : Out := .next (s.entryTake h)

/-! ### Native entries (R282, R283) -/

/-- The reference of an entry. -/
def TakenEntry.ref (e : TakenEntry) (q : Nat) : EntryRef := { queue := q, pos := e.pos, no := e.no }

/-- The next entry of pair q to start, if it is native with the opcode and the pair's service tile can dispatch it (R282, R287). -/
def State.entryOf (s : State) (q op : Nat) : Option TakenEntry :=
  let p := s.pair q
  match p.entries.find? fun e => !e.started with
  | some e =>
    if !p.txn && eOp e.raw == op && decide ((s.tile (s.serviceTile q)).power ≠ .cold ∨ op = 6 ∨ (op = 7 ∧ s.holdup.declared)) then some e
    else none
  | none => none

/-- An entry starts and is handed over to its owner (R287). -/
def State.handEntry (s : State) (q : Nat) (e : TakenEntry) : State :=
  s.modPair q fun p => { p with entries := p.entries.map fun t => if t.no = e.no then { t with started := true, handed := true } else t }

/-- The next entry of pair q carried out by `f`, if it may start. -/
def State.onEntry (s : State) (q op : Nat) (f : TakenEntry → State) : Out :=
  match s.entryOf q op with
  | some e => .next (f e)
  | none => .next s

/-- The handle of an entry: context and generation (R281). -/
def eCtx (raw : BitVec 512) : Nat := bits raw 32 20
def eGen (raw : BitVec 512) : BitVec 16 := raw.extractLsb' 64 16

/-- START: a course is started with this entry as its starter (R104, R282). -/
def State.startEntry (s : State) (q : Nat) (e : TakenEntry) : State :=
  let w := e.raw
  let notify : Option (BitVec 8) := if w.getLsbD 96 then some (w.extractLsb' 88 8) else none
  let a := s.handEntry q e
  let r := a.startCourse 96 (eCtx w) (eGen w) (w.extractLsb' 256 40) (w.extractLsb' 320 40) notify (w.extractLsb' 384 64)
    (some (e.ref q))
  if r.2 = 0 then r.1 else r.1.entryDone (e.ref q) { status := r.2 }

/-- An entry whose action has a status at once; a stale handle is counted (R124, R282). -/
def State.handleEntry (s : State) (q : Nat) (e : TakenEntry) (f : State → State × Status) : State :=
  if !s.handleOk (eCtx e.raw) (eGen e.raw) then s.staleRef.entryDone (e.ref q) { status := 0x0505 }
  else
    let r := f s
    r.1.entryDone (e.ref q) { status := r.2 }

/-- SIGNAL: a resume cause (R108, R282). -/
def State.signalReq (s : State) (c k : Nat) : State × Status :=
  if s.requestStatus c k = 0 then (s.cause c k, 0) else (s, s.requestStatus c k)

/-- STOP: a stop request (R108, R282). -/
def State.stopReq (s : State) (c : Nat) : State × Status :=
  if s.stopStatus c = 0 then (s.stopCourse c, 0) else (s, s.stopStatus c)

/-- HOLD set or cleared by master m: the context is claimed for it, imaged and released; clearing delivers cause 3 (R53, R135, R282). -/
def State.holdReq (s : State) (m c : Nat) (on : Bool) : State × Status :=
  if c = 0 then (s, 0x0506)
  else match s.tryClaim c m none with
    | none => (s.claimLost, 0x0501)
    | some t =>
      if (t.ctxRec c).state = 4 then (t.release c, 0x0306)
      else if !t.holdsObject c then (t.release c, 0x0503)
      else
        let a := ((t.modCtx c fun r => { r with hold := on }).image c).release c
        (if !on && (a.ctxRec c).course then a.cause c 3 else a, 0)

/-- A WRITE to the lane that was taken before entry `no` is still to run (R283). -/
def State.olderWrite (s : State) (l no : Nat) : Bool :=
  s.rings.pair.any fun p => !p.2.txn && p.2.entries.any fun e =>
    eOp e.raw == 6 && bits e.raw 80 8 == l && e.done.isNone && decide (e.no < no)

/-- WRITE: host evidence, unit by unit, until one is refused, or until unit number `cut`, which is on its way to staging when a rung 2 on
the lane's tile ends the WRITE with 0901h (R26, R61, R283). -/
def State.writeEntry (s : State) (q : Nat) (e : TakenEntry) (h : HostRead) (cut : Option Nat) : State :=
  let l := bits e.raw 80 8
  let n := bits e.raw 128 32
  let a := s.handEntry q e
  let fin := fun (t : State) (st : Status) (done : Nat) => t.entryDone (e.ref q) { status := st, detail := BitVec.ofNat 64 done }
  if s.laneType l ≠ 8 ∨ !(s.lane l).active then fin a 0x030A 0
  else if (s.lane l).ingest.isSome then fin a 0x030D 0
  else if n = 0 ∨ (s.pair q).maxXfer.toNat < n then fin a 0x0204 0
  else
    let b := s.hostBytes h (bits e.raw 192 64) n
    let us := unitsOfBytes b (n / 65536 + 1)
    let r := a.offerUnits l (us.take (cut.getD us.length))
    let broken := r.2.2 = 0 ∧ r.2.1 < n
    let lost := if broken then Nat.min 65536 (n - r.2.1)
      else if r.2.2 = 0 then 0 else n - r.2.1 - Nat.min 65536 (n - r.2.1)
    fin ((r.1.addRefused l lost).wake l) (if broken then 0x0901 else r.2.2) r.2.1

/-- MORTAR: the descriptor is submitted on input 13, when it has room (R257, R259, R282; log entry 29). -/
def State.mortarEntry (s : State) (q : Nat) (e : TakenEntry) : State :=
  let a := bits e.raw 256 40
  if !s.mortar.room 13 then s
  else
    let t := s.handEntry q e
    if !jobAddrOk a then t.entryDone (e.ref q) { status := 0x0103 }
    else
      let st := s.jobStatus (readJobDesc (s.devBytes a 32)) false
      let u := t.submitJob 13 a false none (some (e.ref q))
      if st = 0 then u else u.entryDone (e.ref q) { status := st }

def execNopEntry (q : QueueId) (s : State) : Out := s.onEntry q 1 fun e => s.entryDone (e.ref q) { status := 0 }
def execStartEntry (q : QueueId) (s : State) : Out := s.onEntry q 2 (s.startEntry q)
def execSignalEntry (q : QueueId) (s : State) : Out :=
  s.onEntry q 3 fun e => s.handleEntry q e fun t => t.signalReq (eCtx e.raw) (bits e.raw 160 4)
def execStopEntry (q : QueueId) (s : State) : Out := s.onEntry q 4 fun e => s.handleEntry q e fun t => t.stopReq (eCtx e.raw)
def execHoldEntry (q : QueueId) (s : State) : Out :=
  s.onEntry q 5 fun e => s.handleEntry q e fun t => t.holdReq 96 (eCtx e.raw) (e.raw.getLsbD 160)
/-- WRITE_ENTRY: a WRITE waits for those taken before it on its lane, and for the lane's tile while that is without power or in repair and no
declaration stands (R283). -/
def execWriteEntry (q : QueueId) (source : WriteSource) (s : State) : Out :=
  s.onEntry q 6 fun e =>
    let l := bits e.raw 80 8
    if s.olderWrite l e.no || !(s.holdup.declared || s.tilePowered (s.laneTile l)) then s else s.writeEntry q e source.host source.cut
def execMortarEntry (q : QueueId) (s : State) : Out := s.onEntry q 7 (s.mortarEntry q)

/-- COMPLETION_POSTED (R290, R291). -/
def execCompletionPosted (q : QueueId) (s : State) : Out := .next (if s.iface.linkDown.getLsbD 4 then s else s.postNext q)

/-! ### Mortar jobs of entries (R259, R282) -/

/-- A unit's job is complete: a software job places its result, its word and its notices; a lane's job goes on in the lane, a VERIFY's in
its course (R44, R47, R98, R259, R282). -/
def State.unitDone (s : State) (u : Fin 10) : State :=
  match s.mortar.holder u with
  | none => s
  | some (i, j) =>
    match j.kind with
    | .seal l => (match (s.lane l).sealing with | some b => if b.digest.isNone then s.sealDone l i j b else s | none => s)
    | .cope l => (match (s.lane l).rec1 with
        | some w => ((((s.finishJob i j).signed l w).retryHeld).settle l).laneMoved l
        | none => s)
    | .soft .. =>
      let r := s.jobDone i j
      let a := match j.host with | some e => r.1.entryDone e { status := r.2 } | none => r.1
      a.retryHeld
    | .verify c _ => ((s.finishJob i j).verifyDone c).retryHeld

def execMortarJobComplete (u : Fin 10) (s : State) : Out := .next (s.unitDone u)

/-! ### Epochs (R294) -/

/-- A pair's epoch advances: what no owner has completes with 0201h; the shadow record follows (R294). -/
def State.epochPair (s : State) (q : Nat) : State :=
  let a := (s.modPair q fun p => { p.abort 0x0201 with epoch := p.epoch + 1 }).dropRaws q
  if (a.pair q).en then a.writeShadow q (a.pair q).takenPos else a

/-- The epochs of every pair served by a tile that returns (R294). -/
def State.epochAdvance (s : State) (t : Nat) : State :=
  ((List.range 1024).filter fun q => s.serviceTile q == t).foldl State.epochPair s

/-! ### The rows of the pairs (R280, R285) -/

/-- QUEUE_ENABLE: a write of EN = 1 (R280). -/
def execQueueEnable (m : Master) (q : QueueId) (h : HostRead) (s : State) : Out :=
  .next (if ringMaster m then s.pairCtl q 1 1 h else s.addrFault m)

/-- QUEUE_DISABLE: a write of EN = 0 (R280). -/
def execQueueDisable (m : Master) (q : QueueId) (s : State) : Out :=
  .next (if ringMaster m then s.pairCtl q 0 1 [] else s.addrFault m)

/-- SQ_DOORBELL (R285). -/
def execSqDoorbell (m : Master) (q : QueueId) (v : W32) (s : State) : Out :=
  .next (if ringMaster m then s.modPair q (·.sqDoorbell (bits v 0 16)) else s.addrFault m)

/-- CQ_DOORBELL (R285). -/
def execCqDoorbell (m : Master) (q : QueueId) (v : W32) (s : State) : Out :=
  .next (if ringMaster m then s.modPair q (·.cqDoorbell (bits v 0 16)) else s.addrFault m)

end Sys2Proof.Machine
end

