-- ==== Sys2Proof/Machine/Image.lean ====
section
/-! DEFINITION. Firmware images and decode images: their layout, the checks of the boot ROM, loading (R199 to R210, R325, R326,
R371). -/
namespace Sys2Proof.Machine

/-- An image as bytes by offset: `n` bytes from an offset. -/
abbrev ImageBytes := Nat → Nat → Bytes

/-- The bytes of a slot of the boot flash (R325). -/
def slotBytes (b : Bytes) : ImageBytes := slice b

/-- The verified copy of the image in DRAM (R371). -/
def State.imageCopy (s : State) : ImageBytes := fun o n => s.bytesAt (0x36E000000 + o) n

/-- A little-endian field of an image. -/
def imgField (f : ImageBytes) (o n : Nat) : Nat := leNat (f o n)

/-! ### Load records (R371) -/

/-- A load record. -/
structure LoadRec where
  dest : Nat
  mask : Nat
  kind : Nat
  data : Bytes
  deriving DecidableEq, Repr

/-- The record at an offset keeps the rules of R371. -/
def loadRecOk (f : ImageBytes) (o : Nat) : Bool :=
  let dest := imgField f o 8
  let len := imgField f (o + 8) 4
  let mask := imgField f (o + 12) 2
  let kind := imgField f (o + 14) 1
  let pad := (16 - len % 16) % 16
  decide (dest < 2 ^ 35) && decide (0 < len) && len % 4 == 0 && decide (mask < 4096) && imgField f (o + 15) 1 == 0 &&
    imgField f (o + 16 + len) pad == 0 &&
    (if kind = 3 then mask == 0 && decide (dest + len ≤ 0x36E000000)
     else (kind == 1 || kind == 2) && decide (dest + len ≤ 0x100000))

/-- `n` records from offset `o`, and the offset behind the last; none where one breaks a rule or leaves the body (R371). -/
def loadRecs (f : ImageBytes) (limit : Nat) : Nat → Nat → Option (List LoadRec × Nat)
  | 0, o => some ([], o)
  | n + 1, o =>
    let len := imgField f (o + 8) 4
    let next := o + 16 + (len + 15) / 16 * 16
    if decide (o + 16 ≤ limit) && decide (next ≤ limit) && loadRecOk f o then
      match loadRecs f limit n next with
      | none => none
      | some (rs, e) =>
        some ({ dest := imgField f o 8, mask := imgField f (o + 12) 2, kind := imgField f (o + 14) 1, data := f (o + 16) len } :: rs, e)
    else none

/-- BODY_LEN, DECODE_OFFSET, KEY_INDEX, LC_MASK, FW_VER, SEC_EPOCH and ENTRY of an image (R325, R371). -/
def imgBodyLen (f : ImageBytes) : Nat := imgField f 0x10 4
def imgDecode (f : ImageBytes) : Nat := imgField f 0x14 4
def imgKey (f : ImageBytes) : Nat := imgField f 6 1
def imgLcMask (f : ImageBytes) : Nat := imgField f 7 1
def imgVer (f : ImageBytes) : Nat := imgField f 8 4
def imgEpoch (f : ImageBytes) : Nat := imgField f 0xC 1
def imgEntry (f : ImageBytes) : W18 := BitVec.ofNat 18 (imgField f 0xA0 4)

/-- The load records of an image whose body keeps the rules of R371. -/
def imgRecords (f : ImageBytes) : Option (List LoadRec) :=
  let limit := 0xA0 + imgBodyLen f
  match loadRecs f limit (imgField f 0xA4 4) 0xB0 with
  | none => none
  | some (rs, e) =>
    if imgField f 0xA0 4 < 0x40000 ∧ imgField f 0xA8 8 = 0 ∧ (imgDecode f = 0 ∨ (e ≤ 0xA0 + imgDecode f ∧ imgDecode f < imgBodyLen f))
    then some rs else none

/-! ### The boot ROM's checks (R326) -/

/-- The bytes that the signature covers (R325). -/
def imgSigned (f : ImageBytes) : Bytes := f 0 (0xA0 + imgBodyLen f)

/-- FW_DIGEST (R325). -/
def imgDigest (f : ImageBytes) : Digest := Config.sha384 (imgSigned f)

/-- The layout of an image is right and it fits its slot (R325, R326, R371). -/
def imgFormat (f : ImageBytes) : Bool :=
  f 0 4 == [0x4B, 0x46, 0x57, 0x49] && imgField f 4 2 == 0x100 && imgField f 0xD 3 == 0 && imgField f 0x18 8 == 0 &&
    imgField f 0x81 31 == 0 && decide (imgEpoch f ≤ 64) && decide (0xA0 + imgBodyLen f + 96 ≤ 0x1F00000) && (imgRecords f).isSome

/-- The checks of R326 against a FW_MIN_VER; 0 where all pass. -/
def State.imageStatus (s : State) (f : ImageBytes) (minVer : Nat) : Status :=
  let k := imgKey f
  let d := s.sec.fuse.bootDigest.look 0 k
  if !imgFormat f then 0x0803
  else if !(decide (k < 4) && d != 0 && Config.sha384 (f 0x20 97) == d) then 0x0803
  else if s.sec.fuse.bootRevoked.getLsbD k then 0x0806
  else if !Config.ecdsaVerify (f 0x20 97) (imgSigned f) (f (0xA0 + imgBodyLen f) 96) then 0x0803
  else if imgLcMask f / 2 ^ s.sec.fuse.lc % 2 = 0 then 0x0803
  else if imgEpoch f < s.sec.fuse.secFloor ∨ imgVer f < minVer then 0x0803
  else 0

/-! ### Loading (R371) -/

/-- The bytes of one record placed in the memories of its tiles, or in DRAM (R371). -/
def State.loadRec (s : State) (tiles : List Nat) (r : LoadRec) : State :=
  let base := if r.kind = 1 then 0x790000000 else 0x780000000
  if r.kind = 3 then s.setBytes r.dest r.data
  else (tiles.filter fun t => r.mask / 2 ^ t % 2 == 1).foldl (fun u t => u.setBytes (base + t * 0x100000 + r.dest) r.data) s

/-- Every record of an image loaded (R371). -/
def State.loadImage (s : State) (f : ImageBytes) : State :=
  ((imgRecords f).getD []).foldl (fun t r => t.loadRec (List.range 12) r) s

/-- The program memory of tile t rewritten from the verified copy (R346 step 3). -/
def State.reloadTile (s : State) (t : Nat) : State :=
  (((imgRecords s.imageCopy).getD []).filter fun r => r.kind == 1).foldl (fun u r => u.loadRec [t] r) s

/-! ### Decode images (R200 to R203, R207, R208) -/

/-- An entry of 32 bits (R200). -/
def readDecEntry (v : BitVec 32) : DecEntry :=
  { start := v.extractLsb' 0 9, lenM1 := v.extractLsb' 9 5, valid := v.getLsbD 14, xBank := v.getLsbD 15 }

/-- The entry and the micro-words of a block of the decode image at offset `o` (R207). -/
def decEntryAt (f : ImageBytes) (o n : Nat) : BitVec 32 := BitVec.ofNat 32 (imgField f (o + 2 + 4 * n) 4)
def microAt (f : ImageBytes) (o n : Nat) : BitVec 72 := BitVec.ofNat 72 (imgField f (o + 66 + 9 * n) 9)

/-- FUNC, SRCA and SRCB of a micro-word (R201). -/
def mFunc (w : BitVec 72) : Nat := bits w 0 6
def mSrcA (w : BitVec 72) : Nat := bits w 6 5
def mSrcB (w : BitVec 72) : Nat := bits w 11 5
def mSkip (w : BitVec 72) : Nat := bits w 44 5
def mSt (w : BitVec 72) : Nat := bits w 56 3

/-- A FUNC is assigned (R203). -/
def funcAssigned (n : Nat) : Bool := decide (n ≤ 0x13) || (decide (0x18 ≤ n) && decide (n ≤ 0x1B)) || n == 0x20 || n == 0x21 || n == 0x3F

/-- A micro-word's codes are assigned and its reserved fields are 0 (R201, R202, R203, R208; W1 and W2 of 11b: log entry 31). -/
def microOk (w : BitVec 72) : Bool :=
  funcAssigned (mFunc w) && decide (mSt w ≤ 4) && !w.getLsbD 19 && bits w 59 13 == 0 && bits w 52 2 != 3 && bits w 54 2 != 3 &&
    mSrcA w != 0xE && mSrcA w != 0xF && mSrcB w != 0xE && mSrcB w != 0xF

/-- A valid entry's sequence keeps the rules of R208. -/
def seqOk (f : ImageBytes) (o : Nat) (e : DecEntry) : Bool :=
  let n := e.lenM1.toNat
  let at_ := fun i => microAt f o (e.start.toNat + i)
  decide (e.start.toNat + n ≤ 511) && mFunc (at_ n) == 0x3F &&
    (List.range n).all (fun i => mFunc (at_ i) != 0x3F) &&
    (List.range (n + 1)).all fun i =>
      let w := at_ i
      ((mFunc w != 0x20 && mFunc w != 0x21) || decide (i + mSkip w + 1 ≤ n)) &&
        (e.xBank || (mSrcA w != 0xD && mSrcB w != 0xD))

/-- A block keeps the rules of R208. -/
def blockOk (f : ImageBytes) (o : Nat) : Bool :=
  decide (imgField f o 2 < 4096) &&
    (List.range 16).all (fun n =>
      let v := decEntryAt f o n
      bits v 16 16 == 0 && (!(readDecEntry v).valid || seqOk f o (readDecEntry v))) &&
    (List.range 512).all fun n => microOk (microAt f o n)

/-- Offset of block i of a decode image at `d`. -/
def blockAt (d i : Nat) : Nat := d + 16 + 4674 * i

/-- The checks of R208 on the decode image at offset `d` of an image, verified under the image's boot key. -/
def decodeImageOk (f : ImageBytes) (d minVer : Nat) : Bool :=
  let n := imgField f (d + 6) 2
  let len := 16 + 4674 * n
  let masks := (List.range n).map fun i => imgField f (blockAt d i) 2
  f d 4 == [0x44, 0x45, 0x43, 0x4B] && imgField f (d + 4) 2 == 0x100 && decide (n ≤ 12) && imgField f (d + 12) 4 == 0 &&
    Config.ecdsaVerify (f 0x20 97) (f d len) (f (d + len) 96) && decide (minVer ≤ imgField f (d + 8) 4) &&
    (List.range 12).all (fun t => decide ((masks.filter fun m => m / 2 ^ t % 2 == 1).length ≤ 1)) &&
    (List.range n).all fun i => blockOk f (blockAt d i)

/-- The tables of one block loaded in a tile (R199, R207). -/
def loadBlock (f : ImageBytes) (o : Nat) (x : TileSt) : TileSt :=
  { x with
    loaded := true
    entries := (List.range 16).map fun n => (n, readDecEntry (decEntryAt f o n))
    micro := (List.range 512).map fun n => (n, microAt f o n) }

/-- The decode image of an image loaded where it passes; every tile that no block covers has every VALID at 0; a failing image loads
nothing and logs 0803h (R207, R208). -/
def State.loadDecode (s : State) (f : ImageBytes) (minVer : Nat) : State :=
  let clear := { s with tiles := s.tiles.map fun e => (e.1, { e.2 with loaded := false, entries := [], micro := [] }) }
  if imgDecode f = 0 then clear
  else
    let d := 0xA0 + imgDecode f
    if !decodeImageOk f d minVer then { clear with sec := { clear.sec with usercode := setLow clear.sec.usercode } }
    else
      let a := (List.range (imgField f (d + 6) 2)).foldl (fun t i =>
        ((List.range 12).filter fun k => imgField f (blockAt d i) 2 / 2 ^ k % 2 == 1).foldl
          (fun u k => u.modTile k (loadBlock f (blockAt d i))) t) clear
      { a with sec := { a.sec with decodeVer := BitVec.ofNat 32 (imgField f (d + 8) 4) } }
where
  /-- The boot ROM's last status becomes 0803h (R208, R327). -/
  setLow (u : BitVec 17) : BitVec 17 := (u &&& 0x10000) ||| 0x0803

/-- DECODE_DIGEST: over the tables of the 12 tiles as loaded (R210). -/
def State.decodeDigest (s : State) : Digest :=
  Config.sha384 ((List.range 12).flatMap fun t =>
    let x := s.tile t
    ((List.range 16).flatMap fun n =>
      let e := x.entries.look {} n
      toLE 4 (packNat [(e.start.toNat, 0), (e.lenM1.toNat, 9), (e.valid.toNat, 14), (e.xBank.toNat, 15)])) ++
    (List.range 512).flatMap fun n => toLE 9 (x.micro.look 0 n).toNat)

end Sys2Proof.Machine
end

