-- ==== Sys2Proof/Machine/Tiles.lean ====
section
/-! DEFINITION. Tiles going cold, into repair and back (R110, R121, R128, R175, R223, R346, R362), and run control of the engines
(R373). -/
namespace Sys2Proof.Machine

/-! ### What the multiplier and the divider have in flight (R165 to R167) -/

/-- The oldest product is written (R166). -/
def Engine.landProduct (x : Engine) : Engine :=
  match x.products with
  | [] => x
  | p :: r => { x with mhi := p.1, mlo := p.2, products := r }

/-- Every product is written, the last one standing (R166, R167). -/
def Engine.landProducts (x : Engine) : Engine :=
  match x.products.getLast? with
  | none => x
  | some p => { x with mhi := p.1, mlo := p.2, products := [] }

/-- The divide is written with its flags (R165, R166). -/
def Engine.landDivide (x : Engine) : Engine :=
  match x.divide with
  | none => x
  | some d => { x with mlo := d.lo, mhi := d.hi, dov := x.dov || d.dov, dz := x.dz || d.dz, divide := none }

/-- A multiply or divide in flight completes (R175). -/
def Engine.landed (x : Engine) : Engine := x.landProducts.landDivide

/-! ### Wiping (R175, R346) -/

/-- An engine as it is after its tile was cold or in repair: everything 0 and HALTED; what belongs to the run control stays (R175, R372). -/
def Engine.wiped (x : Engine) : Engine :=
  { startPc := x.startPc, faulted := x.faulted, faultCase := x.faultCase, faultPc := x.faultPc }

/-- The engines of a tile. -/
def enginesOf (t : Nat) : List Nat := (List.range 8).map (8 * t + ·)

/-- The engines of a tile wiped (R175); what they had posted is discarded with them (log entry 32). -/
def State.wipeEngines (s : State) (t : Nat) : State := (enginesOf t).foldl (fun u e => u.modEng e Engine.wiped) s

/-- Memory without the bytes from `a` to `a + n - 1`. -/
def State.wipeRange (s : State) (a n : Nat) : State :=
  { s with mem := s.mem.filter fun c => !(decide (a ≤ c.1) && decide (c.1 < a + n)) }

/-- The shared data memory of a tile wiped (R346). -/
def State.wipeShared (s : State) (t : Nat) : State := s.wipeRange (0x780000000 + t * 0x100000) 0x100000

/-- The program memory of a tile wiped (R362). -/
def State.wipeProgram (s : State) (t : Nat) : State := s.wipeRange (0x790000000 + t * 0x100000) 0x100000

/-! ### Courses of a tile (R110) -/

/-- The job of a course's VERIFY leaves the arbiter, its word being over (R110). -/
def State.dropVerify (s : State) (c : Nat) : State :=
  let mine := fun (j : Job) => match j.kind with | .verify k _ => k == c | _ => false
  if s.mortar.input.any fun e => e.2.jobs.any mine then
    s.mortarTurn { s.mortar with input := s.mortar.input.map fun (e : Nat × InputRow) =>
      (e.1, { e.2 with jobs := e.2.jobs.filter fun j => !mine j }) }
  else s

/-- What a course's word has under way at ports, SSDs, lanes, in the arbiter and in the LOC_EXT queue is forgotten. -/
def State.forgetWord (s0 : State) (c : Nat) : State :=
  let s := s0.dropVerify c
  { s.forgetRetries (· == .course (Fin.ofNat 1048576 c)) with
    raws := s.raws.filter fun r => r.owner != .course (Fin.ofNat 1048576 c)
    nvme := s.nvme.filter fun n => match n.use with
      | .append k .. => k != c
      | .raw o => o != .course (Fin.ofNat 1048576 c)
      | .flush _ => true
    ctx := { s.ctx with locWait := s.ctx.locWait.filter (·.1 != c) }
    lanes := s.lanes.map fun (e : Nat × LaneSt) => (e.1, if e.2.ingest = some c then { e.2 with ingest := none } else e.2) }

/-- The object that a razing word has claimed beside its own context. -/
def Course.razing (x : Course) (c : Nat) : Option Nat :=
  match x.wait with | some (.raze o) => if o = c then none else some o | _ => none

/-- The word that a running course is in ends with a status; a control word and a word that no fetch has begun are fetched again (R91,
R110). -/
def State.breakWord (s : State) (c : Nat) (st : Status) (detail : W64 := 0) : State :=
  let x := s.course c
  let t := s.forgetWord c
  let n := match x.wait with | some (.ingest _) => x.done | some (.move _ _ _ good _) => good | _ => x.done
  let e : WordEnd := { status := st, done := n, count := x.total, detail := detail }
  match x.word, x.head with
  | some w, _ =>
    if wControl w then t.modCourse c fun y => { y with word := none }
    else
      let u := match x.razing c with | some o => t.release o | none => t
      u.finishWord c { e with count := match x.wait with | some (.ingest _) => x.total | _ => x.total + wCount w }
  | none, some _ => t.modCourse c fun y => { y with spanEnd := some (y.spanEnd.getD e) }
  | none, none => t

/-- The running courses of a tile. -/
def State.coursesOn (s : State) (t : Nat) : List Nat :=
  (s.courses.held.filter fun e => s.courseRuns e.1 && (s.ctxRec e.1).tile.toNat == t).map (·.1)

/-- The words of a tile's running courses end with 0901h (R110). -/
def State.breakTile (s : State) (t : Nat) : State := (s.coursesOn t).foldl (fun u c => u.breakWord c 0x0901) s

/-- The lanes that a tile serves lose the packets they hold to the refusal count (R26, R34). -/
def State.refuseTile (s : State) (t : Nat) : State :=
  ((s.lanes.map (·.1)).filter fun l => s.laneTile l == t).foldl State.refuseHeld s

/-! ### Cold and back (R346, R362) -/

/-- The power state of a tile set. -/
def State.setTilePower (s : State) (t : Nat) (p : TilePower) : State := s.modTile t fun x => { x with power := p }

/-- A tile loses its power: memories and engines are wiped (R175, R362). -/
def State.tileOff (s : State) (t : Nat) : State :=
  (((s.wipeEngines t).wipeShared t).wipeProgram t).setTilePower t .cold

/-- TRIM cold: the tile's courses end their word and its bytes on their way to staging are refused (R26, R110, R362). -/
def State.tileCold (s : State) (t : Nat) : State := ((s.breakTile t).refuseTile t).tileOff t

/-- A line invalidated: what words have committed to it is written back (R121). -/
def CtxStore.invalidate (x : CtxStore) (c : Nat) : CtxStore :=
  match x.cache.find? (·.ctx == c) with
  | some l => x.evict l
  | none => x

/-- The lines that a tile's courses claim are invalidated (R121, R124, R128). -/
def State.dropLines (s : State) (t : Nat) : State :=
  let cs := s.ctxList.filter fun c => (s.ctxRec c).claimed && (s.ctxRec c).claimId.toNat / 8 == t && s.ctx.courseClaim.any (·.1 == c)
  { s with ctx := cs.foldl CtxStore.invalidate s.ctx }

/-- TILE_GEN advanced: the lines of the tile's courses are invalidated, claims of its engines outside courses are released (R121, R124,
R128). -/
def State.dropClaims (s0 : State) (t : Nat) : State :=
  let s := s0.dropLines t
  (s.ctxList.filter fun c =>
    let r := s.ctxRec c
    r.claimed && r.claimId.toNat / 8 == t && !s.ctx.courseClaim.any (·.1 == c)).foldl State.release s

/-- The slice of a tile reset: LAST_SRC of its engines' levels (R222, R223). -/
def State.sliceReset (s : State) (t : Nat) : State :=
  { s with vu := { s.vu with lastSrc := s.vu.lastSrc.filter fun e => e.1 / 32 != t } }

/-- An engine starts at START_PC; no read is issued again (R163, R373). -/
def Engine.released (x : Engine) : Engine :=
  { x with pc := x.startPc, faulted := false, faultCase := 0, run := .running, haltReq := false, replay := [], entered := false }

/-- A word of the return: a tile returns under steps 3 to 7 of R346: program memory from the verified copy, TILE_GEN and claims, slice,
epochs, engines released at START_PC, the hods with their queues (R128, R147, R346; log entry 33). -/
def State.tileReturn (s : State) (t : Nat) : State :=
  let a := (s.reloadTile t).modTile t fun x => { x with gen := x.gen + 1 }
  let b := ((a.dropClaims t).sliceReset t).epochAdvance t
  let c := (enginesOf t).foldl (fun u e => u.modEng e Engine.released) b
  (c.setTilePower t .run).laneRetry

/-- A tile repair begins: steps 1 and 2 of R346; the courses' words end with 0901h (R110, R345). -/
def State.repairBegin (s : State) (t : Nat) : State :=
  ((((s.breakTile t).refuseTile t).wipeEngines t).wipeShared t).setTilePower t .repair

/-! ### TILE_PWR (R362) -/

/-- Nothing that the engines of a tile have posted is left (R175). -/
def State.tileQuiet (s : State) (t : Nat) : Bool := (enginesOf t).all fun e => (s.eng e).posted.isEmpty

/-- A tile is banked: what its engines multiply or divide completes first (R175, R362). -/
def State.tileBank (s : State) (t : Nat) : State :=
  ((enginesOf t).foldl (fun u e => u.modEng e Engine.landed) s).setTilePower t .banked

/-- A tile runs again behind banked: TILE_GEN has advanced (R175; log entry 112). -/
def State.tileUnbank (s : State) (t : Nat) : State :=
  ((s.modTile t fun x => { x with gen := x.gen + 1 }).dropClaims t).setTilePower t .run

/-- TILE_PWR applied to a tile that is not in repair; the entry to banked waits until the posted stores have drained (R175, R362). -/
def State.applyTilePwr (s : State) (t : Nat) : State :=
  let x := s.tile t
  match x.pwrReq.toNat, x.power with
  | 0, .cold => s.tileReturn t
  | 0, .banked => s.tileUnbank t
  | 1, .run => if s.tileQuiet t then s.tileBank t else s
  | 1, .cold => (s.tileReturn t).setTilePower t .banked
  | 2, .run => s.tileCold t
  | 2, .banked => s.tileCold t
  | _, _ => s

/-- A write of TILE_PWR: 11b and tile 0 are ignored; during a repair it waits (R362). -/
def State.writeTilePwr (s : State) (t : Nat) (v : BitVec 2) : State :=
  if t = 0 ∨ 12 ≤ t ∨ v = 3 then s
  else
    let a := s.modTile t fun x => { x with pwrReq := v }
    if (s.tile t).power = .repair then a else a.applyTilePwr t

/-- A tile repair ends: the tile returns; a TILE_PWR written meanwhile takes effect (R346, R362). -/
def State.repairEnd (s : State) (t : Nat) : State := (s.tileReturn t).applyTilePwr t

/-! ### RELEASE (R373) -/

/-- RELEASE (R365, R373). -/
def State.releaseEngine (s : State) (e : Nat) : State :=
  match (s.eng e).run with
  | .halted _ => if (s.tile (tileOf e)).power = .cold then s else s.modEng e Engine.released
  | _ => s

end Sys2Proof.Machine
end

