-- ==== Sys2Proof/Machine/AlwaysOn.lean ====
section
/-! DEFINITION. What the always-on domain keeps when every other block loses its state (R10, R220, R223, R237, R254, R352, R369), and
the entry to DEEP. -/
namespace Sys2Proof.Machine

/-- The core runs, or waits in a start, or is in PARK. -/
def Phase.powered : Phase → Bool
  | .run | .park | .hot | .noImage => true
  | _ => false

/-- The security block without power: fuses and flash stay; a store cut short leaves its copy without a valid signature (R312). -/
def Sec.off (x : Sec) : Sec :=
  { fuse := x.fuse, running := x.running, bootRec := x.bootRec, slot := x.slot, drawn := x.drawn, usercode := x.usercode
    fallbacks := x.fallbacks, trngBad := x.trngBad
    config := match x.storing with | some (_, k, _) => x.config.put k [] | none => x.config }

/-- The hold-up controller across a loss of the core: what ran through the core stops (R10, R64). -/
def Holdup.off (x : Holdup) : Holdup :=
  { x with bankUse := .idle, lastCourse := false, flushing := none, drained := false, closed := false, lcOver := false }

/-- The time service across a loss of the core: the time and the last lock stay; what was locked is in holdover or free-running
(R383). -/
def TimeSt.off (x : TimeSt) : TimeSt :=
  { now := x.now, frac := x.frac, mono := x.mono, todGiven := x.todGiven
    lastLock := if x.source = 0 ∨ x.source = 4 then x.lastLock else some x.now
    source := if x.source = 0 then 0 else 4 }

/-- The ladder across a loss of the core: history, counters and outage stay; what was under way ends (R352, R356). -/
def Ladder.off (x : Ladder) : Ladder :=
  { x with
    func := x.func.map fun (e : Nat × FuncSt) => (e.1, { e.2 with retries := [], busy := none })
    deferred := none, dwdLimit := 0, dwdSince := 0, ewdLimit := [], ewdSince := [], awdBoot := true
    dramCe := 0, dramUe := 0, sramCe := 0, sramUe := 0 }

/-- The wythes across a loss of the core: what the members hold is read again once they are ready (R50, R78, R127). -/
def Wythes.off (x : Wythes) : Wythes := { issued := x.issued }

/-- A tile across a loss of the core: TILE_GEN counts on (R124, R128). -/
def TileSt.off (x : TileSt) : TileSt := { gen := x.gen }

/-- Everything outside the always-on domain at its reset value; `deep`: the router and the watcher are kept, as DEEP does (R10, R223,
R237). The dictionary's values stand as copies until the next restore (R368). -/
def State.offCore (s : State) (deep : Bool) : State :=
  { State.reset with
    pending := s.pending, draws := s.draws, hostMem := s.hostMem, reply := s.reply, aon := s.aon
    sec := s.sec.off, holdup := s.holdup.off, time := s.time.off, ladder := s.ladder.off, power := s.power
    journal := s.journal.applyAll (s.time.mono.getD 0), wythes := s.wythes.off
    router := if deep then s.router else {}
    watcher := if deep then s.watcher else {}
    tiles := s.tiles.map fun (e : Nat × TileSt) => (e.1, e.2.off)
    dict := { vals := s.dict.vals, errorReg := if s.holdup.inadequate.getLsbD 0 then 4 else 0 } }

/-- On entry to DEEP each source's COUNT joins its SLEEP_COUNT, at least 1 where it is pending; the excess over 255 is counted (R220). -/
def Watcher.deep (w : Watcher) (v : VectorUnit) : Watcher :=
  v.src.foldl (fun (w : Watcher) e =>
    let k := if e.2.pending then max 1 e.2.count.toNat else e.2.count.toNat
    let n := (w.sleepCount.look 0 e.1).toNat + k
    if k = 0 then w
    else { w with
      sleepCount := w.sleepCount.put e.1 (BitVec.ofNat 8 (min n 255)), sleepDropped := w.sleepDropped + BitVec.ofNat 32 (n - 255) }) w

/-- The entry to DEEP: only the always-on domain stays powered; after LC_DONE or at v_floor the groups return to their reset values
(R234, R361, R363). `absent`: the supply is absent (R364 cause 05h). -/
def State.deepEntry (s : State) (absent groups : Bool) : State :=
  let t := s.offCore true
  { t with
    router := { if groups then t.router.groupsReset else t.router with wakeAsked := false }
    watcher := { t.watcher.deep s.vu with asleep := true, wakeValid := false, wakeSrc := 0 }
    power := { t.power with
      phase := .deep, railEn := 0, pllLock := false, supplyAbsent := absent, req := 0, reqPending := false, wakeCause := 0
      perst := 0xF }
    ladder := { t.ladder with warm := none } }

end Sys2Proof.Machine
end

