-- ==== Sys2Proof/Machine/LastCourse.lean ====
section
/-! DEFINITION. The declaration of power loss and its steps (R70, R71, R74, R145, R147, R367, R378). -/
namespace Sys2Proof.Machine

/-! ### Step 2: admission closes (R61, R70, R378) -/

/-- What stands in a lane's ring at a declaration is refused; a deferred USB read is not counted (R56, R378). -/
def State.refuseRing (s : State) (l : Nat) : State :=
  let x := s.lane l
  let n : Nat := if s.laneType l = 7 then 0 else x.ring.foldl (fun (n : Nat) u => n + s.unitRecordLen l u) 0
  let t := s.modLane l fun y => { y with ring := [] }
  if x.ring.isEmpty then s else if n = 0 then t else t.addRefused l n

/-- What a lane has not staged is refused (R26, R34, R378). -/
def State.refuseLane (s : State) (l : Nat) : State := (s.refuseRing l).refuseHeld l

/-- Every lane refuses what it has not staged. -/
def State.refuseAll (s : State) : State := (s.lanes.map (·.1)).foldl State.refuseLane s

/-! ### Hods (R145, R147) -/

/-- A queued descriptor completes with 0402h; an evidence block is refused (R145, R147). -/
def State.hodLost (s : State) (h : Nat) (e : HodEntry) : State :=
  let a := s.dropQueued h e
  match e.issuer with
  | .lane _ => a
  | .move _ => a.descNotify h e.addr .ended (a.entryIrq e) 0x0402
  | i => a.descNotify h e.addr i (a.entryIrq e) 0x0402

/-- A hod completes its descriptor in progress; what is queued completes with 0402h (R147). -/
def State.hodDeclared (s : State) (h : Nat) : State :=
  let a := s.descComplete h
  let q := (a.hod h).queue
  let b := a.modHod h fun x => { x with queue := [] }
  q.foldl (fun t e => t.hodLost h e) b

/-- Every hod at a declaration (R147). -/
def State.hodsDeclared (s : State) : State := (s.hods.map (·.1)).foldl State.hodDeclared s

/-! ### Step 3: input 15 (R70, R262) -/

/-- Lane jobs that wait or run on lower inputs are formed again on input 15 (R70 step 3, R71; log entry 34). -/
def State.jobsToLast (s : State) : State :=
  let lane := fun (j : Job) => match j.kind with | .seal _ | .cope _ => true | _ => false
  let gone := (s.mortar.input.filter fun e => decide (e.1 < 15)).flatMap fun e => e.2.jobs.filter lane
  let inp := s.mortar.input.map fun (e : Nat × InputRow) =>
    (e.1, if e.1 < 15 then { e.2 with
      jobs := e.2.jobs.filter fun j => !lane j
      revoked := e.2.revoked + BitVec.ofNat 32 (e.2.jobs.filter fun j => lane j && j.unit.isSome).length } else e.2)
  let a := s.mortarTurn { s.mortar with input := inp }
  gone.foldl (fun t j => match j.kind with
    | .seal l => t.requestSeal l
    | .cope l => t.requestSign l
    | _ => t) a

/-! ### Step 4: rails and tiles (R70, R353, R367) -/

/-- Tiles 1 to 11 go cold where their courses stand (R70, R110, R347). -/
def State.tilesOff (s : State) : State := (List.range 11).foldl (fun (t : State) i => t.tileOff (i + 1)) s

/-- RAIL_EN9 to 11 fall; tiles 1 to 11 go cold; a repair under way is abandoned (R70, R353). -/
def State.shed (s : State) : State :=
  let a := s.tilesOff
  { a with
    power := { a.power with railEn := a.power.railEn &&& 0x1FF }
    ladder := { a.ladder with func := a.ladder.func.map fun (e : Nat × FuncSt) =>
      (e.1, if 1 ≤ e.1 ∧ e.1 ≤ 11 then { e.2 with busy := none } else e.2) } }

/-- The entry of a KX-1200 pair at a position completes; its operation is over (R290, R419). -/
def State.rawEntryEnds (s : State) (q : Nat) (pos : W32) (d : RingDone) : State :=
  let o := RawOwner.entry (Fin.ofNat 1024 q) pos
  let a := { s.forgetRetries (· == o) with
    raws := s.raws.filter fun r => r.owner != o
    nvme := s.nvme.filter fun n => n.use != NvmeUse.raw o }
  a.modPair q fun p => { p with entries := p.entries.map fun (x : TakenEntry) =>
    if x.pos = pos ∧ x.done.isNone then { x with done := some d } else x }

/-- A raw operation or an APPEND ends with a status: the word of its course, or its entry; an APPEND whose write fails ends with 0406h
(R96, R103, R110, R420). -/
def State.endOp (s : State) (o : RawOwner) (st : Status) : State :=
  match o with
  | .course c =>
    let d : W64 := match s.raws.find? fun r => r.owner == o with | some r => r.detail | none => 0
    s.breakWord c (if (s.course c).wait = some .append ∧ st ≠ 0x0901 then 0x0406 else st) d
  | .entry q p =>
    let d : W64 := match s.raws.find? fun r => r.owner == o with | some r => r.detail | none => 0
    s.rawEntryEnds q.val p { status := st, detail := d }

/-- The function that a raw operation uses (R103, R342). -/
def rawFunc (r : RawOp) : Nat :=
  let u := r.sel.toNat
  match r.op with
  | 0x20 => 0x10 + u % 16
  | 0x21 => 0x20 + u % 4
  | 0x22 => 0x28 + u % 8
  | 0x23 => 0x34 + u % 4
  | _ => 0x30 + u % 4

/-- A key binds a whole unit: a raw receive that waits there ends with 0705h (R378, R421). -/
def State.keyBinds (s : State) (k : BitVec 320) : State :=
  let f := keyFunc k
  if 0x28 ≤ f ∧ f ≤ 0x37 then
    ((s.raws.filter fun r => rawFunc r == f && (r.op == 0x22 || r.sel.getLsbD 4)).map (·.owner)).foldl (fun t o => t.endOp o 0x0705) s
  else s

/-- What of a KX-1200 pair was in progress when its tile stopped ends with 0201h (R294, R420). -/
def State.abortRaws (s : State) : State :=
  let es : List (QueueId × W32) := s.raws.filterMap fun r => match r.owner with | .entry q p => some (q, p) | .course _ => none
  es.foldl (fun (t : State) e => t.rawEntryEnds e.1.val e.2 { status := 0x0201 }) s

/-! ### Step 5: the last course (R71) -/

/-- R71 steps 2 to 4: every open lane closes its filling brick with reason 6; the last course goes on (R71; log entry 35). -/
def State.closeLast (s : State) : State :=
  let ls := (s.lanes.filter fun e => e.2.obj.isSome).map (·.1)
  (ls.foldl (fun t l => t.owe l (.brick 6)) s).lcStep

/-- The last course starts: LC_STARTED, the course of context 0 resumes with a cause, the device's own steps begin (R70, R71,
R347). -/
def State.lcStart (s : State) (cause : Nat) : State :=
  let a := { s with holdup := { s.holdup with lastCourse := true, lcOver := false, drained := false, flushing := none } }
  let b := (a.jobsToLast).headLine fun h => { h with lcStarted := true }
  let c := b.cause 0 cause
  (if cause = 8 then c.publish 267 else c).closeLast

/-- Step 1 of R71: the power state of every member. -/
def State.lcPower (s : State) : State :=
  s.memberList.foldl (fun t m => t.ssd m (.powerState (t.cfg 0x5800 3))) s

/-! ### The declaration (R68, R70) -/

/-- Step 1: source 208, the group change, POWER_LOSS and the causes in the journal header (R68, R70, R233, R234, R307). -/
def State.declareFirst (s : State) (cause : BitVec 3) : State :=
  let a := s.raise 208
  let b := ({ a with router := a.router.declare }).publish 264
  let c := (b.headLine fun h => { h with powerLoss := true, declCause := cause }).emcy 0x3100 2 true 208 0
  { c with
    holdup := { c.holdup with
      declared := true, ride := none, bankUse := .idle, supplyBack := none, declarations := satAdd c.holdup.declarations 1 }
    power := { c.power with req := 0, reqPending := false } }

/-- Power loss is declared (R70). In step 4 of a rung 3 the last course in progress goes on as the power-loss last course
(R353). -/
def State.declare (s : State) (cause : BitVec 3) : State :=
  let rung3 := s.ladder.warm.isSome
  let running := s.holdup.lastCourse
  let a := (s.declareFirst cause).refuseAll.publish 265
  let b := { a with ladder := { a.ladder with warm := none } }
  let c := ((b.hodsDeclared).shed.abortRaws).publish 266
  if rung3 && running then c.publish 267 else (c.lcPower).lcStart 8

/-! ### Behind LC_DONE (R74, R367) -/

/-- The supply stands above VSUP_FAIL + VSUP_HYST. -/
def State.supplyGood (s : State) : Bool := decide (s.cfg 0x4002 1 + s.cfg 0x4002 2 < s.holdup.vsup.toNat)

end Sys2Proof.Machine
end

