-- ==== Sys2Proof/Machine/Bank.lean ====
section
/-! DEFINITION. The bank: bypass and charger, the leakage check, the bank test and the drill (R63, R65, R67, R427). -/
namespace Sys2Proof.Machine

/-! ### Bypass, charger and the bank test (R63, R67, R427) -/

/-- The balls are not in the states of "VAON only or in reset": the device has started (R401). -/
def Phase.started : Phase → Bool
  | .run | .park | .noImage => true
  | _ => false

/-- BYP_EN (R427). -/
def State.bypEn (s : State) : Bool :=
  s.power.phase.started && s.holdup.bankUse == .idle && !s.holdup.declared && s.holdup.ride.isNone

/-- CHG_EN (R427). -/
def State.chgEn (s : State) : Bool := s.bypEn && !s.holdup.overcharged

/-- LEAKAGE_CHECK: every 60 s the charge ledger meets the bank, while the charger is idle (R67). -/
def execLeakageCheck (v : Nat) (s : State) : Out := .next (if s.chgEn then s else s.leakage v)

/-- A bank test is due: 2 s after the bank has reached V_RATED − 200 mV in this ignition-on, 4 h after the last one while running, or
with the thermistor 15 °C away from T_MEAS (R63). -/
def State.testDue (s : State) (why : BankDue) (vBank : Nat) : Bool :=
  match why with
  | .ignition => s.holdup.ignition && !s.holdup.tested && decide (s.cfg 0x4000 2 ≤ vBank + 200)
  | .periodic => s.power.phase == .run
  | .thermistor => decide (15 ≤ (s.holdup.tbank.toInt - s.holdup.tMeas.toInt).natAbs)

/-- BANK_TEST_START: a test that is due begins, or is deferred below 4.0 V or 2 A with source 213 (R63). -/
def execBankTestStart (why : BankDue) (bank : BankReading) (s : State) : Out :=
  .next (if s.holdup.bankUse != .idle || s.holdup.declared || !s.testDue why bank.milliVolts then s
    else if bank.milliVolts < 4000 ∨ bank.milliAmps < 2000 then s.raise 213
    else { s with holdup := { s.holdup with bankUse := .test } })

/-- The result of a bank test: valid within 0.2 to 5 times C_NOMINAL and 1 to 2,000 mΩ (R63). -/
def State.testValid (s : State) (c esr : Nat) : Bool :=
  decide (s.cfg 0x4000 1 ≤ 5 * c) && decide (c ≤ 5 * s.cfg 0x4000 1) && decide (1000 ≤ esr) && decide (esr ≤ 2000000)

/-- BANK_TEST_COMPLETE: mF and µΩ as measured; cause 3 of hold-up-inadequate follows a valid result (R62, R63). -/
def State.bankTested (s : State) (c esr : Nat) : State :=
  let a := { s with holdup := { s.holdup with bankUse := .idle, tested := true } }
  if !s.testValid c esr then a.raise 213
  else
    let b := { a with holdup := { a.holdup with
      cMeas := some (BitVec.ofNat 32 c), esrMeas := BitVec.ofNat 32 esr, tMeas := a.holdup.tbank, testTime := a.time.now } }
    let e := ((b.eUse (b.cfg 0x4000 2)).over 1000000).floor
    let d := { b with holdup := { b.holdup with weakBank := decide (e < (b.cfg 0x4000 0xA : Nat)) } }
    ((d.raise 212).publish 261).judgeInadequate

/-- C_MEAS in mF: the charge drawn in µC over the fall of the bank voltage in mV (R63 step 3). -/
def capacitance (microC milliV : Nat) : Nat := (Frac.over { num := microC } milliV).floor.toNat

/-- ESR_MEAS in µΩ: the voltage step in µV over the current step in mA, in thousandths (R63 step 4). -/
def seriesRes (microV milliA : Nat) : Nat := (Frac.over { num := 1000 * microV } milliA).floor.toNat

/-- BANK_TEST_COMPLETE: what the 100 ms of samples gave (R63). -/
def execBankTestComplete (charge : TestCharge) (change : TestStep) (s : State) : Out :=
  .next (if s.holdup.bankUse == .test then
      s.bankTested (capacitance charge.microC charge.milliV) (seriesRes change.microV change.milliA)
    else s)

/-! ### The drill (R65) -/

/-- The yearly drill is due: DRILL_PERIOD has passed since the last one (R65). -/
def State.drillDueNow (s : State) : Bool :=
  s.holdup.drillDue || decide (bits s.holdup.drillTime 0 48 + 86400 * s.cfg 0x4005 1 ≤ bits s.time.now 0 48)

/-- DRILL_REQUEST: a write of 1 asks for a drill (R65). -/
def execDrillRequest (s : State) : Out := .next { s with holdup := { s.holdup with drillAsked := true } }

/-- The bytes that a drill writes on a member: DRILL_BYTES shared by the members of its wythe, or what its drill zone holds (R50, R65). -/
def State.drillSize (s : State) (m : Nat) : Nat :=
  Nat.min (s.cfg 0x4005 2 * 0x100000 / (s.membersOf (m / 2)).length) ((s.member m).zoneLbas * (s.member m).lba)

/-- Filler bricks with FUA to a member's drill zone, then Flush (R65). -/
def State.drillMember (s : State) (m : Nat) : State :=
  let n := s.drillSize m
  ((s.ssd m (.filler (2 * (s.member m).z + 2) n)).modMember m fun b => { b with drillBytes := n }).ssd m .flush

/-- The drill begins: the power configuration of the last course, with charger and bypass off, then filler bricks to every drill zone
(R65, R70, R71; log entry 108). -/
def State.drillBegin (s : State) : State :=
  let a := { s with holdup := { s.holdup with bankUse := .drill, drillAsked := false } }
  let b := a.shed.lcPower
  b.memberList.foldl State.drillMember b

/-- DRILL_START: at a request, or when due at ignition-off with the supply present and nothing in flight (R65). -/
def execDrillStart (s : State) : Out :=
  let may := s.holdup.bankUse == .idle && !s.holdup.declared && s.holdup.ride.isNone
  .next (if may && (s.holdup.drillAsked || (s.drillDueNow && !s.holdup.ignition && s.inflightSum == 0)) then s.drillBegin else s)

/-- E_B entered in the matching entries, else in the first free one with the SSD's model (R65). -/
def State.setEb (s : State) (eb : Nat) : State :=
  let hits := (List.range 8).filter s.ebMatches
  if hits.isEmpty then
    match (List.range 8).find? fun n => !s.ebUsed n, s.ssdModels.head? with
    | some n, some m => s.setDict 0x4004 (n + 1) (padTo 40 (m ++ List.replicate (40 - m.length) 0x20) ++ toLE 4 eb)
    | _, _ => s
  else hits.foldl (fun t n => t.setDict 0x4004 (n + 1) ((s.ebEntry n).1 ++ toLE 4 eb)) s

/-- The bytes that the drill wrote to each wythe: DRILL_BYTES, unless the drill zones held less (R50, R65). -/
def State.drillWritten (s : State) : Nat :=
  s.wytheList.foldl (fun (a : Nat) w => Nat.max a ((s.membersOf w).foldl (fun (n : Nat) m => n + (s.member m).drillBytes) 0)) 0

/-- The power configuration that a drill leaves: rails and tiles as before it (R65, R361; log entry 108). -/
def State.drillLeave (s : State) : State :=
  (List.range 11).foldl (fun (t : State) i => t.applyTilePwr (i + 1)) { s with power := { s.power with railEn := 0xFFF } }

/-- The drill's result: the bank energy drawn, less the idle energy, by the bytes written (R65). -/
def State.drilled (s : State) (nanoJ : Nat) : State :=
  let n := s.drillWritten
  let meas := (Frac.over { num := nanoJ * 1000 } n).floor.toNat
  let eb := Nat.max 2000 (Nat.min 100000 (5 * meas / 4))
  let a := { s with holdup := { s.holdup with
    bankUse := .idle, drillDue := false, drillTime := s.time.now, ebMeas := BitVec.ofNat 32 meas } }
  let b := a.memberList.foldl (fun t m =>
    (t.resetZone m (2 * (t.member m).z + 2)).modMember m fun x => { x with drillBytes := 0 }) a
  ((b.setEb eb).raise 214).drillLeave

/-- DRILL_COMPLETE: the energy drawn during the drill and the idle energy measured before it, in nJ (R65). -/
def execDrillComplete (energy : DrillEnergy) (s : State) : Out :=
  .next (if s.holdup.bankUse == .drill then s.drilled (energy.drawn - energy.idle) else s)

/-- DRILL_OVERDUE: a drill overdue by 30 days raises source 215 (R65). -/
def execDrillOverdue (s : State) : Out := .next ({ s with holdup := { s.holdup with drillDue := true } }.raise 215)

end Sys2Proof.Machine
end

