-- ==== Sys2Proof/Machine/DictRead.lean ====
section
/-! DEFINITION. What a read of each entry of the object dictionary returns (chapter 15 and the entries of the other chapters). -/
namespace Sys2Proof.Machine

/-! ### Number of a path, LAST_DICT_STATUS, roles (R302, R304) -/

/-- The number of a path; firmware's own accesses have 3 (R302, R304; log entry 36). -/
def pathNum : Path → Nat
  | .canopen => 0
  | .bumund _ => 1
  | .host => 2
  | .firmware => 3

/-- The peer of a path, 0 where it has none. -/
def pathPeer : Path → Nat
  | .bumund p => p
  | _ => 0

/-- The session of a path, as its holder sees it (R302, R303). -/
def State.sessionOf (s : State) (p : Path) : Option Nat :=
  (s.dict.session.find? fun e => e.1 == pathNum p && e.2.2 == pathPeer p).map (·.2.1)

/-- No SERVICE_KEY is present (R335). -/
def State.noServiceKeys (s : State) : Bool := [1, 2, 3, 4].all fun n => (s.dictBytes 0x4802 n).isEmpty

/-- Path 2 acts with SERVICE without a session (R335). -/
def State.openHost (s : State) : Bool :=
  s.sec.fuse.lc == 0 || ((s.sec.fuse.lc == 1 || s.sec.fuse.lc == 2) && s.noServiceKeys)

/-- The role of a request: 0 READER, 1 OPERATOR, 2 HOST, 3 SERVICE (R302, R335; log entry 36). -/
def State.role (s : State) (p : Path) : Nat :=
  if (s.sessionOf p).isSome then 3
  else match p with
    | .canopen => s.cfg 0x4810 1
    | .bumund _ => s.cfg 0x4810 2
    | .host => if s.openHost then 3 else 2
    | .firmware => 3

/-! ### Persistent entries (R311, R312) -/

/-- The indices that the dictionary tables list, rising. -/
def dictIndices : List Nat :=
  let run := fun (a n : Nat) => (List.range n).map (a + ·)
  [0x1000, 0x1001, 0x1010, 0x1011, 0x1015, 0x1017, 0x1018] ++ run 0x2000 4 ++ [0x2100, 0x2101, 0x2200, 0x2201] ++
    run 0x3000 256 ++ run 0x3100 256 ++ run 0x3200 256 ++ run 0x4000 7 ++ [0x4010] ++ run 0x4100 256 ++
    [0x4800, 0x4801, 0x4802, 0x4810, 0x4820, 0x4830] ++ run 0x4840 8 ++ [0x4850, 0x4860, 0x4870] ++
    [0x5000, 0x5001, 0x5010, 0x5020, 0x5030, 0x5040] ++ run 0x5100 112 ++ run 0x5800 3 ++ [0x5810, 0x5811, 0x5820] ++
    run 0x5830 10 ++ [0x5840] ++ run 0x5850 4 ++ run 0x5861 3 ++ [0x5870, 0x5880, 0x6000, 0x6002] ++ run 0x6400 1024 ++
    run 0x6800 256 ++ [0x6F00, 0x7000, 0x7001, 0x7010]

/-- The sub-indices that a table may list. -/
def dictSubs : List Nat := List.range 16

/-- The number of a function of the ladder (R342). -/
def isFunc (f : Nat) : Bool :=
  decide (f ≤ 0xB) || (decide (0x10 ≤ f) && decide (f ≤ 0x19)) || (decide (0x20 ≤ f) && decide (f ≤ 0x24)) ||
    (decide (0x28 ≤ f) && decide (f ≤ 0x3A)) || (decide (0x40 ≤ f) && decide (f ≤ 0x58)) || (decide (0x60 ≤ f) && decide (f ≤ 0x66)) ||
    f == 0x6F

/-- A listed entry; a number that is not a function has none (R299, R319, R342). -/
def dictEntry (idx sub : Nat) : Option DEntry :=
  if 0x5100 ≤ idx ∧ idx < 0x5170 ∧ !isFunc (idx - 0x5100) then none else dictListed idx sub

/-- The stored persistent entries that a store writes: those of the tables, a write-once entry only once written (R311). -/
def State.persistent (s : State) : List (Nat × Nat) :=
  dictIndices.flatMap fun i => (dictSubs.filter fun n => match dictEntry i n with
    | some e => e.persist && (e.acc != .once || !(s.dictBytes i n).isEmpty)
    | none => false).map fun n => (i, n)

/-- One record of a configuration copy (R312). -/
def State.configRecord (s : State) (e : Nat × Nat) : Bytes :=
  let v := s.dictBytes e.1 e.2
  toLE 2 e.1 ++ toLE 1 e.2 ++ toLE 2 v.length ++ v

/-- The records of a store: every persistent entry, or with `load` the write-once entries alone (R311, R312). -/
def State.configEntries (s : State) (load : Bool) : List (Nat × Nat) :=
  if load then s.persistent.filter fun e => match dictEntry e.1 e.2 with | some d => d.acc == .once | none => false
  else s.persistent

/-- CONFIG_DIGEST (R334). -/
def State.configDigest (s : State) : Digest := Config.sha384 ((s.configEntries false).flatMap s.configRecord)

/-! ### Keys (R329 to R333) -/

/-- The identity key exists (R329, R337). -/
def State.hasIdentity (s : State) : Bool := s.sec.fuse.lc != 0 && s.sec.fuse.lc != 4 && !s.sec.fuse.identityDestroyed

/-- IDENTITY_PUB (R329, R340). -/
def State.identityPub (s : State) : Bytes := if s.hasIdentity then toBE 97 (Config.publicKey s.sec.fuse.identity).toNat else []

/-- A signature r ‖ s under the identity key (R329). -/
def State.identitySign (s : State) (b : Bytes) : Bytes := toBE 96 (Config.ecdsaSign s.sec.fuse.identity b).toNat

/-- SEAL_PUB of a slot (R331, R340). -/
def State.sealPub (s : State) (n : Nat) : Bytes := if s.slotHoldsKey n then toBE 97 (Config.publicKey (s.slotScalar n)).toNat else []

/-- KEY_STATEMENT of a slot; empty while the slot holds no key or no identity exists (R333; log entry 37). -/
def State.keyStatement (s : State) (n : Nat) : Bytes :=
  if !s.slotHoldsKey n || !s.hasIdentity then []
  else
    let b := [0x53, 0x59, 0x4E, 0x4B] ++ toLE 2 0x100 ++ toLE 1 n ++ toLE 1 0 ++ toLE 4 (s.cfg (0x4840 + n) 1) ++
      toLE 4 s.sec.fuse.serial.toNat ++ s.sealPub n ++ toLE 15 0
    b ++ s.identitySign b

/-- The attestation report of a path (R334). -/
def State.attestation (s : State) (path : Nat) : Bytes :=
  let f := s.sec.fuse
  let r : Running := s.sec.running.getD { slotB := false, ver := 0, digest := 0, key := 0, secEpoch := 0 }
  let b := [0x53, 0x59, 0x4E, 0x41] ++ toLE 2 0x100 ++ toLE 1 f.lc ++ toLE 1 (s.debugOpen.toNat + 2 * s.mbox.test.toNat) ++
    toLE 4 f.serial.toNat ++ toLE 1 r.key ++ toLE 1 f.bootRevoked.toNat ++ toLE 1 f.secFloor ++ toLE 1 0 ++ toLE 4 r.ver.toNat ++
    toLE 4 s.sec.decodeVer.toNat ++ toLE 8 s.mono.toNat ++ toLE 10 s.time.now.toNat ++ toLE 1 s.time.source.toNat ++ toLE 5 0 ++
    padTo 48 (s.dict.challenge.look [] path) ++ toBE 48 r.digest.toNat ++ toBE 48 s.decodeDigest.toNat ++
    toBE 48 s.configDigest.toNat ++ (List.range 8).flatMap (fun n => toLE 4 (s.cfg (0x4840 + n) 1)) ++
    padTo 97 s.identityPub ++ toLE 15 0
  b ++ s.identitySign b

/-! ### Computed entries -/

/-- POWER_STATE (R361, 2000h:01h). -/
def State.powerState (s : State) : Nat :=
  if s.power.phase = .park then 3
  else if (List.range 11).any fun t => (s.tile (t + 1)).power == .banked || (s.tile (t + 1)).power == .cold then 2 else 1

/-- The code of a tile's state (R372). -/
def TilePower.code : TilePower → Nat
  | .run => 0
  | .banked => 1
  | .cold => 2
  | .repair => 3

/-- OUTAGE, fault and other counters of the ladder (R319, R356). -/
def State.readLadder (s : State) (idx sub : Nat) : Option Bytes :=
  let a := s.ladder
  if 0x5100 ≤ idx ∧ idx < 0x5170 then
    let x := a.func.look {} (idx - 0x5100)
    (match sub with
     | 4 => some (toLE 4 x.rung1.toNat)
     | 5 => some (toLE 4 x.rung2.toNat)
     | 6 => some (toLE 4 x.rung3.toNat)
     | 7 => some (toLE 4 x.rung4.toNat)
     | _ => none)
  else match idx, sub with
  | 0x5000, 7 => some (toLE 4 (min s.outageYear 0xFFFFFFFF))
  | 0x5000, 8 => some (toLE 8 a.outageTotal.toNat)
  | 0x5001, 5 => some ((List.range 4).flatMap fun n => toLE 4 (a.totals.look 0 n).toNat)
  | 0x5001, 6 => some (toLE 4 a.joined.toNat)
  | 0x5010, 1 => some (toLE 8 a.dramCe.toNat)
  | 0x5010, 2 => some (toLE 4 a.dramUe.toNat)
  | 0x5010, 3 => some (toLE 8 a.sramCe.toNat)
  | 0x5010, 4 => some (toLE 4 a.sramUe.toNat)
  | 0x5020, 1 => some (toLE 4 s.courses.malformed.toNat)
  | 0x5020, 2 => some (toLE 4 s.courses.errorEnds.toNat)
  | 0x5020, 3 => some (toLE 4 s.courses.merged.toNat)
  | 0x5030, n => if 1 ≤ n ∧ n ≤ 3 then some (toLE 2 (s.dict.lastStatus.look 0 (n - 1)).toNat) else none
  | 0x5040, 1 => some (padTo 24 a.lastFault)
  | _, _ => none

/-- Entries of the hold-up controller (R59, R65, R67, R68). -/
def State.readHoldup (s : State) (idx sub : Nat) : Option Bytes :=
  let a := s.holdup
  let j := s.journal.now
  match idx, sub with
  | 0x4001, 1 => some (toLE 4 s.cMeas)
  | 0x4001, 2 => some (toLE 4 a.esrMeas.toNat)
  | 0x4001, 3 => some (toLE 2 a.tMeas.toNat)
  | 0x4001, 4 => some (toLE 10 a.testTime.toNat)
  | 0x4001, 5 => some (toLE 2 a.vbank.toNat)
  | 0x4001, 6 => some (toLE 2 a.tbank.toNat)
  | 0x4001, 7 => some (toLE 4 a.eUsable.toNat)
  | 0x4001, 8 => some (toLE 8 a.horizon.toNat)
  | 0x4001, 9 => some (toLE 1 a.inadequate.toNat)
  | 0x4002, 6 => some (toLE 4 a.rideThroughs.toNat)
  | 0x4002, 7 => some (toLE 4 a.declarations.toNat)
  | 0x4005, 4 => some (toLE 10 a.drillTime.toNat)
  | 0x4005, 5 => some (toLE 4 a.ebMeas.toNat)
  | 0x4010, 1 => some (toLE 8 j.qIn.toNat)
  | 0x4010, 2 => some (toLE 8 j.qOut.toNat)
  | 0x4010, 3 => some (toLE 8 j.qStored.toNat)
  | 0x4010, 4 => some (toLE 8 j.qLeak.toNat)
  | 0x4010, 5 => some (toLE 8 j.qIn.toNat ++ toLE 8 j.qOut.toNat ++ toLE 8 j.qStored.toNat ++ toLE 8 j.qLeak.toNat)
  | _, _ => none

/-- Device-wide entries (R136, R314, R376, R412). -/
def State.readDevice (s : State) (idx sub : Nat) : Option Bytes :=
  let p := s.power
  let c := s.ctx
  let b := s.bind
  match idx, sub with
  | 0x2000, 1 => some (toLE 1 s.powerState)
  | 0x2000, 2 => some (toLE 8 s.mono.toNat)
  | 0x2000, 3 => some (toLE 10 s.time.now.toNat)
  | 0x2000, 4 => some (toLE 1 s.time.source.toNat)
  | 0x2000, 5 => some (toLE 4 ((s.aon - p.startAt) / 76800000))
  | 0x2001, n => if 1 ≤ n ∧ n ≤ 12 then some (toLE 1 (s.tile (n - 1)).power.code) else none
  | 0x2002, 1 => some (toLE 1 p.resetCause.toNat)
  | 0x2002, 2 => some (toLE 1 p.wakeCause.toNat)
  | 0x2002, 3 => some (toLE 1 p.pcieCc.toNat)
  | 0x2002, 5 => some (toLE 4 p.starts.toNat)
  | 0x2002, 6 => some (toLE 4 p.refclkLosses.toNat)
  | 0x2002, 8 => some (toLE 4 p.railFaults.toNat)
  | 0x2003, 1 => some (toLE 2 p.tj.toNat)
  | 0x2003, 2 => some (toLE 2 (p.tjPeak.getD 0).toNat)
  | 0x2003, 4 => some (toLE 4 p.trips.toNat)
  | 0x2003, 5 => some ((List.range 8).flatMap fun n => toLE 4 (p.tjMs.look 0 n / 3600000))
  | 0x2100, 1 => some (toLE 4 (freeCount c.free))
  | 0x2100, 3 => some (toLE 8 c.hits.toNat)
  | 0x2100, 4 => some (toLE 8 c.misses.toNat)
  | 0x2100, 5 => some (toLE 4 c.claimBusy.toNat)
  | 0x2100, 6 => some (toLE 4 c.staleRefs.toNat)
  | 0x2100, 7 => some (toLE 1 c.restoreDone.toNat)
  | 0x2100, 8 => some (toLE 8 c.imagesWritten.toNat)
  | 0x2101, 1 => some (toLE 4 b.count)
  | 0x2101, 2 => some (toLE 1 b.active.stash.length)
  | 0x2101, 3 => some (toLE 1 b.stashPeak.toNat)
  | 0x2101, 4 => some (toLE 4 b.rekeys.toNat)
  | 0x2101, 6 => some (toLE 1 b.longestWalk.toNat)
  | 0x2101, 7 => some (toLE 4 b.treeInserts.toNat)
  | 0x2101, 8 => some (toLE 4 b.bindBusy.toNat)
  | 0x2200, 1 => some (toLE 2 s.mortar.starveLimit.toNat)
  | _, _ => none

/-- Entries of the lanes (R31, R54, R88, R134, R428). -/
def State.readLane (s : State) (idx sub : Nat) : Option Bytes :=
  let l := idx % 256
  let x := s.lane l
  match idx / 256, sub with
  | 0x30, 0xE => some (toLE 4 x.copeMerged.toNat)
  | 0x31, 1 => some (toLE 8 x.led.accepted.toNat)
  | 0x31, 2 => some (toLE 8 x.led.durable.toNat)
  | 0x31, 3 => some (toLE 8 x.led.lost.toNat)
  | 0x31, 4 => some (toLE 8 x.inflight.toNat)
  | 0x31, 5 => some (toLE 8 x.led.refused.toNat)
  | 0x31, 6 => some (toLE 8 x.share.toNat)
  | 0x31, 7 => some (s.snapshot l)
  | 0x31, 8 => some (toLE 8 x.led.skipped.toNat)
  | 0x31, 9 => some (toLE 2 x.openStatus.toNat)
  | 0x32, 6 => some (toLE 1 (s.bind.order.look [] l).length)
  | _, _ => none

/-- Security, firmware and decode entries (R210, R315, R320, R340). -/
def State.readSecurity (s : State) (p : Path) (idx sub : Nat) : Option Bytes :=
  let f := s.sec.fuse
  let r := s.sec.running
  if 0x4840 ≤ idx ∧ idx < 0x4848 then
    (match sub with
     | 2 => some (s.sealPub (idx - 0x4840))
     | 3 => some (s.keyStatement (idx - 0x4840))
     | _ => none)
  else match idx, sub with
  | 0x1018, 4 => some (toLE 4 f.serial.toNat)
  | 0x4800, 1 => some (toLE 1 f.lc)
  | 0x4801, 3 => some (toLE 1 (match s.dict.session.find? (·.1 == pathNum p) with | some e => e.2.1 + 1 | none => 0))
  | 0x4820, 2 => some (toBE 48 s.configDigest.toNat)
  | 0x4850, 1 => some s.identityPub
  | 0x4850, 2 => some (if s.hasIdentity then Config.identityCsr f.identity f.serial else [])
  | 0x4860, 1 => some (toLE 4 s.sec.trngFails.toNat)
  | 0x4860, 2 => some (toLE 4 s.sec.reseeds.toNat)
  | 0x4870, 6 => some (toLE 1 f.secFloor)
  | 0x4870, 7 => some (toLE 4 s.sec.fallbacks.toNat)
  | 0x4870, n => if 1 ≤ n ∧ n ≤ 4 then some (toBE 48 (f.bootDigest.look 0 (n - 1)).toNat) else none
  | 0x7000, 1 => some (toLE 1 (match r with | some x => x.slotB.toNat | none => 0))
  | 0x7000, 2 => some (toLE 4 (match r with | some x => x.ver.toNat | none => 0))
  | 0x7000, 3 => some (toBE 48 (match r with | some x => x.digest.toNat | none => 0))
  | 0x7000, 5 => some (toLE 4 s.dict.restoreSkipped.toNat)
  | 0x7010, 1 => some (toBE 48 s.decodeDigest.toNat)
  | 0x7010, 2 => some (toLE 4 s.sec.decodeVer.toNat)
  | 0x7010, 4 => some (toLE 2 ((List.range 12).foldl (fun (n : Nat) t => n + (s.tile t).loaded.toNat * 2 ^ t) 0))
  | 0x7010, 5 => some (toLE 4 s.sec.decodeIllegal.toNat)
  | _, _ => none

/-- Interface and queue entries (R280, R314, R316, R398, R422). -/
def State.readIface (s : State) (idx sub : Nat) : Option Bytes :=
  let i := s.iface
  let r := s.rings
  if 0x5830 ≤ idx ∧ idx < 0x583A then
    let p := idx - 0x5830
    (match sub with
     | 6 => some (toLE 1 (if i.ethUp.getLsbD p then i.ethMode.look 0 p else 0))
     | 7 => some (toLE 4 (i.discards.look 0 (0x10 + p)).toNat)
     | _ => none)
  else match idx, sub with
  | 0x1001, 0 => some (toLE 1 s.dict.errorReg.toNat)
  | 0x5800, 2 => some (toLE 1 (s.wythes.configured.toNat + 4 * s.wythes.failed.toNat))
  | 0x5801, 3 => some (toLE 1 (s.member 0).zoned.toNat)
  | 0x5802, 3 => some (toLE 1 (s.member 2).zoned.toNat)
  | 0x5810, 4 => some (toLE 4 s.dict.emcySuppressed.toNat)
  | 0x5811, 2 => some (toLE 4 s.dict.discarded.toNat)
  | 0x5811, 3 => some (toLE 1 s.dict.peers.length)
  | 0x5820, 8 => some (toLE 4 s.time.offset.toNat)
  | 0x5820, 9 => some (toLE 4 s.time.ppsRejected.toNat)
  | 0x5840, 2 => some (toLE 4 i.parseErrors.toNat)
  | 0x6000, 1 => some (toLE 2 (r.pair.filter fun e => e.2.en).length)
  | 0x6000, 2 => some (toLE 8 r.entriesTaken.toNat)
  | 0x6000, 3 => some (toLE 4 r.abortedTotal.toNat)
  | 0x6000, 4 => some (toLE 4 r.staleTotal.toNat)
  | 0x6002, 1 => some (toLE 2 (r.pair.filter fun e => e.2.en && e.2.txn).length)
  | 0x6002, 2 => some (toLE 8 r.txnTranslated.toNat)
  | 0x6002, 3 => some (toLE 4 r.txnUntranslatable.toNat)
  | 0x6F00, 2 => some (toLE 4 s.dict.requests.toNat)
  | _, _ => none

/-- The value of an entry at one instant (R301): computed where the block keeps it elsewhere, else as stored or its default. -/
def State.dictValue (s : State) (p : Path) (idx sub : Nat) : Bytes :=
  let v := if idx < 0x1002 then s.readIface idx sub
    else if idx < 0x2000 then s.readSecurity p idx sub
    else if idx < 0x3000 then s.readDevice idx sub
    else if idx < 0x4000 then s.readLane idx sub
    else if idx < 0x4800 then s.readHoldup idx sub
    else if idx < 0x5000 then s.readSecurity p idx sub
    else if idx < 0x5800 then s.readLadder idx sub
    else if idx < 0x7000 then s.readIface idx sub
    else s.readSecurity p idx sub
  v.getD (s.dictBytes idx sub)

end Sys2Proof.Machine
end

