-- ==== Sys2Proof/Machine/DictCheck.lean ====
section
/-! DEFINITION. The checks that a write of the object dictionary and a stored record pass (R301, R302, R304, R426). -/
namespace Sys2Proof.Machine

/-! ### Answers (R304) -/

/-- What a request is answered: abort code, status, data. -/
structure Answer where
  abort  : W32 := 0
  status : Status := 0
  data   : Bytes := []
  deriving DecidableEq, Repr

/-- The status of an abort code; for 0800_0020h that of the function that refused (R304). -/
def abortStatus (a : W32) (own : Status) : Status :=
  match a.toNat with
  | 0 => 0
  | 0x05030000 | 0x05040001 | 0x06070010 | 0x06090030 | 0x06090031 | 0x06090032 => 0x0107
  | 0x05040000 => 0x0707
  | 0x05040005 => 0x0501
  | 0x06010000 => 0x0801
  | 0x06010001 | 0x06010002 | 0x06020000 | 0x06090011 | 0x08000021 => 0x0103
  | 0x08000000 => 0x0802
  | 0x08000020 => own
  | _ => 0x0805

/-- A refusal by an abort code (R304). -/
def refused (a : W32) : Answer := { abort := a, status := abortStatus a 0 }

/-- A refusal by the owning function, 0800_0020h (R304). -/
def refusedBy (st : Status) : Answer := { abort := 0x08000020, status := st }

/-- Success without data. -/
def accepted : Answer := {}

/-- No refusal. -/
def Answer.good (a : Answer) : Bool := a.abort == 0

/-- The first refusal of two checks. -/
def Answer.andThen (a b : Answer) : Answer := if a.good then b else a

/-! ### The rules of the entry alone (R300, R301 steps 4 and 5) -/

/-- The length matches the type (R300). -/
def DType.fits : DType → Bytes → Bool
  | .num n _, v => v.length == n
  | .bool, v => v.length == 1
  | .vstr m, v => decide (v.length ≤ m)
  | .octets lo hi, v => decide (lo ≤ v.length) && decide (v.length ≤ hi)
  | .lengths ns, v => ns.contains v.length

/-- The number a value spells. -/
def DType.int : DType → Bytes → Int
  | .num n true, v => (BitVec.ofNat (8 * n) (leNat v)).toInt
  | _, v => (leNat v : Int)

/-- The range of R301 step 5. -/
def DRange.check (r : DRange) (x : Int) : Answer :=
  match r with
  | .any => accepted
  | .bounds lo hi => if hi < x then refused 0x06090031 else if x < lo then refused 0x06090032 else accepted
  | .zeroOr lo hi => if x = 0 then accepted else if hi < x then refused 0x06090031 else if x < lo then refused 0x06090030 else accepted
  | .oneOf vs => if vs.contains x then accepted else refused 0x06090030
  | .step lo hi k =>
    if hi < x then refused 0x06090031 else if x < lo then refused 0x06090032
    else if x % k = 0 then accepted else refused 0x06090030

/-- Range of a Boolean or a visible string (R300). -/
def DType.contentOk : DType → Bytes → Bool
  | .bool, v => v == [0] || v == [1]
  | .vstr _, v => v.all fun b => decide (0x20 ≤ b.toNat) && decide (b.toNat ≤ 0x7E)
  | _, _ => true

/-- TEMP_CURVE rises strictly (R425). -/
def curveRises (v : Bytes) : Bool := (List.range 7).all fun n => decide ((curvePoint v n).1 < (curvePoint v (n + 1)).1)

/-- A MEMBER entry: 0, or a root port, zeros and an NSID (R316). -/
def memberOk (v : Bytes) : Bool :=
  let n := leNat v
  n == 0 || (n / 4 % 2 ^ 30 == 0 && decide (1 ≤ n / 2 ^ 32) && decide (n / 2 ^ 32 ≤ 0xFFFFFFFE))

/-- A flow key as 40 bytes. -/
def keyOfBytes (v : Bytes) : BitVec 320 := BitVec.ofNat 320 (leNat v)

/-- An uncompressed SEC 1 point on brainpoolP384r1 (R315). -/
def pointOk (v : Bytes) : Bool := v.head? == some 4 && Config.onCurve v

/-- Rules beyond the listed range that the value alone decides (R31, R129, R271, R316, R315, R318, R425). -/
def extraCheck (idx sub : Nat) (v : Bytes) : Answer :=
  let judge := fun (b : Bool) => if b then accepted else refused 0x06090030
  if idx = 0x1010 then judge (leNat v == 0x65766173)
  else if idx = 0x1011 then judge (leNat v == 0x64616F6C)
  else if idx = 0x2201 then judge (v.all (fun b => decide (b.toNat < 7)) && v.contains 6)
  else if 0x3200 ≤ idx ∧ idx < 0x3300 ∧ sub ≤ 4 then
    if v.isEmpty || keyWellFormed (keyOfBytes v) then accepted else refusedBy 0x0104
  else if idx = 0x4000 ∧ sub = 0xB then judge (curveRises v)
  else if idx = 0x4802 ∧ sub ≤ 4 then judge (pointOk v)
  else if (idx = 0x5801 ∨ idx = 0x5802) ∧ sub ≤ 2 then judge (memberOk v)
  else if idx = 0x6F00 then
    judge (fieldAt v 2 1 < 16 && decide (1 ≤ fieldAt v 5 1) && decide (fieldAt v 5 1 ≤ 6) && fieldAt v 6 2 == 0)
  else accepted

/-- Length and range of a value for an entry (R301 steps 4 and 5). -/
def DEntry.check (e : DEntry) (idx sub : Nat) (v : Bytes) : Answer :=
  if !e.ty.fits v then refused 0x06070010
  else if !e.ty.contentOk v then refused 0x06090030
  else (e.range.check (e.ty.int v)).andThen (extraCheck idx sub v)

/-! ### Rules against the present value (R301, R315, R320, R331, R210) -/

/-- "Not below its present value", "must exceed", "a set bit is not cleared". -/
def State.presentCheck (s : State) (idx sub : Nat) (v : Bytes) : Answer :=
  let old := s.cfg idx sub
  let new := leNat v
  let judge := fun (b : Bool) => if b then accepted else refused 0x06090030
  if (idx = 0x7000 ∧ sub = 4) ∨ (idx = 0x7010 ∧ sub = 3) then judge (decide (old ≤ new))
  else if 0x4840 ≤ idx ∧ idx < 0x4848 ∧ sub = 1 then judge (decide (old < new))
  else if idx = 0x4802 ∧ sub = 5 then judge (BitVec.ofNat 8 old &&& ~~~(BitVec.ofNat 8 new) == 0)
  else accepted

/-! ### Rules between entries (R69, R284, R316, R332, R390) -/

/-- V_RATED, VMIN and VBANK_CRIT are consistent (R69). -/
def thresholdsOk (rated vmin crit : Nat) : Bool :=
  decide (vmin + 1000 < rated) && decide (vmin + 200 ≤ crit) && decide (crit + 500 ≤ rated)

/-- BCLK of a TDM port is at most 24.576 MHz (R390). -/
def bclkOk (rate slots bits : Nat) : Bool := decide (rate * slots * bits ≤ 24576000)

/-- The settings of TDM port t, with one of them replaced. -/
def State.tdmSet (s : State) (t sub n k : Nat) : Nat := if sub = k then n else s.cfg (0x5850 + t) k

/-- Rules between entries at a write (R69, R284, R316, R332, R390). -/
def State.groupCheck (s : State) (idx sub : Nat) (v : Bytes) : Answer :=
  let n := leNat v
  let judge := fun (b : Bool) => if b then accepted else refused 0x06090030
  if idx = 0x4000 ∧ sub = 2 then judge (thresholdsOk n (s.cfg 0x4000 3) (s.cfg 0x4002 4))
  else if idx = 0x4000 ∧ sub = 3 then judge (thresholdsOk (s.cfg 0x4000 2) n (s.cfg 0x4002 4))
  else if idx = 0x4002 ∧ sub = 4 then judge (thresholdsOk (s.cfg 0x4000 2) (s.cfg 0x4000 3) n)
  else if 0x5850 ≤ idx ∧ idx < 0x5854 then
    let g := s.tdmSet (idx - 0x5850) sub n
    if sub = 2 ∨ sub = 3 ∨ sub = 4 then (if bclkOk (g 2) (g 3) (g 4) then accepted else refused 0x06090031)
    else if sub = 5 then judge (decide (8 * n ≤ g 4))
    else accepted
  else if idx = 0x5800 ∧ sub = 1 then judge (n != 0)
  else if 0x3000 ≤ idx ∧ idx < 0x3100 ∧ sub = 0xA then (if s.slotHoldsKey n then accepted else refusedBy 0x0804)
  else if 0x3200 ≤ idx ∧ idx < 0x3300 ∧ 2 ≤ sub ∧ sub ≤ 4 then
    judge (s.laneCfg (idx - 0x3200) 1 != 8)
  else accepted

/-! ### Roles (R302) -/

/-- The role that a write needs: 0 READER, 1 OPERATOR, 2 HOST, 3 SERVICE (R302, R318). -/
def writeRole (idx sub : Nat) (v : Bytes) : Nat :=
  if idx = 0x1011 then 3
  else if idx < 0x2000 then 1
  else if idx < 0x3000 then 3
  else if idx < 0x4000 then 1
  else if idx = 0x4801 ∧ sub ≤ 2 then 0
  else if idx < 0x6000 then 3
  else if idx < 0x6800 then 2
  else if idx = 0x6F00 ∧ sub = 1 then
    (match fieldAt v 5 1 with | 1 | 2 | 4 | 6 => 3 | 3 | 5 => 1 | _ => 0)
  else 3

/-- The role of a request permits the write; where SERVICE is needed, a path without any session is told so (R302). -/
def State.roleCheck (s : State) (p : Path) (idx sub : Nat) (v : Bytes) : Answer :=
  let need := writeRole idx sub v
  if need ≤ s.role p then accepted
  else if need = 3 ∧ ¬ s.dict.session.any (·.1 == pathNum p) then refused 0x08000000 else refused 0x06010000

/-! ### Existence and access (R299, R301) -/

/-- An index with entries (R299, R302). -/
def indexExists (idx : Nat) : Bool := (0 :: dictSubs).any fun n => (dictEntry idx n).isSome

/-- The highest sub-index of a RECORD (R299). -/
def highestSub (idx : Nat) : Nat := (dictSubs.filter fun n => (dictEntry idx n).isSome).foldl (fun (a : Nat) n => Nat.max a n) 0

/-- The entry at an index and sub-index, the refusal where there is none (R299, R302); sub-index 00h of a RECORD is const. -/
def findEntry (idx sub : Nat) : Except Answer DEntry :=
  match dictEntry idx sub with
  | some e => .ok e
  | none =>
    if !indexExists idx then .error (refused 0x06020000)
    else if sub = 0 then .ok (DEntry.const 1 (highestSub idx))
    else .error (refused 0x06090011)

/-- The access kind permits the write; a write-once entry only while it is unwritten (R301). -/
def State.accessCheck (s : State) (e : DEntry) (idx sub : Nat) : Answer :=
  match e.acc with
  | .const | .ro => refused 0x06010002
  | .once => if (s.dictBytes idx sub).isEmpty then accepted else refused 0x08000021
  | .wo | .rw => accepted

/-- The five checks of a write in their order, and ENDED before them (R301, R305). -/
def State.writeCheck (s : State) (p : Path) (idx sub : Nat) (v : Bytes) : Answer :=
  if s.sec.fuse.lc = 4 then refused 0x08000022
  else match findEntry idx sub with
    | .error a => a
    | .ok e =>
      (s.accessCheck e idx sub).andThen ((s.roleCheck p idx sub v).andThen ((e.check idx sub v).andThen
        ((s.presentCheck idx sub v).andThen (s.groupCheck idx sub v))))

end Sys2Proof.Machine
end

