-- ==== Sys2Proof/Machine/Restore.lean ====
section
/-! DEFINITION. The configuration area and the restore of the dictionary at start-up (R311, R312, R313, R426). -/
namespace Sys2Proof.Machine

/-! ### Configuration copies (R312) -/

/-- COPY_SEQ of a copy. -/
def copySeq (b : Bytes) : Nat := fieldAt b 8 8

/-- The bytes that the signature of a copy covers (R312). -/
def copySigned (b : Bytes) : Bytes := b.take (0x18 + fieldAt b 0x14 4)

/-- A copy whose layout is right and whose signature verifies under the identity key (R312). -/
def State.copyValid (s : State) (b : Bytes) : Bool :=
  let n := fieldAt b 0x14 4
  s.hasIdentity && decide (0x18 + n + 96 ≤ b.length) && slice b 0 4 == [0x44, 0x43, 0x46, 0x47] && fieldAt b 4 2 == 0x100 &&
    Config.ecdsaVerify s.identityPub (copySigned b) (slice b (0x18 + n) 96)

/-- The position, 0 or 1, of the highest valid COPY_SEQ (R312). -/
def State.newestCopy (s : State) : Option Nat :=
  let ok := fun k => s.copyValid (s.sec.config.look [] k)
  let q := fun k => copySeq (s.sec.config.look [] k)
  match ok 0, ok 1 with
  | false, false => none
  | true, false => some 0
  | false, true => some 1
  | true, true => if q 0 < q 1 then some 1 else some 0

/-- The copy that the restore takes: valid, and of the present life-cycle state (R313 step 1). -/
def State.restoreCopy (s : State) : Option Bytes :=
  let ok := fun k => s.copyValid (s.sec.config.look [] k) && fieldAt (s.sec.config.look [] k) 6 1 == s.sec.fuse.lc
  let b := fun k => s.sec.config.look [] k
  match ok 0, ok 1 with
  | false, false => none
  | true, false => some (b 0)
  | false, true => some (b 1)
  | true, true => some (if copySeq (b 0) < copySeq (b 1) then b 1 else b 0)

/-- A stored record: index, sub-index, value. -/
abbrev StoredRec := Nat × Nat × Bytes

/-- `n` records from the front of a body (R312). -/
def storedRecs : Nat → Bytes → List StoredRec
  | 0, _ => []
  | n + 1, b =>
    let k := fieldAt b 3 2
    if b.length < 5 + k then []
    else (fieldAt b 0 2, fieldAt b 2 1, slice b 5 k) :: storedRecs n (b.drop (5 + k))

/-- The records of a copy. -/
def copyRecs (b : Bytes) : List StoredRec := storedRecs (fieldAt b 0x10 4) (slice b 0x18 (fieldAt b 0x14 4))

/-- A number stored in a copy, 0 where it has none: FW_MIN_VER and DECODE_MIN_VER at the boot (R326). -/
def State.storedNumber (s : State) (idx sub : Nat) : Nat :=
  match s.restoreCopy with
  | none => 0
  | some b => ((copyRecs b).find? fun (r : StoredRec) => r.1 == idx && r.2.1 == sub).elim 0 fun r => leNat r.2.2

/-- A copy of records as bytes (R312). -/
def State.copyBytes (s : State) (seq : Nat) (es : List (Nat × Nat)) : Bytes :=
  let body := es.flatMap s.configRecord
  let b := [0x44, 0x43, 0x46, 0x47] ++ toLE 2 0x100 ++ toLE 1 s.sec.fuse.lc ++ toLE 1 0 ++ toLE 8 seq ++ toLE 4 es.length ++
    toLE 4 body.length ++ body
  b ++ s.identitySign b

/-! ### The restore (R313, R426) -/

/-- An entry counted in RESTORE_SKIPPED (R313). -/
def State.skipRec (s : State) : State := { s with dict := { s.dict with restoreSkipped := s.dict.restoreSkipped + 1 } }

/-- An entry returned to its default: counted (R426). -/
def State.toDefault (s : State) (idx sub : Nat) : State :=
  { s.skipRec with dict := { s.skipRec.dict with vals := s.dict.vals.del (dictKey idx sub) } }

/-- The three thresholds of R69, restored as one group. -/
def isThreshold (idx sub : Nat) : Bool := (idx == 0x4000 && (sub == 2 || sub == 3)) || (idx == 0x4002 && sub == 4)

/-- A record passes the rules that the restore applies to it alone, those against a present value judged against the value in force
(R426). -/
def State.recOk (s : State) (r : StoredRec) : Bool :=
  match dictEntry r.1 r.2.1 with
  | none => false
  | some e => e.persist && (e.check r.1 r.2.1 r.2.2).good && (s.presentCheck r.1 r.2.1 r.2.2).good

/-- One record applied, or skipped and counted (R313 step 2). -/
def State.applyRec (s : State) (r : StoredRec) : State :=
  if s.recOk r then s.setDict r.1 r.2.1 r.2.2 else s.skipRec

/-- The thresholds judged as one group, where records of them were stored (R69). -/
def State.checkGroup (t : State) (rs : List StoredRec) : State :=
  if rs.isEmpty || thresholdsOk (t.cfg 0x4000 2) (t.cfg 0x4000 3) (t.cfg 0x4002 4) then t
  else ((t.toDefault 0x4000 2).toDefault 0x4000 3).toDefault 0x4002 4

/-- A TDM port whose restored settings do not fit together returns to its defaults (R390, R426). -/
def State.checkTdm (s : State) (t : Nat) : State :=
  let c := s.cfg (0x5850 + t)
  if bclkOk (c 2) (c 3) (c 4) && decide (8 * c 5 ≤ c 4) then s
  else [1, 2, 3, 4, 5, 6, 7].foldl (fun u n => u.toDefault (0x5850 + t) n) s

/-- Rules between entries of lane l: KEY_SLOT, and KEY1 to KEY3 of a lane of source type 08h (R284, R332, R426; log entry 39). -/
def State.checkLane (s : State) (l : Nat) : State :=
  let a := if s.laneCfg l 0xA ≠ 0 ∧ !s.slotHoldsKey (s.laneCfg l 0xA) then s.toDefault (0x3000 + l) 0xA else s
  if a.laneCfg l 1 ≠ 8 then a
  else [2, 3, 4].foldl (fun t n => if (t.dictBytes (0x3200 + l) n).isEmpty then t else t.toDefault (0x3200 + l) n) a

/-- Rules between entries once every record has been applied (R426). -/
def State.checkEntries (s : State) : State :=
  let a := (List.range 4).foldl State.checkTdm s
  let b := (List.range 256).foldl State.checkLane a
  if b.cfg 0x5800 1 = 0 then b.toDefault 0x5800 1 else b

/-- Source 249 and its EMCY message (R307, R313). -/
def State.usedDefaults (s : State) : State := (s.raise 249).emcy 0x6100 0 true 249 0

/-- The restore of the dictionary: every entry at its default, then the records of the chosen copy, then the rules between entries; one
that returns an entry to its default raises source 249 (R313, R426). -/
def State.restoreDict (s : State) : State :=
  let base := { s with dict := { s.dict with vals := [], restoreSkipped := 0 } }
  match base.restoreCopy with
  | none => base.usedDefaults
  | some b =>
    let rs := copyRecs b
    let group := rs.filter fun (r : StoredRec) => isThreshold r.1 r.2.1
    let one := group.foldl State.applyRec ((rs.filter fun (r : StoredRec) => !isThreshold r.1 r.2.1).foldl State.applyRec base)
    let all := (one.checkGroup group).checkEntries
    if all.dict.restoreSkipped = one.dict.restoreSkipped then all else all.usedDefaults

/-! ### Lane keys after a restore (R134) -/

/-- The entry that binds a key to lane l as configured (R130, R134). -/
def State.laneEntry (s : State) (l : Nat) (k : BitVec 320) : BindEntry :=
  let c := match (s.lane l).obj with | some o => o.ctx | none => 0
  { key := k, target := BitVec.ofNat 20 c, lane := BitVec.ofNat 8 l, learned := false, laneBound := true, targetGen := (s.ctxRec c).gen }

/-- A key added behind the lane's bound keys (R134). -/
def State.orderAdd (s : State) (l : Nat) (k : BitVec 320) : State :=
  { s with bind := { s.bind with order := s.bind.order.put l (s.bind.order.look [] l ++ [k]) } }

/-- A key taken from the lane's bound keys. -/
def State.orderDel (s : State) (l : Nat) (k : BitVec 320) : State :=
  { s with bind := { s.bind with order := s.bind.order.put l ((s.bind.order.look [] l).filter (· != k)) } }

/-- A stored key of a lane bound after a reset; one that is bound already, or finds no place, returns to its default (R134; log entry
39). -/
def State.rebind (s : State) (l n : Nat) : State :=
  let v := s.dictBytes (0x3200 + l) n
  if v.isEmpty then s
  else
    let k := keyOfBytes v
    if (s.bind.lookup k).isSome then s.toDefault (0x3200 + l) n
    else
      let r := s.bindInsert (s.laneEntry l k)
      if r.1 then r.2.orderAdd l k else r.2.toDefault (0x3200 + l) n

/-- The binding table rebuilt from KEY0 to KEY3 of every lane (R134). -/
def State.rebindAll (s : State) : State :=
  ((s.dict.vals.filter fun e => decide (0x3200 * 256 ≤ e.1) && decide (e.1 < 0x3300 * 256) && decide (1 ≤ e.1 % 256) &&
    decide (e.1 % 256 ≤ 4)).map (·.1)).foldl (fun t k => t.rebind (k / 256 - 0x3200) (k % 256)) s

end Sys2Proof.Machine
end

