-- ==== Sys2Proof/Machine/Start.lean ====
section
/-! DEFINITION. Starts: what each kind keeps, the boot ROM's choice of an image, the settings in force, the opening of the lanes (R327,
R337, R368 to R371). -/
namespace Sys2Proof.Machine

/-! ### What a start keeps and wipes (R10, R128, R175, R368, R369) -/

/-- The always-on domain at a start of a kind: power-on wipes it, and the journal then fails its check; a life-cycle restart wipes the
journal and the ladder's counters (R77, R356, R368, R369; log entry 40). -/
def State.keepAlways (s : State) (cause : Nat) : State :=
  if cause = 1 then
    { s with
      journal := { valid := false, head := { magic := 0 } }, ladder := {}, time := {}, router := {}, watcher := {}
      dict := { s.dict with vals := [], errorReg := 0 }
      holdup := { vsup := s.holdup.vsup, ignition := s.holdup.ignition, model := s.holdup.model }
      power := { phase := s.power.phase, railEn := s.power.railEn, tj := s.power.tj } }
  else if cause = 6 then { s with journal := {}, ladder := {} }
  else s

/-- The clocks and registers of the power controller at the end of a start (R360, R366, R368, R376). -/
def Power.started (p : Power) (cause : Nat) (cc : Bool) (aon : Nat) : Power :=
  { p with
    phase := .run, req := 0, reqPending := false, startAt := aon, resetCause := BitVec.ofNat 8 cause
    wakeCause := if cause = 5 then p.wakeCause else 0, pllLock := true, refclkOk := true, pcieCc := cc, railRow := 0
    railEn := 0xFFF, perst := 0, starts := satAdd p.starts 1, supplyAbsent := false, tjPeak := none, warned := false
    tripping := false }

/-- A start up to step 8 of R370: everything outside the always-on domain is wiped, every TILE_GEN has advanced, the counters and
clocks restart (R128, R174, R369). -/
def State.startWipe (s : State) (cause : Nat) : State :=
  let a := (s.offCore (cause == 5)).keepAlways cause
  let cc := (Config.freeBits 1 a.draws).getLsbD 0
  { a.drawn with
    power := a.power.started cause cc a.aon
    ladder := { a.ladder with warm := none, awdSince := a.aon }
    holdup := { a.holdup with declared := false, supplyBack := none }
    journal := { a.journal with valid := a.journal.head.ok }
    watcher := { a.watcher with asleep := false }
    tiles := (List.range 12).map fun t => (t, { gen := (s.tile t).gen + 1 }) }

/-- The keys that a start draws: interleave key before the DRAM wipe, cache key, binding key (R120, R131, R273, R323). -/
def State.drawKeys (s : State) : State :=
  let k := fun (t : State) => t.drbgBlock.extractLsb' 0 128
  let a := { s with slots := { s.slots with addrKey := k s } }.drbgNext
  let b := { a with ctx := { a.ctx with cacheKey := k a } }.drbgNext
  { b with
    bind := { b.bind with active := { b.bind.active with key := k b } }
    sec := { b.sec with trngOk := true } }.drbgNext

/-! ### Life-cycle steps that a cut left undone (R337) -/

/-- Steps 3 and 4 of a transition that LC requires (R337). -/
def Fuses.finish (f : Fuses) : Fuses :=
  let a := if f.lc = 3 ∨ f.lc = 4 then { f with secret := BitVec.allOnes 384, sealDestroyed := true } else f
  if f.lc = 4 then { a with identity := BitVec.allOnes 384, identityDestroyed := true } else a

/-! ### The boot ROM (R327, R371) -/

/-- The record position that holds the highest SEQ (R327). -/
def Sec.newestBoot (x : Sec) : Option (Nat × BootRecord) :=
  x.bootRec.foldl (fun (best : Option (Nat × BootRecord)) e =>
    match best with
    | none => some e
    | some b => if b.2.seq.toNat < e.2.seq.toNat then some e else some b) none

/-- A boot record written to the position that does not hold the highest SEQ, with the next SEQ (R327). -/
def Sec.writeBoot (x : Sec) (slotB : Bool) (trial : BitVec 8) : Sec :=
  match x.newestBoot with
  | none => { x with bootRec := x.bootRec.put 0 { seq := 1, slotB := slotB, trial := trial } }
  | some (k, r) => { x with bootRec := x.bootRec.put (1 - k) { seq := r.seq + 1, slotB := slotB, trial := trial } }

/-- The slot to try first, with the record written before the jump (R327). -/
def Sec.chooseSlot (x : Sec) : Bool × Sec :=
  match x.newestBoot with
  | none => (false, x)
  | some (_, r) =>
    if r.trial = 2 then (!r.slotB, { x.writeBoot (!r.slotB) 0 with fallbacks := satAdd x.fallbacks 1 })
    else if r.trial = 1 then (r.slotB, x.writeBoot r.slotB 2)
    else (r.slotB, x)

/-- The image of a slot. -/
def State.slotImage (s : State) (b : Bool) : ImageBytes := slotBytes (s.sec.slot.look [] b.toNat)

/-- What the boot ROM shows in USERCODE (R327). -/
def usercodeOf (st : Status) (b : Bool) : BitVec 17 := (st.setWidth 17) ||| (if b then 0x10000 else 0)

/-- The image of a slot that has passed is copied into DRAM and loaded with its decode image; engine 0 of tile 0 is released at ENTRY
(R207, R371). -/
def State.bootSlot (s : State) (b : Bool) : State :=
  let f := s.slotImage b
  let a := { s with sec := { s.sec with
    usercode := usercodeOf 0 b
    running := some { slotB := b, ver := BitVec.ofNat 32 (imgVer f), digest := imgDigest f, key := imgKey f, secEpoch := imgEpoch f } } }
  let c := (a.setBytes 0x36E000000 (s.sec.slot.look [] b.toNat)).loadImage f
  (c.loadDecode f (s.storedNumber 0x7010 3)).modEng 0 fun x => { x with startPc := imgEntry f, pc := imgEntry f, run := .running }

/-- The image of a slot passes R326's checks under the stored SEC_EPOCH_MIN. -/
def State.slotPasses (s : State) (b : Bool) : Bool := s.imageStatus (s.slotImage b) (s.storedNumber 0x7000 4) == 0

/-- Step 9: the recorded slot, else the other with source 253; none where both fail (R326, R327, R371). -/
def State.boot (s : State) : Option State :=
  let c := s.sec.chooseSlot
  let a := { s with sec := c.2 }
  if a.slotPasses c.1 then some (a.bootSlot c.1)
  else if a.slotPasses !c.1 then some ((a.bootSlot !c.1).raise 253)
  else none

/-- The boot ROM stays where it is: nothing records (R323, R327). -/
def State.bootStop (s : State) : State :=
  let c := s.sec.chooseSlot
  let st := s.imageStatus (s.slotImage !c.1) (s.storedNumber 0x7000 4)
  { s with
    sec := { c.2 with usercode := usercodeOf st (!c.1), running := none }
    power := { s.power with phase := .noImage } }

/-! ### Settings in force (R272, R264, R316, R398) -/

/-- The settings of TDM port t in force from its re-initialisation on (R398). -/
def State.tdmInit (s : State) (t : Nat) : State :=
  let c := s.cfg (0x5850 + t)
  { s with iface := { s.iface with tdm := s.iface.tdm.put t {
      role := c 1, rate := c 2, slots := c 3, slotBits := c 4, store := c 5, framing := c 6, blockMs := c 7 } } }

/-- The settings of CAN controller c in force from its re-initialisation on; controller 0 takes those of 5810h (R316, R391, R398). -/
def State.canInit (s : State) (c : Nat) : State :=
  let p : CanPort := if c = 0 then { mode := 1, arbRate := s.cfg 0x5810 2, dataRate := s.cfg 0x5810 3, node := s.cfg 0x5810 1 }
    else { mode := s.cfg (0x5860 + c) 1, arbRate := s.cfg (0x5860 + c) 2, dataRate := s.cfg (0x5860 + c) 3 }
  { s with iface := { s.iface with
      can := s.iface.can.put c p, busOff := s.iface.busOff &&& ~~~(BitVec.ofNat 4 (2 ^ c)) } }

/-- The mode of Ethernet port p in force from its re-initialisation on (R398). -/
def State.ethInit (s : State) (p : Nat) : State :=
  { s with iface := { s.iface with ethMode := s.iface.ethMode.put p (s.cfg (0x5830 + p) 1) } }

/-- The configured wythes and their members as this start takes them (R316). -/
def State.wytheInit (s : State) : State :=
  let e := fun m => BitVec.ofNat 64 (s.cfg (0x5801 + m / 2) (1 + m % 2))
  let on := fun w => BitVec.ofNat 2 (if s.cfg 0x5800 1 / 2 ^ w % 2 = 1 ∧ e (2 * w) ≠ 0 then 2 ^ w else 0)
  { s with wythes := { s.wythes with
      configured := on 0 ||| on 1
      member := (List.range 4).map fun m => (m, { entry := e m }) } }

/-- Copy A from SLOT_TABLE, STARVE_LIMIT, the time service's profile (R264, R272, R382). -/
def State.boardInit (s : State) : State :=
  { s with
    slots := { s.slots with a := (List.range 128).map fun k => (k, ((s.dictBytes 0x2201 1).getD k 0).setWidth 3) }
    mortar := { s.mortar with starveLimit := BitVec.ofNat 16 (s.cfg 0x2200 1) }
    time := { s.time with profile := s.cfg 0x5820 1 } }

/-- What firmware sets up at every start: wake input 1,600 on channel 256, the host's dictionary channels, source 96 + g on target 96 + g (R279,
R310, R364). -/
def State.firmwareInit (s : State) : State :=
  let pair := fun (b : Mailboxes) c snd rcv => { b with ch := b.ch.put c { b.row c with sender := snd, receiver := rcv, valid := true } }
  { s with
    router := { s.router with task := s.router.task.put 1600 { s.router.taskAt 1600 with subCh := 256, subEn := true } }
    mbox := pair (pair s.mbox 1020 96 0) 1021 0 96
    vu := { s.vu with src := (List.range 32).foldl (fun (t : Tab SrcRow) g =>
      t.modify {} (96 + g) fun r => { r with en := true, mask := r.mask ||| (1#160 <<< (96 + g)) }) s.vu.src } }

/-- The boot firmware writes context 0, starts its course into its first suspension, and its line is pinned (R104, R120, R135; log entry
110). -/
def State.bootCourse (s : State) : State :=
  let r := s.ctxRec 0
  ({ s with ctx := (s.ctx.access 0).set 0 {
      gen := r.gen, state := 6, course := true, suspended := true, resumeAddr := Config.lastCourse.1, statusAddr := Config.lastCourse.2 } }).setCourse
    0 { addr := Config.lastCourse.1, mask := suspendMask }

/-- Every setting whose point in force is the start. -/
def State.applyDict (s : State) : State :=
  let a := (List.range 10).foldl State.ethInit ((List.range 4).foldl State.canInit ((List.range 4).foldl State.tdmInit s))
  ((a.wytheInit).boardInit.firmwareInit).bootCourse

/-! ### Lanes (R76, R80, R370) -/

/-- A lane at a start: its journal entry, and the object that the entry names, whose chain waits for the restart scan (R76, R80). -/
def State.startLane (s : State) (l : Nat) : State :=
  let j := s.journal.entry.look {} l
  let type := s.laneCfg l 1
  if j = {} ∧ type = 0 then s
  else
    let o : ObjChain := {
      ctx := j.context.toNat, sourceType := type, openTime := s.time.now, genesis := 0, prevDigest := j.lastDigest
      lastDigest := j.lastDigest, lastSeq := j.lastSeq, nextSeq := j.lastSeq + 1, offset := j.streamEnd }
    s.setLane l {
      led := j, inflight := j.accepted - j.durable - j.lost, scanned := s.journal.valid && !j.isOpen
      obj := if j.isOpen then some o else none, fill := s.newFill l, signedSeq := j.recordSeq, signedDigest := j.lastRecord
      copeBricks := s.laneCfg l 6, copePeriod := s.laneCfg l 7 }

/-- Every lane at a start, its keys bound; the lanes with a SOURCE_TYPE open (R370 step 11, R428). -/
def State.startLanes (s : State) : State :=
  let ls := List.range 256
  let a := (ls.foldl State.startLane s).rebindAll
  (ls.filter fun l => a.laneCfg l 1 != 0).foldl State.openLane a

/-! ### The end of a start (R220, R306, R313, R357, R364) -/

/-- Each source's SLEEP_COUNT enters it as that many arrivals (R220). -/
def State.wakeCounts (s : State) : State :=
  let a := s.watcher.sleepCount.foldl (fun (t : State) e => t.raiseN e.1 e.2.toNat) s
  { a with watcher := { a.watcher with sleepCount := [] } }

/-- The dictionary answers; the boot-up message (R305, R306). -/
def State.dictReady (s : State) : State :=
  { s with dict := { s.dict with ready := true, nmt := .preOperational, nmtSent := s.dict.nmtSent ++ [.initialisation] } }

/-- After a rung 3 or 4, once lanes record: source 243 and the EMCY message (R307, R357). -/
def State.afterRung (s : State) (cause : Nat) : State :=
  if cause = 3 then (s.raise 243).emcy 0x6000 7 true 243 0x0902
  else if cause = 2 then (s.raise 243).emcy 0x6000 7 true 243 0x0903
  else s

/-- A test of the entropy source fails: it stops supplying, is counted, source 252 (R322). -/
def State.trngFails (s : State) : State :=
  { s with sec := { s.sec with trngOk := false, trngBad := true, trngFails := satAdd s.sec.trngFails 1 } }.raise 252

/-- A start of a kind, up to step 11 of R370 (R368 to R371); it stops where the start-up tests of the entropy source fail (R322, R323; log
entry 115). Requests held until the restore are served by the command. -/
def State.start (s : State) (cause : Nat) : State :=
  let a := s.startWipe cause
  let b := { a with sec := { a.sec with fuse := a.sec.fuse.finish } }
  if b.sec.trngBad then ({ b with power := { b.power with phase := .noImage } }).trngFails
  else
    let c := b.drawKeys
    match c.boot with
    | none => c.bootStop
    | some d =>
      let e := ((d.restoreDict.applyDict).dictReady).wakeCounts.raise 219
      e.startLanes.afterRung cause

end Sys2Proof.Machine
end

