-- ==== Sys2Proof/Machine/Restarting.lean ====
section
/-! DEFINITION. What follows once the SSDs are ready: the members and their labels, the rebuild of the context table, the restart scan
(R50, R78 to R80, R126, R127, R385). -/
namespace Sys2Proof.Machine

/-! ### Members (R50, R385) -/

/-- A member meets the requirements of R385. -/
def State.meets (s : State) (f : MemberScan) : Bool :=
  let need : Nat := (List.range 256).foldl (fun (n : Nat) l =>
    if s.laneCfg l 1 = 0 then n else Nat.max n ((s.laneCfg l 2 + f.lba - 1) / f.lba * f.lba)) 0
  let streams := ((List.range 256).filter fun l => s.laneCfg l 1 != 0).length
  (f.lba == 512 || f.lba == 4096) && f.metadata == 0 &&
    (if f.zoned then (f.zasl == 0 || decide (need ≤ f.zasl)) && decide (0x4000000 ≤ f.zoneLbas * f.lba) &&
        (f.maxActive == 0 || decide (streams + 3 ≤ f.maxActive))
     else decide (0x40000 ≤ f.mdts))

/-- The label names this device, this wythe and this member (R50). -/
def State.ownLabel (s : State) (m : Nat) (b : Bytes) : Bool :=
  fieldAt b 6 1 == m / 2 && fieldAt b 7 1 == m % 2 && fieldAt b 0x10 4 == s.sec.fuse.serial.toNat

/-- K of a member in LBAs: its own zones, or 1 GiB (R50). -/
def scanK (f : MemberScan) : Nat := if f.zoned then f.zoneLbas else 0x40000000 / f.lba

/-- The member as Identify gives it. -/
def MemberSt.identified (b : MemberSt) (f : MemberScan) : MemberSt :=
  { b with ready := true, zoned := f.zoned, lba := f.lba, zoneLbas := scanK f, zones := f.zones, zasl := f.zasl
           maxActive := f.maxActive }

/-- A member laid out for the first time: LABEL_SEQ 1 in zone 0, region A, the lowest pool zone for coping records (R50). -/
def State.layOut (s : State) (f : MemberScan) (b : MemberSt) : MemberSt :=
  let bytes := scanK f * f.lba
  let z := if bytes = 0 then 0 else (s.cfg 0x2100 0xA + bytes - 1) / bytes
  let x := { b.identified f with z := z, labelSeq := 1, labelZone := 0, labelNext := (b.identified f).lbas (labelLen 1) }
  { x with coping := [{ zone := x.pool, lastMono := 0xFFFFFFFFFFFFFFFF }] }

/-- The write pointer found in a zone, its first LBA where it is empty (R50). -/
def pointerOf (f : MemberScan) (k n : Nat) : Nat :=
  match f.pointers.find? (·.1 == n) with | some e => e.2 | none => n * k

/-- A member as its governing label gives it; COPE_TAIL and the write pointer locate the tail of the active coping zone (R50, R75). -/
def State.laidOut (s : State) (f : MemberScan) (b : MemberSt) (label : Bytes) : MemberSt :=
  let k := scanK f
  let zs := labelZones label
  let act := match zs.getLast? with | some c => c.zone | none => 0
  let tail := (s.journal.now.copeTail.look 0 f.member.val).toNat
  let inZone := decide (act * k ≤ tail) && decide (tail ≤ (act + 1) * k)
  let lz := match f.labels.find? fun (e : Fin 2 × Nat × Bytes) => e.2.2 == label with | some e => e.1.val | none => 0
  { b.identified f with
    z := fieldAt label 0x20 4, labelSeq := BitVec.ofNat 64 (fieldAt label 8 8), labelZone := lz
    labelNext := (((f.labels.filter fun (e : Fin 2 × Nat × Bytes) => e.1.val == lz).foldl (fun (n : Nat) e => Nat.max n e.2.1) 0)) - lz * k
    regionB := fieldAt label 0x24 1 == 1, coping := zs
    copeNext := Nat.max (if inZone then tail - act * k else 0) (pointerOf f k act - act * k)
    copeMono := f.mono }

/-- A member that is not used: its wythe is marked failed, source 144 + port (R50, R385). -/
def State.memberFails (s : State) (m : Nat) : State :=
  { s with wythes := { s.wythes with failed := s.wythes.failed ||| BitVec.ofNat 2 (2 ^ (m / 2)) } }.raise (144 + s.portOf m)

/-- One configured member as it is found (R50, R65, R385). -/
def State.takeMember (s : State) (found : List MemberScan) (m : Nat) : State :=
  match found.find? fun (f : MemberScan) => f.member.val == m with
  | none => s.memberFails m
  | some f =>
    let a := { s with holdup := { s.holdup with model := s.holdup.model.put (s.portOf m) f.model } }
    if !a.meets f then a.memberFails m
    else match governing (f.labels.map fun (e : Fin 2 × Nat × Bytes) => e.2.2) with
      | some b => if a.ownLabel m b then a.modMember m fun x => a.laidOut f x b else a.memberFails m
      | none => if f.empty then a.modMember m fun x => a.layOut f x else a.memberFails m

/-! ### The rebuild of the table (R126, R127) -/

/-- The context and IMAGE_SEQ of an image whose CRC is correct; SELF lies elsewhere in a LOC_EXT record (R117, R118). -/
def imageSelf (b : Bytes) : Option (Nat × Nat) :=
  if leNat (slice b 252 4) ≠ (crc32 (slice b 0 252)).toNat then none
  else if fieldAt b 0 1 = 5 then some (fieldAt b 10 4 / 2 ^ 8 % 0x100000, fieldAt b 16 8)
  else some (fieldAt b 160 4 % 0x100000, fieldAt b 144 8)

/-- The newest image of every context (R127). -/
def newestImages (bs : List Bytes) : Tab (Nat × Bytes) :=
  bs.foldl (fun (t : Tab (Nat × Bytes)) b =>
    match imageSelf b with
    | none => t
    | some (c, n) =>
      match t.find? (·.1 == c) with
      | some e => if e.2.1 < n then t.put c (n, b) else t
      | none => if c = 0 then t else t.put c (n, b)) []

/-- The status of the KIND 1 word for a course that the start ended: power loss, rung 3, or rung 4 (R110, R127). -/
def State.lostCourse (s : State) : Status :=
  if s.journal.now.powerLoss then 0x0904
  else if s.power.resetCause = 3 then 0x0902
  else if s.power.resetCause = 2 ∨ s.power.resetCause = 6 ∨ s.power.resetCause = 7 then 0x0903
  else 0x0904

/-- One image restored: CLAIMED clear (R127). -/
def State.putImage (s : State) (e : Nat × Nat × Bytes) : State :=
  s.setCtx e.1 { CtxRec.ofBytes e.2.2 with claimed := false, claimId := 0 }

/-- The lane entry of the journal gives an OPEN object's LAST_SEQ and OBJ_PAYLOAD (R76, R126). -/
def State.journalFields (s : State) (l : Nat) : State :=
  let e := (s.lane l).led
  let c := e.context.toNat
  if s.journal.valid ∧ e.isOpen ∧ c ≠ 0 ∧ (s.ctxRec c).state = 2 then
    s.modCtx c fun r => { r with lastSeq := e.lastSeq, objPayload := e.streamEnd }
  else s

/-- A course that has not suspended ends: the KIND 1 word where its address is in host form or after a power loss; which word and
engine it names is not preserved, a free value (R110, R127; log entry 2). -/
def State.courseLost (s : State) (c : Nat) : State :=
  let st := s.lostCourse
  let r := s.ctxRec c
  let v := Config.freeBits 51 s.draws
  let a := s.setCourse c { engine := bits v 48 3 + 8 * r.tile.toNat }
  if r.statusAddr.getLsbD 39 || st == 0x0904 then
    a.drawn.endCourse c (v.extractLsb' 0 40) (bits v 40 8) { status := st }
  else a.dropCourse c st

/-- The course of a restored context: held where it had suspended, with cause 9 and what has become pending since the start; else
ended (R110, R127). -/
def State.restoreCourse (kept : BitVec 16) (s : State) (c : Nat) : State :=
  let r := s.ctxRec c
  if c = 0 ∨ !r.course then s
  else if r.suspended then
    ((s.modCtx c fun x => { x with pending := 0x0200 ||| kept }).setCourse c
      { addr := r.resumeAddr, fresh := true, hosted := r.hostBase != 0, mask := suspendMask }).tryResume c
  else s.courseLost c

/-- Runs of contexts that no record is kept for, in order (R123, R127). -/
def freeRuns (used : List Nat) : List (Nat × Nat) := used.foldl freeDrop [(1, 1048575)]

/-- The restored table: images, the free list, the image counter (R127); after a life-cycle change nothing is rebuilt (R128). -/
def State.restoreTable (s : State) (found : List MemberScan) : State :=
  let imgs := newestImages (found.flatMap (·.images))
  let top : Nat := imgs.foldl (fun (n : Nat) e => Nat.max n e.2.1) s.ctx.imageSeq.toNat
  let a := if s.power.resetCause = 6 then s else imgs.foldl (fun (t : State) e => t.putImage (e.1, e.2.1, e.2.2)) s
  let used := a.ctxList.filter fun c => (a.ctxRec c).state != 0
  { a with ctx := { a.ctx with free := freeRuns used, imageSeq := BitVec.ofNat 64 top, restoreDone := true } }

/-- Bytes in use in a member's active log region. -/
def State.logInUse (s : State) (found : List MemberScan) : Tab Nat :=
  found.map fun f => (f.member.val, f.images.length * (s.member f.member.val).lba)

/-- The data zones of a member: those that restored records name, and any other pool zone that is written (R49, R50). -/
def State.memberZones (s : State) (f : MemberScan) : List (Nat × Nat) :=
  let m := f.member.val
  let b := s.member m
  let named := ((s.ctxList.filter fun c => s.holdsObject c).flatMap fun c =>
    (s.zonesOf m c).map fun z => (z, streamKey (s.ctxRec c).lane.toNat (s.ctxRec c).retClass.toNat)).eraseDups
  let other := (f.pointers.filter fun p => decide (b.pool ≤ p.1) && decide (p.1 * b.zoneLbas < p.2) &&
    !b.coping.any (·.zone == p.1) && !named.any (·.1 == p.1)).map fun p => (p.1, 0x10000)
  named ++ other

/-- The retention class of a lane's chain. -/
def State.chainClass (s : State) (l : Nat) : Nat :=
  let c := (s.lane l).led.context.toNat
  if (s.ctxRec c).state = 0 then s.laneCfg l 0xB else (s.ctxRec c).retClass.toNat

/-- The streams of a member as the journal's tails and the write pointers place them (R49, R78, R429). -/
def State.memberStreams (s : State) (f : MemberScan) : Tab StreamPos :=
  let m := f.member.val
  let b := s.member m
  s.lanes.foldl (fun (t : Tab StreamPos) e =>
    let tail := (e.2.led.tail.look 0 m).toNat
    let zone := tail / b.zoneLbas
    if b.pool ≤ zone then t.put (streamKey e.1 (s.chainClass e.1)) { zone := zone, next := Nat.max tail (pointerOf f b.zoneLbas zone) }
    else t) []

/-- What a member holds, as found. -/
def State.placeMember (s : State) (f : MemberScan) : State :=
  let ss := s.memberStreams f
  let zs := s.memberZones f
  s.modMember f.member.val fun b => { b with
    stream := ss, data := zs ++ ((ss.map fun e => (e.2.zone, e.1)).filter fun p => !zs.any (·.1 == p.1)) }

/-- The counter after a power-on start: 2^32 above the highest MONO_COUNT on the wythes (R369). -/
def State.seedMono (s : State) (found : List MemberScan) : State :=
  if s.time.mono.isSome then s
  else
    let top : Nat := found.foldl (fun (n : Nat) f => Nat.max n f.mono.toNat) 0
    { s with time := { s.time with mono := some (BitVec.ofNat 64 (top + 2 ^ 32)) } }

/-! ### The end of the scan (R78 step 6) -/

/-- The lane's restart scan is still due (R78, R79). -/
def State.scanOwed (s : State) (e : Nat × LaneSt) : Bool := !e.2.scanned && (!s.journal.valid || e.2.led.isOpen)

/-- Every lane is done: the header's flags clear and source 218 is raised (R78). -/
def State.scanFinish (s : State) : State :=
  if s.lanes.any s.scanOwed then s
  else
    let a := (s.headLine fun h =>
      { h.formatted with powerLoss := false, lcStarted := false, lcDone := false, ladder := false }).raise 218
    { a with journal := { a.journal with valid := true } }

/-- A lane opened before the restore whose entry names no object takes its context (log entry 38). -/
def State.nameLane (s : State) (l : Nat) : State :=
  if s.journal.valid && !(s.lane l).scanned && !(s.lane l).led.isOpen && (s.lane l).active then s.nameObject l
  else if s.journal.valid && !(s.lane l).led.isOpen then s.modLane l fun x => { x with scanned := true }
  else s

/-- A lane whose OPEN object the journal lost waits for its scan (R79). -/
def State.oweScan (s : State) : State :=
  if s.journal.valid then s
  else (s.ctxList.filter fun c => (s.ctxRec c).state == 2).foldl (fun t c =>
    t.modLane (t.ctxRec c).lane.toNat fun x => { x with scanned := false }) s

/-- What lanes could not do while the SSDs were not ready. -/
def State.lanesGo (s : State) : State :=
  ((s.lanes.map (·.1)).foldl (fun t l => (((t.nameLane l).pump l).issueBrick l).issueRecordsOf l) s).judgeInadequate

/-- The SSDs are ready: members, labels, table, streams, counter; then the lanes that need no scan go on (R50, R78, R126, R127, R369,
R370). -/
def State.restoreContexts (s : State) (found : List MemberScan) : State :=
  let a := s.memberList.foldl (fun t m => t.takeMember found m) s
  let used := found.filter fun f => (a.member f.member.val).ready
  let b := (s.lanes.map (·.1)).foldl State.journalFields ((a.restoreTable used).seedMono found)
  let fs := used
  let c := fs.foldl State.placeMember b
  let d := { c with
    wythes := { c.wythes with ssdsReady := true }
    ctx := { c.ctx with logUsed := c.logInUse fs } }
  let e := (d.ctxList.foldl (fun t c => t.restoreCourse (s.ctxRec c).pending c) d).raise 245
  (((e.flushImages).oweScan).lanesGo).scanFinish

/-- CONTEXT_RESTORE (R127). -/
def execContextRestore (found : List MemberScan) (s : State) : Out :=
  .next (if s.power.phase == .run && !s.wythes.ssdsReady && !s.holdup.declared then s.restoreContexts found else s)

/-! ### The restart scan of a lane (R78, R79) -/

/-- What the scan of a lane has reached: the ledger, the chain's contexts still ahead, bricks that stand in the current one, objects
that ended. -/
structure Scan where
  led   : JEntry
  ahead : List Nat
  count : Nat := 0
  ended : List ObjChain := []
  /-- Bricks whose data were checked (R78, R256). -/
  jobs : Nat := 0
  deriving DecidableEq, Repr

/-- OPEN contexts of a lane, oldest first (R78, R127). -/
def State.openOf (s : State) (l : Nat) : List Nat :=
  let cs := s.ctxList.filter fun c => (s.ctxRec c).state == 2 && (s.ctxRec c).lane.toNat == l
  let key := fun c => (s.ctxRec c).openMono.toNat * 2 ^ 64 + (s.ctxRec c).imageSeq.toNat
  cs.mergeSort fun a b => decide (key a ≤ key b)

/-- The chain of a restored object at the place that a ledger entry names. -/
def State.chainAt (s : State) (l c : Nat) (e : JEntry) (n : Nat) : ObjChain :=
  let r := s.ctxRec c
  { ctx := c, sourceType := r.sourceType.toNat, openTime := r.openTime, genesis := s.genesis l c r.openTime
    nextSeq := e.lastSeq + 1, offset := e.streamEnd, prevDigest := e.lastDigest, lastSeq := e.lastSeq, lastDigest := e.lastDigest
    durableSince := n, restart := true, restartData := true }

/-- A restored object of which no brick stands. -/
def State.chainFresh (s : State) (l c : Nat) : ObjChain :=
  let g := s.genesis l c (s.ctxRec c).openTime
  s.chainAt l c { lastDigest := g } 0

/-- The extent of brick n of the current object on a wythe, with its LBA: at the tail, or where it is found when the journal is lost
(R78 step 1, R79). -/
def State.tailRead (s : State) (md : Medium) (l w : Nat) (e : JEntry) (n : Nat) : Nat × Found :=
  let m := s.brickMember w l n
  if s.journal.valid then ((e.tail.look 0 m).toNat, mediumAt md m (e.tail.look 0 m).toNat)
  else match md.find? fun (x : Extent) => x.member.val == m && (match x.res with
      | .data b => headerConst b && hLane b == l && hCtx b == e.context.toNat && hSeq b == n
      | _ => false) with
    | some x => (x.lba, mediumAt md m x.lba)
    | none => (0, .missing)

/-- Header, payload and trailer of a brick. -/
def brickBody (b : Bytes) : Bytes := b.take (576 + hLen b)

/-- The bytes of the next brick where it stands: present and identical on every configured wythe, the next link of the chain (R78
steps 1 to 3). -/
def State.standing (s : State) (md : Medium) (l : Nat) (e : JEntry) : Option Bytes :=
  let n := (e.lastSeq + 1).toNat
  let rs := s.wytheList.map fun w => (s.tailRead md l w e n).2
  match rs.head? with
  | some (.bytes b) =>
    let same := rs.all fun r => match r with | .bytes x => brickBody x == brickBody b | _ => false
    if same && checkBrick b (some e.lastDigest) == 0 && hLane b == l && hCtx b == e.context.toNat && hSeq b == n then some b else none
  | _ => none

/-- The check of the data that stand at the tail, if any do, without being the next brick (R78). -/
def State.tailJob (s : State) (md : Medium) (l : Nat) (e : JEntry) : Nat :=
  match s.wytheList.head? with
  | some w => (match (s.tailRead md l w e (e.lastSeq + 1).toNat).2 with | .bytes _ => 1 | _ => 0)
  | none => 0

/-- The ledger after a standing brick. A gap brick adds its LOST_COUNT to LOST; with a valid journal no more than still stands
INFLIGHT, since the rest was counted when the gap's digest was complete (R21, R41, R54, R78 step 2; log entry 69). -/
def State.stoodLed (s : State) (md : Medium) (l : Nat) (e : JEntry) (b : Bytes) : JEntry :=
  let n := (e.lastSeq + 1).toNat
  let tails := s.wytheList.foldl (fun (t : Tab W64) w =>
    let m := s.brickMember w l n
    t.put m (BitVec.ofNat 64 ((s.tailRead md l w e n).1 + (s.member m).lbas (hExtent b)))) e.tail
  let a := { e with lastSeq := e.lastSeq + 1, lastDigest := tDigest b, tail := tails }
  let held : Nat := a.accepted.toNat - a.durable.toNat - a.lost.toNat
  let n2 : Nat := if s.journal.valid then Nat.min (hLost b) held else hLost b
  let d := if hKind b = 2 then { a with lost := a.lost + BitVec.ofNat 64 n2 }
    else { a with durable := a.durable + BitVec.ofNat 64 (hLen b), streamEnd := a.streamEnd + BitVec.ofNat 64 (hLen b) }
  if d.accepted.toNat < d.durable.toNat + d.lost.toNat then { d with accepted := d.durable + d.lost } else d

/-- BRICK_COUNT of an object's next record: its bricks that became DURABLE since the lane's last record, from LAST_SEQ of that record
where it covers the object, all of them behind the close of the object before it; behind a razing record, those since the object's own
last record (R46; log entry 107). -/
def State.sinceRecord (s : State) (md : Medium) (l c : Nat) (e : JEntry) : Nat :=
  let all := (e.lastSeq + 1).toNat
  let own := fun (n : Nat) => md.findSome? fun (x : Extent) => match x.res with
    | .data b => if s.checkRecord b == 0 && rLane b == l && rSeq b == n then some b else none
    | _ => none
  let past := ((List.range (e.recordSeq.toNat + 1)).reverse.filterMap own).find? fun b => rCtx b == c
  match own e.recordSeq.toNat with
  | none => if e.recordSeq = 0 then all else 0
  | some b =>
    if rCtx b = c then (e.lastSeq - BitVec.ofNat 64 (fieldAt b 0x18 8)).toNat
    else if fieldAt b 8 1 = 3 then all
    else match past with
      | some d => (e.lastSeq - BitVec.ofNat 64 (fieldAt d 0x18 8)).toNat
      | none => all

/-- The context record after a standing brick (R117, R126). -/
def State.stoodCtx (s : State) (md : Medium) (l : Nat) (e : JEntry) (b : Bytes) : State :=
  let n := (e.lastSeq + 1).toNat
  let places := s.wytheList.map fun w => (s.brickMember w l n, (s.tailRead md l w e n).1)
  let k : Brick := { header := [], payload := slice b 512 (hLen b), ctx := e.context.toNat, seq := e.lastSeq + 1, streamEnd := 0
                     last := false, lost := 0, extent := 0 }
  s.modCtx e.context.toNat fun r => r.brickDone k places

/-- The scan goes on from standing brick to standing brick, over the end of an object into the next (R78 step 2). -/
def State.scanChain (s : State) (md : Medium) (l : Nat) (x : Scan) : Nat → State × Scan
  | 0 => (s, x)
  | fuel + 1 =>
    if !x.led.isOpen then (s, x)
    else match s.standing md l x.led with
    | none => (s, { x with jobs := x.jobs + s.tailJob md l x.led })
    | some b =>
      let e := s.stoodLed md l x.led b
      let t := s.stoodCtx md l x.led b
      if !hLast b then t.scanChain md l { x with led := e, count := x.count + 1, jobs := x.jobs + 1 } fuel
      else
        let o := t.chainAt l e.context.toNat e (t.sinceRecord md l e.context.toNat e)
        let u := (t.closeCtx o.ctx).image o.ctx
        match x.ahead with
        | [] => (u, { led := { e with isOpen := false }, ahead := [], ended := x.ended ++ [o], jobs := x.jobs + 1 })
        | c :: r =>
          u.scanChain md l { led := e.startObject (u.chainFresh l c), ahead := r, ended := x.ended ++ [o], jobs := x.jobs + 1 } fuel

/-! ### Coping records beyond the journal (R78 step 4, R79) -/

/-- The bytes of record n of a lane where it stands on every configured wythe. -/
def State.recordStands (s : State) (md : Medium) (l n : Nat) (p : Bytes → Bool) : Option (Bytes × List (Nat × Nat)) :=
  let hits := s.wytheList.map fun w =>
    let m := s.memberFor w n
    (md.find? fun (x : Extent) => x.member.val == m && (match x.res with
      | .data b => rLane b == l && rSeq b == n && s.checkRecord b == 0 && p b && (s.member m).coping.any (·.zone == x.lba / (s.member m).zoneLbas)
      | _ => false)).map fun x => (x, m)
  match hits.head? with
  | some (some (x, _)) =>
    match x.res with
    | .data b =>
      let same := hits.all fun h => match h with
        | some (y, _) => (match y.res with | .data d => d.take 1024 == b.take 1024 | _ => false)
        | none => false
      if same then some (b.take 1024, hits.filterMap fun h => h.map fun y => (y.2, y.1.lba)) else none
    | _ => none
  | _ => none

/-- RECORD_SEQ, LAST_RECORD and the coping tails advance over records that stand beyond the journal (R78 step 4). -/
def State.scanRecords (s : State) (md : Medium) (l : Nat) (e : JEntry) : Nat → State × JEntry
  | 0 => (s, e)
  | fuel + 1 =>
    match s.recordStands md l (e.recordSeq + 1).toNat fun b => BitVec.ofNat 384 (beNat (slice b 0x58 48)) == e.lastRecord with
    | none => (s, e)
    | some (b, places) =>
      let t := s.headLine fun h => { h with copeTail := places.foldl (fun (t : Tab W64) p =>
        let next := p.2 + (s.member p.1).lbas 1024
        if (t.look 0 p.1).toNat < next then t.put p.1 (BitVec.ofNat 64 next) else t) h.copeTail }
      t.scanRecords md l { e with recordSeq := e.recordSeq + 1, lastRecord := Config.sha384 b } fuel

/-- The newest record of a lane that stands and passes `p` (R79). -/
def State.newestRecord (s : State) (md : Medium) (l : Nat) (p : Bytes → Bool) : Option Bytes :=
  let seqs := (md.filterMap fun (x : Extent) => match x.res with | .data b => if rLane b = l then some (rSeq b) else none | _ => none)
  (seqs.mergeSort fun a b => decide (b ≤ a)).findSome? fun n => (s.recordStands md l n p).map (·.1)

/-- A lane's ledger taken from a record, over what has been counted since the start (R79). -/
def JEntry.fromRecord (e : JEntry) (b : Bytes) : JEntry :=
  let n := fun o => BitVec.ofNat 64 (fieldAt b o 8)
  { e with accepted := n 0x88 + e.accepted, durable := n 0x90, lost := n 0xA0, refused := n 0xA8 + e.refused
           recordSeq := BitVec.ofNat 64 (rSeq b), lastRecord := Config.sha384 b }

/-- Where the scan of a lane starts when the journal is unavailable: the newest record of an open object, else the newest record of the
lane (R79). -/
def State.scanLost (s : State) (md : Medium) (l : Nat) (e : JEntry) : Scan :=
  let cs := s.openOf l
  let start := fun (e : JEntry) => match cs with
    | [] => { led := { e with isOpen := false }, ahead := [] }
    | c :: r => ({ led := e.startObject (s.chainFresh l c), ahead := r } : Scan)
  match s.newestRecord md l fun b => cs.contains (rCtx b) with
  | some b =>
    let a := { e.fromRecord b with
      context := BitVec.ofNat 20 (rCtx b), isOpen := true, lastSeq := BitVec.ofNat 64 (fieldAt b 0x18 8)
      lastDigest := BitVec.ofNat 384 (beNat (slice b 0x28 48)), streamEnd := (s.ctxRec (rCtx b)).objPayload }
    { led := a, ahead := (cs.dropWhile (· != rCtx b)).drop 1 }
  | none => match s.newestRecord md l fun _ => true with
    | some b => start (e.fromRecord b)
    | none => start e

/-- Where the scan of a lane starts: at its journal entry, when its object was restored (R78). -/
def State.scanStart (s : State) (md : Medium) (l : Nat) : Scan :=
  let e := (s.lane l).led
  if !s.journal.valid then s.scanLost md l e
  else { led := e, ahead := (s.openOf l).filter (· != e.context.toNat) }

/-! ### The declaration and the lane's next object (R42, R78 step 5, R80) -/

/-- GAP_STATUS of the restart scan (R78). -/
def State.gapStatus (s : State) : Status :=
  if !s.journal.valid then 0x0405
  else if s.journal.now.powerLoss && !s.journal.now.lcDone then 0x0403
  else 0x0404

/-- The object that the lane continues with: the newest restored one, where the lane is still configured as it was; else a new one
where the lane is configured, or a loss has no object to stand in (R30, R41, R78). -/
def State.scanTarget (s : State) (l : Nat) (cur : Option ObjChain) (rest : List ObjChain) (n : Nat) : Option ObjChain × State :=
  let type := s.laneCfg l 1
  let newest := match rest.getLast? with | some o => some o | none => cur
  let time := match (s.lane l).obj with | some p => if p.ctx = 0 then p.openTime else s.time.now | none => s.time.now
  let take := match s.openStreams l (s.laneCfg l 0xB) with
    | none => (newest, s)
    | some t => match t.takeObjectAt l time with
      | some (o, u) => (some o, u)
      | none => (newest, s.raise 245)
  match newest with
  | some o => if type = 0 then (none, s) else if o.sourceType = type then (some o, s) else take
  | none => if type = 0 ∧ n = 0 then (none, s) else take

/-- An empty LAST brick ends the lane's object; what stands in the filling buffer goes to the next one (R30, R80). -/
def State.closeEmpty (s : State) (l : Nat) (next : Option ObjChain) : State :=
  let f := (s.lane l).fill
  let a := (s.modLane l fun x => { x with fill := s.newFill l }).closeBrick l 4 true 0
  (a.handOver l next).modLane l fun x => { x with fill := f }

/-- The lane as the scan leaves it: `cur` is the object that the chain has reached, `rest` newer ones, `n` bytes to declare (R42, R78
step 5, R80, R429). -/
def State.scanSettle (s : State) (l : Nat) (x : Scan) (n : Nat) : State :=
  let cur := if x.led.isOpen ∧ (s.ctxRec x.led.context.toNat).state = 2 then some (s.chainAt l x.led.context.toNat x.led x.count) else none
  let rest := x.ahead.map fun c => s.chainFresh l c
  let tgt := s.scanTarget l cur rest n
  let past := (rest.filter fun o => tgt.1 != some o).foldl (fun (t : State) o => (t.closeCtx o.ctx).image o.ctx) tgt.2
  let set := fun (o : Option ObjChain) (e : JEntry) => past.modLane l fun y => { y with
    scanned := true, led := e, obj := o, inflight := y.inflight, signedSeq := e.recordSeq, signedDigest := e.lastRecord }
  let gap := fun (t : State) (ends : Option (Option ObjChain)) =>
    t.modLane l fun y => { y with acts := .gap n s.gapStatus ends :: y.acts }
  let start := match tgt.1 with | some o => x.led.startObject o | none => { x.led with isOpen := false }
  match cur with
  | none => if n = 0 then set tgt.1 start else gap (set tgt.1 start) (if s.laneCfg l 1 = 0 then some none else none)
  | some o =>
    if tgt.1 = some o then (if n = 0 then set cur x.led else gap (set cur x.led) none)
    else if n ≠ 0 then gap (set cur x.led) (some tgt.1)
    else if rest.isEmpty then (set cur x.led).closeEmpty l tgt.1
    else
      let t := set tgt.1 start
      (t.closeCtx o.ctx).image o.ctx

/-- The KIND 03h records of objects whose LAST brick the scan found standing (R30, R78). -/
def State.scanEnded (s : State) (l : Nat) (os : List ObjChain) : State :=
  os.foldl (fun t o => t.recordDue l { kind := 3, ctx := o.ctx, read := some (t.ledgerRead l o) }) s

/-- The bindings of an open lane follow its object; its share is recomputed (R60, R130). -/
def State.scanOpened (s : State) (l : Nat) : State :=
  match (s.lane l).obj with
  | some o => if (s.lane l).active then s.retarget l o.ctx else s
  | none => s

/-- LAST_LBA of an OPEN object at the place that the scan has reached: on each member its last extent up to LAST_SEQ (R126). -/
def State.lastPlaces (s : State) (md : Medium) (e : JEntry) : State :=
  let c := e.context.toNat
  let at_ := fun (m : Nat) => (md.filterMap fun (x : Extent) => match x.res with
    | .data b => if x.member.val = m ∧ headerConst b ∧ hCtx b = c ∧ hSeq b ≤ e.lastSeq.toNat then some x.lba else none
    | _ => none).getLast?
  if e.isOpen ∧ e.lastSeq ≠ 0xFFFFFFFFFFFFFFFF ∧ (s.ctxRec c).state = 2 then
    s.modCtx c fun r => { r with lastLba := s.memberList.foldl (fun (t : Tab W64) m =>
      match at_ m with | some n => t.put m (BitVec.ofNat 64 n) | none => t) r.lastLba }
  else s

/-- n jobs of the restart scan pass input 14 of the arbiter, in a block in which nothing else asks for a unit yet (R78, R256, R265). -/
def State.scanJobs (s : State) (n : Nat) : State :=
  { s with mortar := { s.mortar with input := s.mortar.input.modify {} 14 fun r =>
      { r with grants := r.grants + BitVec.ofNat 32 n, completed := r.completed + BitVec.ofNat 32 n } } }

/-- The restart scan of one lane (R78 to R80). -/
def State.scanLane (s : State) (l : Nat) (md : Medium) : State :=
  let x := s.lane l
  let x0 := s.scanStart md l
  let staged := x.fill.payload.length
  let r := s.scanChain md l x0 (md.length + 1)
  let c := r.1.scanRecords md l r.2.led (md.length + 1)
  let led := c.2
  let owed := led.accepted.toNat - led.durable.toNat - led.lost.toNat
  let shift := x0.led.accepted - x.led.accepted
  let a := (c.1.scanJobs (r.2.jobs + (led.recordSeq - r.2.led.recordSeq).toNat)).modLane l fun y => { y with
    inflight := BitVec.ofNat 64 owed, fill := { y.fill with base := y.fill.base + shift } }
  let b := (a.lastPlaces md led).scanSettle l { r.2 with led := led, count := a.sinceRecord md l led.context.toNat led } (owed - staged)
  ((((b.scanEnded l r.2.ended).scanOpened l).lineOf l).pump l).scanFinish.judgeInadequate

/-- RESTART_SCAN: nothing before the SSDs are ready, after a declaration, or on a lane that needs no scan (R74, R78, R127). -/
def execRestartScan (l : Lane) (md : Medium) (s : State) : Out :=
  .next (if s.wythes.ssdsReady && !s.holdup.declared && s.scanOwed (l.val, s.lane l) then (s.scanLane l md).laneMoved l else s)

end Sys2Proof.Machine
end

