-- ==== Sys2Proof/Machine/DictOwner.lean ====
section
/-! DEFINITION. What a write of each entry of the object dictionary does where its owner gives more than a value: the refusals of the
owning function and the effects (chapter 15 and the entries of the other chapters). -/
namespace Sys2Proof.Machine

/-- The state after a request and its answer; none where the answer comes later (R304, R311). -/
abbrev Served := State × Option Answer

/-- A request answered at once. -/
def State.ok (s : State) : Served := (s, some accepted)
/-- A request refused at once. -/
def State.no (s : State) (a : Answer) : Served := (s, some a)

/-! ### Stores (R311, R312) -/

/-- The copy that a store writes, and its COPY_SEQ (R312). -/
def State.nextCopy (s : State) : Nat × Nat :=
  match s.newestCopy with
  | some k => (1 - k, copySeq (s.sec.config.look [] k) + 1)
  | none => (0, 1)

/-- A store is asked for: refused in BLANK and after a declaration, else begun with the values of this instant (R311, R312). -/
def State.askStore (s : State) (p : Path) (load : Bool) : Served :=
  if s.sec.fuse.lc = 0 then s.no (refused 0x08000022)
  else if s.holdup.declared then s.no (refusedBy 0x0402)
  else
    let b := s.copyBytes s.nextCopy.2 (s.configEntries load)
    ({ s with sec := { s.sec with storing := some (b, s.nextCopy.1, p) } }, none)

/-! ### Sessions (R303, R315, R335) -/

/-- The session of a path ended. -/
def State.endSession (s : State) (n : Nat) : State := { s with dict := { s.dict with session := s.dict.session.del n } }

/-- A response is refused, with source 251 (R303). -/
def State.responseRefused (s : State) (a : Answer) : Served := (s.raise 251).no a

/-- The message that a response signs (R303). -/
def State.challengeText (s : State) (p : Path) (k : Byte) (c : Bytes) : Bytes :=
  c ++ toLE 4 s.sec.fuse.serial.toNat ++ [BitVec.ofNat 8 (pathNum p), k]

/-- A write of RESPONSE (R303, R335). -/
def State.response (s : State) (p : Path) (v : Bytes) : Served :=
  let n := pathNum p
  let k := (v.getD 0 0).toNat
  let key := s.dictBytes 0x4802 (k + 1)
  if !(s.sec.fuse.lc == 1 || s.sec.fuse.lc == 2 || s.sec.fuse.lc == 3) then s.responseRefused (refused 0x08000022)
  else match s.dict.challenge.find? (·.1 == n) with
  | none => s.responseRefused (refused 0x08000000)
  | some c =>
    if 3 < k ∨ key.isEmpty then s.responseRefused (refusedBy 0x0804)
    else if s.cfg 0x4802 5 / 2 ^ k % 2 = 1 then s.responseRefused (refusedBy 0x0806)
    else if n = 1 ∧ s.dict.session.any (fun e => e.1 == 1 && e.2.2 != pathPeer p) then s.responseRefused (refused 0x08000021)
    else if !Config.ecdsaVerify key (s.challengeText p (v.getD 0 0) c.2) (slice v 1 96) then s.responseRefused (refused 0x08000000)
    else
      { s with dict := { s.dict with
          challenge := s.dict.challenge.del n, session := s.dict.session.put n (k, pathPeer p) } }.ok

/-- KEYS_REVOKED: a revoked key's sessions end (R315). -/
def State.revoke (s : State) (v : Bytes) : State :=
  let n := leNat v
  let t := s.setDict 0x4802 5 v
  { t with dict := { t.dict with session := t.dict.session.filter fun e => n / 2 ^ e.2.1 % 2 == 0 } }

/-- SERVICE_KEYk: in force, and stored at once; not stored in BLANK; where the store fails the entry is unchanged (R301, R311). -/
def State.serviceKey (s : State) (p : Path) (n : Nat) (v : Bytes) : Served :=
  if s.sec.fuse.lc = 0 then (s.setDict 0x4802 n v).ok
  else if s.holdup.declared then s.no (refusedBy 0x0402)
  else
    let t := s.setDict 0x4802 n v
    ({ t with dict := { t.dict with keyPending := some n } } : State).askStore p false

/-! ### Lanes (R30 to R32, R60, R134, R284, R331, R385, R428) -/

/-- A lane that is not open is tried (R428). -/
def State.tryOpen (s : State) (l : Nat) : State := if (s.lane l).active then s else s.openLane l

/-- A key of the lane taken out of the table. -/
def State.unbind (s : State) (l : Nat) (k : BitVec 320) : State := (s.bindRemove k).orderDel l k

/-- KEYn emptied and its entry removed (R134). -/
def State.dropKey (s : State) (l n : Nat) : State :=
  let old := s.dictBytes (0x3200 + l) n
  if old.isEmpty then s else (s.unbind l (keyOfBytes old)).setDict (0x3200 + l) n []

/-- A lane that becomes one of type 08h keeps no key but one of KEY_TYPE 07h in KEY0 (R284; log entry 110). -/
def State.oneKey (s : State) (l : Nat) : State :=
  let a := ([2, 3, 4].foldl (fun (t : State) n => t.dropKey l n) s).forgetLearned l
  if bits (keyOfBytes (a.dictBytes (0x3200 + l) 1)) 0 8 = 7 then a else a.dropKey l 1

/-- A lane without a SOURCE_TYPE or its key: it closes where it is open, with 030Ah in OPEN_STATUS (R30, R284, R428). -/
def State.shutLane (s : State) (l : Nat) : State :=
  let t := if (s.lane l).active || (s.lane l).obj.isSome then s.laneClose l else s
  t.modLane l fun x => { x with openStatus := 0x030A }

/-- SOURCE_TYPE (R30, R32, R284, R428). -/
def State.sourceType (s : State) (l : Nat) (v : Bytes) : State :=
  let was := s.laneCfg l 1
  if leNat v = 0 then ((s.shutLane l).setDict (0x3000 + l) 1 v).laneMoved l
  else
    let t := (if leNat v = 8 ∧ was ≠ 8 then s.oneKey l else s).setDict (0x3000 + l) 1 v
    if !t.keyed l then (t.shutLane l).laneMoved l
    else if (s.lane l).active then (if was = leNat v then t else ((t.renew l).pump l).laneMoved l) else t.openLane l

/-- An entry of a lane's configuration (R32, R385, R428). -/
def State.laneWrite (s : State) (l sub : Nat) (v : Bytes) : Served :=
  if sub = 1 then (s.sourceType l v).ok
  else if sub = 2 then
    (match s.appendLimit with
     | some n => if n < (leNat v + s.maxLba - 1) / s.maxLba * s.maxLba then s.no (refused 0x06090031) else (s.setDict (0x3000 + l) 2 v).ok
     | none => (s.setDict (0x3000 + l) 2 v).ok)
  else if sub = 0xA then ((s.setDict (0x3000 + l) 0xA v).tryOpen l).ok
  else (s.setDict (0x3000 + l) sub v).ok

/-- The lane's oldest learned key. -/
def State.oldestLearned (s : State) (l : Nat) : Option (BitVec 320) :=
  (s.bind.order.look [] l).find? fun k => match s.bind.lookup k with | some e => e.learned | none => false

/-- A key bound as learned becomes configured in place (R134). -/
def State.keepLearned (s : State) (k : BitVec 320) : State :=
  let p := fun (e : BindEntry) => e.key == k
  let f := fun (e : BindEntry) => { e with learned := false, laneBound := true }
  { s with bind := { s.bind with active := s.bind.active.update p f, build := s.bind.build.map fun a => BindArea.update a p f } }

/-- An empty KEYn: its entry goes; the one key of a lane of type 08h closes it; a lane that is not open and has lost its last key shows
030Ah (R134, R284, R428). -/
def State.keyClear (s : State) (l n : Nat) : State :=
  let t := s.dropKey l n
  if t.keyed l then t
  else if s.laneCfg l 1 = 8 then (t.shutLane l).laneMoved l
  else if (t.lane l).active then t
  else t.modLane l fun x => { x with openStatus := 0x030A }

/-- A KEYn set to a key that is not bound yet (R134). -/
def State.keyInsert (s : State) (l n : Nat) (v : Bytes) : Served :=
  let old := s.dictBytes (0x3200 + l) n
  let full := decide (8 ≤ (s.bind.order.look [] l).length) && old.isEmpty
  let a := match full, s.oldestLearned l with | true, some k => s.unbind l k | _, _ => s
  let r := a.bindInsert (a.laneEntry l (keyOfBytes v))
  if !r.1 then r.2.no (refusedBy 0x0501)
  else
    let b := if old.isEmpty then r.2 else r.2.unbind l (keyOfBytes old)
    ((((b.orderAdd l (keyOfBytes v)).setDict (0x3200 + l) n v).keyBinds (keyOfBytes v)).tryOpen l).ok

/-- A write of KEYn (R134). -/
def State.keyWrite (s : State) (l n : Nat) (v : Bytes) : Served :=
  if v.isEmpty then (s.keyClear l n).ok
  else if s.dictBytes (0x3200 + l) n = v then s.ok
  else match s.bind.lookup (keyOfBytes v) with
  | none => s.keyInsert l n v
  | some e =>
    if e.learned && e.lane.toNat == l then
      let old := s.dictBytes (0x3200 + l) n
      let t := if old.isEmpty then s else s.unbind l (keyOfBytes old)
      (((t.keepLearned (keyOfBytes v)).setDict (0x3200 + l) n v).tryOpen l).ok
    else s.no (refused 0x08000021)

/-- EPOCH of a slot: lanes that wait for it are tried (R331, R428). -/
def State.epochWrite (s : State) (n : Nat) (v : Bytes) : State :=
  ((List.range 256).filter fun l => s.laneCfg l 1 != 0 && s.laneCfg l 0xA == n).foldl State.tryOpen (s.setDict (0x4840 + n) 1 v)

/-! ### Wythes (R48, R316) -/

/-- Every lane after a change of the configured set. -/
def State.wytheSettle (s : State) : State :=
  let ls := s.lanes.map (·.1)
  let a := ls.foldl (fun t l => ((((t.issueBrick l).issueRecordsOf l)).settle l).laneMoved l) s
  (((List.range 256).filter fun l => a.laneCfg l 1 != 0).foldl State.tryOpen a).judgeInadequate

/-- A write to 5800h or 5801h+w: refused after a declaration; a cleared bit of WYTHE_SET removes that wythe at once (R48, R71, R316). -/
def State.wytheWrite (s : State) (idx sub : Nat) (v : Bytes) : Served :=
  if s.holdup.declared then s.no (refusedBy 0x0402)
  else
    let t := s.setDict idx sub v
    if idx = 0x5800 ∧ sub = 1 then
      { t with wythes := { t.wythes with configured := t.wythes.configured &&& BitVec.ofNat 2 (leNat v) } }.wytheSettle.ok
    else if idx = 0x5800 then t.ok
    else t.wytheSettle.ok

/-! ### Fuses, images, the life cycle (R326 to R328, R336 to R338, R340) -/

/-- The security block's fuses changed. -/
def State.burn (s : State) (f : Fuses → Fuses) : State := { s with sec := { s.sec with fuse := f s.sec.fuse } }

/-- BOOT_KEY_DIGESTn (R340). -/
def State.digestWrite (s : State) (n : Nat) (v : Bytes) : Served :=
  if s.sec.fuse.bootDigest.look 0 n ≠ 0 then s.no (refused 0x08000021)
  else (s.burn fun f => { f with bootDigest := f.bootDigest.put n (BitVec.ofNat 384 (beNat v)) }).ok

/-- Boot keys present and not revoked, under a set of revocations. -/
def Fuses.bootKeys (f : Fuses) (revoked : BitVec 4) : List Nat :=
  (List.range 4).filter fun k => f.bootDigest.look 0 k != 0 && !revoked.getLsbD k

/-- BOOT_KEY_REVOKE (R328). -/
def State.bootRevoke (s : State) (v : Bytes) : Served :=
  let b := BitVec.ofNat 4 (leNat v)
  let all := s.sec.fuse.bootRevoked ||| b
  if (match s.sec.running with | some r => b.getLsbD r.key | none => false) then s.no (refusedBy 0x0806)
  else if (s.sec.fuse.bootKeys all).isEmpty then s.no (refused 0x06090030)
  else (s.burn fun f => { f with bootRevoked := all }).ok

/-- SEC_EPOCH_FLOOR (R328). -/
def State.floorWrite (s : State) (v : Bytes) : Served :=
  let n := leNat v
  let top := match s.sec.running with | some r => r.secEpoch | none => 0
  if n < s.sec.fuse.secFloor ∨ top < n then s.no (refused 0x06090030) else (s.burn fun f => { f with secFloor := n }).ok

/-- The inactive image slot (R320). -/
def State.inactive (s : State) : Bool := match s.sec.running with | some r => !r.slotB | none => true

/-- IMAGE: written to the inactive slot; above 31 MiB it is refused (R320, R325). -/
def State.imageWrite (s : State) (v : Bytes) : Served :=
  if 0x1F00000 < v.length then s.no (refusedBy 0x0107)
  else { s with sec := { s.sec with slot := s.sec.slot.put s.inactive.toNat v } }.ok

/-- ACTIVATE of 1: the inactive slot verified and recorded for a trial boot; a failure raises source 253 (R320, R326, R327). -/
def State.activate (s : State) : Served :=
  let st := s.imageStatus (s.slotImage s.inactive) (s.storedNumber 0x7000 4)
  if st = 0 then { s with sec := s.sec.writeBoot s.inactive 1 }.ok else (s.raise 253).no (refusedBy st)

/-- The transitions of R336. -/
def lcTransition (a b : Nat) : Bool :=
  (a == 0 && b == 1) || (a == 1 && b == 2) || ((a == 1 || a == 2) && b == 3) || (decide (a < 4) && b == 4)

/-- The identity scalar and device secret drawn from the DRBG: three blocks for 64 and 48 bytes (R329; log entry 3). -/
def State.provision (s : State) : State :=
  let v := s.drbgBlock.toNat * 2 ^ 128 + bits s.drbgNext.drbgBlock 256 128
  let t := s.drbgNext.drbgNext
  t.drbgNext.burn fun f => { f with identity := BitVec.ofNat 384 (v % (Config.curveOrder - 1) + 1), secret := t.drbgBlock }

/-- The steps of an accepted transition; both copies are erased, and the restart follows the answer (R313, R337). -/
def State.lcBurn (s : State) (target : Nat) : State :=
  let a := s.raise 254
  let b := if target = 1 then a.provision else a
  let c := b.burn fun f => { f with lc := target }
  let d := c.burn Fuses.finish
  { d with sec := { d.sec with config := [], restarting := true } }

/-- LC_REQUEST: the cases of R336 in their order. -/
def State.lcRequest (s : State) (v : Bytes) : Served :=
  let f := s.sec.fuse
  let target := fieldAt v 0 1
  let pre := target ≠ 1 ∨ (f.serial ≠ 0 ∧ f.bootKeys f.bootRevoked ≠ [])
  let busy := (List.range 256).any fun l => s.laneCfg l 1 != 0 || (s.lane l).inflight != 0
  if fieldAt v 1 3 ≠ 0 ∨ fieldAt v 4 4 ≠ f.serial.toNat ∨ !lcTransition f.lc target then s.no (refused 0x06090030)
  else if s.holdup.declared then s.no (refusedBy 0x0402)
  else if ¬ pre ∨ busy then s.no (refusedBy 0x0805)
  else (s.lcBurn target).ok

/-! ### Object requests (R318) -/

/-- The action of OBJECT_REQUEST on a context whose handle is right; firmware acts as engine 0 of tile 0 (R318, R319). -/
def State.objectAct (s : State) (c action : Nat) : State × Status :=
  match action with
  | 1 => s.holdReq 0 c true
  | 2 => s.holdReq 0 c false
  | 3 => s.signalReq c 2
  | 4 => s.signalReq c 7
  | 5 => s.signalReq c 4
  | _ => s.stopReq c

/-- OBJECT_REQUEST (R124, R318). -/
def State.objectRequest (s : State) (v : Bytes) : Served :=
  let c := fieldAt v 0 3
  if !s.handleOk c (BitVec.ofNat 16 (fieldAt v 3 2)) then s.staleRef.no (refusedBy 0x0505)
  else
    let r := s.objectAct c (fieldAt v 5 1)
    if r.2 = 0 then { r.1 with dict := { r.1.dict with requests := r.1.dict.requests + 1 } }.ok else r.1.no (refusedBy r.2)

/-! ### Power and time -/

/-- PWR_REQ written: 00b cancels, 01b and 10b ask, 11b is ignored (R363, R372). -/
def Power.ask (p : Power) (n : Nat) : Power :=
  if n = 0 then { p with req := 0, reqPending := false }
  else if n = 3 then p else { p with req := BitVec.ofNat 2 n, reqPending := true }

/-! ### The write of an entry -/

/-- Communication and device-wide entries (R133, R264, R311, R363). -/
def State.deviceWrite (s : State) (p : Path) (idx sub : Nat) (v : Bytes) : Served :=
  match idx, sub with
  | 0x1010, _ => s.askStore p false
  | 0x1011, _ => s.askStore p true
  | 0x2002, 7 => { s with power := s.power.ask (leNat v) }.ok
  | 0x2101, 5 => (if v = [1] then s.rekeyStart else s).ok
  | 0x2200, 1 => (s.setStarveLimit (BitVec.ofNat 16 (leNat v))).ok
  | _, _ => (s.setDict idx sub v).ok

/-- Hold-up entries (R60, R65). -/
def State.holdupWrite (s : State) (idx sub : Nat) (v : Bytes) : Served :=
  if idx = 0x4005 ∧ sub = 3 then (if v = [1] then { s with holdup := { s.holdup with drillAsked := true } } else s).ok
  else if 0x4100 ≤ idx ∧ idx < 0x4200 then ((s.setDict idx sub v).reshare.judgeInadequate).ok
  else (s.setDict idx sub v).ok

/-- Security entries (chapter 16). -/
def State.securityWrite (s : State) (p : Path) (idx sub : Nat) (v : Bytes) : Served :=
  if 0x4840 ≤ idx ∧ idx < 0x4848 then (s.epochWrite (idx - 0x4840) v).ok
  else match idx, sub with
  | 0x4801, 2 => s.response p v
  | 0x4801, 4 => (if v = [1] then s.endSession (pathNum p) else s).ok
  | 0x4802, 5 => (s.revoke v).ok
  | 0x4802, n => s.serviceKey p n v
  | 0x4830, _ => s.lcRequest v
  | 0x4870, 5 => s.bootRevoke v
  | 0x4870, 6 => s.floorWrite v
  | 0x4870, n => s.digestWrite (n - 1) v
  | _, _ => (s.setDict idx sub v).ok

/-- Interface entries (R316, R382, R383). -/
def State.outsideWrite (s : State) (idx sub : Nat) (v : Bytes) : Served :=
  match idx, sub with
  | 0x5800, _ | 0x5801, _ | 0x5802, _ => s.wytheWrite idx sub v
  | 0x5820, 1 => (({ s with time := { s.time with profile := leNat v } } : State).setDict idx sub v).ok
  | 0x5820, 7 => { s with time := { s.time with todNext := some (BitVec.ofNat 80 (leNat v)) } }.ok
  | _, _ => (s.setDict idx sub v).ok

/-- The write of an entry that has passed the checks of R301. -/
def State.writeEntryOf (s : State) (p : Path) (idx sub : Nat) (v : Bytes) : Served :=
  if idx < 0x3000 then s.deviceWrite p idx sub v
  else if idx < 0x3100 then s.laneWrite (idx - 0x3000) sub v
  else if 0x3200 ≤ idx ∧ idx < 0x3300 ∧ sub ≤ 4 then s.keyWrite (idx - 0x3200) sub v
  else if 0x4000 ≤ idx ∧ idx < 0x4800 then s.holdupWrite idx sub v
  else if 0x4800 ≤ idx ∧ idx < 0x5000 then s.securityWrite p idx sub v
  else if 0x5800 ≤ idx ∧ idx < 0x6000 then s.outsideWrite idx sub v
  else match idx, sub with
  | 0x6F00, _ => s.objectRequest v
  | 0x7001, 1 => s.imageWrite v
  | 0x7001, _ => if v = [1] then s.activate else s.ok
  | _, _ => (s.setDict idx sub v).ok

/-- A write request executed: the checks, then the owner (R301). -/
def State.dictWrite (s : State) (p : Path) (idx sub : Nat) (v : Bytes) : Served :=
  let a := s.writeCheck p idx sub v
  if a.good then s.writeEntryOf p idx sub v else s.no a

end Sys2Proof.Machine
end

