-- ==== Sys2Proof/Machine/Dict.lean ====
section
/-! DEFINITION. The service of the object dictionary and its paths (R301, R305 to R310): requests one at a time, CANopen FD, the Bumund
datagram protocol, stores, sessions. -/
namespace Sys2Proof.Machine

/-! ### Requests (R301, R304, R305) -/

/-- A read of CHALLENGE: 48 fresh bytes for the path; without entropy and past the reseed limit the request times out (R303, R323). -/
def State.challenge (s : State) (p : Path) : Served :=
  if !s.sec.trngOk && decide (2 ^ 20 ≤ s.sec.generated) then s.no (refused 0x05040000)
  else
    let b := toBE 48 s.drbgBlock.toNat
    let t := s.drbgNext
    ({ t with dict := { t.dict with challenge := t.dict.challenge.put (pathNum p) b } }, some { data := b })

/-- A read of an entry (R301, R303, R307, R334). -/
def State.dictRead (s : State) (p : Path) (idx sub : Nat) : Served :=
  match findEntry idx sub with
  | .error a => s.no a
  | .ok e =>
    if e.acc = .wo then s.no (refused 0x06010001)
    else if idx = 0x4801 ∧ sub = 1 then s.challenge p
    else if idx = 0x4820 ∧ sub = 1 then
      (if s.hasIdentity then (s, some { data := s.attestation (pathNum p) }) else s.no (refused 0x08000022))
    else if (dictEntry idx sub).isNone then (s, some { data := e.dflt })
    else if idx = 0x1001 then
      ({ s with dict := { s.dict with errorReg := s.dict.errorReg &&& 4 } }, some { data := s.dictValue p idx sub })
    else (s, some { data := s.dictValue p idx sub })

/-- A complete request executed (R301). -/
def State.perform (s : State) (p : Path) (idx sub : Nat) (v : Option Bytes) : Served :=
  match v with
  | none => s.dictRead p idx sub
  | some b => s.dictWrite p idx sub b

/-- LAST_DICT_STATUS of a path (R304, R315). -/
def State.noteStatus (s : State) (n : Nat) (st : Status) : State :=
  if n < 3 then { s with dict := { s.dict with lastStatus := s.dict.lastStatus.put n st } } else s

/-- An answer on a path (R304). -/
def State.sendAnswer (s : State) (p : Path) (a : Answer) : State :=
  let t := s.noteStatus (pathNum p) a.status
  { t with reply := t.reply ++ [{ dest := pathNum p, status := a.status, abort := a.abort, data := a.data }] }

/-- A request served: its one answer at once, or later (R304, R311). -/
def State.serveCall (s : State) (q : DictReq) : State :=
  let r := s.perform q.path q.idx.toNat q.sub.toNat q.val
  match r.2 with
  | some a => r.1.sendAnswer q.path a
  | none => r.1

/-! ### USDO (R306) -/

/-- The longest value of an expedited upload (R306; log entry 25). -/
def usdoExpedited : Nat := 56

/-- The transfer of a client set or dropped. -/
def State.setUsdo (s : State) (n : Nat) (x : Option UsdoXfer) : State :=
  { s with dict := { s.dict with usdo := match x with | some v => s.dict.usdo.put n v | none => s.dict.usdo.del n } }

/-- A further transfer is refused: the client has one open, or eight are (R306). -/
def State.usdoFull (s : State) (n : Nat) : Bool := s.dict.usdo.any (·.1 == n) || decide (8 ≤ s.dict.usdo.length)

/-- A transfer in segments begins (R306). -/
def State.usdoBegin (s : State) (n : Nat) (x : UsdoXfer) (a : Answer) : State := (s.setUsdo n (some x)).sendAnswer .canopen a

/-- A segment of a download; the last one makes the request complete (R305, R306). -/
def State.usdoSegment (s : State) (n : Nat) (idx : BitVec 16) (sub : BitVec 8) (total : Nat) (b : Bytes) : State :=
  if total < b.length then (s.setUsdo n none).sendAnswer .canopen (refused 0x05030000)
  else if b.length < total then (s.setUsdo n (some (.down idx sub total b))).sendAnswer .canopen accepted
  else (s.setUsdo n none).serveCall { path := .canopen, idx := idx, sub := sub, val := some b }

/-- The frame begins a transfer, in segments or expedited. -/
def usdoBegins : UsdoOp → Bool
  | .upload _ _ | .download _ _ _ | .beginDown _ _ _ => true
  | .segmentDown _ | .segmentUp _ => false

/-- A USDO frame of a client (R306). -/
def State.usdo (s : State) (node : BitVec 8) (op : UsdoOp) : State :=
  let n := node.toNat
  let x := (s.dict.usdo.find? (·.1 == n)).map (·.2)
  if usdoBegins op && s.usdoFull n then s.sendAnswer .canopen (refused 0x05040005) else
  match op with
  | .upload idx sub =>
    let r := s.perform .canopen idx.toNat sub.toNat none
    (match r.2 with
     | none => r.1
     | some a =>
       if a.good && decide (usdoExpedited < a.data.length) then r.1.usdoBegin n (.up a.data) { data := toLE 4 a.data.length }
       else r.1.sendAnswer .canopen a)
  | .download idx sub v => s.serveCall { path := .canopen, idx := idx, sub := sub, val := some v }
  | .beginDown idx sub total => s.usdoBegin n (.down idx sub total []) accepted
  | .segmentDown b =>
    (match x with
     | some (.down idx sub total d) => s.usdoSegment n idx sub total (d ++ b)
     | _ => s.sendAnswer .canopen (refused 0x05040001))
  | .segmentUp k =>
    (match x with
     | some (.up d) =>
       (s.setUsdo n (if d.length ≤ k then none else some (.up (d.drop k)))).sendAnswer .canopen { data := d.take k }
     | _ => s.sendAnswer .canopen (refused 0x05040001))

/-- USDO is served: in pre-operational and operational (R306). -/
def State.usdoServed (s : State) : Bool := s.dict.nmt == .preOperational || s.dict.nmt == .operational

/-! ### Bumund (R308, R309) -/

/-- Fields of a datagram (R308). -/
def bOp (b : Bytes) : Nat := fieldAt b 5 1
def bLast (b : Bytes) : Bool := fieldAt b 6 1 % 2 == 1
def bSeq (b : Bytes) : W32 := BitVec.ofNat 32 (fieldAt b 8 4)
def bIdx (b : Bytes) : Nat := fieldAt b 0xC 2
def bSub (b : Bytes) : Nat := fieldAt b 0xE 1
def bOffset (b : Bytes) : Nat := fieldAt b 0x10 4
def bLen (b : Bytes) : Nat := fieldAt b 0x14 2
def bTotal (b : Bytes) : Nat := fieldAt b 0x1C 4

/-- A datagram that is not discarded (R308). -/
def bumundOk (b : Bytes) (zeroSum : Bool) : Bool :=
  !zeroSum && decide (32 ≤ b.length) && fieldAt b 0 4 == 0x444E4D42 && fieldAt b 4 1 == 1 && decide (32 + bLen b ≤ b.length) &&
    fieldAt b 6 1 / 2 == 0 && fieldAt b 7 1 == 0 && fieldAt b 0xF 1 == 0

/-- A peer's state, the most recently active first; a 17th replaces the last (R309). -/
def Dict.peer (d : Dict) (id : Nat) : Peer := (d.peers.find? (·.id == id)).getD { id := id }
def State.setPeer (s : State) (x : Peer) : State :=
  { s with dict := { s.dict with peers := (x :: s.dict.peers.filter (·.id != x.id)).take 16 } }

/-- The datagram that answers another; LAST and, in the answer of a WRITE, TOTAL are FREE VALUES `u` (R304, R308; log entry 2). -/
def bumundAnswer (b : Bytes) (a : Answer) (total : Nat) (u : BitVec 33) : Bytes :=
  slice b 0 5 ++ toLE 1 (bOp b + 0x80) ++ toLE 1 (bits u 32 1) ++ [0] ++ slice b 8 4 ++ toLE 2 (bIdx b) ++ toLE 1 (bSub b) ++ [0] ++
    slice b 0x10 4 ++ toLE 2 a.data.length ++ toLE 2 a.status.toNat ++ toLE 4 a.abort.toNat ++
    toLE 4 (if bOp b = 1 then total else bits u 0 32) ++ a.data

/-- The reply that carries an answer datagram to a peer's address and port (R308). -/
def State.datagramOut (s : State) (peer : Nat) (a : Answer) (d : Bytes) : State :=
  { s with reply := s.reply ++ [{ dest := 1, peer := some peer, status := a.status, abort := a.abort, data := d }] }

/-- A datagram answered and its answer kept for the peer (R304, R309). -/
def State.sendDatagram (s : State) (peer : Nat) (b : Bytes) (a : Answer) (total : Nat) : State :=
  let d := bumundAnswer b a total (Config.freeBits 33 s.draws)
  let t := s.drawn.setPeer { s.dict.peer peer with last := some (bSeq b, d), owed := none }
  (t.noteStatus 1 a.status).datagramOut peer a d

/-- A READ: the value taken at one instant at OFFSET 0, and served from then on (R309). -/
def State.bumundRead (s : State) (peer : Nat) (b : Bytes) : State :=
  let x := s.dict.peer peer
  if bOffset b = 0 then
    let r := s.perform (.bumund peer) (bIdx b) (bSub b) none
    let a := r.2.getD accepted
    let t := if a.good then r.1.setPeer { r.1.dict.peer peer with kept := some (bIdx b, bSub b, a.data) } else r.1
    t.sendDatagram peer b { a with data := a.data.take 1408 } a.data.length
  else match x.kept with
  | some (i, n, v) =>
    if i = bIdx b ∧ n = bSub b ∧ bOffset b ≤ v.length then
      s.sendDatagram peer b { data := (v.drop (bOffset b)).take 1408 } v.length
    else s.sendDatagram peer b (refused 0x05030000) 0
  | none => s.sendDatagram peer b (refused 0x05030000) 0

/-- The value of a WRITE so far, with this piece; none where the piece is out of order or TOTAL has changed (R309). -/
def Peer.piece (x : Peer) (b : Bytes) : Option Bytes :=
  let v := slice b 32 (bLen b)
  let all := match x.write with
    | some (i, n, total, d) => if i = bIdx b ∧ n = bSub b ∧ total = bTotal b ∧ d.length = bOffset b then some (d ++ v) else none
    | none => if bOffset b = 0 then some v else none
  match all with
  | none => none
  | some d => if bTotal b < d.length ∨ (bLast b ∧ d.length ≠ bTotal b) then none else some d

/-- A piece of a WRITE; the last one executes it (R309). -/
def State.bumundWrite (s : State) (peer : Nat) (b : Bytes) : State :=
  let x := s.dict.peer peer
  match x.piece b with
  | none => (s.setPeer { x with write := none }).sendDatagram peer b (refused 0x05030000) 0
  | some d =>
    if !bLast b then (s.setPeer { x with write := some (bIdx b, bSub b, bTotal b, d) }).sendDatagram peer b accepted 0
    else
      let r := (s.setPeer { x with write := none }).perform (.bumund peer) (bIdx b) (bSub b) (some d)
      match r.2 with
      | some a => r.1.sendDatagram peer b a 0
      | none => r.1.setPeer { r.1.dict.peer peer with owed := some (slice b 0 32) }

/-- A new request of a peer. -/
def State.freshDatagram (t : State) (peer : Nat) (b : Bytes) : State :=
  if bOp b = 1 then t.bumundRead peer b
  else if bOp b = 2 then t.bumundWrite peer b
  else t.sendDatagram peer b (refused 0x05040001) 0

/-- A datagram of a peer: a repeated SEQ gets the kept answer again (R309). -/
def State.datagram (s : State) (peer : Nat) (b : Bytes) : State :=
  let x := s.dict.peer peer
  let t := s.setPeer x
  if x.owed.any fun h => bSeq h == bSeq b then t
  else match x.last with
  | some (n, d) =>
    if n = bSeq b then
      t.datagramOut peer { status := BitVec.ofNat 16 (fieldAt d 0x16 2), abort := BitVec.ofNat 32 (fieldAt d 0x18 4) } d
    else t.freshDatagram peer b
  | none => t.freshDatagram peer b

/-! ### The host's mailbox path (R310) -/

/-- The request that the slot of a channel spells; bits that the request does not use are reserved (R242, R310; log entry 114). -/
def MboxRow.request (x : MboxRow) : MailReq :=
  let w := fun i => x.slot.look 0 i
  let inl := (w 5).getLsbD 11
  let value := (List.range 30).map fun k => BitVec.ofNat 8 (bits (w (6 + k / 3)) (8 * (k % 3)) 8)
  let used := if inl ∧ bits (w 1) 0 8 = 2 then (w 3).toNat else 0
  { tag := (w 0).extractLsb' 8 16, op := (w 1).extractLsb' 0 8, sub := (w 1).extractLsb' 8 8, idx := (w 2).extractLsb' 0 16
    len := (w 3).toNat, buf := (w 4).toNat + 2 ^ 24 * bits (w 5) 0 11, inline := inl, value := value
    clean := bits (w 1) 16 8 == 0 && bits (w 2) 16 8 == 0 && bits (w 5) 12 12 == 0 &&
      (!inl || (w 4 == 0 && bits (w 5) 0 11 == 0)) && (value.drop used).all (· == 0) }

/-- A device-form buffer in the general DRAM region (R81, R83, R310). -/
def mailBufOk (a n : Nat) : Bool := decide (n = 0) || (devRangeOk a n true && regionOf a == .dram)

/-- What a request is refused with before it is served (R83, R310; log entry 114). -/
def MailReq.check (q : MailReq) : Answer :=
  if !(q.op == 1 || q.op == 2) || !q.clean then refused 0x05040001
  else if q.op = 1 then accepted
  else if q.inline then (if 30 < q.len then refused 0x06070010 else accepted)
  else if mailBufOk q.buf q.len then accepted else refusedBy 0x0103

/-- Words 1 to 15 of an answer (R310). -/
def MailReq.answerWord (q : MailReq) (a : Answer) (i : Nat) : W24 :=
  let byte := fun k => (a.data.getD k 0).toNat
  BitVec.ofNat 24 (match i with
    | 1 => (q.op.toNat + 0x80) % 256 + 256 * q.sub.toNat
    | 2 => q.idx.toNat
    | 3 => a.data.length
    | 4 => a.abort.toNat % 2 ^ 24
    | 5 => a.abort.toNat / 2 ^ 24 + 2 ^ 8 * a.status.toNat
    | _ => if q.inline then leNat [BitVec.ofNat 8 (byte (3 * (i - 6))), BitVec.ofNat 8 (byte (3 * (i - 6) + 1)),
        BitVec.ofNat 8 (byte (3 * (i - 6) + 2))] else 0)

/-- An answer on channel 1,021 with the request's TAG (R304, R310). -/
def State.mailAnswer (s : State) (q : MailReq) (a : Answer) : State :=
  ((List.range 15).foldl (fun (t : State) i => t.mailStage 0 1021 (i + 1) (q.answerWord a (i + 1))) (s.noteStatus 2 a.status)).mailSend
    0 1021 q.tag

/-- A request answered: a value read goes into the words or into BUF (R310; log entry 114). -/
def State.mailDone (s : State) (q : MailReq) (a : Answer) : State :=
  if q.op ≠ 1 ∨ !a.good then s.mailAnswer q { a with data := [] }
  else if q.inline then s.mailAnswer q (if 30 < a.data.length then refused 0x06070010 else a)
  else if mailBufOk q.buf a.data.length then (s.setBytes q.buf a.data).mailAnswer q a
  else s.mailAnswer q (refusedBy 0x0103)

/-- The value that a WRITE brings (R310). -/
def State.mailValue (s : State) (q : MailReq) : Bytes := if q.inline then q.value.take q.len else s.bytesAt q.buf q.len

/-- The request in the slot of channel 1,020 acknowledged, served and answered; a store answers it later (R304, R310, R311). -/
def State.serveMail (s : State) : State :=
  let q := (s.mbox.row 1020).request
  let t := s.mailAck 0 1020 (q.tag.setWidth 24)
  if !q.check.good then t.mailDone q q.check
  else
    let r := t.perform .host q.idx.toNat q.sub.toNat (if q.op = 1 then none else some (t.mailValue q))
    match r.2 with
    | some a => r.1.mailDone q a
    | none => { r.1 with dict := { r.1.dict with mailOwed := some q } }

/-- A message of the host waits on channel 1,020 and channel 1,021 is free for its answer, both bound as firmware binds them (R310). -/
def State.mailWaits (s : State) : Bool :=
  let x := s.mbox.row 1020
  let y := s.mbox.row 1021
  x.full && x.slotSender == 96 && x.valid && x.sender == 96 && x.receiver == 0 && !y.full && y.valid && y.sender == 0 && y.receiver == 96

/-! ### Arrival, holding, serving (R305, R311) -/

/-- The device serves a request now: restored, not on its way to a power state, and no store runs (R305, R311, R363). -/
def State.serving (s : State) : Bool := s.dict.ready && s.sec.storing.isNone

/-- The restart that an accepted life-cycle transition has asked for (R337). -/
def State.lcRestart (s : State) : State := if s.sec.restarting then s.start 6 else s

/-- A request served; an accepted transition restarts the device behind its answer (R305, R337). -/
def State.serveOne (s : State) (q : HeldReq) : State :=
  (match q with
   | .call q => s.serveCall q
   | .usdo n op => if s.usdoServed then s.usdo n op else s
   | .datagram peer b => s.datagram peer b).lcRestart

/-- Held requests served in their order, until a store runs again (R305, R311). -/
def State.serveHeld (s : State) : Nat → State
  | 0 => s
  | n + 1 =>
    if !s.serving then s
    else match s.dict.held with
    | [] => s
    | q :: r => (({ s with dict := { s.dict with held := r } } : State).serveOne q).serveHeld n

/-- Every request held, served if the device serves. -/
def State.serveAll (s : State) : State := s.serveHeld s.dict.held.length

/-- A retransmission of a held Bumund request (R305). -/
def HeldReq.repeats : HeldReq → HeldReq → Bool
  | .datagram p b, .datagram q d => p == q && bSeq b == bSeq d
  | _, _ => false

/-- A request waits; what arrives at a device that does not run is lost (R305). -/
def State.hold (s : State) (q : HeldReq) : State :=
  if !(s.power.phase == .run || s.power.phase == .park) || s.dict.held.any q.repeats then s
  else { s with dict := { s.dict with held := s.dict.held ++ [q] } }

/-- A request arrives: served now or held (R305). -/
def State.arrive (s : State) (q : HeldReq) : State :=
  let t := { s with reply := [] }
  if t.serving then t.serveOne q else t.hold q

/-- A request on a path; path 0 is not served before the boot-up message (R305). -/
def State.request (s : State) (p : Path) (idx sub : Nat) (v : Option Bytes) : State :=
  if p = .canopen ∧ (!s.dict.ready || !s.usdoServed) then s
  else s.arrive (.call { path := p, idx := BitVec.ofNat 16 idx, sub := BitVec.ofNat 8 sub, val := v })

/-! ### The rows: requests -/

/-- DICT_READ (R301). -/
def execDictRead (p : Path) (idx : BitVec 16) (sub : BitVec 8) (s : State) : Out := .next (s.request p idx.toNat sub.toNat none)
/-- DICT_WRITE (R301). -/
def execDictWrite (p : Path) (idx : BitVec 16) (sub : BitVec 8) (v : Bytes) (s : State) : Out :=
  .next (s.request p idx.toNat sub.toNat (some v))
/-- WYTHE_SET_WRITE (R48, R316). -/
def execWytheSetWrite (p : Path) (v : BitVec 8) (s : State) : Out := .next (s.request p 0x5800 1 (some [v]))
/-- KEY_WRITE (R134). -/
def execKeyWrite (p : Path) (l : Lane) (n : Fin 4) (v : Bytes) (s : State) : Out := .next (s.request p (0x3200 + l) (n + 1) (some v))
/-- EPOCH_WRITE (R331); slots are 0 to 7, another index has no entry (R299). -/
def execEpochWrite (p : Path) (slot : Fin 16) (v : BitVec 32) (s : State) : Out :=
  .next (s.request p (0x4840 + slot) 1 (some (toLE 4 v.toNat)))
/-- KEYS_REVOKED (R315). -/
def execKeysRevoked (p : Path) (v : BitVec 8) (s : State) : Out := .next (s.request p 0x4802 5 (some [v]))
/-- STORE_ALL (R311). -/
def execStoreAll (p : Path) (v : Bytes) (s : State) : Out := .next (s.request p 0x1010 1 (some v))
/-- RESTORE_ALL (R311). -/
def execRestoreAll (p : Path) (v : Bytes) (s : State) : Out := .next (s.request p 0x1011 1 (some v))
/-- CHALLENGE (R303). -/
def execChallenge (p : Path) (s : State) : Out := .next (s.request p 0x4801 1 none)
/-- RESPONSE (R303). -/
def execResponse (p : Path) (v : Bytes) (s : State) : Out := .next (s.request p 0x4801 2 (some v))
/-- SESSION_CLOSE (R303). -/
def execSessionClose (p : Path) (s : State) : Out := .next (s.request p 0x4801 4 (some [1]))
/-- TOD_SET (R383, R398). -/
def execTodSet (p : Path) (v : Bytes) (s : State) : Out := .next (s.request p 0x5820 7 (some v))

/-- OBJECT_REQUEST with an ACTION (R318). -/
def State.objectRow (s : State) (p : Path) (c : CtxId) (gen : BitVec 16) (action : Nat) : State :=
  s.request p 0x6F00 1 (some (toLE 3 c.val ++ toLE 2 gen.toNat ++ toLE 1 action ++ [0, 0]))
/-- OBJECT_HOLD_SET (R318). -/
def execObjectHoldSet (p : Path) (c : CtxId) (gen : BitVec 16) (s : State) : Out := .next (s.objectRow p c gen 1)
/-- OBJECT_HOLD_CLEAR (R318). -/
def execObjectHoldClear (p : Path) (c : CtxId) (gen : BitVec 16) (s : State) : Out := .next (s.objectRow p c gen 2)
/-- OBJECT_OFFLOAD (R318). -/
def execObjectOffload (p : Path) (c : CtxId) (gen : BitVec 16) (s : State) : Out := .next (s.objectRow p c gen 3)
/-- OBJECT_RAZE (R318). -/
def execObjectRaze (p : Path) (c : CtxId) (gen : BitVec 16) (s : State) : Out := .next (s.objectRow p c gen 4)
/-- OBJECT_RESUME (R318). -/
def execObjectResume (p : Path) (c : CtxId) (gen : BitVec 16) (s : State) : Out := .next (s.objectRow p c gen 5)
/-- OBJECT_STOP (R318). -/
def execObjectStop (p : Path) (c : CtxId) (gen : BitVec 16) (s : State) : Out := .next (s.objectRow p c gen 6)

/-! ### The rows: sessions and stores -/

/-- CHALLENGE_EXPIRY (R303). -/
def execChallengeExpiry (p : Path) (s : State) : Out :=
  .next { s with dict := { s.dict with challenge := s.dict.challenge.del (pathNum p) } }

/-- SESSION_IDLE_EXPIRY (R303). -/
def execSessionIdleExpiry (p : Path) (s : State) : Out := .next (s.endSession (pathNum p))

/-- The answer of a store on the path that asked (R304, R310, R311). -/
def State.storeAnswer (s : State) (p : Path) (a : Answer) : State :=
  match p with
  | .host => match s.dict.mailOwed with
    | some q => ({ s with dict := { s.dict with mailOwed := none } } : State).mailDone q a
    | none => s.sendAnswer .host a
  | .bumund peer => match (s.dict.peer peer).owed with
    | some h => s.sendDatagram peer h a 0
    | none => s.noteStatus 1 a.status
  | _ => s.sendAnswer p a

/-- The store under way is over: a write-once entry that could not be stored is unwritten again (R301). -/
def State.keyStored (s : State) (ok : Bool) : State :=
  match s.dict.keyPending with
  | none => s
  | some n =>
    let t := if ok then s else s.setDict 0x4802 n []
    { t with dict := { t.dict with keyPending := none } }

/-- CONFIG_STORE_COMPLETE: the copy is read back and verified, or it fails with source 250; what waited is served (R301, R311, R312). -/
def execConfigStoreComplete (ok : Bool) (s : State) : Out :=
  match s.sec.storing with
  | none => .next s
  | some (b, k, p) =>
    let a := ({ s with reply := [], sec := { s.sec with storing := none, config := s.sec.config.put k (if ok then b else []) } } : State).keyStored ok
    let c := if ok then a.storeAnswer p accepted else (a.raise 250).storeAnswer p (refusedBy 0x0707)
    .next c.serveAll

/-! ### The rows: CANopen FD -/

/-- USDO_REQUEST (R305, R306). -/
def execUsdoRequest (node : BitVec 8) (op : UsdoOp) (s : State) : Out :=
  .next (if s.dict.ready && s.usdoServed then s.arrive (.usdo node op) else s)

/-- USDO_SEGMENT_TIMEOUT (R306). -/
def execUsdoSegmentTimeout (node : BitVec 8) (s : State) : Out :=
  .next (if s.dict.usdo.any (·.1 == node.toNat) then
    (({ s with reply := [] } : State).setUsdo node.toNat none).sendAnswer .canopen (refused 0x05040000) else s)

/-- An NMT state entered. -/
def State.setNmt (s : State) (n : Nmt) : State := { s with dict := { s.dict with nmt := n } }

/-- The CANopen layer of controller 0 starts afresh: transfers and path 0's session end, 5810h is in force, boot-up (R306, R316). -/
def State.nmtReset (s : State) : State :=
  if !s.dict.ready then s
  else
    let a := (s.canInit 0).endSession 0
    { a with dict := { a.dict with
        usdo := [], nmt := .preOperational, nmtSent := a.dict.nmtSent ++ [.initialisation], challenge := a.dict.challenge.del 0 } }

/-- NMT_RESET_APPLICATION (R306). -/
def execNmtResetApplication (s : State) : Out := .next s.nmtReset
/-- NMT_RESET_COMMUNICATION (R306). -/
def execNmtResetCommunication (s : State) : Out := .next s.nmtReset

/-- NMT_STATE_COMMAND: start, stop, enter pre-operational (R306; codes of CiA 301, log entry 25). -/
def execNmtStateCommand (cmd : BitVec 8) (s : State) : Out :=
  .next (if !s.dict.ready then s
    else match cmd.toNat with
    | 1 => s.setNmt .operational
    | 2 => s.setNmt .stopped
    | 128 => s.setNmt .preOperational
    | _ => s)

/-- HEARTBEAT: HEARTBEAT_TIME, where it is not 0, elapses (R306, R314). -/
def execHeartbeat (s : State) : Out :=
  .next (if s.cfg 0x1017 0 = 0 ∨ s.dict.nmt = .initialisation then s
    else { s with dict := { s.dict with nmtSent := s.dict.nmtSent ++ [s.dict.nmt] } })

/-! ### The rows: Bumund -/

/-- A datagram of a peer on an Ethernet port: discarded and counted where it is malformed (R308). -/
def State.bumundArrives (s : State) (peer port : Nat) (b : Bytes) (zeroSum : Bool) : State :=
  if s.cfg 0x5811 1 / 2 ^ port % 2 = 0 then s
  else if !bumundOk b zeroSum then { s with dict := { s.dict with discarded := satAdd s.dict.discarded 1 } }
  else s.arrive (.datagram peer b)

/-- BUMUND_DATAGRAM: on an enabled port; a malformed one is discarded and counted (R308, R309). -/
def execBumundDatagram (peer : Nat) (port : Fin 10) (b : Bytes) (zeroSum : Bool) (s : State) : Out :=
  .next (s.bumundArrives peer port b zeroSum)

/-- BUMUND_TRANSFER_IDLE: the peer's transfer and the value kept for it are dropped without an answer (R309). -/
def execBumundTransferIdle (peer : Nat) (s : State) : Out :=
  .next { s with dict := { s.dict with peers := s.dict.peers.map fun x =>
    if x.id = peer then { x with write := none, kept := none } else x } }

end Sys2Proof.Machine
end

