-- ==== Sys2Proof/Machine/Security.lean ====
section
/-! DEFINITION. The rows of the security block (chapter 16). -/
namespace Sys2Proof.Machine

/-! ### Entropy and the DRBG (R322, R323) -/

/-- TRNG_TEST_FAILURE; of a block without power it is the outcome that the start-up tests of the next reset find (R322; log entry 115). -/
def execTrngTestFailure (s : State) : Out :=
  .next (if s.power.phase.powered then s.trngFails else { s with sec := { s.sec with trngBad := true } })

/-- TRNG_RETEST: the start-up tests of a failed source are repeated; of a block without power, what its next tests find (R322; log entry
115). -/
def execTrngRetest (pass : Bool) (s : State) : Out :=
  .next (if s.sec.trngOk then s
    else if !s.power.phase.powered then { s with sec := { s.sec with trngBad := !pass } }
    else if pass then { s with sec := { s.sec with trngOk := true, trngBad := false } }
    else s.trngFails)

/-- DRBG_RESEED: from entropy, where the source supplies (R323). -/
def execDrbgReseed (s : State) : Out :=
  .next (if s.sec.trngOk then { s with sec := { s.sec with reseeds := s.sec.reseeds + 1, generated := 0 } } else s)

/-! ### Dictionary rows (R320, R326, R328, R334, R336, R340) -/

/-- IMAGE (R320). -/
def execImage (p : Path) (v : Bytes) (s : State) : Out := .next (s.request p 0x7001 1 (some v))
/-- ACTIVATE (R326, R327). -/
def execActivate (p : Path) (s : State) : Out := .next (s.request p 0x7001 2 (some [1]))
/-- BOOT_KEY_REVOKE (R328). -/
def execBootKeyRevoke (p : Path) (v : BitVec 8) (s : State) : Out := .next (s.request p 0x4870 5 (some [v]))
/-- SEC_EPOCH_FLOOR (R328). -/
def execSecEpochFloor (p : Path) (v : BitVec 8) (s : State) : Out := .next (s.request p 0x4870 6 (some [v]))
/-- BOOT_KEY_DIGEST (R340). -/
def execBootKeyDigest (p : Path) (n : Fin 4) (v : Bytes) (s : State) : Out := .next (s.request p 0x4870 (n + 1) (some v))
/-- LC_REQUEST (R336, R337). -/
def execLcRequest (p : Path) (v : Bytes) (s : State) : Out := .next (s.request p 0x4830 1 (some v))
/-- ATTEST_REPORT (R334). -/
def execAttestReport (p : Path) (s : State) : Out := .next (s.request p 0x4820 1 none)

end Sys2Proof.Machine
end

