-- ==== Sys2Proof/Machine/Ladder.lean ====
section
/-! DEFINITION. Faults and the recovery ladder (chapter 17; R74, R110, R147, R296, R420), and what follows the end of the last
course. -/
namespace Sys2Proof.Machine

/-! ### Functions (R342) -/

/-- Function f of the ladder. -/
def State.func (s : State) (f : Nat) : FuncSt := s.ladder.func.look {} f

/-- Function f changed by `g`. -/
def State.modFunc (s : State) (f : Nat) (g : FuncSt → FuncSt) : State :=
  { s with ladder := { s.ladder with func := s.ladder.func.modify {} f g } }

/-- Function f has a rung 2 (R342). -/
def hasRung2 (f : Nat) : Bool := isFunc f && f != 0 && f != 0x6F && !(decide (0x60 ≤ f) && decide (f ≤ 0x65))

/-! ### Counts and records (R343, R356) -/

/-- An entry at a rung counted for its function and in RUNG_TOTALS (R319, R356). -/
def State.countRung (s : State) (f rung : Nat) : State :=
  let a := s.modFunc f fun x => match rung with
    | 1 => { x with rung1 := satAdd x.rung1 1 }
    | 2 => { x with rung2 := satAdd x.rung2 1 }
    | 3 => { x with rung3 := satAdd x.rung3 1 }
    | _ => { x with rung4 := satAdd x.rung4 1 }
  { a with ladder := { a.ladder with totals := a.ladder.totals.modify 0 (rung - 1) (satAdd · 1) } }

/-- The times that lie within the last `ms` milliseconds. -/
def State.within (s : State) (ms : Nat) (ts : List Nat) : List Nat := ts.filter fun t => decide (s.aon < t + 76800 * ms)

/-- LAST_FAULT (R347, R356; log entry 41). -/
def State.noteFault (s : State) (f rung : Nat) (external : Bool) (st : Status) : State :=
  { s with ladder := { s.ladder with
      lastFault := [BitVec.ofNat 8 f, BitVec.ofNat 8 rung, BitVec.ofNat 8 external.toNat, 0] ++ toLE 4 st.toNat ++
        toLE 10 s.time.now.toNat ++ toLE 6 0 } }

/-- A fault joins the episode under way (R343). -/
def State.joinFault (s : State) : State := { s with ladder := { s.ladder with joined := satAdd s.ladder.joined 1 } }

/-! ### The end of what uses a function (R110, R345, R420) -/

/-- The courses whose APPEND is under way at a root port. -/
def State.appending (s : State) (port : Nat) : List Nat :=
  (s.nvme.filter (·.port == port)).filterMap fun n => match n.use with | .append c .. => some c | _ => none

/-- The courses whose INGEST takes units that come through function f (R110; log entry 42). -/
def State.ingesting (s : State) (f : Nat) : List Nat :=
  (s.lanes.filter fun e => (s.bind.order.look [] e.1).any fun k => keyFunc k == f).filterMap fun e => e.2.ingest

/-- Every operation that uses function f ends with a status (R110, R345). -/
def State.breakUsers (s : State) (f : Nat) (st : Status) : State :=
  let a := ((s.raws.filter fun r => rawFunc r == f).map (·.owner)).foldl (fun t o => t.endOp o st) s
  let b := (s.func f).retries.foldl (fun (t : State) r => match r.op with | .raw o => t.endOp o st | _ => t) a
  let cs := (if 0x20 ≤ f ∧ f ≤ 0x23 then b.appending (f - 0x20) else []) ++ b.ingesting f
  (cs.foldl (fun t c => t.breakWord c st) b).modFunc f fun x => { x with retries := [] }

/-! ### Rung 2 (R342, R345, R346) -/

/-- The mortar pool is reset: granted jobs wait again, not counted in REVOKED (R262, R342). -/
def Mortar.poolReset (m : Mortar) : Mortar :=
  { m with input := m.input.map fun (e : Nat × InputRow) => (e.1, { e.2 with jobs := e.2.jobs.map fun j => { j with unit := none } }) }

/-- What a rung 2 of a function does at its beginning (R342). -/
def State.resetBegin (s : State) (f : Nat) : State :=
  if 1 ≤ f ∧ f ≤ 0x0B then s.repairBegin f
  else if 0x10 ≤ f ∧ f ≤ 0x19 then
    { s with iface := { s.iface with ethUp := s.iface.ethUp &&& ~~~(BitVec.ofNat 10 (2 ^ (f - 0x10))) } }
  else if 0x20 ≤ f ∧ f ≤ 0x24 then
    let t := { s with rings := { s.rings with scanOwed := s.rings.scanOwed || f == 0x24 } }
    { t with iface := { s.iface with linkDown := s.iface.linkDown ||| BitVec.ofNat 5 (2 ^ (f - 0x20)) } }
  else if 0x28 ≤ f ∧ f ≤ 0x2F then { s with iface := { s.iface with usb := s.iface.usb.del (f - 0x28) } }
  else if f = 0x58 then { s with mortar := s.mortar.poolReset }
  else if f = 0x66 then ({ s with holdup := { s.holdup with horizon := 0 } }).reshare
  else s

/-- The Flush commands of a root port are issued again (R345). -/
def State.reissue (s : State) (port : Nat) : State :=
  let fs := (s.nvme.filter (·.port == port)).filterMap fun n => match n.use with | .flush m => some m | _ => none
  fs.foldl (fun (t : State) m => t.nvmeIssue port (.flush m)) { s with nvme := s.nvme.filter fun n => n.port != port }

/-- The recovery scan that a rung 2 of the endpoint owes, once its link is up (R295, R296). -/
def State.recoverOwed (s : State) (h : HostRead) : State :=
  if s.rings.scanOwed && !s.iface.linkDown.getLsbD 4 && !s.inRung2 0x24 then
    ({ s with rings := { s.rings with scanOwed := false } }).recoverAll h
  else s

/-- What a rung 2 of a function does at its end (R316, R342, R345, R391, R398). -/
def State.resetEnd (s : State) (f : Nat) (h : HostRead) : State :=
  if 1 ≤ f ∧ f ≤ 0x0B then s.repairEnd f
  else if 0x10 ≤ f ∧ f ≤ 0x19 then s.ethInit (f - 0x10)
  else if 0x20 ≤ f ∧ f ≤ 0x23 then s.reissue (f - 0x20)
  else if f = 0x24 then s.recoverOwed h
  else if 0x30 ≤ f ∧ f ≤ 0x33 then s.tdmInit (f - 0x30)
  else if f = 0x34 then (s.canInit 0).nmtReset
  else if 0x35 ≤ f ∧ f ≤ 0x37 then s.canInit (f - 0x34)
  else if f = 0x58 then s.mortarTurn s.mortar
  else s

/-- Rung 2 of function f begins, its entries kept over WINDOW as the fault found it (R319, R343, R345, R357). -/
def State.rung2 (s : State) (f : Nat) (st : Status) (external : Bool) (window : Nat) : State :=
  let a := ((s.countRung f 2).noteFault f 2 external st).raise 243
  let b := (a.breakUsers f 0x0901).modFunc f fun x =>
    { x with recent := a.within window x.recent ++ [a.aon], busy := some (a.aon, external) }
  b.resetBegin f

/-- RUNG2_COMPLETE: the function accepts work again; its outage is counted (R345, R355). `h` is what the endpoint reads of host
memory for the recovery scan (R295). -/
def execRung2Complete (f : Func) (h : HostRead) (s : State) : Out :=
  .next (match (s.func f).busy with
    | none => s
    | some (since, external) => ((s.modFunc f fun x => { x with busy := none }).resetEnd f h).outage since external)

/-! ### The warm reset and the power cycle (R347 to R349, R404) -/

/-- PWRCYC_N falls, and with it every RAIL_EN: only the always-on domain runs on (R349, R404). -/
def State.cutPower (s : State) (hold : Bool) : State :=
  let t := s.offCore false
  { t with
    power := { t.power with
      phase := .cycle hold, railEn := 0, pllLock := false, refclkOk := false, perst := 0xF, req := 0, reqPending := false, nextCause := 2 }
    ladder := { t.ladder with warm := none } }

/-- A warm start waits until the die has cooled (R412). -/
def State.coolDown (s : State) : State :=
  let t := s.offCore false
  { t with
    power := { t.power with phase := .hot, perst := 0xF, req := 0, reqPending := false }
    ladder := { t.ladder with warm := none } }

/-- Step 5 of R347, and the power cycle behind it (R349). -/
def State.warmReset (s : State) : State :=
  match s.ladder.warm with
  | none => s
  | some w => if w.rung4 then s.cutPower w.hold else if w.hot then s.coolDown else s.start 3

/-- The data path allows the last course (R348). -/
def pathAllows (f : Nat) (watchdog : Bool) : Bool := !watchdog && f != 0 && f != 0x60 && f != 0x61 && f != 0x58

/-- Entries of rung 4 within DEVICE_WINDOW have reached RUNG4_MAX (R349). -/
def State.manyCycles (s : State) : Bool := decide (s.cfg 0x5000 4 ≤ (s.within (s.cfg 0x5000 2) s.ladder.rung4At).length)

/-- A decision for rung 3 or 4 stands: it is counted, and its outage begins; the outage of an earlier one ends here (R343, R355). -/
def State.decided (s : State) (f : Nat) (st : Status) (external four hot : Bool) : State :=
  let a := ((s.countRung f (if four then 4 else 3)).noteFault f (if four then 4 else 3) external st).outageEnd
  let l := a.ladder
  { a with ladder := { l with
      rung3At := if four then l.rung3At else a.within (a.cfg 0x5000 2) l.rung3At ++ [a.aon]
      rung4At := if four then a.within (a.cfg 0x5000 2) l.rung4At ++ [a.aon] else l.rung4At
      warm := some { rung4 := four, since := a.aon, external := external, f := f, hot := hot, hold := four && a.manyCycles }
      owed := some (a.aon, external)
      func := l.func.map fun (e : Nat × FuncSt) => (e.1, { e.2 with busy := none, retries := [] }) } }

/-- The decision for a request that waited (R74). -/
def State.decideNow (s : State) (d : Deferred) : State := s.decided d.f d.st d.external d.four d.hot

/-- What follows the end of the last course: the warm reset of a rung 3 or 4, a trip held until then, or DEEP where the supply is
absent (R74, R347, R412). -/
def State.afterLc (s : State) : State :=
  if !s.holdup.lcOver then s
  else if s.ladder.warm.isSome then
    (match s.ladder.deferred with | some d => if d.four then s.decideNow d else s | none => s).warmReset
  else if !s.holdup.declared then s
  else if !s.supplyGood then s.deepEntry true true
  else match s.ladder.deferred with
    | some d => (s.decideNow d).warmReset
    | none => s

/-- A rung 3 or 4 requested during the last course waits for LC_DONE; a rung 4 takes the place of a rung 3 (R74). -/
def State.defer (s : State) (d : Deferred) : State :=
  { s with ladder := { s.ladder with deferred :=
      match s.ladder.deferred with | some x => some (if d.four && !x.four then d else x) | none => some d } }

/-- A rung 3, or a rung 4 by the climb: steps 1 to 5 of R347; during a last course it waits (R74, R147, R347 to R349, R353). -/
def State.deviceRung (s : State) (f : Nat) (st : Status) (external four watchdog hot : Bool) : State :=
  if s.holdup.lastCourse then s.defer { f := f, st := st, external := external, four := four, hot := hot } else
  let a := ((s.decided f st external four hot).headLine fun h => { h with ladder := true }).raise 243
  let b := ((List.range 22).foldl (fun (t : State) i => t.wipeHod (i + 2)) ({ a with holdup := { a.holdup with closed := true } })).refuseAll.tilesOff
  if pathAllows f watchdog then (b.lcStart 4).afterLc else b.warmReset

/-- Rung 3, or rung 4 where the rung-3 entries fill DEVICE_WINDOW (R343). -/
def State.climb (s : State) (f : Nat) (st : Status) (external watchdog hot : Bool) : State :=
  let full := decide (s.cfg 0x5000 3 ≤ (s.within (s.cfg 0x5000 2) s.ladder.rung3At).length)
  s.deviceRung f st external full watchdog hot

/-- The choice of the rung above 1 (R343); in the last course no rung 2 is taken, and a rung 3 waits (R74, R344). `window`: WINDOW when the
fault arrived (R319). -/
def State.escalate (s : State) (f : Nat) (st : Status) (external : Bool) (window : Nat) : State :=
  let few := decide ((s.within window (s.func f).recent).length < s.cfg 0x5000 1)
  if hasRung2 f && (f == 0x66 || few) then (if s.holdup.lastCourse then s else s.rung2 f st external window)
  else s.climb f st external false false

/-! ### Faults and rung 1 (R341, R343, R344, R354) -/

/-- An uncorrectable ECC error is counted and raises source 248 (R354). -/
def State.uncorrectable (s : State) (dram : Bool) : State :=
  ({ s with ladder :=
      if dram then { s.ladder with dramUe := satAdd s.ladder.dramUe 1 }
      else { s.ladder with sramUe := satAdd s.ladder.sramUe 1 } }).raise 248

/-- A correctable error: counted; DRAM_CE passing CE_THRESHOLD within an hour raises source 248 once in it (R354; log entry 43). -/
def State.correctable (s : State) (dram : Bool) : State :=
  if dram then
    let hour := s.aon / (76800 * 3600000)
    let n := if s.ladder.ceHour.1 = hour then s.ladder.ceHour.2 + 1 else 1
    let a := { s with ladder := { s.ladder with dramCe := s.ladder.dramCe + 1, ceHour := (hour, n) } }
    if n = s.cfg 0x5010 5 + 1 then a.raise 248 else a
  else { s with ladder := { s.ladder with sramCe := s.ladder.sramCe + 1 } }

/-- The tries of rung 1: a DRAM read is repeated once (R319, R354). -/
def State.tries (s : State) (f : Nat) : Nat := if f = 0x60 then 1 else s.cfg (0x5100 + f) 1

/-- Function f has power: every one in RUN and TRIM, all but the cold tiles in PARK (R361; log entry 54). -/
def State.faultSeen (s : State) (f : Nat) : Bool :=
  isFunc f && (s.power.phase == .run || (s.power.phase == .park && !(decide (1 ≤ f) && decide (f ≤ 0x0B))))

/-- A fault of function f (R343). -/
def State.fault (s : State) (f : Nat) (op : FaultOp) (st : Status) (external : Bool) : State :=
  if !s.faultSeen f then s
  else if s.inRung2 f || s.ladder.warm.isSome then s.joinFault
  else if op = .none then s.escalate f st external (s.cfg (0x5100 + f) 2)
  else (s.countRung f 1).modFunc f fun x => { x with retries := x.retries ++ [{
    op := op, status := st, external := external, limit := s.tries f, window := s.cfg (0x5100 + f) 2, backoff := s.cfg (0x5100 + f) 3 }] }

/-- FAULT (R341, R343, R354). `ecc`: the fault is an uncorrectable ECC error. -/
def execFault (f : Func) (op : FaultOp) (st : Status) (external ecc : Bool) (s : State) : Out :=
  .next ((if ecc && s.faultSeen f then s.uncorrectable (f == 0x60) else s).fault f op st external)

/-- The first retry of an operation, and what remains without it. -/
def takeRetry (op : FaultOp) : List Retry → Option (Retry × List Retry)
  | [] => none
  | r :: rs => if r.op = op then some (r, rs) else (takeRetry op rs).map fun p => (p.1, r :: p.2)

/-- A CAN controller whose rung-1 retry has succeeded is back on its bus (R391). -/
def State.busBack (s : State) (f : Nat) (op : FaultOp) : State :=
  if 0x34 ≤ f ∧ f ≤ 0x37 ∧ op = .own then
    { s with iface := { s.iface with busOff := s.iface.busOff &&& ~~~(BitVec.ofNat 4 (2 ^ (f - 0x34))) } }
  else s

/-- RETRY_BACKOFF_EXPIRY: the operation is tried again; after the last try it ends with 0905h and the fault escalates (R343). -/
def execRetryBackoffExpiry (f : Func) (op : FaultOp) (good : Bool) (s : State) : Out :=
  .next (match takeRetry op (s.func f).retries with
    | none => s
    | some (r, rest) =>
      if good then (s.modFunc f fun x => { x with retries := rest }).busBack f op
      else if r.tries + 1 < r.limit then s.modFunc f fun x => { x with retries := { r with tries := r.tries + 1 } :: rest }
      else
        let a := s.modFunc f fun x => { x with retries := rest }
        let b := match op with | .raw o => a.endOp o 0x0905 | _ => a
        b.escalate f r.status r.external r.window)

/-- LC_RUNG3_LIMIT_EXPIRY: the warm reset begins although LC_DONE is not set (R347); without effect behind a declaration (R353). -/
def execLcRung3LimitExpiry (s : State) : Out := .next (if s.ladder.warm.isSome then s.warmReset else s)

/-- TRNG_FAIL_TIMEOUT: a failure of 10 s is a fault of the security block (R322). -/
def execTrngFailTimeout (s : State) : Out := .next (if s.sec.trngOk then s else s.fault 0x65 .none 0 false)

/-! ### Watchdogs (R350, R351, R353) -/

/-- No watchdog expires from a declaration until LC_DONE or v_floor (R74, R350). -/
def State.watchdogsRest (s : State) : Bool := s.holdup.declared && !s.holdup.lcOver

/-- ENGINE_WATCHDOG_EXPIRY, in PARK too: source 241 and a fault of the engine's tile (R350). -/
def execEngineWatchdogExpiry (e : Eng) (s : State) : Out :=
  .next (if s.watchdogsRest || !(s.power.phase == .run || s.power.phase == .park) || s.ladder.ewdLimit.look 0 e == 0 then s
    else (s.raise 241).fault (tileOf e) .none 0 false)

/-- TILE_WATCHDOG_EXPIRY: a tile that holds a ready course; source 242 and a fault of the tile. -/
def execTileWatchdogExpiry (t : Tile) (s : State) : Out :=
  .next (if s.watchdogsRest || s.power.phase != .run || (s.coursesOn t).isEmpty then s else (s.raise 242).fault t .none 0 false)

/-- DEVICE_WATCHDOG_EXPIRY: rung 3 without the last course; ignored while a rung 3 or 4 is under way (R348, R350, R353). -/
def execDeviceWatchdogExpiry (s : State) : Out :=
  .next (if s.watchdogsRest || s.power.phase != .run || s.ladder.dwdLimit == 0 || s.ladder.warm.isSome then s
    else s.climb 0x6F 0 false true false)

/-- The phases in which the always-on watchdog runs (R350). -/
def Phase.watched : Phase → Bool
  | .run | .noImage | .hot => true
  | _ => false

/-- ALWAYS_ON_WATCHDOG_EXPIRY: rung 4, nothing runs first; an expiry while a rung 3 or 4 is under way joins it (R343, R349, R350,
R353). -/
def execAlwaysOnWatchdogExpiry (s : State) : Out :=
  .next (if s.watchdogsRest || !s.power.phase.watched then s
    else if s.ladder.warm.isSome then s.joinFault
    else (s.decided 0x6F 0 false true false).warmReset)

/-- A write of DWD_LIMIT: the device watchdog runs from it (R351). -/
def State.writeDwd (s : State) (v : BitVec 16) : State := { s with ladder := { s.ladder with dwdLimit := v, dwdSince := s.aon } }

/-- A kick of the device watchdog (R350). -/
def State.kickDwd (s : State) : State := { s with ladder := { s.ladder with dwdSince := s.aon } }

/-- The image that runs becomes the confirmed one when firmware kicks first, lanes recording (R327, R350; log entry 44). -/
def State.confirmImage (s : State) : State :=
  match s.sec.running, s.sec.newestBoot with
  | some r, some (_, b) => if b.trial = 0 ∧ b.slotB = r.slotB then s else { s with sec := s.sec.writeBoot r.slotB 0 }
  | some r, none => { s with sec := s.sec.writeBoot r.slotB 0 }
  | none, _ => s

/-- A kick of the always-on watchdog: from the first one on it runs with AWD_WDT (R350). -/
def State.kickAwd (s : State) : State :=
  let a := if s.ladder.awdBoot then s.confirmImage else s
  { a with ladder := { a.ladder with awdBoot := false, awdSince := a.aon } }

/-- A kick of engine e's watchdog (R350). -/
def State.kickEwd (s : State) (e : Nat) : State := { s with ladder := { s.ladder with ewdSince := s.ladder.ewdSince.put e s.aon } }

/-- A write of EWD_LIMIT: the engine's watchdog runs from it (R351). -/
def State.writeEwd (s : State) (e : Nat) (v : BitVec 16) : State :=
  { s with ladder := { s.ladder with ewdLimit := s.ladder.ewdLimit.store 0 e v, ewdSince := s.ladder.ewdSince.put e s.aon } }

/-- LADDER_STATE: 0, the f in rung 2 (the highest where there are several), or FFh (R351). -/
def State.ladderState (s : State) : Nat :=
  if s.ladder.warm.isSome then 0xFF
  else (s.ladder.func.filter fun e => e.2.busy.isSome).foldl (fun (n : Nat) e => Nat.max n e.1) 0

/-- A read of the ladder registers at 7_AE10_0000h; none where unassigned (R351). -/
def State.ladderRead (s : State) (off : Nat) : Option (W32 × State) :=
  if off = 0 then some (s.ladder.dwdLimit.setWidth 32, s)
  else if off = 4 ∨ off = 8 then some (0, s)
  else if off = 0xC then some (BitVec.ofNat 32 s.ladder.awdBoot.toNat, s)
  else if off = 0x10 then some (BitVec.ofNat 32 s.ladderState, s)
  else if 0x1000 ≤ off ∧ off < 0x1180 then some ((s.ladder.ewdLimit.look 0 ((off - 0x1000) / 4)).setWidth 32, s)
  else if 0x1200 ≤ off ∧ off < 0x1380 then some (0, s)
  else none

/-- A write of the ladder registers by master m; none where refused (R351). -/
def State.ladderWrite (s : State) (m off : Nat) (v be : W32) : Option State :=
  if 0x1200 ≤ off ∧ off < 0x1380 then
    let e := (off - 0x1200) / 4
    if s.fw m || m == e then some (s.kickEwd e) else none
  else if !s.fw m then none
  else if off = 0 then some (s.writeDwd ((merge (s.ladder.dwdLimit.setWidth 32) v be).setWidth 16))
  else if off = 4 then some s.kickDwd
  else if off = 8 then some s.kickAwd
  else if off = 0xC ∨ off = 0x10 then some s
  else if 0x1000 ≤ off ∧ off < 0x1180 then
    let e := (off - 0x1000) / 4
    some (s.writeEwd e ((merge ((s.ladder.ewdLimit.look 0 e).setWidth 32) v be).setWidth 16))
  else none

/-- EWD_KICK: a write by masters 0 to 7, by the engine itself, or by the open debug port (R350, R351). -/
def execEwdKick (m : Master) (e : Eng) (v : W32) (s : State) : Out :=
  .next ((s.ladderWrite m (0x1200 + 4 * e) v 0xFFFFFFFF).getD (s.addrFault m))

/-- DWD_KICK (R350, R351). -/
def execDwdKick (m : Master) (v : W32) (s : State) : Out := .next ((s.ladderWrite m 4 v 0xFFFFFFFF).getD (s.addrFault m))

/-- AWD_KICK (R350, R351). -/
def execAwdKick (m : Master) (v : W32) (s : State) : Out := .next ((s.ladderWrite m 8 v 0xFFFFFFFF).getD (s.addrFault m))

end Sys2Proof.Machine
end

