-- ==== Sys2Proof/Machine/Power.lean ====
section
/-! DEFINITION. The supply and the declaration triggers, power states, wakes, rails, clocks, starts, run control, the die's temperature
(R64, R68, R74, R220, R234, R339, R349, R359 to R376, R401, R412, R427). -/
namespace Sys2Proof.Machine

/-! ### Starts that wait for rails (R366, R368) -/

/-- Rail sequencing begins for a start of a kind: step 1 enables RAIL_EN0 (R366). -/
def State.beginRails (s : State) (cause : Nat) : State :=
  { s with power := { s.power with phase := .rails 0, railEn := 1, nextCause := cause } }

/-- A start of a kind; what the dictionary holds is served once it answers (R305, R370). -/
def State.startNow (s : State) (cause : Nat) : State := (s.start cause).serveAll

/-- RAIL_POWER_GOOD: the step's power-good input has risen: the next output is enabled, and after step 8 all of step 9 (R366). -/
def execRailPowerGood (n : Fin 12) (s : State) : Out :=
  .next (match s.power.phase with
    | .rails k =>
      if n.val ≠ k then s
      else if k < 7 then
        { s with power := { s.power with phase := .rails (k + 1), railEn := s.power.railEn ||| BitVec.ofNat 12 (2 ^ (k + 1)) } }
      else s.startNow s.power.nextCause
    | _ => s)

/-- RAIL_SEQUENCING_FAULT: every enabled output falls, the step is recorded; after three in a row the device stays as it is (R366). -/
def execRailSequencingFault (s : State) : Out :=
  .next (match s.power.phase with
    | .rails k =>
      { s with power := { s.power with
          phase := if s.power.railRow + 1 < 3 then .railRetry else .railStop
          railRow := s.power.railRow + 1, railEn := 0, railFaultStep := BitVec.ofNat 4 (k + 1)
          railFaults := satAdd s.power.railFaults 1 } }
    | _ => s)

/-- RAIL_SEQUENCE_RETRY: the sequence is tried again after 1 s (R366). -/
def execRailSequenceRetry (s : State) : Out :=
  .next (if s.power.phase == .railRetry then s.beginRails s.power.nextCause else s)

/-- The rails tried again from the first by a start condition or a wake (R366). -/
def State.railsAgain (s : State) : State :=
  ({ s with power := { s.power with railRow := 0 } }).beginRails s.power.nextCause

/-- POWER_ON_START: the ignition input is high or the supply has stayed good (R368). -/
def execPowerOnStart (s : State) : Out :=
  .next (if !(s.holdup.ignition || s.supplyGood) then s
    else match s.power.phase with
      | .off => ({ s with power := { s.power with refclkOk := true, railRow := 0 } }).beginRails 1
      | .railStop => s.railsAgain
      | _ => s)

/-- AONRST_ASSERT: as if the always-on supply were lost; the pins, the fuses and the flash stay (R368, R375). -/
def execAonrstAssert (s : State) : Out :=
  let t := (s.offCore false).keepAlways 1
  .next { t with power := { t.power with phase := .off, railEn := 0 } }

/-- PWRCYC_RELEASE: PWRCYC_N rises, the full rail sequence follows (R349, R368). -/
def execPwrcycRelease (s : State) : Out :=
  .next (match s.power.phase with
    | .cycle _ => ({ s with power := { s.power with refclkOk := true, railRow := 0 } }).beginRails 2
    | _ => s)

/-! ### Clocks (R359, R367) -/

/-- Rung 4 at once, nothing runs first; during the last course it waits for LC_DONE; the fault is the device's (R74, R359, R367; log
entry 45). -/
def State.cutNow (s : State) : State :=
  if s.holdup.lastCourse then s.defer { f := 0x6F, st := 0, external := false, four := true }
  else (s.decided 0x6F 0 false true false).warmReset

/-- REFCLK_LOSS: in RUN, TRIM and PARK every derived clock stops and nothing runs first; in DEEP the wake logic waits (R359; log
entry 46). -/
def execRefclkLoss (s : State) : Out :=
  .next (if s.power.phase.powered then
      let t := s.offCore false
      { t with
        power := { t.power with phase := .noClock, refclkOk := false, pllLock := false, req := 0, reqPending := false }
        ladder := { t.ladder with warm := none } }
    else { s with power := { s.power with refclkOk := false } })

/-- REFCLK_RETURN: stable for 10 ms: rung 4, counted in REFCLK_LOSSES; DEEP goes on unchanged (R359). -/
def execRefclkReturn (s : State) : Out :=
  let a := { s with power := { s.power with refclkOk := true } }
  .next (if s.power.phase == .noClock then
      { a with power := { a.power with refclkLosses := satAdd a.power.refclkLosses 1 } }.cutNow
    else a)

/-- PLL_LOCK_LOSS in RUN, TRIM or PARK (R359). -/
def execPllLockLoss (s : State) : Out :=
  .next (if s.power.phase.powered then { s with power := { s.power with pllLock := false } }.cutNow else s)

/-- PG_LOSS: a power-good input of an enabled rail is low for 10 µs (R367). -/
def execPgLoss (n : Fin 12) (s : State) : Out :=
  .next (if 8 ≤ n.val ∨ !s.power.railEn.getLsbD n then s
    else match s.power.phase with
      | .rails k => if n.val < k then s.cutNow else s
      | p => if p.powered then s.cutNow else s)

/-! ### PARK and DEEP (R361, R363 to R365) -/

/-- The conditions of R363. -/
def State.mayCommit (s : State) : Bool :=
  s.power.phase == .run && s.power.reqPending && !s.holdup.declared && s.ladder.warm.isNone &&
    s.ladder.func.all (fun e => e.2.busy.isNone) && s.ctx.imageQueue.isEmpty &&
    (List.range 256).all fun l => s.laneCfg l 1 == 0 && (s.lane l).inflight == 0

/-- Steps 1 to 4 of an entry: the dictionary stops answering, tiles 1 to 11 go cold, the SSDs shut down, RAIL_EN8 to 11 fall (R363). -/
def State.sleepEntry (s : State) : State :=
  let a := { s with dict := { s.dict with ready := false } }
  let b := (List.range 11).foldl (fun (t : State) i =>
    if (t.tile (i + 1)).power = .cold then t else t.tileCold (i + 1)) a
  let c := b.memberList.foldl (fun t m => t.ssd m .shutdown) b
  { c with
    power := { c.power with railEn := c.power.railEn &&& 0xFF, req := 0, reqPending := false, wakeCause := 0 }
    iface := { c.iface with ethUp := 0, usb := [], linkDown := c.iface.linkDown ||| 0xF }
    router := { c.router with wakeAsked := false } }

/-- PARK: the DRAM refreshes itself, tile 0 is banked, the context cache is written back and off, the watcher counts (R128, R220, R361,
R363). -/
def State.enterPark (s : State) : State :=
  let t := s.setTilePower 0 .banked
  { t with
    ctx := t.ctx.flush
    power := { t.power with phase := .park }
    watcher := { t.watcher with asleep := true, wakeValid := false, wakeSrc := 0 } }

/-- The wake cause recorded, the first one after each entry (R364). -/
def Power.woken (p : Power) (cause : Nat) : Power :=
  { p with wakeCause := if p.wakeCause = 0 then BitVec.ofNat 8 cause else p.wakeCause }

/-- The return from PARK: the rails, tile 0, tiles 1 to 11 as after a cold return, the watcher's counts, source 219, what the dictionary
held (R220, R305, R362, R364; log entry 47). -/
def State.leavePark (s : State) (cause : Nat) : State :=
  let a := { s with
    power := { s.power.woken cause with phase := .run, railEn := 0xFFF }
    watcher := { s.watcher with asleep := false } }
  let b := (List.range 11).foldl (fun (t : State) i => t.tileReturn (i + 1)) (a.tileUnbank 0)
  let c := (b.wakeCounts).raise 219
  ({ c with dict := { c.dict with ready := true } }).serveAll

/-- A wake of a kind (R364, R366); without REFCLK the wake logic waits (R359). -/
def State.wakeUp (s : State) (cause : Nat) : State :=
  match s.power.phase with
  | .park => s.leavePark cause
  | .deep => if s.power.refclkOk then ({ s with power := { s.power.woken cause with railRow := 0 } }).beginRails 5 else s
  | .railStop => ({ s with power := s.power.woken cause }).railsAgain
  | _ => s

/-- A wake cause of R364 has come about: a watched source, a wake input, CAN bus 0, the wake timer, the supply after an entry without
it. -/
def State.wakeHolds (s : State) (cause : Nat) : Bool :=
  match cause with
  | 1 => s.watcher.wakeValid
  | 2 => s.router.wakeAsked
  | 3 => true
  | 4 => s.cfg 0x2002 4 != 0
  | 5 => s.power.phase == .deep && s.power.supplyAbsent && s.supplyGood
  | _ => false

def execWake (cause : Fin 6) (s : State) : Out := .next (if s.wakeHolds cause then s.wakeUp cause else s)

/-- WAKE_TIMER_EXPIRY (R364). -/
def execWakeTimerExpiry (s : State) : Out := .next (if s.wakeHolds 4 then s.wakeUp 4 else s)

/-! ### The supply (R64, R68, R74, R365) -/

/-- Triggers 1 and 2 of R68 at the bank's last sample, as cause bits. -/
def State.triggers (s : State) : BitVec 3 :=
  let v := s.holdup.bankNow.toNat
  let need : Frac := {
    num := (s.cfg 0x4000 6 * 1000000000 + s.eB * s.inflightSum + s.cfg 0x4000 5 * 1000000000 : Nat), den := 1000 }
  BitVec.ofNat 3 ((if v < s.cfg 0x4002 4 then 2 else 0) + (if (s.eUse v).le need then 4 else 0))

/-- Every trigger of R68 present in the cycle of a sample: T_DECLARE over as well as the two that the sample shows. -/
def State.allTriggers (s : State) : BitVec 3 :=
  match s.holdup.ride with
  | some t => if 76800 * s.cfg 0x4002 3 ≤ (s.tnow - t).toNat then s.triggers ||| 1 else s.triggers
  | none => s.triggers

/-- A trigger acts: a declaration in RUN, unless one was made; DEEP in PARK (R68, R70, R365). -/
def State.trigger (s : State) (cause : BitVec 3) : State :=
  match s.power.phase with
  | .run => if s.holdup.declared then s else (s.declare cause).afterLc
  | .park => s.deepEntry true false
  | _ => s

/-- The bank reaches v_floor before LC_DONE: channel 271, and DEEP with the supply absent (R74, R234). -/
def State.bankOut (s : State) : State := (s.publish 271).deepEntry true true

/-- A ride-through begins and ends (R68). -/
def State.rideStep (s : State) : State :=
  let v := s.holdup.vsup.toNat
  if s.holdup.declared then s
  else if s.holdup.ride.isNone && decide (v < s.cfg 0x4002 1) then
    ({ s with holdup := { s.holdup with ride := some s.tnow } }.raise 209).publish 258
  else if s.holdup.ride.isSome && s.supplyGood then
    ({ s with holdup := { s.holdup with ride := none, rideThroughs := satAdd s.holdup.rideThroughs 1 } }.raise 210).publish 259
  else s

/-- The latch of R427: Vbank above V_RATED + 100 mV, until it is back at V_RATED. -/
def State.overcharge (s : State) : State :=
  let v := s.holdup.bankNow.toNat
  { s with holdup := { s.holdup with
      overcharged := if s.cfg 0x4000 2 + 100 < v then true else if v ≤ s.cfg 0x4000 2 then false else s.holdup.overcharged } }

/-- What a sample of supply and bank brings on (R68, R74, R349). -/
def State.sampled (s : State) : State :=
  if s.holdup.declared && s.power.phase == .run then
    let a := { s with holdup := { s.holdup with
      supplyBack := if s.supplyGood then some (s.holdup.supplyBack.getD s.tnow) else none } }
    if a.holdup.lcOver then a.afterLc
    else if Frac.le { num := a.holdup.bankNow.toNat } a.vFloor then a.bankOut
    else a
  else if s.power.phase == .cycle true && decide (s.holdup.vsup.toNat < s.cfg 0x4002 1) then s.deepEntry true false
  else if s.holdup.ride.isSome && s.allTriggers != 0 then s.trigger s.allTriggers
  else s

/-- SUPPLY_SAMPLE: the vehicle supply and the bank in mV (R66, R68). -/
def execSupplySample (v b : Nat) (s : State) : Out :=
  let a := { s with holdup := { s.holdup with vsup := BitVec.ofNat 16 v, bankNow := BitVec.ofNat 16 b } }
  .next (a.overcharge.rideStep).sampled

/-- T_DECLARE_EXPIRY: the ride-through has lasted T_DECLARE (R68). -/
def execTDeclareExpiry (s : State) : Out := .next (if s.holdup.ride.isSome then s.trigger (s.triggers ||| 1) else s)

/-- SUPPLY_RETURN_RESTART: after LC_DONE the supply has stayed good for RESTART_HOLD: start 04h (R74, R368). -/
def execSupplyReturnRestart (s : State) : Out :=
  .next (if s.power.phase == .run && s.holdup.declared && s.holdup.lcOver && s.holdup.supplyBack.isSome then s.startNow 4 else s)

/-- IGNITION_EDGE: channels 256 and 257; a rise begins a new ignition-on for the bank test (R63, R234). -/
def execIgnitionEdge (rising : Bool) (s : State) : Out :=
  let a := { s with holdup := { s.holdup with ignition := rising, tested := if rising then false else s.holdup.tested } }
  .next (a.publish (if rising then 256 else 257))

/-! ### The die's temperature (R412) -/

/-- The bin of TJ_HOURS for a temperature in °C. -/
def tjBin (t : Int) : Nat :=
  ([45, 65, 85, 95, 105, 115, 125].filter fun b => decide ((b : Int) ≤ t)).length

/-- A reading recorded, with the warning (R412). -/
def Power.sampleTj (p : Power) (t : Int) (warn : Nat) : Power :=
  { p with
    tj := BitVec.ofInt 16 t
    tjPeak := some (match p.tjPeak with | some k => if k.toInt < t then BitVec.ofInt 16 t else k | none => BitVec.ofInt 16 t)
    warned := if (warn : Int) ≤ t then true else if t ≤ (warn : Int) - 5 then false else p.warned
    tripping := decide (130 ≤ t), tjMs := p.tjMs.modify 0 (tjBin t) (· + 1) }

/-- A trip: counted; rung 3 of function 6Fh, or held until LC_DONE in a last course (R74, R412). -/
def State.trip (s : State) : State :=
  if s.ladder.warm.isSome || s.ladder.deferred.isSome then s
  else { s with power := { s.power with trips := satAdd s.power.trips 1 } }.climb 0x6F 0 false false true

/-- THERMAL_SAMPLE: the highest sensor, every 1 ms (R412). -/
def execThermalSample (tj : Int) (s : State) : Out :=
  let warn := s.cfg 0x2003 3
  let a := { s with power := s.power.sampleTj tj warn }
  .next (match s.power.phase with
    | .run =>
      let b := if decide ((warn : Int) ≤ tj) && !s.power.warned then a.raise 222 else a
      if s.power.tripping && decide (130 ≤ tj) then b.trip else b
    | .hot => if tj < (warn : Int) - 10 then a.startNow 3 else a
    | .park => a
    | _ => s)

/-! ### Boundary scan (R339) -/

/-- EXTEST: while EXTEST or CLAMP is loaded the device is held in reset. -/
def execExtest (s : State) : Out :=
  .next (if s.power.phase == .off then s
    else
      let t := s.offCore false
      { t with
        power := { t.power with phase := .extest, railEn := 0, pllLock := false, perst := 0xF, req := 0, reqPending := false }
        ladder := { t.ladder with warm := none } })

/-- EXTEST_EXIT: the instruction is left: start 07h (R339, R368). -/
def execExtestExit (s : State) : Out :=
  .next (if s.power.phase == .extest then ({ s with power := { s.power with railRow := 0 } }).beginRails 7 else s)

end Sys2Proof.Machine
end

