-- ==== Sys2Proof/Machine/Frame.lean ====
section
/-! DEFINITION. A received Ethernet frame: what R379 and R381 discard, its flow key, its classification in the order of R380. The layouts
of Ethernet, IPv4, IPv6, UDP, ICMPv6, RTP and RTCP are those of their standards (log entry 3, PRESUMED). -/
namespace Sys2Proof.Machine

/-- Big-endian number of `n` bytes at an offset. -/
def netAt (b : Bytes) (o n : Nat) : Nat := beNat (slice b o n)

/-- What a frame turns out to be (R380). -/
inductive FrameClass
  /-- Steps 1 and 7, and what R377, R379 and R381 discard. -/
  | discard
  /-- Step 2: the time service's. -/
  | ptp
  /-- A UDP datagram: its source as a peer number, ports, payload, and whether its checksum was zero over IPv4. -/
  | udp (key : BitVec 320) (peer src dst : Nat) (payload : Bytes) (zeroSum : Bool)
  /-- Step 5: tile 0's. -/
  | tile0
  /-- Nothing of the above. -/
  | other
  deriving DecidableEq, Repr

/-! ### Checksums (R381) -/

/-- The sum of the 16-bit words of bytes, padded with a zero byte. -/
def wordSum (b : Bytes) : Nat := (List.range ((b.length + 1) / 2)).foldl (fun (n : Nat) i => n + netAt b (2 * i) 2) 0

/-- A ones' complement sum folded to 16 bits. -/
def foldSum (n : Nat) : Nat := if n = 0 then 0 else (n - 1) % 65535 + 1

/-- A sum that includes its checksum is right. -/
def sumGood (n : Nat) : Bool := foldSum n == 65535

/-! ### The frame (R379) -/

/-- A frame without FCS and tag: its EtherType, its VLAN tag, its payload and the bytes it has without the tag. -/
structure Ether where
  type : Nat
  vlan : Option Nat
  body : Bytes
  bare : Bytes
  deriving DecidableEq, Repr

/-- A whole frame of 64 to 9,216 bytes with a good FCS, its one tag stripped; none where it is discarded (R379). -/
def readEther (f : Bytes) : Option Ether :=
  let n := f.length
  let b := f.take (n - 4)
  if n < 64 ∨ 9216 < n ∨ (crc32 b).toNat ≠ leNat (f.drop (n - 4)) then none
  else if netAt b 12 2 = 0x8100 then
    if netAt b 16 2 = 0x8100 then none
    else some { type := netAt b 16 2, vlan := some (netAt b 14 2 % 4096), body := b.drop 18, bare := b.take 12 ++ b.drop 16 }
  else some { type := netAt b 12 2, vlan := none, body := b.drop 14, bare := b }

/-! ### IP and UDP (R381) -/

/-- An IP packet: version, source address, protocol and payload, and the sum of the pseudo-header without length and protocol. -/
structure IpPacket where
  v6      : Bool
  src     : Bytes
  proto   : Nat
  payload : Bytes
  pseudo  : Nat
  deriving DecidableEq, Repr

/-- An IPv4 packet: header checksum checked, options skipped, fragments discarded (R381). -/
def readIpv4 (b : Bytes) : Option IpPacket :=
  let ihl := 4 * (rtpByte b 0 % 16)
  let len := netAt b 2 2
  if rtpByte b 0 / 16 ≠ 4 ∨ ihl < 20 ∨ len < ihl ∨ b.length < len then none
  else if !sumGood (wordSum (b.take ihl)) then none
  else if netAt b 6 2 % 0x4000 ≠ 0 then none
  else some { v6 := false, src := slice b 12 4, proto := rtpByte b 9, payload := slice b ihl (len - ihl), pseudo := wordSum (slice b 12 8) }

/-- An IPv6 packet: one with any extension header is discarded (R381). -/
def readIpv6 (b : Bytes) : Option IpPacket :=
  let len := netAt b 4 2
  let next := rtpByte b 6
  if rtpByte b 0 / 16 ≠ 6 ∨ b.length < 40 + len then none
  else if [0, 43, 44, 50, 51, 60, 135, 139, 140].contains next then none
  else some { v6 := true, src := slice b 8 16, proto := next, payload := slice b 40 len, pseudo := wordSum (slice b 8 32) }

/-- A UDP datagram: source port, destination port, payload, zero checksum; none where the checksum is bad (R381). -/
def readUdp (p : IpPacket) : Option (Nat × Nat × Bytes × Bool) :=
  let b := p.payload
  let len := netAt b 4 2
  let zero := netAt b 6 2 == 0
  if len < 8 ∨ b.length < len then none
  else if zero then (if p.v6 then none else some (netAt b 0 2, netAt b 2 2, slice b 8 (len - 8), true))
  else if sumGood (p.pseudo + 17 + len + wordSum (b.take len)) then some (netAt b 0 2, netAt b 2 2, slice b 8 (len - 8), false)
  else none

/-! ### Keys (R129, R309) -/

/-- The flow key of an RTP packet of a UDP datagram on an Ethernet port (R129). -/
def rtpKey (port : Nat) (vlan : Option Nat) (p : IpPacket) (src dst ssrc : Nat) : BitVec 320 :=
  BitVec.ofNat 320 (packNat
    [(if p.v6 then 2 else 1, 0), (port, 8), (vlan.getD 0, 16), (vlan.isSome.toNat, 28), (leNat p.src, 32), (src, 160), (dst, 176),
     (ssrc, 192)])

/-- A peer's number: its address, its form and its UDP port (R309). -/
def peerOf (p : IpPacket) (port : Nat) : Nat := (leNat p.src * 2 + p.v6.toNat) * 65536 + port

/-! ### Classification (R380, R382) -/

/-- Step 5 by protocol: ICMP, ICMPv6 echo and neighbour discovery, TCP of an RTSP connection, DHCPv4. -/
def tile0Ip (p : IpPacket) (rtsp : Bool) : Bool :=
  (!p.v6 && p.proto == 1) || (p.proto == 6 && rtsp) ||
    (p.v6 && p.proto == 58 && [128, 129, 133, 134, 135, 136, 137].contains (rtpByte p.payload 0))

/-- An IP packet classified; `profile` is the PTP profile where PTP runs on the port, else 0. -/
def classifyIp (port profile : Nat) (vlan : Option Nat) (rtsp : Bool) (q : Option IpPacket) : FrameClass :=
  match q with
  | none => .discard
  | some p =>
    if p.proto = 17 then
      match readUdp p with
      | none => .discard
      | some (src, dst, b, zero) =>
        if (profile = 2 ∨ profile = 3) ∧ (dst = 319 ∨ dst = 320) then .ptp
        else .udp (rtpKey port vlan p src dst (netAt b 8 4)) (peerOf p src) src dst b zero
    else if tile0Ip p rtsp then .tile0
    else .other

/-- A frame classified as far as the frame itself tells (R379 to R382). -/
def classify (port profile : Nat) (rtsp : Bool) (e : Ether) : FrameClass :=
  if profile = 1 ∧ e.type = 0x88F7 then .ptp
  else if e.type = 0x0800 then classifyIp port profile e.vlan rtsp (readIpv4 e.body)
  else if e.type = 0x86DD then classifyIp port profile e.vlan rtsp (readIpv6 e.body)
  else if e.type = 0x0806 then .tile0
  else .other

/-- The key of the RTP flow that an RTCP packet belongs to: the ports one lower, the sender's SSRC (RFC 3550; log entry 3). -/
def rtcpKey (key : BitVec 320) (src dst : Nat) (b : Bytes) : Option (BitVec 320) :=
  if 8 ≤ b.length ∧ rtpByte b 0 / 64 = 2 ∧ 200 ≤ rtpByte b 1 ∧ rtpByte b 1 ≤ 204 ∧ 0 < src ∧ 0 < dst then
    some (BitVec.ofNat 320 (packNat [(bits key 0 160, 0), (src - 1, 160), (dst - 1, 176), (netAt b 4 4, 192)]))
  else none

end Sys2Proof.Machine
end

