-- ==== Sys2Proof/Machine/Time.lean ====
section
/-! DEFINITION. The time service: candidates, locks, corrections, holdover (R382, R383), and the tick of an empty queue (log entries
48 and 49). -/
namespace Sys2Proof.Machine

/-! ### The 80-bit time (R39) -/

/-- A time as nanoseconds. -/
def timeNs (t : BitVec 80) : Nat := bits t 0 48 * 1000000000 + bits t 48 32

/-- Nanoseconds as a time. -/
def nsTime (n : Nat) : BitVec 80 := BitVec.ofNat 80 (n / 1000000000 % 2 ^ 48 + n % 1000000000 * 2 ^ 48)

/-- The offset of a time from the nearest whole second, in ns. -/
def secondOffset (t : BitVec 80) : Int :=
  let n := bits t 48 32
  if n < 500000000 then n else (n : Int) - 1000000000

/-- A correction by minus an offset: above 1 ms in one step, below it slewed (R383). -/
def TimeSt.correct (x : TimeSt) (off : Int) : TimeSt :=
  if 1000000 < off.natAbs then { x with now := nsTime ((timeNs x.now : Int) - off).toNat, slew := 0 }
  else { x with slew := -off * 768 }

/-! ### Selection (R383) -/

/-- The selected source is PPS, or PTP; none while nothing is locked. -/
def TimeSt.selected (x : TimeSt) : Option Bool :=
  if x.source = 3 then some true else if x.source = 1 ∨ x.source = 2 then some false else none

/-- TIME_SOURCE of a candidate: 3 PPS; PTP 1 under gPTP, 2 under IEEE 1588 (R46, R382). -/
def TimeSt.code (x : TimeSt) (pps : Bool) : BitVec 8 := if pps then 3 else if x.profile = 1 then 1 else 2

/-- A candidate becomes the selected source. -/
def TimeSt.choose (x : TimeSt) (pps : Bool) : TimeSt :=
  { x with source := x.code pps, lastLock := some x.now, preferSince := none }

/-- PPS is the preferred candidate (R383). -/
def State.ppsFirst (s : State) : Bool := s.cfg 0x5820 4 == 1

/-- A candidate that holds lock has confirmed it: it is selected where nothing is, it stays selected, or, where it is preferred, it displaces
the source after 10 s of lock (R383; log entry 50). -/
def State.timeHolds (s : State) (pps : Bool) : State :=
  let x := s.time
  match x.selected with
  | none => (({ s with time := x.choose pps }).publish 262).raise 142
  | some p =>
    if p = pps then { s with time := { x with source := x.code pps, lastLock := some x.now } }
    else if s.ppsFirst != pps then s
    else match x.preferSince with
      | none => { s with time := { x with preferSince := some s.tnow } }
      | some t => if 768000000 ≤ (s.tnow - t).toNat then { s with time := x.choose pps } else s

/-- A candidate has lost lock: where it is selected, the service enters holdover (R383). -/
def State.timeLost (s : State) (pps : Bool) : State :=
  let x := s.time
  let t : TimeSt := { x with preferSince := if s.ppsFirst == pps then none else x.preferSince }
  if x.selected = some pps then (({ s with time := { t with source := 4, lastLock := some x.now } }).publish 263).raise 142
  else { s with time := t }

/-- A candidate's measured offset corrects the time where it is selected or nothing is (R383). -/
def State.measured (s : State) (pps : Bool) (off : Int) : State :=
  if s.time.selected = some pps ∨ s.time.selected = none then { s with time := s.time.correct off } else s

/-- OFFSET, against the selected source (R398). -/
def State.showOffset (s : State) (pps : Bool) (off : Int) : State :=
  if s.time.selected = some pps then { s with time := { s.time with offset := BitVec.ofInt 32 off } } else s

/-! ### PTP (R382, R383) -/

/-- PTP runs on port p (R382). -/
def State.ptpOn (s : State) (p : Nat) : Bool :=
  s.power.phase == .run && s.time.profile != 0 && s.cfg 0x5820 2 / 2 ^ p % 2 == 1 && s.iface.ethMode.look 0 p != 0

/-- A Sync: eight in a row within 1 µs lock; more than 100 µs loses the lock (R383). -/
def State.ptpSync (s : State) (off : Int) : State :=
  let x := s.time
  let run := if off.natAbs ≤ 1000 then x.ptpRun + 1 else 0
  let lock := if x.ptpLocked then decide (off.natAbs ≤ 100000) else decide (8 ≤ run)
  let a := ({ s with time := { x with ptpRun := run, ptpLocked := lock, todGiven := x.todGiven || lock } }).measured false off
  let b := if lock then a.timeHolds false else if x.ptpLocked then a.timeLost false else a
  b.showOffset false off

/-- PTP_MESSAGE (R382, R383, R395). -/
def execPtpMessage (p : Fin 10) (m : PtpMsg) (s : State) : Out :=
  .next (if !s.ptpOn p then s
    else match m with
      | .sync off => s.ptpSync off
      | .announce g =>
        if g = s.iface.ptpMaster then s else ({ s with iface := { s.iface with ptpMaster := g } }).raise 139
      | .other => s)

/-- PTP_SYNC_TIMEOUT: no Sync within 3 sync intervals: PTP loses lock (R383). -/
def execPtpSyncTimeout (s : State) : Out :=
  let a := { s with time := { s.time with ptpRun := 0, ptpLocked := false } }
  .next (if s.time.ptpLocked then a.timeLost false else a)

/-! ### PPS (R383, R394) -/

/-- An accepted edge: four in a row lock once a time of day has been given (R383). -/
def State.ppsAccepted (s : State) (off : Int) : State :=
  let x := s.time
  let run := x.ppsRun + 1
  let lock := x.ppsLocked || (decide (4 ≤ run) && x.todGiven)
  let a := ({ s with time := { x with ppsRun := run, ppsLocked := lock } }).measured true off
  (if lock then a.timeHolds true else a).showOffset true off

/-- An edge against the time: rejected outside PPS_WINDOW (R383). -/
def State.ppsEdge (s : State) : State :=
  let off := secondOffset s.time.now
  if s.cfg 0x5820 6 * 1000 < off.natAbs then
    ({ s with time := { s.time with ppsRun := 0, ppsRejected := satAdd s.time.ppsRejected 1 } }).raise 142
  else s.ppsAccepted off

/-- The time service takes an edge: a TOD_SET value applies at it (R383, R397). -/
def State.ppsTaken (s : State) : State :=
  match s.time.todNext with
  | some v => ({ s with time := { s.time with now := v, frac := 0, slew := 0, todNext := none, todGiven := true } }).ppsAccepted (secondOffset v)
  | none => s.ppsEdge

/-- PPS_EDGE: event output 64, an always-on producer; in DEEP, where the time service only keeps its time, nothing else (R10, R237,
R383, R394; log entry 98). -/
def execPpsEdge (s : State) : Out :=
  .next (match s.power.phase with
    | .run | .park => (s.eventOutput 64).ppsTaken
    | .deep => if s.power.refclkOk then s.eventOutput 64 else s
    | _ => s)

/-- PPS_LOSS: no accepted edge for 2 s (R383). -/
def execPpsLoss (s : State) : Out :=
  let a := { s with time := { s.time with ppsRun := 0, ppsLocked := false } }
  .next (if s.time.ppsLocked then a.timeLost true else a)

/-- HOLDOVER_EXPIRY: HOLDOVER_LIMIT has passed since the last lock: free-running (R383). -/
def execHoldoverExpiry (s : State) : Out :=
  .next (if s.time.source = 4 then ({ s with time := { s.time with source := 0 } }).raise 142 else s)

/-! ### The tick of an empty queue (R150, R358, R369, R383) -/

/-- One tick of 76.8 MHz of the time: 10,000 units of 1/768 ns, and where a correction is slewed one unit of it, or not: the rate is a
FREE VALUE up to 100 ppm (log entries 2 and 49). -/
def TimeSt.tick (x : TimeSt) (slews : Bool) : TimeSt :=
  let d : Int := if x.slew = 0 ∨ !slews then 0 else if 0 < x.slew then 1 else -1
  let f := ((x.frac : Int) + 10000 + d).toNat
  { x with now := if f < 768 then x.now else nsTime (timeNs x.now + f / 768), frac := f % 768, slew := x.slew - d
           mono := x.mono.map (· + 1) }

/-- One tick while no command waits: the always-on time, the time of day on REFCLK, TNOW under the PLL, MONO_COUNT once seeded
(log entry 48). -/
def State.tick (s : State) : State :=
  let slews := decide (Config.freeBits 1 s.draws = 1)
  let t := if s.time.slew = 0 then s else s.drawn
  { t with
    aon := s.aon + 1
    tnow := if s.power.pllLock then s.tnow + 1 else s.tnow
    time := if s.power.refclkOk then s.time.tick slews else s.time }

/-- With no command waiting, firmware serves the host's mailbox while the device runs (R310; log entry 114). -/
def State.hostMail (s : State) : State :=
  if s.power.phase == .run && s.serving && s.mailWaits then s.serveMail.lcRestart else s

/-- What the block does on an empty queue: the host's mailbox is served, and time advances by one tick (R310; log entries 48 and 114). -/
def State.idle (s : State) : State := s.hostMail.tick

end Sys2Proof.Machine
end

