-- ==== Sys2Proof/Machine/Raw.lean ====
section
/-! DEFINITION. Raw port operations of courses (R103) and of KX-1200 pairs (R415 to R421). -/
namespace Sys2Proof.Machine

/-! ### What an operation moves -/

/-- The bytes that pieces of memory hold. -/
def capacity (ps : List (BitVec 40 × Nat)) : Nat := ps.foldl (fun (n : Nat) p => n + p.2) 0

/-- The data length of a CAN frame by DLC, FDF and RTR (ISO 11898-1; log entry 3). -/
def canLength (dlc : Nat) (fd rtr : Bool) : Nat :=
  if rtr then 0 else if dlc ≤ 8 then dlc
  else if !fd then 8
  else match dlc with | 9 => 12 | 10 => 16 | 11 => 20 | 12 => 24 | 13 => 32 | 14 => 48 | _ => 64

/-- The 8 header bytes of a frame as a number, and the bytes that the frame takes behind them, padded (R35, R391). -/
def canHead (b : Bytes) : Nat × Nat :=
  let v := fieldAt b 0 8
  (v, (canLength (v / 2 ^ 32 % 16) (v / 2 ^ 42 % 2 == 1) (v / 2 ^ 41 % 2 == 1) + 3) / 4 * 4)

/-- The headers of the whole frames in a transmit buffer (R103, R391). -/
def canFrames (b : Bytes) : Nat → List Nat
  | 0 => []
  | fuel + 1 =>
    let h := canHead b
    if b.length < 8 + h.2 then [] else h.1 :: canFrames (b.drop (8 + h.2)) fuel

/-- The whole records in a receive buffer (R35, R103). -/
def canRecords (b : Bytes) : Nat → Nat
  | 0 => 0
  | fuel + 1 =>
    let n := paddedLen (fieldAt b 0 4 % 2 ^ 18)
    if b.length < 16 ∨ b.length < n then 0 else canRecords (b.drop n) fuel + 1

/-- An operation receives (R103). -/
def RawOp.receives (r : RawOp) : Bool :=
  match r.op with | 0x22 => true | 0x21 => false | _ => r.sel.getLsbD 4

/-- DETAIL of an operation of R103 other than NVME: the time stamp, bytes or frames. -/
def State.rawDetail (s : State) (r : RawOp) (moved : Bytes) : W64 :=
  match r.op with
  | 0x20 => if r.param.getLsbD 0 then BitVec.ofNat 64 (bits s.time.now 0 32 + bits s.time.now 48 32 * 2 ^ 32) else 0
  | 0x23 => BitVec.ofNat 64 (if r.receives then canRecords moved moved.length else (canFrames moved moved.length).length)
  | 0x21 => r.detail
  | _ => BitVec.ofNat 64 moved.length

/-! ### Ends (R87, R103, R418) -/

/-- An operation is over: what it received is placed, its word or its entry ends. A translated word has LEN_TOL 00b (R417). -/
def State.rawOver (s : State) (r : RawOp) (st : Status) (moved : Bytes) (done : Nat) (long : Bool) : State :=
  let room := if r.receives && !r.skip then min r.count (capacity r.segs) else r.count
  let n := min done room
  let st1 : Status := if st = 0 ∧ room < r.count ∧ room < done then 0x0108 else st
  let lng := long || decide (r.count < done)
  let d := if r.skip then BitVec.ofNat 64 n else s.rawDetail r (moved.take n)
  let a := if r.skip then s else s.scatter r.base r.segs (moved.take room)
  let b := { a with raws := a.raws.filter fun x => x.owner != r.owner }
  match r.owner with
  | .course c => b.finishWord c { status := st1, count := r.count, done := n, long := lng, detail := d }
  | .entry q p =>
    if !b.tilePowered (b.serviceTile q) then b
    else
      let diff := lng || decide (n < r.count)
      b.rawEntryEnds q.val p { status := if st1 == 0 && diff then 0x0180 else st1, detail := d }

/-- An operation in progress. -/
def State.rawOf (s : State) (o : RawOwner) : Option RawOp := s.raws.find? fun r => r.owner == o

/-- No rung-1 retry of an operation is pending any more (R343). -/
def State.retryOver (s : State) (f : Nat) (o : RawOwner) : State :=
  s.modFunc f fun x => { x with retries := x.retries.filter fun r => r.op != .raw o }

/-- A rung-1 retry of an operation is pending (R343). -/
def State.retrying (s : State) (f : Nat) (o : RawOwner) : Bool := (s.func f).retries.any fun r => r.op == .raw o

/-- RAW_TRANSFER_COMPLETE: an operation other than NVME has ended at its port, or has failed there: a fault of the port at rung 1, for USB
also an error (R87, R103, R388, R395). A result that no operation awaits is discarded and counted in STALE (R420). -/
def execRawTransferComplete (o : RawOwner) (st : Status) (amount : Nat) (long : Bool) (data : Bytes) (s : State) : Out :=
  .next (match s.rawOf o with
    | none => match o with
      | .entry q _ => { s with rings := { s.rings with
          pair := s.rings.pair.modify {} q fun p => { p with stale := p.stale + 1 }, staleTotal := satAdd s.rings.staleTotal 1 } }
      | .course _ => s
    | some r =>
      let f := rawFunc r
      if r.op = 0x21 ∨ s.inRung2 f then s
      else if st ≠ 0 then
        if s.retrying f o then s
        else (if r.op = 0x22 then s.raise (160 + r.sel.toNat % 8) else s).fault f (.raw o) st true
      else
        let t := s.retryOver f o
        if r.receives then t.rawOver r 0 (r.data ++ data) (r.data.length + data.length) long
        else t.rawOver r 0 r.data amount long)

/-! ### Refusals (R103, R386, R417) -/

/-- A key names the whole unit of a function (R378). -/
def State.wholeBound (s : State) (f : Nat) : Bool :=
  decide (0x28 ≤ f) && s.bind.active.all.any fun e => keyFunc e.key == f

/-- A root port carries a member of a configured wythe (R103). -/
def State.carriesWythe (s : State) (port : Nat) : Bool := s.memberList.any fun m => s.portOf m == port

/-- Admin opcodes, and I/O opcodes, that the device issues (R386). -/
def nvmeIssued (admin : Bool) (op : Nat) : Bool :=
  if admin then [0x00, 0x01, 0x02, 0x04, 0x05, 0x06, 0x08, 0x09, 0x0A, 0x0C].contains op
  else [0x00, 0x01, 0x02, 0x09, 0x79, 0x7A, 0x7D].contains op

/-- Identify, Get Log Page, Get Features and Read (R103). -/
def nvmeReads (admin : Bool) (op : Nat) : Bool := if admin then [0x02, 0x06, 0x0A].contains op else op == 0x02

/-- Identifiers of the CANopen FD server of a node: NMT, EMCY, USDO both ways, error control (CiA 1301; log entry 25). -/
def canopenId (node id : Nat) : Bool := [0, 0x80 + node, 0x580 + node, 0x600 + node, 0x700 + node].contains id

/-- A frame's header carries an identifier of the CANopen FD server. -/
def State.serverFrame (s : State) (head : Nat) : Bool :=
  head / 2 ^ 40 % 2 == 0 && canopenId (s.iface.can.look {} 0).node (head % 2 ^ 11)

/-- The port of an operation cannot carry it: down, off, or no device (R387, R388; log entry 51). -/
def State.portStatus (s : State) (r : RawOp) : Status :=
  let u := r.sel.toNat
  let up := match r.op with
    | 0x20 => s.iface.ethMode.look 0 (u % 16) != 0 && s.iface.ethUp.getLsbD (u % 16)
    | 0x21 => !s.iface.linkDown.getLsbD (u % 4)
    | 0x22 => true
    | 0x23 =>
      let m := (s.iface.can.look {} (u % 4)).mode
      m != 0 && (r.receives || m != 2) && !s.iface.busOff.getLsbD (u % 4)
    | _ => (s.iface.tdm.look {} (u % 4)).role != 0
  if !up then 0x0701
  else if r.op = 0x22 ∧ (s.iface.usb.find? (·.1 == u % 8)).isNone then 0x0702
  else 0

/-- A USB READ asks for whole blocks of its device (R103). -/
def State.usbBlocksOk (s : State) (r : RawOp) : Bool :=
  let block := (s.iface.usb.look (0, 512) (r.sel.toNat % 8)).2
  r.op != 0x22 || bits r.sel 4 2 != 0 || r.count % block == 0

/-- The refusal of an operation at its start, 0 where it runs (R103, R345, R386). An NVMe opcode outside R386's list gives 0704h on
every root port (log entry 109). -/
def State.rawCheck (s : State) (r : RawOp) : Status :=
  let port := r.sel.toNat % 4
  let nop := (r.data.headD 0).toNat
  if r.op = 0x21 ∧ (!nvmeIssued (r.sel.getLsbD 2) nop ∨ (s.carriesWythe port ∧ !nvmeReads (r.sel.getLsbD 2) nop)) then 0x0704
  else if r.receives && s.wholeBound (rawFunc r) then 0x0705
  else if r.op = 0x23 ∧ !r.receives ∧ port = 0 ∧ (canFrames r.data r.data.length).any s.serverFrame then 0x0708
  else if s.inRung2 (rawFunc r) then 0x0901
  else if s.portStatus r ≠ 0 then s.portStatus r
  else if !s.usbBlocksOk r then 0x0107
  else 0

/-- An operation begins: an NVMe command goes to its root port under the next identifier (R103). -/
def State.rawStart (s : State) (r : RawOp) : State :=
  let a := { s with raws := s.raws ++ [r] }
  if r.op = 0x21 then a.nvmeIssue (r.sel.toNat % 4) (.raw r.owner) else a

/-! ### Course words (R85, R86, R88, R103) -/

/-- A raw word: gathered for a transmit, its ranges collected for a receive; the last word of the span starts the operation. -/
def State.rawWord (s : State) (c : CtxId) (w : BitVec 256) (h : HostRead) : State :=
  let x := s.course c
  let op := wOp w
  let base := (s.ctxRec c).hostBase
  let recv := op == 0x22 || (op != 0x21 && wReceives w)
  let ps := if wSkip w || op == 0x21 then ([], true) else s.pieces base x.hosted h recv w (wCount w)
  let segs := if recv && capacity x.segs == x.total then x.segs ++ ps.1 else x.segs
  let data := if op = 0x21 then s.readAt base h (wAddr w) 64 else if recv then [] else x.gather ++ s.gatherPieces base h ps.1
  if !recv && !ps.2 then s.finishWord c { status := 0x0108, count := s.asked c w, done := data.length }
  else if wSpan w then s.spanOn c w fun y => { y with gather := data, segs := segs }
  else
    let n := s.asked c w
    let r : RawOp := {
      owner := .course c, op := op, sel := wSel w, param := wParam w, count := n, data := data, base := base, skip := wSkip w
      segs := if op = 0x21 then [((wParam w).setWidth 40, n)] else segs }
    let st := s.rawCheck r
    if st ≠ 0 then s.finishWord c { status := st, count := n }
    else (s.modCourse c fun y => { y with wait := some .raw }).rawStart r

/-- ETH (R103). -/
def execEth (c : CtxId) (h : HostRead) (s : State) : Out := s.onWord c 0x20 fun w => s.rawWord c w h
/-- NVME (R103). -/
def execNvme (c : CtxId) (h : HostRead) (s : State) : Out := s.onWord c 0x21 fun w => s.rawWord c w h
/-- USB (R103). -/
def execUsb (c : CtxId) (h : HostRead) (s : State) : Out := s.onWord c 0x22 fun w => s.rawWord c w h
/-- CAN (R103). -/
def execCan (c : CtxId) (h : HostRead) (s : State) : Out := s.onWord c 0x23 fun w => s.rawWord c w h
/-- TDM (R103). -/
def execTdm (c : CtxId) (h : HostRead) (s : State) : Out := s.onWord c 0x24 fun w => s.rawWord c w h

/-! ### KX-1200 words (R415 to R421) -/

/-- The raw operation of a translated word; its data as the host memory gives them (R417). -/
def State.kxOp (s : State) (q : QueueId) (e : TakenEntry) (h : HostRead) : RawOp :=
  let w := e.raw
  let n := kLen w
  let u := kUnit w
  let sub := kSub w
  let haddr : W64 := w.extractLsb' 96 64
  let arg : W64 := w.extractLsb' 160 64
  let host : BitVec 40 := 0x8000000000
  let mk := fun (op sel : Nat) (param : W64) (recv : Bool) (data : Nat) => ({
    owner := .entry q e.pos, op := op, sel := BitVec.ofNat 24 sel, param := param, count := n, base := haddr
    segs := if recv then [(host, n)] else [], data := s.hostBytes h haddr.toNat data } : RawOp)
  match eOp w with
  | 0x10 => mk 0x20 u (BitVec.ofNat 64 (sub % 2)) false n
  | 0x11 => mk 0x20 (u + 16) (BitVec.ofNat 64 (sub % 2)) true 0
  | 0x20 => { mk 0x21 (u + 4 * (sub % 2)) arg false 64 with segs := [(arg.setWidth 40, n)] }
  | 0x30 => mk 0x22 (u + 256 * (sub % 8)) arg true 0
  | 0x31 => mk 0x22 (u + 16 + 256 * (sub % 8)) 0 true 0
  | 0x32 => mk 0x22 (u + 32 + 256 * (sub % 8)) 0 true 0
  | 0x40 => mk 0x23 u 0 false n
  | 0x41 => mk 0x23 (u + 16) 0 true 0
  | 0x50 => mk 0x24 u 0 false n
  | _ => mk 0x24 (u + 16) 0 true 0

/-- The function of a translated word's unit (R342, R417). -/
def kxFunc (raw : BitVec 512) : Nat :=
  let u := kUnit raw
  match eOp raw with
  | 0x10 | 0x11 => 0x10 + u
  | 0x20 => 0x20 + u
  | 0x30 | 0x31 | 0x32 => 0x28 + u
  | 0x40 | 0x41 => 0x34 + u
  | _ => 0x30 + u

/-- An operation of a transaction queue on a unit, taken before number `no`, has not ended (R418, R421). -/
def State.unitBusy (s : State) (f no : Nat) : Bool :=
  s.rings.pair.any fun p => p.2.txn && p.2.entries.any fun e =>
    decide (e.no < no) && e.done.isNone && eOp e.raw != 1 && kxFunc e.raw == f

/-- The entry of a transaction queue with an opcode that may start: its unit is free and not in rung 2, at most 8 operations of the
pair run, its service tile can dispatch it (R418, R420, R421). -/
def State.kxEntry (s : State) (q op : Nat) : Option TakenEntry :=
  let p := s.pair q
  let running := (p.entries.filter fun e => e.started && e.done.isNone).length
  if !p.txn || !s.tilePowered (s.serviceTile q) || decide (8 ≤ running) then none
  else p.entries.find? fun e => !e.started && eOp e.raw == op &&
    (op == 1 || (!s.inRung2 (kxFunc e.raw) && !s.unitBusy (kxFunc e.raw) e.no))

/-- A translated word starts: after a declaration it ends with 0402h, a refusal of R83 or R103 ends it at once (R417, R420). -/
def State.kxStart (s : State) (q : QueueId) (op : Nat) (h : HostRead) : State :=
  match s.kxEntry q op with
  | none => s
  | some e =>
    if op = 1 then s.entryDone (e.ref q) { status := 0 }
    else if s.holdup.declared then s.entryDone (e.ref q) { status := 0x0402 }
    else
      let r := s.kxOp q e h
      let badBuffer := r.op = 0x21 ∧ r.count ≠ 0 ∧ !devRangeOk (bits r.param 0 35) r.count true
      let st : Status := if badBuffer then 0x0103 else s.rawCheck r
      if st ≠ 0 then s.entryDone (e.ref q) { status := st }
      else (s.modPair q fun p => { p with
        entries := p.entries.map fun (x : TakenEntry) => if x.no = e.no then { x with started := true } else x }).rawStart r

/-- NOP of a transaction queue (R417). -/
def execKx1200Nop (q : QueueId) (s : State) : Out := .next (s.kxStart q 0x01 [])
/-- ETH_TX (R417). -/
def execEthTx (q : QueueId) (h : HostRead) (s : State) : Out := .next (s.kxStart q 0x10 h)
/-- ETH_RX (R417). -/
def execEthRx (q : QueueId) (s : State) : Out := .next (s.kxStart q 0x11 [])
/-- NVM_CMD (R417). -/
def execNvmCmd (q : QueueId) (h : HostRead) (s : State) : Out := .next (s.kxStart q 0x20 h)
/-- USB_READ (R417). -/
def execUsbRead (q : QueueId) (s : State) : Out := .next (s.kxStart q 0x30 [])
/-- USB_CAPACITY (R417). -/
def execUsbCapacity (q : QueueId) (s : State) : Out := .next (s.kxStart q 0x31 [])
/-- USB_INQUIRY (R417). -/
def execUsbInquiry (q : QueueId) (s : State) : Out := .next (s.kxStart q 0x32 [])
/-- CAN_TX (R417). -/
def execCanTx (q : QueueId) (h : HostRead) (s : State) : Out := .next (s.kxStart q 0x40 h)
/-- CAN_RX (R417). -/
def execCanRx (q : QueueId) (s : State) : Out := .next (s.kxStart q 0x41 [])
/-- TDM_TX (R417). -/
def execTdmTx (q : QueueId) (h : HostRead) (s : State) : Out := .next (s.kxStart q 0x50 h)
/-- TDM_RX (R417). -/
def execTdmRx (q : QueueId) (s : State) : Out := .next (s.kxStart q 0x51 [])

end Sys2Proof.Machine
end

