-- ==== Sys2Proof/Machine/Ifaces.lean ====
section
/-! DEFINITION. The receiving interfaces, NVMe outcomes, links and small buses (chapter 19, R364). -/
namespace Sys2Proof.Machine

/-! ### Keys and rings (R131, R378) -/

/-- The core has power and runs: RUN, TRIM and PARK (R361). -/
def State.coreOn (s : State) : Bool := s.power.phase == .run || s.power.phase == .park

/-- The link of PCIe port k can change: the endpoint's also in PARK, where the root ports' SSDs have no power (R361). -/
def State.linkOn (s : State) (k : Nat) : Bool := s.power.phase == .run || (s.power.phase == .park && k == 4)

/-- An interface of function f receives: the device runs and the function is not in rung 2. -/
def State.receiving (s : State) (f : Nat) : Bool :=
  s.power.phase == .run && !s.inRung2 f && !(s.holdup.declared && (decide (f < 0x20) || (decide (0x28 ≤ f) && decide (f < 0x34))))

/-- The bound keys of the unit of function f. -/
def State.keysOf (s : State) (f : Nat) : List (BitVec 320) := (s.bind.active.all.filter fun e => keyFunc e.key == f).map (·.key)

/-- A unit of a key is written to its lane's ring (R378). -/
def State.ringTakes (s : State) (k : BitVec 320) (ringFull : Bool) : Bool :=
  match s.laneFor k with
  | some l => (s.lane l).active && !s.holdup.declared && !ringFull
  | none => false

/-- A block or frame of a unit arrives for each of its keys; the event output follows what is written to a ring (R378, R395). -/
def State.blockArrives (s : State) (ks : List (BitVec 320)) (b : Bytes) (ringFull : Bool) (out : Option Nat) : State :=
  let t := ks.foldl (fun (t : State) k => t.unitArrives k b ringFull) s
  match out with
  | some o => if ks.any fun k => s.ringTakes k ringFull then t.eventOutput o else t
  | none => t

/-- The raw receive that waits at a port (R103). -/
def State.rawWaits (s : State) (op port : Nat) : Option RawOp :=
  s.raws.find? fun r => r.op == op && r.receives && r.sel.toNat % 16 == port

/-- What a raw receive of CAN or TDM collects; it ends when COUNT is reached (R103; log entry 52). -/
def State.rawCollect (s : State) (r : RawOp) (b : Bytes) : State :=
  let n := r.data.length + b.length
  if r.count ≤ n then s.rawOver r 0 (r.data ++ b) n false
  else { s with raws := s.raws.map fun x => if x.owner = r.owner then { x with data := x.data ++ b } else x }

/-! ### Ethernet (R379 to R381, R397) -/

/-- A frame goes to tile 0 (R380 step 5). -/
def State.toTile0 (s : State) (p : Nat) (b : Bytes) : State :=
  { s with iface := { s.iface with tile0Frames := s.iface.tile0Frames ++ [(p, b)] } }

/-- R380 steps 6 and 7: a raw receive, else the discard counter. -/
def State.frameLeft (s : State) (p : Nat) (bare : Bytes) (size : Nat) : State :=
  match s.rawWaits 0x20 p with
  | some r => s.rawOver r 0 bare bare.length false
  | none => s.discard (0x10 + p) size

/-- An RTCP packet of a bound flow is counted for its lane and goes to tile 0 (R380). -/
def State.rtcpTaken (s : State) (p l : Nat) (bare : Bytes) : State :=
  { s with iface := { s.iface with rtcp := s.iface.rtcp.modify 0 l (· + 1) } }.toTile0 p bare

/-- A UDP datagram: R380 steps 3 to 7. -/
def State.udpArrives (s : State) (p : Nat) (e : Ether) (k : BitVec 320) (peer src dst : Nat) (b : Bytes) (zero ringFull : Bool)
    (size : Nat) : State :=
  if (s.laneFor k).isSome then s.unitArrives k b ringFull
  else if dst = 47110 ∧ s.cfg 0x5811 1 / 2 ^ p % 2 = 1 then s.bumundArrives peer p b zero
  else if dst = 68 ∧ bits k 0 8 = 1 then s.toTile0 p e.bare
  else match (rtcpKey k src dst b).bind s.laneFor with
    | some l => s.rtcpTaken p l e.bare
    | none => s.frameLeft p e.bare size

/-- ETH_FRAME_RECEIVED: classified in the order of R380. `rtsp`: a TCP segment belongs to an RTSP connection. -/
def execEthFrameReceived (p : Fin 10) (frame : Bytes) (ringFull rtsp : Bool) (s : State) : Out :=
  .next (if !s.receiving (0x10 + p) || s.iface.ethMode.look 0 p == 0 then s
    else match readEther frame with
      | none => s.discard (0x10 + p) frame.length
      | some e =>
        match classify p (if s.ptpOn p then s.time.profile else 0) rtsp e with
        | .discard => s.discard (0x10 + p) frame.length
        | .ptp => s
        | .udp k peer src dst b zero => s.udpArrives p e k peer src dst b zero ringFull frame.length
        | .tile0 => s.toTile0 p e.bare
        | .other => s.frameLeft p e.bare frame.length)

/-- The raw operations of a unit end with a status. -/
def State.endRaws (s : State) (f : Nat) (st : Status) : State :=
  ((s.raws.filter fun r => rawFunc r == f).map (·.owner)).foldl (fun (t : State) o => t.endOp o st) s

/-- ETH_LINK_CHANGE: the link goes up or down; a frame cut short is counted in DISCARDED (R395, R397). -/
def execEthLinkChange (p : Fin 10) (up : Bool) (cut : Nat) (s : State) : Out :=
  let b := BitVec.ofNat 10 (2 ^ p.val)
  .next (if !s.receiving (0x10 + p) || s.iface.ethMode.look 0 p == 0 || s.iface.ethUp.getLsbD p == up then s
    else
      let a := s.raise (128 + p)
      if up then { a with iface := { a.iface with ethUp := a.iface.ethUp ||| b } }
      else (({ a with iface := { a.iface with ethUp := a.iface.ethUp &&& ~~~b } }).discard (0x10 + p) cut).endRaws (0x10 + p) 0x0701)

/-- MDIO_TRANSACTION_COMPLETE (R395). -/
def execMdioTransactionComplete (s : State) : Out := .next (if s.coreOn then s.raise 138 else s)

/-! ### NVMe (R96, R103, R385 to R387) -/

/-- The fault that an NVMe outcome is: of a raw operation or an APPEND, or of the device's own command (R343, R387). -/
def NvmeUse.op : NvmeUse → FaultOp
  | .flush _ => .own
  | .append c .. => .raw (.course (Fin.ofNat 1048576 c))
  | .raw o => .raw o

/-- A command fails: a fault of its port at rung 1, unless a retry of it is under way (R343, R387). -/
def State.nvmeFails (s : State) (port : Nat) (u : NvmeUse) (st : Status) : State :=
  match u.op with
  | .raw o => if s.retrying (0x20 + port) o then s else s.fault (0x20 + port) u.op st true
  | x => s.fault (0x20 + port) x st true

/-- The Flush of a member is complete; behind the last one LC_DONE is set (R71, R72). -/
def State.flushed (s : State) (m : Nat) : State :=
  match s.holdup.flushing with
  | none => s
  | some ms =>
    let r := ms.filter (· != m)
    let a := { s with holdup := { s.holdup with flushing := some r } }
    if r.isEmpty then ((a.publish 269).lcDone).afterLc else a

/-- DETAIL of a raw NVME operation: completion DW0 and the status field (R103). -/
def nvmeDetail (status : BitVec 15) (result : W64) : W64 := BitVec.ofNat 64 (bits result 0 32 + status.toNat * 2 ^ 32)

/-- DETAIL of the operation of an owner set. -/
def State.setDetail (s : State) (o : RawOwner) (d : W64) : State :=
  { s with raws := s.raws.map fun r => if r.owner = o then { r with detail := d } else r }

/-- A command has completed without error (R71, R96, R103). -/
def State.nvmeDone (s : State) (port : Nat) (u : NvmeUse) (result : W64) (data : Bytes) : State :=
  match u with
  | .flush m => s.flushed m
  | .append c m lba o seq =>
    (s.retryOver (0x20 + port) (.course (Fin.ofNat 1048576 c))).appendDone c m o seq (lba.getD result.toNat) true
  | .raw o =>
    let a := (s.retryOver (0x20 + port) o).setDetail o (nvmeDetail 0 result)
    match a.rawOf o with
    | some r => a.rawOver r 0 data r.count false
    | none => a

/-- NVME_COMPLETION of an outstanding command: `result` is DW0 and DW1, `data` what a read brings (R386, R387). -/
def execNvmeCompletion (r : Fin 4) (cid : BitVec 16) (status : BitVec 15) (result : W64) (data : Bytes) (s : State) : Out :=
  .next (match s.nvme.find? fun n => n.port == r.val && n.cid == cid with
    | none => s
    | some n =>
      if s.inRung2 (0x20 + r) then s
      else if status = 0 then
        ({ s with nvme := s.nvme.filter fun x => !(x.port == r.val && x.cid == cid) }).nvmeDone r n.use result data
      else
        let a := match n.use with | .raw o => s.setDetail o (nvmeDetail status result) | _ => s
        a.nvmeFails r n.use 0x0703)

/-- NVME_TIMEOUT: no completion within the timeout (R387). -/
def execNvmeTimeout (r : Fin 4) (cid : BitVec 16) (s : State) : Out :=
  .next (match s.nvme.find? fun n => n.port == r.val && n.cid == cid with
    | none => s
    | some n => s.nvmeFails r n.use 0x0707)

/-! ### PCIe links (R360, R384, R387, R395) -/

/-- The source of a PCIe link (R395). -/
def linkSource (k : Nat) : Nat := if k = 4 then 148 else 144 + k

/-- The APPENDs under way at a root port end with a status. -/
def State.endAppends (s : State) (port : Nat) (st : Status) : State :=
  (s.appending port).foldl (fun (t : State) c => t.breakWord c st) s

/-- PCIE_LINK_DOWN: every outstanding raw operation and APPEND ends with 0701h, and the fault enters rung 2 (R384, R387). -/
def execPcieLinkDown (k : Fin 5) (s : State) : Out :=
  .next (if !s.linkOn k || s.iface.linkDown.getLsbD k then s
    else
      let a := { s with iface := { s.iface with linkDown := s.iface.linkDown ||| BitVec.ofNat 5 (2 ^ k.val) } }.raise (linkSource k)
      let b := if k.val = 4 then a else (a.endRaws (0x20 + k) 0x0701).endAppends k 0x0701
      b.fault (0x20 + k) .none 0x0701 true)

/-- PCIE_LINK_UP: the endpoint's link makes the recovery scan that a rung 2 owes (R295, R395). -/
def execPcieLinkUp (k : Fin 5) (h : HostRead) (s : State) : Out :=
  .next (if !s.linkOn k || !s.iface.linkDown.getLsbD k then s
    else
      let a := { s with iface := { s.iface with linkDown := s.iface.linkDown &&& ~~~(BitVec.ofNat 5 (2 ^ k.val)) } }.raise (linkSource k)
      if k.val = 4 then a.recoverOwed h else a)

/-- PCIE_REFCLK_LOSS: a selected common clock is lost: a link fault of function 24h (R360). -/
def execPcieRefclkLoss (s : State) : Out :=
  .next (if s.coreOn && s.power.pcieCc then s.fault 0x24 .none 0 true else s)

/-! ### USB (R388, R389, R395, R397) -/

/-- USB_ATTACH: a mass storage device of the port is configured, or the attach completes with 0702h and the port is disabled (R388). -/
def execUsbAttach (u : Fin 8) (good : Bool) (key : BitVec 320) (block : Nat) (s : State) : Out :=
  .next (if !s.receiving (0x28 + u) || s.cfg 0x5840 1 / 2 ^ u.val % 2 == 0 then s
    else
      let a := s.raise (160 + u)
      if good && keyFunc key == 0x28 + u.val && (block == 512 || block == 4096) then
        ({ a with iface := { a.iface with usb := a.iface.usb.put u (key, block) } }).eventOutput (74 + u)
      else a)

/-- The INGESTs that take the units of function f end with a status. -/
def State.endIngests (s : State) (f : Nat) (st : Status) : State :=
  ((s.lanes.filter fun e => e.2.ingest.isSome && (s.bind.order.look [] e.1).any fun k => keyFunc k == f).map (·.1)).foldl
    (fun (t : State) l => t.ingestEnd l st false) s

/-- USB_DETACH: INGESTs and raw operations of the port end with 0702h; what stands in a ring stays (R389, R397). -/
def execUsbDetach (u : Fin 8) (s : State) : Out :=
  .next (if !s.receiving (0x28 + u) then s
    else
      let a := { s with iface := { s.iface with usb := s.iface.usb.del u } }.raise (160 + u)
      (a.endIngests (0x28 + u) 0x0702).endRaws (0x28 + u) 0x0702)

/-! ### TDM (R390, R395) -/

/-- TDM_BLOCK: a whole block of the port; a full ring raises its source (R378, R390, R395). -/
def execTdmBlock (t : Fin 4) (block : Bytes) (ringFull : Bool) (s : State) : Out :=
  let f := 0x30 + t.val
  let ks := s.keysOf f
  .next (if !s.receiving f || (s.iface.tdm.look {} t).role == 0 then s
    else if !ks.isEmpty then
      let a := s.blockArrives ks block ringFull (some (66 + t.val))
      if ringFull then a.raise (168 + t) else a
    else match s.rawWaits 0x24 t.val with
      | some r => s.rawCollect r block
      | none => s.discard f block.length)

/-- The partial block of a clock loss is dropped for one key (R378, R390). -/
def State.cutBlock (s : State) (n : Nat) (k : BitVec 320) : State :=
  match s.laneFor k with
  | some l => if (s.lane l).active then (s.addRefused l n).modLane l fun x => { x with gapNext := true } else s.discard (keyFunc k) n
  | none => s.discard (keyFunc k) n

/-- TDM_CLOCK_LOSS: in slave mode, a fault with 0701h; the partial block of `cut` bytes is dropped whole (R390, R395). -/
def execTdmClockLoss (t : Fin 4) (cut : Nat) (s : State) : Out :=
  let f := 0x30 + t.val
  .next (if !s.receiving f || (s.iface.tdm.look {} t).role != 2 then s
    else
      let ks := s.keysOf f
      let a := if ks.isEmpty then s.discard f cut else ks.foldl (fun (t : State) k => t.cutBlock cut k) s
      (a.raise (168 + t)).fault f .none 0x0701 true)

/-! ### CAN FD (R364, R391, R395) -/

/-- CAN_FRAME_RECEIVED: the 8 header bytes and the data of a valid frame; in PARK controller 0 wakes the device (R35, R364, R391). -/
def execCanFrameReceived (c : Fin 4) (frame : Bytes) (ringFull : Bool) (s : State) : Out :=
  let f := 0x34 + c.val
  let ks := s.keysOf f
  .next (if s.power.phase = .park ∧ c.val = 0 then s.wakeUp 3
    else if !s.receiving f || (s.iface.can.look {} c).mode == 0 || s.iface.busOff.getLsbD c then s
    else if !ks.isEmpty then s.blockArrives ks frame ringFull (some (70 + c.val))
    else match s.rawWaits 0x23 c.val with
      | some r => s.rawCollect r (padTo (paddedLen frame.length) (blockPrefix frame.length false s.time.now ++ frame))
      | none => s.discard f frame.length)

/-- CAN_BUS_OFF: a fault whose rung-1 retry is the standard recovery (R391, R395). -/
def execCanBusOff (c : Fin 4) (s : State) : Out :=
  .next (if !s.receiving (0x34 + c) || (s.iface.can.look {} c).mode == 0 || s.iface.busOff.getLsbD c then s
    else
      ({ s with iface := { s.iface with busOff := s.iface.busOff ||| BitVec.ofNat 4 (2 ^ c.val) } }.raise (172 + c)).fault
        (0x34 + c) .own 0x0701 true)

/-- CAN_ERROR_FRAME: counted, not recorded (R391). -/
def execCanErrorFrame (c : Fin 4) (s : State) : Out :=
  .next (if !s.receiving (0x34 + c) || (s.iface.can.look {} c).mode == 0 then s
    else { s with iface := { s.iface with canErrors := s.iface.canErrors.modify 0 c (· + 1) } })

/-! ### Board buses and GPIO (R393 to R395) -/

/-- SMBALERT (R393). -/
def execSmbalert (s : State) : Out := .next (if s.coreOn then s.raise 220 else s)

/-- I2C_TRANSACTION_COMPLETE: completion or error raises source 221; a transaction stretched beyond 25 ms ends with 0707h, a fault of the
buses (R393). -/
def execI2cTransactionComplete (ok : Bool) (s : State) : Out :=
  .next (if !s.coreOn then s
    else if ok then s.raise 221 else (s.raise 221).fault 0x39 .own 0x0707 true)

/-- A GPIO line's edges publish: an input's, in PARK and DEEP only a line's in GPIO_WAKE (R237, R394; log entry 98). -/
def State.gpioOn (s : State) (n : Nat) : Bool :=
  match s.power.phase with
  | .run => s.cfg 0x5870 1 / 2 ^ n % 2 == 0
  | .park | .deep => s.cfg 0x5870 1 / 2 ^ n % 2 == 0 && s.cfg 0x5870 5 / 2 ^ n % 2 == 1 && s.power.refclkOk
  | _ => false

/-- GPIO_EDGE: a filtered edge publishes event output 2n rising, 2n + 1 falling (R227, R394). -/
def execGpioEdge (n : Fin 32) (rising : Bool) (s : State) : Out :=
  let b := BitVec.ofNat 32 (2 ^ n.val)
  .next (if !s.gpioOn n then s
    else
      ({ s with iface := { s.iface with gpio := if rising then s.iface.gpio ||| b else s.iface.gpio &&& ~~~b } }).eventOutput
        (2 * n + (if rising then 0 else 1)))

/-- GPIO_BLOCK: a block of the capture unit (R378, R394). -/
def execGpioBlock (block : Bytes) (ringFull : Bool) (s : State) : Out :=
  let ks := s.keysOf 0x3A
  .next (if !s.receiving 0x3A then s
    else if ks.isEmpty then s.discard 0x3A block.length else s.blockArrives ks block ringFull none)

end Sys2Proof.Machine
end

