-- ==== Sys2Proof/Machine/Run.lean ====
section
/-! DEFINITION. Reads of device addresses (R15 to R19), an abandoned access of an engine (R163), run control (R372, R373). -/
namespace Sys2Proof.Machine

/-! ### Run control (R372, R373) -/

/-- Masters whose writes of the run control are accepted (R372). -/
def State.runMaster (s : State) (m : Nat) : Bool := s.fw m || m == 98

/-- ENG_STATE (R372). -/
def EngRun.code : EngRun → Nat
  | .halted _ => 0
  | .running => 1
  | .waitE | .waitT _ => 2
  | .stallLoad _ | .stallStore .. => 3

/-- The status word of an engine (R372). -/
def Engine.statusWord (x : Engine) : W32 :=
  pack [(x.run.code, 0), (x.faulted.toNat, 2), (x.faultCase.toNat, 3), (x.faultPc.toNat, 6)]

/-- A read of the run control at 7_AE00_0000h; none where unassigned (R372). -/
def State.runRead (s : State) (off : Nat) : Option (W32 × State) :=
  let p := s.power
  if off = 0 then some (pack [(p.req.toNat, 0), (p.reqPending.toNat, 2)], s)
  else if off = 4 then some (pack [(p.resetCause.toNat, 0), (p.wakeCause.toNat, 8)], s)
  else if off = 8 then some (pack [(p.pllLock.toNat, 0), (p.refclkOk.toNat, 1), (p.pcieCc.toNat, 2)], s)
  else if off = 0xC then some (p.railFaultStep.setWidth 32, s)
  else if 0x100 ≤ off ∧ off < 0x130 then
    let x := s.tile ((off - 0x100) / 4)
    some (pack [(x.pwrReq.toNat, 0), (x.power.code, 2)], s)
  else if 0x200 ≤ off ∧ off < 0x500 then
    let x := s.eng ((off - 0x200) / 8)
    some (if off % 8 = 0 then x.startPc.setWidth 32 else x.statusWord, s)
  else none

/-! ### Reads (R15 to R19) -/

/-- A read of a current record through the context store's control block (R117, R120; log entry 110). -/
def State.recordRead (s : State) (off : Nat) : Option (W32 × State) :=
  (Config.recordAt off).map fun p =>
    (BitVec.ofNat 32 (leNat (slice ((s.ctxRec p.1).bytes p.1) (4 * p.2.val) 4)), { s with ctx := s.ctx.access p.1 })

/-- A word of a control block read at its device address; none where unassigned (R18). -/
def State.regRead (s : State) (a : Nat) : Option (W32 × State) :=
  let off := a % 0x1000000
  match a / 0x1000000 with
  | 0x7A0 => s.vuRead off
  | 0x7A1 => s.routerRead off
  | 0x7A2 => s.mailRead off
  | 0x7A3 => s.ringRead off
  | 0x7A4 => if off < 0x180000 then s.hodRead (off / 0x10000) (off % 0x10000) else none
  | 0x7A5 => s.mortarRead off
  | 0x7A6 => s.recordRead off
  | 0x7A7 => s.slotRead off
  | 0x7AE => if off < 0x100000 then s.runRead off else s.ladderRead (off - 0x100000)
  | _ => none

/-- The words that an access touches, in order. -/
def wordsOf (as : List Nat) : List Nat := (as.map fun a => a / 4 * 4).eraseDups

/-- Bytes read by master m: the value of each, and the state behind it; unassigned bytes read 0, as one address fault (R15, R19). -/
def State.busRead (s : State) (m : Nat) (as : List Nat) : Bytes × State :=
  let ctl := fun a => decide (regionOf a = .control)
  let r : List (Nat × W32) × State × Bool := (wordsOf (as.filter ctl)).foldl (fun (x : List (Nat × W32) × State × Bool) w =>
    match x.2.1.regRead w with
    | some v => ((w, v.1) :: x.1, v.2, x.2.2)
    | none => (x.1, x.2.1, true)) ([], s, false)
  let b := as.map fun a =>
    if ctl a then byteOf (match r.1.find? fun w => w.1 == a / 4 * 4 with | some w => w.2 | none => 0) (a % 4) else s.devByte a
  let bad := r.2.2 || as.any fun a => decide (regionOf a = .unassigned)
  (b, if bad then r.2.1.addrFault m else r.2.1)

/-! ### Reads of the data space (R157 to R160) -/

/-- A read of the engine block (R159). -/
def State.engPortRead (s : State) (e off : Nat) : Option (W24 × State) :=
  if off = 0 then some ((pack [(e, 0), (tileOf e, 7)]).setWidth 24, s)
  else if off = 1 then some ((s.tile (tileOf e)).gen.setWidth 24, s)
  else if off = 2 then some ((s.eng e).evl, s)
  else none

/-- A read of tile I/O at 8_0000h + off (R158). -/
def State.ioRead (s : State) (e off : Nat) : Option (W24 × State) :=
  let o := off % 0x1000
  match off / 0x1000 with
  | 0 => s.engPortRead e o
  | 1 => s.sliceRead e o
  | 2 => s.routerPortRead e o
  | 3 => s.mailPortRead e o
  | 5 => s.mortarPortRead e o
  | _ => none

/-- The device address of a word of a tile's shared data (R16, R157). -/
def sharedAddr (e a : Nat) : Nat := 0x780000000 + tileOf e * 0x100000 + 4 * (a - 0x40000)

/-- A word of the data space read by engine e (R157). -/
def State.dataRead (s : State) (e : Nat) (a : W24) : W24 × State :=
  let n := a.toNat
  if n < 0x4000 then ((s.eng e).loc.look 0 n, s)
  else if 0x40000 ≤ n ∧ n < 0x80000 then (BitVec.ofNat 24 (leNat (s.bytesAt (sharedAddr e n) 3)), s)
  else if 0x80000 ≤ n ∧ n < 0x90000 then
    match s.ioRead e (n - 0x80000) with
    | some r => r
    | none => (0, s.addrFault e)
  else (0, s.addrFault e)

/-! ### Abandoned accesses (R163, R192) -/

/-- The device addresses of an access's bytes (R20, R161). -/
def accessBytes (a : DevAddr) (n : Nat) : List Nat := (List.range n).map fun i => (byteAddr a i).toNat

/-- The data that the replay latch of the engine's level keeps for a load issued again (R163). -/
def Engine.kept (x : Engine) (r : LoadReq) : Option Replay :=
  match x.replay.look none x.level with
  | some k => if k.addr = r.addr ∧ k.size = r.size ∧ k.space = r.space then some k else none
  | none => none

/-- A load reads a control block or tile I/O, whose data the replay latch keeps (R163). -/
def LoadReq.latched (r : LoadReq) : Bool :=
  match r.space with
  | some a => decide (0x80000 ≤ a.toNat)
  | none => regionOf r.addr.toNat == .control

/-- The data of such a load, and the state behind the read (R157, R161). -/
def State.readBlock (s : State) (e : Nat) (r : LoadReq) : W24 × State :=
  match r.space with
  | some a => s.dataRead e a
  | none => let d := s.busRead e (accessBytes r.addr r.size); (BitVec.ofNat 24 (leNat d.1), d.2)

/-- A load of a control block or of tile I/O that is abandoned completes at its block; its data wait in the replay latch of the engine's
level, and a load that the latch serves already keeps it (R163). -/
def State.keepRead (s : State) (e : Nat) (r : LoadReq) : State :=
  if r.latched && ((s.eng e).kept r).isNone then
    let d := s.readBlock e r
    d.2.modEng e fun x => { x with
      replay := x.replay.put x.level (some { addr := r.addr, size := r.size, data := d.1, space := r.space }) }
  else s

/-- Engine e's stalled access is abandoned; RC receives what an RPTI has left (R163, R192). -/
def State.abandon (s : State) (e : Nat) : State :=
  let a := match (s.eng e).run with | .stallLoad r => s.keepRead e r | _ => s
  a.modEng e fun x => { x with rc := x.rpti.getD x.rc, rpti := none }

/-- E2 and E3 of an entry selected at E1: the return address and IE are saved, the level is active, PC is the latched vector (R170, R173). -/
def State.enterLevel (s : State) (e : Nat) : State :=
  match (s.eng e).e1 with
  | none => s
  | some (_, l, v) =>
    (s.abandon e).modEng e fun x => { x with
      ipc := x.ipc.put l.toNat x.pc, istat := x.istat.put l.toNat x.ie, act := x.act ||| (1#4 <<< l.toNat)
      pc := v, run := .running, e1 := none, entered := true }

/-- HALT_REQ: at the boundary, behind an entry already selected, or at once; no interrupt until a release (R373). -/
def State.haltEngine (s : State) (e : Nat) : State :=
  ((s.enterLevel e).abandon e).modEng e fun x => { x with run := .halted false, haltReq := true }

/-! ### Writes of the run control -/

/-- START_PC, RELEASE and HALT_REQ written; with both, only HALT_REQ acts (R372, R373). -/
def State.writeEngine (s : State) (e : Nat) (v be : W32) : State :=
  let x := v &&& be
  let a := s.modEng e fun y => { y with startPc := (merge (y.startPc.setWidth 32) v be).setWidth 18 }
  if x.getLsbD 25 then a.haltEngine e else if x.getLsbD 24 then a.releaseEngine e else a

/-- A write of the run control by master m; none where refused (R372). -/
def State.runWrite (s : State) (m off : Nat) (v be : W32) : Option State :=
  if !s.runMaster m then none
  else if off = 0 then some { s with power := s.power.ask (bits (merge (s.power.req.setWidth 32) v be) 0 2) }
  else if off = 4 ∨ off = 8 ∨ off = 0xC then some s
  else if 0x100 ≤ off ∧ off < 0x130 then
    let t := (off - 0x100) / 4
    some (s.writeTilePwr t ((merge ((s.tile t).pwrReq.setWidth 32) v be).setWidth 2))
  else if 0x200 ≤ off ∧ off < 0x500 then
    some (if off % 8 = 0 then s.writeEngine ((off - 0x200) / 8) v be else s)
  else none

/-- A whole word written to the run control by master m. -/
def State.runSet (s : State) (m off v : Nat) : State :=
  (s.runWrite m off (BitVec.ofNat 32 v) 0xFFFFFFFF).getD (s.addrFault m)

def execPwrReqPark (m : Master) (s : State) : Out := .next (s.runSet m 0 1)
def execPwrReqDeep (m : Master) (s : State) : Out := .next (s.runSet m 0 2)
def execPwrReqCancel (m : Master) (s : State) : Out := .next (s.runSet m 0 0)
def execTilePwrRun (m : Master) (t : Tile) (s : State) : Out := .next (s.runSet m (0x100 + 4 * t) 0)
def execTilePwrBanked (m : Master) (t : Tile) (s : State) : Out := .next (s.runSet m (0x100 + 4 * t) 1)
def execTilePwrCold (m : Master) (t : Tile) (s : State) : Out := .next (s.runSet m (0x100 + 4 * t) 2)

/-- RELEASE: bit 24 written alone; START_PC stays (R373; log entry 10). -/
def execRelease (m : Master) (e : Eng) (s : State) : Out :=
  .next ((s.runWrite m (0x200 + 8 * e) 0x01000000 0xFF000000).getD (s.addrFault m))

end Sys2Proof.Machine
end

