-- ==== Sys2Proof/Machine/Bus.lean ====
section
/-! DEFINITION. Accesses of masters to device addresses, to tile I/O and to engine data space, and the two rows of plain writes (R15 to R20,
R157 to R159, R163, R277, R278). The windows at 7_A600_0000h, 7_A800_0000h, 7_A900_0000h and 7_AA00_0000h to 7_AD00_0000h, and the tile
I/O windows 8_4000h and 8_6000h, have no layout in the spec: every word of them is unassigned (R18, R157), but for the current records that
the first one shows (R117; log entry 110). -/
namespace Sys2Proof.Machine

/-! ### Control blocks (R18) -/

/-- A word of a control block written by master m, with its byte enables; none where unassigned or refused (R17, R18). -/
def State.regWrite (s : State) (m a : Nat) (v be : W32) : Option State :=
  let off := a % 0x1000000
  match a / 0x1000000 with
  | 0x7A0 => s.vuWrite m off v be
  | 0x7A1 => s.routerWrite m off v be
  | 0x7A2 => s.mailWrite m off v be
  | 0x7A3 => s.ringWrite m off v be []
  | 0x7A4 => if off < 0x180000 then s.hodWriteReg m (off / 0x10000) (off % 0x10000) v be else none
  | 0x7A5 => s.mortarWrite m off v be
  | 0x7A7 => s.slotWrite m off v be
  | 0x7AE => if off < 0x100000 then s.runWrite m off v be else s.ladderWrite m (off - 0x100000) v be
  | _ => none

/-! ### The device address space (R15 to R17, R19) -/

/-- Master m may write a region (R17). -/
def State.mayWrite (s : State) (m : Nat) : Region → Bool
  | .dram | .tileData => true
  | .context => tile0 m
  | .tileProg => s.fw m || m == 98
  | _ => false

/-- A byte written to DRAM or a tile's memory; a change of TILE is imaged (R126). -/
def State.putByte (s : State) (a : Nat) (v : Byte) : State :=
  match regionOf a with
  | .context => if (a - 0x370000000) % 256 = 2 then (s.setCtxByte a v).image ((a - 0x370000000) / 256) else s.setCtxByte a v
  | _ => s.setByte a v

/-- The byte enables and data of an access's bytes in one word. -/
def wordPart (ps : List (Nat × Byte)) (w : Nat) : W32 × W32 :=
  (ps.filter fun p => decide (p.1 / 4 * 4 = w)).foldl (fun (x : W32 × W32) p =>
    (x.1 ||| BitVec.ofNat 32 (p.2.toNat * 2 ^ (8 * (p.1 % 4))), x.2 ||| BitVec.ofNat 32 (0xFF * 2 ^ (8 * (p.1 % 4))))) (0, 0)

/-- Bytes written to memory by master m, those that it may write, and whether one was refused (R17, R19). -/
def State.memWrite (s : State) (m : Nat) (ps : List (Nat × Byte)) : State × Bool :=
  ps.foldl (fun (x : State × Bool) p =>
    if s.mayWrite m (regionOf p.1) then (x.1.putByte p.1 p.2, x.2) else (x.1, true)) (s, false)

/-- Words written to control blocks by master m, and whether one was refused (R18, R19). -/
def State.ctlWrite (s : State) (m : Nat) (ps : List (Nat × Byte)) : State × Bool :=
  (wordsOf (ps.map (·.1))).foldl (fun (x : State × Bool) w =>
    let d := wordPart ps w
    match x.1.regWrite m w d.1 d.2 with
    | some t => (t, x.2)
    | none => (x.1, true)) (s, false)

/-- A write of bytes by master m; what is refused or unassigned is one address fault (R17, R19). -/
def State.busWrite (s : State) (m : Nat) (ps : List (Nat × Byte)) : State :=
  let ctl := fun (p : Nat × Byte) => decide (regionOf p.1 = .control)
  let a := s.memWrite m (ps.filter fun p => !ctl p)
  let b := a.1.ctlWrite m (ps.filter ctl)
  if a.2 || b.2 then b.1.addrFault m else b.1

/-- Every posted store of engine e reaches the fabric, oldest first (R11, R162). -/
def State.drainAll (s : State) (e : Nat) : State :=
  (s.eng e).posted.foldl (fun t p =>
    t.busWrite e ((accessBytes p.addr p.size).zip ((List.range p.size).map fun i => p.data.extractLsb' (8 * i) 8)))
    (s.modEng e fun x => { x with posted := [] })

/-- A load of a control block that is about to be abandoned is read behind the engine's own posted stores (R11, R163). -/
def State.settleRead (s : State) (e : Nat) : State :=
  match (s.eng e).run with
  | .stallLoad r => if r.latched && r.space.isNone && ((s.eng e).kept r).isNone then s.drainAll e else s
  | _ => s

/-- An engine has posted a store to the mailboxes' central window (R18, R247). -/
def Engine.postsMail (x : Engine) : Bool := x.posted.any fun p => p.addr.toNat / 0x1000000 == 0x7A2

/-! ### Engine data space (R157 to R160) -/

/-- EVL bit 21 follows a source held by IE = 0 (R160, R216). -/
def State.markIfHeld (s : State) (e : Nat) : State :=
  if !(s.eng e).ie && s.vu.src.any fun r => r.2.pending && r.2.mask.getLsbD e then s.mark e 21 else s

/-- A write of the engine block: EVL bits written 1 clear (R159, R160). -/
def State.engPortWrite (s : State) (e off : Nat) (v : W24) : Option State :=
  if off = 0 ∨ off = 1 then some s
  else if off = 2 then some ((s.modEng e fun x => { x with evl := x.evl &&& ~~~v }).markIfHeld e)
  else none

/-- A write of tile I/O at 8_0000h + off; what the engine has posted to the mailboxes is applied before a write of its mailbox words
(R158, R247). -/
def State.ioWrite (s : State) (e off : Nat) (v : W24) : Option State :=
  let o := off % 0x1000
  match off / 0x1000 with
  | 0 => s.engPortWrite e o v
  | 1 => s.sliceWrite e o v
  | 2 => s.routerPortWrite e o v
  | 3 => (if (s.eng e).postsMail then s.drainAll e else s).mailPortWrite e o v
  | 5 => s.mortarPortWrite e o v
  | _ => none

/-- A word of the data space written by engine e (R157). -/
def State.dataWrite (s : State) (e : Nat) (a v : W24) : State :=
  let n := a.toNat
  if n < 0x4000 then s.modEng e fun x => { x with loc := x.loc.store 0 n v }
  else if 0x40000 ≤ n ∧ n < 0x80000 then s.setBytes (sharedAddr e n) (toLE 3 v.toNat)
  else if 0x80000 ≤ n ∧ n < 0x90000 then (s.ioWrite e (n - 0x80000) v).getD (s.addrFault e)
  else s.addrFault e

/-! ### The rows -/

/-- A word of the host's register BAR written (R277). -/
def State.barWrite (s : State) (off : Nat) (v : W32) : Option State :=
  if off < 0x800000 then s.ringWrite 96 off v 0xFFFFFFFF []
  else if off < 0x880000 then s.mailWrite 96 (off - 0x800000) v 0xFFFFFFFF
  else if off = 0x900000 then some (s.raiseWrite 96 (bits v 0 8))
  else none

/-- A word that a master writes to the run control may halt an engine: its read completes behind what it has posted (R163, R373). -/
def State.beforeHalt (s : State) (a : Nat) (v : W32) : State :=
  if 0x7AE000200 ≤ a ∧ a < 0x7AE000500 ∧ a % 8 = 4 ∧ v.getLsbD 25 then s.settleRead ((a - 0x7AE000200) / 8) else s

/-- A 64-bit write: the word at the address, then the one behind it; of SUBMIT12 the upper one first (R430; log entry 113). -/
def State.write64 (s : State) (m : Nat) (a : DevAddr) (lo hi : W32) : State :=
  let word := fun (t : State) (o : Nat) (v : W32) =>
    (t.beforeHalt (a.toNat + o) v).busWrite m ((List.range 4).map fun i => ((byteAddr a (o + i)).toNat, byteOf v i))
  if a.toNat = 0x7A5000010 then word (word s 4 hi) 0 lo else word (word s 0 lo) 4 hi

/-- HALT_REQ (R373). -/
def execHaltReq (m : Master) (e : Eng) (s : State) : Out :=
  .next (if s.runMaster m then ((s.settleRead e).runWrite m (0x200 + 8 * e) 0x02000000 0xFF000000).getD (s.addrFault m)
    else s.addrFault m)

/-- REGISTER_WRITE: a word written by a master at a device address, by the host at an offset of its register BAR, or a field of the
endpoint's configuration space that R214 reads (R17 to R19, R214, R277). -/
def execRegisterWrite (m : Master) (t : RegTarget) (v : W32) (s : State) : Out :=
  .next (match t with
    | .device a => (s.beforeHalt a.toNat v).busWrite m ((List.range 4).map fun i => ((byteAddr a i).toNat, byteOf v i))
    | .device64 a hi => s.write64 m a v hi
    | .bar off => (s.barWrite off.toNat v).getD (s.addrFault 96)
    | .msixEnable => { s with rings := { s.rings with msixEn := v.getLsbD 0 } }
    | .msixFunctionMask => { s with rings := { s.rings with msixFnMask := v.getLsbD 0 } }
    | .busMaster => { s with rings := { s.rings with busMaster := v.getLsbD 0 } })

/-- DRAM_WINDOW_WRITE: a host write at an offset of the DRAM window reaches general DRAM only (R17, R278). -/
def execDramWindowWrite (off : DevAddr) (val : Bytes) (s : State) : Out :=
  let base := s.rings.winBase.toNat * 0x100000000 + off.toNat % 0x100000000
  let ps := (List.range val.length).map fun i => (base + i, val.getD i 0)
  .next (let ok := ps.filter fun p => decide (regionOf p.1 = .dram)
    let a := ok.foldl (fun (t : State) p => t.setByte p.1 p.2) s
    if ok.length = ps.length then a else a.addrFault 96)

end Sys2Proof.Machine
end

