-- ==== Sys2Proof/Machine/Parcels.lean ====
section
/-! DEFINITION. The parcels of the engine instructions: their encodings, what they decode to, which encodings are illegal (R178 to R184,
R188, R197, R374). -/
namespace Sys2Proof.Machine

/-! ### Lengths and prefixes -/

/-- An instruction of two parcels (R178, R183, R184). -/
def opLong : EOp → Bool
  | .imm .. | .li .. | .ldwL .. | .stwL .. | .ld .. | .st .. | .bzL .. | .bnzL .. | .braL _ | .call _ | .sendei _ | .custom .. => true
  | _ => false

/-- The parcels of an instruction (R178). -/
def opLen (o : EOp) : Nat := if opLong o then 2 else 1

/-- What may follow RPTI (R188). -/
def rptiOk : EOp → Bool
  | .bz .. | .bnz .. | .bra _ | .jmp _ | .call _ | .callr _ | .reti | .halt | .di | .ei => false
  | .bzL .. | .bnzL .. | .braL _ | .rpt _ | .rpti | .waite | .waitt _ => false
  | _ => true

/-- What may follow RPT (R188). -/
def rptOk : EOp → Bool
  | .mul .divs _ _ | .mul .divu _ _ | .ld .. | .st .. | .custom .. => false
  | o => rptiOk o

/-! ### Encoding (R180 to R184) -/

/-- A short parcel of the formats SR, SM and SS (R180). -/
def shortP (op : BitVec 6) (d a b : BitVec 4) : W18 := op ++ d ++ a ++ b

/-- A long instruction: form and LOP, RD, RA, X; IMM18 (R183). -/
def longP (lop : BitVec 6) (d a : BitVec 4) (x : BitVec 2) (i : BitVec 18) : W18 × W18 := ((3#2 ++ lop ++ d ++ a ++ x : BitVec 18), i)

/-- A register's field. -/
def rf (r : Reg) : BitVec 4 := BitVec.ofFin r

/-- A bank register's field. -/
def bf (b : BankReg) : BitVec 2 := BitVec.ofFin b

/-- OP of a three-register operation (R181). -/
def aluOp : AluOp → BitVec 6
  | .add => 0x04 | .sub => 0x05 | .and => 0x06 | .or => 0x07 | .xor => 0x08
  | .min => 0x0B | .max => 0x0C | .minu => 0x0D | .maxu => 0x0E
  | .sll => 0x10 | .srl => 0x11 | .sra => 0x12 | .ror => 0x13 | .rol => 0x14
  | .seq => 0x18 | .sne => 0x19 | .slt => 0x1A | .sltu => 0x1B | .sle => 0x1C | .sleu => 0x1D

/-- OP of a multiply or divide (R181). -/
def mulOp : MulOp → BitVec 6
  | .mul => 0x20 | .mulu => 0x21 | .divs => 0x22 | .divu => 0x23

/-- LOP of a long immediate operation (R184). -/
def immOp : ImmOp → BitVec 6
  | .addi => 0x00 | .andi => 0x01 | .ori => 0x02 | .xori => 0x03 | .slli => 0x04 | .srli => 0x05 | .srai => 0x06 | .rori => 0x07
  | .roli => 0x08 | .seqi => 0x09 | .snei => 0x0A | .slti => 0x0B | .sltui => 0x0C | .sgti => 0x0D | .sgtui => 0x0E

/-- LOP of a load (R184). -/
def ldOp : LdOp → BitVec 6
  | .b => 0x12 | .bs => 0x13 | .h => 0x14 | .hs => 0x15 | .t => 0x16

/-- LOP of a store (R184). -/
def stOp : StOp → BitVec 6
  | .b => 0x17 | .h => 0x18 | .t => 0x19

/-- A parcel of the miscellaneous group (R182). -/
def miscP (sub a b : BitVec 4) : W18 := shortP 0 sub a b

/-- The parcels of an instruction; a short instruction's second parcel is 0 (R180 to R184). -/
def encodeOp : EOp → W18 × W18
  | .nop => (miscP 0 0 0, 0)
  | .halt => (miscP 1 0 0, 0)
  | .di => (miscP 2 0 0, 0)
  | .ei => (miscP 3 0 0, 0)
  | .reti => (miscP 4 0 0, 0)
  | .waite => (miscP 5 0 0, 0)
  | .waitt ra => (miscP 6 (rf ra) 0, 0)
  | .sende ra => (miscP 7 (rf ra) 0, 0)
  | .rpt nm1 => (miscP 8 (nm1.extractLsb' 4 2 |>.setWidth 4) (nm1.extractLsb' 0 4), 0)
  | .rpti => (miscP 9 0 0, 0)
  | .jmp ra => (miscP 0xA (rf ra) 0, 0)
  | .callr ra => (miscP 0xB (rf ra) 0, 0)
  | .mfb rd b => (miscP 0xC (rf rd) ((bf b).setWidth 4), 0)
  | .mtb b ra => (miscP 0xD (rf ra) ((bf b).setWidth 4), 0)
  | .mfsr rd sr => (shortP 0x01 (rf rd) sr 0, 0)
  | .mtsr sr ra => (shortP 0x02 sr (rf ra) 0, 0)
  | .alu o rd ra rb => (shortP (aluOp o) (rf rd) (rf ra) (rf rb), 0)
  | .neg rd ra => (shortP 0x09 (rf rd) (rf ra) 0, 0)
  | .abs rd ra => (shortP 0x0A (rf rd) (rf ra) 0, 0)
  | .mul o ra rb => (shortP (mulOp o) 0 (rf ra) (rf rb), 0)
  | .ldw rd ra u => (shortP 0x24 (rf rd) (rf ra) u, 0)
  | .stw rs ra u => (shortP 0x25 (rf rs) (rf ra) u, 0)
  | .ldwi rd ra v => (shortP 0x26 (rf rd) (rf ra) v, 0)
  | .stwi rs ra v => (shortP 0x27 (rf rs) (rf ra) v, 0)
  | .addi rd v => (shortP 0x28 (rf rd) (v.extractLsb' 4 4) (v.extractLsb' 0 4), 0)
  | .movi rd v => (shortP 0x29 (rf rd) (v.extractLsb' 4 4) (v.extractLsb' 0 4), 0)
  | .bz rs v => (shortP 0x2A (rf rs) (v.extractLsb' 4 4) (v.extractLsb' 0 4), 0)
  | .bnz rs v => (shortP 0x2B (rf rs) (v.extractLsb' 4 4) (v.extractLsb' 0 4), 0)
  | .bra v => (shortP 0x2C (v.extractLsb' 8 4) (v.extractLsb' 4 4) (v.extractLsb' 0 4), 0)
  | .imm o rd ra i => longP (immOp o) (rf rd) (rf ra) 0 i
  | .li rd c => longP 0x0F (rf rd) (c.extractLsb' 20 4) (c.extractLsb' 18 2) (c.extractLsb' 0 18)
  | .ldwL rd ra i => longP 0x10 (rf rd) (rf ra) 0 i
  | .stwL rs ra i => longP 0x11 (rf rs) (rf ra) 0 i
  | .ld o rd b ra i => longP (ldOp o) (rf rd) (rf ra) (bf b) i
  | .st o rs b ra i => longP (stOp o) (rf rs) (rf ra) (bf b) i
  | .bzL rs i => longP 0x1A (rf rs) 0 0 i
  | .bnzL rs i => longP 0x1B (rf rs) 0 0 i
  | .braL i => longP 0x1C 0 0 0 i
  | .call i => longP 0x1D 0 0 0 i
  | .sendei n => longP 0x1E 0 0 0 (BitVec.ofNat 18 n)
  | .custom n rd ra x i => longP (3#2 ++ rf n) (rf rd) (rf ra) x i

/-! ### Decoding (R178 to R184, R197, R374) -/

/-- What parcels decode to: an instruction, or an illegal one with its FAULT_CASE (R374). -/
inductive Decoded
  | op (o : EOp)
  | illegal (k : Nat)
  deriving DecidableEq, Repr

/-- An instruction whose reserved fields must be 0; else FAULT_CASE 2 (R197, R374). -/
def needs (ok : Bool) (o : EOp) : Decoded := if ok then .op o else .illegal 2

/-- The register of a field. -/
def fr (v : BitVec 4) : Reg := v.toFin

/-- A miscellaneous parcel (R182). -/
def decodeMisc (sub a b : BitVec 4) : Decoded :=
  let none := a == 0 && b == 0
  match sub.toNat with
  | 0x0 => needs none .nop
  | 0x1 => needs none .halt
  | 0x2 => needs none .di
  | 0x3 => needs none .ei
  | 0x4 => needs none .reti
  | 0x5 => needs none .waite
  | 0x6 => needs (b == 0) (.waitt (fr a))
  | 0x7 => needs (b == 0) (.sende (fr a))
  | 0x8 => needs (a.extractLsb' 2 2 == 0) (.rpt ((a ++ b).setWidth 6))
  | 0x9 => needs none .rpti
  | 0xA => needs (b == 0) (.jmp (fr a))
  | 0xB => needs (b == 0) (.callr (fr a))
  | 0xC => needs (b.extractLsb' 2 2 == 0) (.mfb (fr a) (b.extractLsb' 0 2).toFin)
  | 0xD => needs (b.extractLsb' 2 2 == 0) (.mtb (b.extractLsb' 0 2).toFin (fr a))
  | _ => .illegal 1

/-- The three-register operation of an OP (R181). -/
def aluOf : Nat → Option AluOp
  | 0x04 => some .add | 0x05 => some .sub | 0x06 => some .and | 0x07 => some .or | 0x08 => some .xor
  | 0x0B => some .min | 0x0C => some .max | 0x0D => some .minu | 0x0E => some .maxu
  | 0x10 => some .sll | 0x11 => some .srl | 0x12 => some .sra | 0x13 => some .ror | 0x14 => some .rol
  | 0x18 => some .seq | 0x19 => some .sne | 0x1A => some .slt | 0x1B => some .sltu | 0x1C => some .sle | 0x1D => some .sleu
  | _ => none

/-- A short parcel (R180 to R182). -/
def decodeShort (p : W18) : Decoded :=
  let d := p.extractLsb' 8 4
  let a := p.extractLsb' 4 4
  let b := p.extractLsb' 0 4
  let op := (p.extractLsb' 12 6).toNat
  match op with
  | 0x00 => decodeMisc d a b
  | 0x01 => needs (b == 0) (.mfsr (fr d) a)
  | 0x02 => needs (b == 0) (.mtsr d (fr a))
  | 0x09 => needs (b == 0) (.neg (fr d) (fr a))
  | 0x0A => needs (b == 0) (.abs (fr d) (fr a))
  | 0x20 => needs (d == 0) (.mul .mul (fr a) (fr b))
  | 0x21 => needs (d == 0) (.mul .mulu (fr a) (fr b))
  | 0x22 => needs (d == 0) (.mul .divs (fr a) (fr b))
  | 0x23 => needs (d == 0) (.mul .divu (fr a) (fr b))
  | 0x24 => .op (.ldw (fr d) (fr a) b)
  | 0x25 => .op (.stw (fr d) (fr a) b)
  | 0x26 => .op (.ldwi (fr d) (fr a) b)
  | 0x27 => .op (.stwi (fr d) (fr a) b)
  | 0x28 => .op (.addi (fr d) (a ++ b))
  | 0x29 => .op (.movi (fr d) (a ++ b))
  | 0x2A => .op (.bz (fr d) (a ++ b))
  | 0x2B => .op (.bnz (fr d) (a ++ b))
  | 0x2C => .op (.bra (d ++ a ++ b))
  | n => match aluOf n with | some o => .op (.alu o (fr d) (fr a) (fr b)) | none => .illegal 1

/-- The long immediate operation of a LOP (R184). -/
def immOf : Nat → Option ImmOp
  | 0x00 => some .addi | 0x01 => some .andi | 0x02 => some .ori | 0x03 => some .xori | 0x04 => some .slli | 0x05 => some .srli
  | 0x06 => some .srai | 0x07 => some .rori | 0x08 => some .roli | 0x09 => some .seqi | 0x0A => some .snei | 0x0B => some .slti
  | 0x0C => some .sltui | 0x0D => some .sgti | 0x0E => some .sgtui
  | _ => none

/-- A long instruction of two parcels (R183, R184). A customer opcode's X is checked against its entry (R200). -/
def decodeLong (p i : W18) : Decoded :=
  let d := p.extractLsb' 6 4
  let a := p.extractLsb' 2 4
  let x := p.extractLsb' 0 2
  let lop := (p.extractLsb' 10 6).toNat
  match lop with
  | 0x0F => .op (.li (fr d) (a ++ x ++ i))
  | 0x10 => needs (x == 0) (.ldwL (fr d) (fr a) i)
  | 0x11 => needs (x == 0) (.stwL (fr d) (fr a) i)
  | 0x12 => .op (.ld .b (fr d) x.toFin (fr a) i)
  | 0x13 => .op (.ld .bs (fr d) x.toFin (fr a) i)
  | 0x14 => .op (.ld .h (fr d) x.toFin (fr a) i)
  | 0x15 => .op (.ld .hs (fr d) x.toFin (fr a) i)
  | 0x16 => .op (.ld .t (fr d) x.toFin (fr a) i)
  | 0x17 => .op (.st .b (fr d) x.toFin (fr a) i)
  | 0x18 => .op (.st .h (fr d) x.toFin (fr a) i)
  | 0x19 => .op (.st .t (fr d) x.toFin (fr a) i)
  | 0x1A => needs (a == 0 && x == 0) (.bzL (fr d) i)
  | 0x1B => needs (a == 0 && x == 0) (.bnzL (fr d) i)
  | 0x1C => needs (d == 0 && a == 0 && x == 0) (.braL i)
  | 0x1D => needs (d == 0 && a == 0 && x == 0) (.call i)
  | 0x1E => needs (d == 0 && a == 0 && x == 0 && i.extractLsb' 9 9 == 0) (.sendei (i.extractLsb' 0 9).toFin)
  | n =>
    if 0x30 ≤ n then .op (.custom (fr (p.extractLsb' 10 4)) (fr d) (fr a) x i)
    else match immOf n with | some o => needs (x == 0) (.imm o (fr d) (fr a) i) | none => .illegal 1

/-- The parcel at PC and the next one decoded (R178). -/
def decodeParcels (p q : W18) : Decoded := if p.extractLsb' 16 2 = 3#2 then decodeLong p q else decodeShort p

end Sys2Proof.Machine
end

