-- ==== Sys2Proof/Machine/Engine.lean ====
section
/-! DEFINITION. The course engines: registers, branches, waits, the multiplier and divider, interrupt return, accesses (chapters 07 and
08). -/
namespace Sys2Proof.Machine

/-! ### When an engine executes (R151) -/

/-- Engine e is RUNNING at a boundary, with no entry selected, in a tile with power (R151, R170, R178). -/
def State.engRuns (s : State) (e : Nat) : Bool :=
  (s.eng e).run == .running && (s.eng e).e1.isNone && s.tilePowered (tileOf e)

/-- Engine e begins an instruction: no RPTI stands between two repetitions (R178, R192). -/
def State.engFree (s : State) (e : Nat) : Bool := s.engRuns e && (s.eng e).rpti.isNone

/-- An instruction begins: sources are assigned again at the boundary behind it (R218). -/
def Engine.begun (x : Engine) : Engine := { x with entered := false }

/-- Engine e begins an instruction (R218). -/
def State.begins (s : State) (e : Nat) : State := s.modEng e Engine.begun

/-- PC moved past n parcels, modulo 2^18 (R178). -/
def Engine.past (x : Engine) (n : Nat) : Engine := { x with pc := x.pc + BitVec.ofNat 18 n }

/-- An engine fault: HALTED, its case and the parcel of the instruction or its prefix, source 240, a fault of the tile (R151, R343, R374). -/
def State.engineFault (s : State) (e k : Nat) : State :=
  let a := s.modEng e fun x => { x with run := .halted false, faulted := true, faultCase := BitVec.ofNat 3 k, faultPc := x.pc, rpti := none }
  (a.raise 240).fault (tileOf e) .none 0 false

/-! ### Multiplier and divider (R165 to R168) -/

/-- A multiply or divide issued; behind a divide in flight it waits for the divide's result (R166, R167). -/
def Engine.issueMul (x : Engine) (o : MulOp) (a b : W24) : Engine :=
  let y := if x.divide.isSome then x.landed else x
  let product := fun (p : BitVec 48) => { y with products := y.products ++ [(p.extractLsb' 24 24, p.extractLsb' 0 24)] }
  match o with
  | .mul => product (mulS a b)
  | .mulu => product (mulU a b)
  | .divs => { y with divide := some (divS a b) }
  | .divu => { y with divide := some (divU a b) }

/-! ### Special registers (R154, R186) -/

/-- Special register n as MFSR reads it (R154, R155, R156). -/
def Engine.srRead (x : Engine) (tnow : BitVec 48) (n : Nat) : W24 :=
  match n with
  | 0 => x.mlo
  | 1 => x.mhi
  | 2 => x.rc
  | 3 => x.estat
  | 4 => tnow.extractLsb' 0 24
  | 5 => x.tnowh
  | 6 => x.evm
  | 7 => (x.vbase ++ (0 : BitVec 10)).setWidth 24
  | _ => if n < 12 then (x.ipc.look 0 (n - 8)).setWidth 24 else condW (x.istat.look false (n - 12))

/-- MFSR; a read of TNOWL latches TNOWH (R174, R186). -/
def Engine.moveFrom (x : Engine) (tnow : BitVec 48) (rd : Reg) (n : Nat) : Engine :=
  let y := if n = 4 then { x with tnowh := tnow.extractLsb' 24 24 } else x
  y.setReg rd (x.srRead tnow n)

/-- Special register n written by MTSR; what is read-only or not held is discarded (R154, R155, R156, R186). -/
def Engine.srWrite (x : Engine) (n : Nat) (v : W24) : Engine :=
  match n with
  | 0 => { x with mlo := v }
  | 1 => { x with mhi := v }
  | 2 => { x with rc := v }
  | 3 => { x with ie := v.getLsbD 0, dov := v.getLsbD 6, dz := v.getLsbD 7 }
  | 4 | 5 => x
  | 6 => { x with evm := v }
  | 7 => { x with vbase := v.extractLsb' 10 8 }
  | _ => if n < 12 then { x with ipc := x.ipc.put (n - 8) (v.setWidth 18) } else { x with istat := x.istat.put (n - 12) (v.getLsbD 0) }

/-! ### Instructions on registers and the data space (R181, R184) -/

/-- Instructions that read and write general and bank registers alone (R181, R182, R184). -/
def Engine.regOp (x : Engine) : EOp → Engine
  | .alu o rd ra rb => x.setReg rd (aluEval o (x.reg ra) (x.reg rb))
  | .neg rd ra => x.setReg rd (negW (x.reg ra))
  | .abs rd ra => x.setReg rd (absW (x.reg ra))
  | .addi rd v => x.setReg rd (x.reg rd + v.signExtend 24)
  | .movi rd v => x.setReg rd (v.signExtend 24)
  | .imm o rd ra v => x.setReg rd (immEval o (x.reg ra) v)
  | .li rd c => x.setReg rd c
  | .mfb rd b => x.setReg rd ((x.bank b).setWidth 24)
  | .mtb b ra => x.setBank b ((x.reg ra).setWidth 11)
  | .mul o ra rb => x.issueMul o (x.reg ra) (x.reg rb)
  | _ => x

/-- The data-space address of an instruction, modulo 2^24 (R157, R181, R184). -/
def Engine.dataAddr (x : Engine) : EOp → Option W24
  | .ldw _ ra u | .stw _ ra u => some (x.reg ra + u.setWidth 24)
  | .ldwi _ ra _ | .stwi _ ra _ => some (x.reg ra)
  | .ldwL _ ra v | .stwL _ ra v => some (x.reg ra + s18w v)
  | _ => none

/-- The data-space load of an instruction (R157, R181, R184). -/
def Engine.dataLoad (x : Engine) (op : EOp) : Option LoadReq :=
  let req := fun (rd : Reg) => ({ rd := rd, addr := 0, size := 3, sext := false, space := x.dataAddr op, len := opLen op } : LoadReq)
  match op with
  | .ldw rd _ _ | .ldwL rd _ _ => some (req rd)
  | .ldwi rd ra v => some { req rd with step := some (ra, x.reg ra + v.signExtend 24) }
  | _ => none

/-- A word of the data space lies in tile shared memory or in tile I/O, whose loads stall the engine (R157, R187). -/
def inFabric (a : W24) : Bool := decide (0x40000 ≤ a.toNat) && decide (a.toNat < 0x90000)

/-- The load that an instruction stalls its engine on (R162, R187). -/
def Engine.stalledLoad (x : Engine) (op : EOp) : Option LoadReq := (x.dataLoad op).filter fun r => r.space.any inFabric

/-- A data-space load into rd, with a post-step of ra; the loaded value wins (R181). -/
def State.loadWord (s : State) (e : Nat) (rd : Reg) (a : W24) (step : Option (Reg × W24)) : State :=
  let r := s.dataRead e a
  r.2.modEng e fun x => (match step with | some p => x.setReg p.1 p.2 | none => x).setReg rd r.1

/-- A data-space store, with a post-step of ra (R181). -/
def State.storeWord (s : State) (e : Nat) (a v : W24) (step : Option (Reg × W24)) : State :=
  (s.dataWrite e a v).modEng e fun x => match step with | some p => x.setReg p.1 p.2 | none => x

/-- What an instruction that a prefix may repeat in one cycle does, PC apart (R181, R182, R184, R186). -/
def State.opBody (s : State) (e : Nat) (op : EOp) : State :=
  let x := s.eng e
  match op with
  | .mfsr rd n => s.setEng e (x.moveFrom s.tnow rd n.toNat)
  | .mtsr n ra => (s.setEng e (x.srWrite n.toNat (x.reg ra))).markIfHeld e
  | .ldw rd ra u => s.loadWord e rd (x.reg ra + u.setWidth 24) none
  | .stw rs ra u => s.storeWord e (x.reg ra + u.setWidth 24) (x.reg rs) none
  | .ldwi rd ra v => s.loadWord e rd (x.reg ra) (some (ra, x.reg ra + v.signExtend 24))
  | .stwi rs ra v => s.storeWord e (x.reg ra) (x.reg rs) (some (ra, x.reg ra + v.signExtend 24))
  | .ldwL rd ra v => s.loadWord e rd (x.reg ra + s18w v) none
  | .stwL rs ra v => s.storeWord e (x.reg ra + s18w v) (x.reg rs) none
  | .sende ra => s.publishValue e (x.reg ra)
  | .sendei n => s.publishCore n
  | o => s.setEng e (x.regOp o)

/-! ### Device memory (R161, R162) -/

/-- A load issued: the engine is STALLED on it (R161, R162). -/
def State.issueLoad (s : State) (e : Nat) (o : LdOp) (rd : Reg) (b : BankReg) (ra : Reg) (v : BitVec 18) : State :=
  s.modEng e fun x => { x with
    run := .stallLoad { rd := rd, addr := devAddr (x.bank b) (x.reg ra + s18w v), size := ldSize o, sext := ldSigned o } }

/-- The store of an instruction (R161). -/
def Engine.storeOf (x : Engine) (o : StOp) (rs : Reg) (b : BankReg) (ra : Reg) (v : BitVec 18) : Posted :=
  { addr := devAddr (x.bank b) (x.reg ra + s18w v), size := stSize o, data := x.reg rs }

/-- A store posted, or the engine STALLED on it with the buffer full (R162). -/
def Engine.post (x : Engine) (p : Posted) : Engine :=
  if x.posted.length < 8 then { x with posted := x.posted ++ [p] } else { x with run := .stallStore p [] }

/-- A stalled access of an instruction of n parcels completes: its repetition of an RPTI, or the instruction (R162, R192). -/
def Engine.completed (x : Engine) (n : Nat) : Engine :=
  match x.rpti with
  | none => { x with run := .running }.past n
  | some c =>
    if c.toNat ≤ 1 then { x with run := .running, rpti := none }.past (1 + n) else { x with run := .running, rpti := some (c - 1) }

/-! ### Interrupt return and waits (R170, R193, R194) -/

/-- RETI: an engine fault at the base level; a tail-chain; or the return (R170, R171). -/
def State.returnFrom (s : State) (e : Nat) : State :=
  let x := s.eng e
  match x.level with
  | 0 => s.engineFault e 6
  | l + 1 =>
    let act := x.act &&& ~~~(1#4 <<< l)
    match s.winner e (some (e, { x with act := act }.level)) with
    | some (n, r) =>
      let m := r.level.toNat
      let y := { x with
        ipc := x.ipc.put m (x.ipc.look 0 l), istat := x.istat.put m (x.istat.look false l)
        act := act ||| (1#4 <<< m), pc := x.vector n, entered := true }
      { s with vu := (s.vu.deliver n e).entered e m n, engines := s.engines.put e y }
    | none => (s.setEng e { x with ie := x.istat.look false l, act := act, pc := x.ipc.look 0 l, entered := true }).markIfHeld e

/-- The condition of WAITT (R194). -/
def tnowReached (tnow : BitVec 48) (target : W24) : Bool := !((tnow.setWidth 24) - target).slt 0

/-- WAITE issued (R193). -/
def Engine.waitEvent (x : Engine) : Engine :=
  if x.evl &&& x.evm ≠ 0 then x.past 1 else { x with run := .waitE, crossed := [] }

/-- WAITT issued (R194). -/
def Engine.waitTime (x : Engine) (tnow : BitVec 48) (target : W24) : Engine :=
  if tnowReached tnow target then x.past 1 else { x with run := .waitT target }

/-- A branch taken or not: pc of the first parcel plus an offset, modulo 2^18 (R181, R184). -/
def Engine.branch (x : Engine) (taken : Bool) (off : W18) (len : Nat) : Engine :=
  if taken then { x with pc := x.pc + off } else x.past len

/-! ### One instruction -/

/-- One instruction executed, its prefixes and the customer opcodes apart (R178 to R186). -/
def State.runOp (s : State) (e : Nat) (op : EOp) : State :=
  let x := s.eng e
  match op with
  | .nop => s.setEng e (x.past 1)
  | .halt => s.setEng e { x.past 1 with run := .halted true }
  | .di => (s.setEng e { x.past 1 with ie := false }).markIfHeld e
  | .ei => s.setEng e { x.past 1 with ie := true }
  | .reti => s.returnFrom e
  | .waite => s.setEng e x.waitEvent
  | .waitt ra => s.setEng e (x.waitTime s.tnow (x.reg ra))
  | .jmp ra => s.setEng e { x with pc := (x.reg ra).setWidth 18 }
  | .callr ra => s.setEng e { x.setReg 15 ((x.pc + 1).setWidth 24) with pc := (x.reg ra).setWidth 18 }
  | .bz rs v => s.setEng e (x.branch (x.reg rs == 0) (v.signExtend 18) 1)
  | .bnz rs v => s.setEng e (x.branch (x.reg rs != 0) (v.signExtend 18) 1)
  | .bra v => s.setEng e (x.branch true (v.signExtend 18) 1)
  | .bzL rs v => s.setEng e (x.branch (x.reg rs == 0) v 2)
  | .bnzL rs v => s.setEng e (x.branch (x.reg rs != 0) v 2)
  | .braL v => s.setEng e (x.branch true v 2)
  | .call v => s.setEng e ((x.setReg 15 ((x.pc + 2).setWidth 24)).branch true v 2)
  | .ld o rd b ra v => s.issueLoad e o rd b ra v
  | .st o rs b ra v =>
    let y := x.post (x.storeOf o rs b ra v)
    s.setEng e (if y.run = .running then y.past 2 else y)
  | .rpt _ | .rpti | .custom .. => s
  | o =>
    match x.stalledLoad o with
    | some r => s.setEng e { x with run := .stallLoad r }
    | none => (s.opBody e o).modEng e (·.past (opLen o))

/-- Engine e executes an instruction, if it begins one (R151, R178, R218). -/
def State.issue (s : State) (e : Nat) (op : EOp) : Out := .next (if s.engFree e then (s.begins e).runOp e op else s)

/-! ### Data-space reads with ECC (R354) -/

/-- A data-space address lies in a memory that ECC covers (R157, R354). -/
def eccCovers (a : W24) : Bool := decide (a.toNat < 0x4000) || (decide (0x40000 ≤ a.toNat) && decide (a.toNat < 0x80000))

/-- A read of the data space at a with the ECC outcome 0 none, 1 corrected, 2 uncorrectable: an engine fault in local memory; in shared
memory a fault of the tile whose read is repeated (R151, R343, R354). -/
def State.eccRead (s : State) (e : Nat) (a : W24) (ecc : Fin 3) (good : State → State) : State :=
  if ecc = 0 ∨ !eccCovers a then good s
  else if ecc = 1 then good (s.correctable false)
  else if a.toNat < 0x4000 then (s.uncorrectable false).engineFault e 7
  else (s.uncorrectable false).fault (tileOf e) .own 0 false

/-- A data-space load issued, with the ECC outcome of a read of local memory; that of shared memory comes with the data (R162). -/
def State.issueRead (s : State) (e : Nat) (ecc : Fin 3) (op : EOp) : Out :=
  .next (if s.engFree e then
    let a := (((s.eng e).dataAddr op).getD 0)
    if inFabric a then (s.begins e).runOp e op else (s.begins e).eccRead e a ecc (·.runOp e op)
  else s)

end Sys2Proof.Machine
end

