-- ==== Sys2Proof/Machine/Customer.lean ====
section
/-! DEFINITION. Loads of device memory by an engine, and the customer opcodes of the writable decode table (R161, R162, R199 to R206). -/
namespace Sys2Proof.Machine

/-! ### Loads (R11, R161, R162) -/

/-- A byte that engine e loads: of its own posted stores to it the last that the fabric accepts, else the byte of memory (R11, R17, R162). -/
def State.loadByte (s : State) (e a : Nat) : Byte :=
  (s.eng e).posted.foldl (fun (b : Byte) p =>
    match (accessBytes p.addr p.size).findIdx? (· == a) with
    | some i => if s.mayWrite e (regionOf a) then p.data.extractLsb' (8 * i) 8 &&& laneMask a else b
    | none => b) (s.devByte a)

/-- A value of n bytes that engine e loads from memory, and the state behind it: an unassigned address is counted (R19, R161). -/
def State.loadMem (s : State) (e : Nat) (a : DevAddr) (n : Nat) : W24 × State :=
  (BitVec.ofNat 24 (leNat ((accessBytes a n).map (s.loadByte e))), (s.busRead e (accessBytes a n)).2)

/-! ### Micro-words (R201 to R203) -/

/-- DSTT, K, COND, W1 and W2 of a micro-word (R201). -/
def mDst (w : BitVec 72) : Nat := bits w 16 3
def mK (w : BitVec 72) : W24 := w.extractLsb' 20 24
def mCond (w : BitVec 72) : Nat := bits w 49 3
def mW1 (w : BitVec 72) : Nat := bits w 52 2
def mW2 (w : BitVec 72) : Nat := bits w 54 2

/-- The operands of a customer instruction (R183, R202). -/
structure CustArgs where
  rd  : Reg
  ra  : Reg
  x   : BankReg
  imm : BitVec 18
  deriving DecidableEq, Repr

/-- Operand of a source code (R202). -/
def mOperand (x : Engine) (c : CustArgs) (w : BitVec 72) (t : Tab W24) (code : Nat) : W24 :=
  if code < 8 then t.look 0 code
  else if code = 8 then x.reg c.rd
  else if code = 9 then x.reg c.ra
  else if code = 0xA then s18w c.imm
  else if code = 0xB then u18w c.imm
  else if code = 0xC then mK w
  else if code = 0xD then (x.bank c.x).setWidth 24
  else x.reg (Fin.ofNat 16 code)

/-- Number of 1 bits (R203). -/
def popW (a : W24) : W24 := BitVec.ofNat 24 ((List.range 24).filter fun i => a.getLsbD i).length

/-- Leading zeros, 0 to 24 (R203). -/
def clzW (a : W24) : W24 := BitVec.ofNat 24 ((List.range 24).takeWhile fun i => !a.getMsbD i).length

/-- A result that the arithmetic functions give; `free` is the byte beyond the third, which no rule gives (R165, R203; log entry 2). -/
def mEval (f : Nat) (a b : W24) (sel : Bool) (free : Byte) : W24 :=
  match f with
  | 0x01 => a + b
  | 0x02 => a - b
  | 0x03 => a &&& b
  | 0x04 => a ||| b
  | 0x05 => a ^^^ b
  | 0x06 => aluEval .sll a b
  | 0x07 => aluEval .srl a b
  | 0x08 => aluEval .sra a b
  | 0x09 => aluEval .ror a b
  | 0x0A => aluEval .seq a b
  | 0x0B => aluEval .slt a b
  | 0x0C => aluEval .sltu a b
  | 0x0D => aluEval .minu a b
  | 0x0E => aluEval .maxu a b
  | 0x0F => if sel then a else b
  | 0x10 => if b.extractLsb' 0 2 = 3 then free.setWidth 24 else (a.extractLsb' (8 * (b.extractLsb' 0 2).toNat) 8).setWidth 24
  | 0x11 => popW a
  | 0x12 => clzW a
  | _ => a.reverse

/-- The byte access of a load function (R203). -/
def mSize (f : Nat) : Nat := f - 0x18

/-! ### Execution (R204) -/

/-- How the micro-words of an execution end: with COMMIT; with illegal-instruction, or an uncorrectable error of local memory, as a
FAULT_CASE; with a read of memory that has to be repeated. -/
inductive MicroEnd
  | commit (t : Tab W24) (w : BitVec 72) (s : State)
  | stop (k : Nat) (s : State)
  | again (s : State)

/-- The data loaded by a micro-word, with the uncorrectable error of its data where `bad` says so (R204, R354). -/
def State.microLoad (s : State) (e : Nat) (f : Nat) (a : W24) (bank : BitVec 11) (bad : Bool) : (W24 × State) ⊕ MicroEnd :=
  if f = 0x18 then
    if 0x80000 ≤ a.toNat ∧ a.toNat < 0x90000 then .inr (.stop 5 s)
    else if bad && decide (a.toNat < 0x4000) then .inr (.stop 7 (s.uncorrectable false))
    else if bad && eccCovers a then .inr (.again ((s.uncorrectable false).fault (tileOf e) .own 0 false))
    else .inl (s.dataRead e a)
  else
    let d := devAddr bank a
    if 0x7A0000000 ≤ d.toNat then .inr (.stop 5 s)
    else match bad, regionOf d.toNat with
      | true, .dram | true, .context => .inr (.again ((s.uncorrectable true).fault 0x60 .own 0 false))
      | true, .tileData => .inr (.again ((s.uncorrectable false).fault (tileOf e) .own 0 false))
      | true, .tileProg => .inr (.stop 7 (s.uncorrectable false))
      | _, _ => .inl (s.loadMem e d (mSize f))

/-- The micro-words from number i of the sequence on, `skip` of them not executed; a winner is selected at the boundary before micro-word
`cut`, or before the next one executed behind it; micro-word `micro` meets an uncorrectable error of the microstore, the first load from
micro-word `data` on one of its memory (R203, R204, R205). -/
def State.microRun (s : State) (e : Nat) (c : CustArgs) (cut micro data : Option Nat) :
    List (Nat × BitVec 72) → Nat → Tab W24 → MicroEnd
  | [], _, _ => .stop 5 s
  | (i, w) :: rest, skip, t =>
    if 0 < skip then s.microRun e c cut micro data rest (skip - 1) t
    else if cut.any fun k => decide (k ≤ i) then .again s
    else if micro = some i then .stop 5 (s.uncorrectable false)
    else
      let x := s.eng e
      let a := mOperand x c w t (mSrcA w)
      let b := mOperand x c w t (mSrcB w)
      let test := t.look 0 (mCond w) != 0
      let f := mFunc w
      if f = 0x3F then .commit t w s
      else if f = 0 then s.microRun e c cut micro data rest 0 t
      else if f = 0x20 ∨ f = 0x21 then s.microRun e c cut micro data rest (if test == decide (f = 0x21) then mSkip w else 0) t
      else if 0x18 ≤ f then
        match s.microLoad e f (a + b) (x.bank c.x) (data.any fun k => decide (k ≤ i)) with
        | .inl r => r.2.microRun e c cut micro data rest 0 (t.put (mDst w) r.1)
        | .inr stop => stop
      else
        let open_ := decide (f = 0x10) && b.extractLsb' 0 2 == 3
        let v := mEval f a b test (Config.freeBits 8 s.draws)
        (if open_ then s.drawn else s).microRun e c cut micro data rest 0 (t.put (mDst w) v)

/-- The register writes of a COMMIT, W2 behind W1 (R201, R204). -/
def commitRegs (c : CustArgs) (t : Tab W24) (w : BitVec 72) : List (Reg × W24) :=
  let one := fun (k : Nat) (v : W24) => if k = 1 then [(c.rd, v)] else if k = 2 then [(c.ra, v)] else []
  one (mW1 w) (t.look 0 0) ++ one (mW2 w) (t.look 0 1)

/-- Registers written in order (R153). -/
def Engine.setRegs (x : Engine) (l : List (Reg × W24)) : Engine := l.foldl (fun y p => y.setReg p.1 p.2) x

/-- COMMIT: register writes and the store in one cycle; with the buffer full nothing is written and the engine is STALLED (R204, R205). -/
def State.commit (s : State) (e : Nat) (c : CustArgs) (t : Tab W24) (w : BitVec 72) : State :=
  let regs := commitRegs c t w
  let off := t.look 0 2
  let v := t.look 0 3
  match mSt w with
  | 0 => s.modEng e (·.setRegs regs)
  | 1 => (s.modEng e (·.setRegs regs)).dataWrite e off v
  | k => s.modEng e fun x =>
    let p : Posted := { addr := devAddr (x.bank c.x) off, size := k - 1, data := v }
    if x.posted.length < 8 then (x.post p).setRegs regs else { x with run := .stallStore p regs }

/-- The FAULT_CASE that a customer opcode has at decode: no loaded entry, or X without X_BANK (R185, R197, R200, R374). -/
def State.custCase (s : State) (e : Nat) (n : Reg) (x : BitVec 2) : Option Nat :=
  let d := (s.tile (tileOf e)).entries.look {} n
  if !d.valid then some 5 else if !d.xBank && x != 0 then some 2 else none

/-- An illegal-instruction fault of a customer opcode is counted in DECODE_ILLEGAL (R210). -/
def State.custFault (s : State) (e k : Nat) : State :=
  (if k = 7 then s else { s with sec := { s.sec with decodeIllegal := satAdd s.sec.decodeIllegal 1 } }).engineFault e k

/-- The micro-words of a sequence with their numbers in it (R199, R200). -/
def TileSt.sequence (x : TileSt) (d : DecEntry) : List (Nat × BitVec 72) :=
  (List.range (d.lenM1.toNat + 1)).map fun i => (i, x.micro.look 0 (d.start.toNat + i))

/-- One execution of a customer opcode, PC apart, and whether it was executed (R204, R205). -/
def State.custom (s : State) (e : Nat) (n : Reg) (c : CustArgs) (cut micro data : Option Nat) : State × Bool :=
  match s.custCase e n (BitVec.ofFin c.x) with
  | some k => (s.custFault e k, false)
  | none =>
    let x := s.tile (tileOf e)
    match s.microRun e c cut micro data (x.sequence (x.entries.look {} n)) 0 [] with
    | .stop k t => (t.custFault e k, false)
    | .again t => (t, false)
    | .commit t w u => (u.commit e c t w, true)

/-- CUSTOMER_OPCODE: Cn executed to its COMMIT, which alone has effects, or abandoned at the micro-word boundary `cut`, where a winner is
selected: PC stays at its first parcel (R185, R204, R205). -/
def execCustomerOpcode (e : Eng) (n rd ra : Reg) (x : BitVec 2) (imm : BitVec 18) (events : MicroEvents) (data : Option Nat)
    (s : State) : Out :=
  .next (if s.engFree e then
    let r := (s.begins e).custom e n { rd := rd, ra := ra, x := x.toFin, imm := imm } events.cut events.error data
    if r.2 && (r.1.eng e).run == .running then r.1.modEng e (·.past 2) else r.1
  else s)

end Sys2Proof.Machine
end

