-- ==== Sys2Proof/Machine/Repeat.lean ====
section
/-! DEFINITION. The repeat prefixes (R188 to R192). -/
namespace Sys2Proof.Machine

/-! ### RPT -/

/-- An instruction stays in local memory (R189). -/
def Engine.inLocal (x : Engine) (op : EOp) : Bool :=
  match x.dataAddr op with | some a => decide (a.toNat < 0x4000) | none => true

/-- An instruction reads a word of the data space. -/
def opLoads : EOp → Bool
  | .ldw .. | .ldwi .. | .ldwL .. => true
  | _ => false

/-- `n` repetitions from number i on, then PC behind the pair; one that leaves local memory faults, and so does repetition `bad`, whose read
meets an uncorrectable error (R189, R190, R197, R354). -/
def State.rptLoop (s : State) (e : Nat) (op : EOp) (bad : Option Nat) : Nat → Nat → State
  | 0, _ => s.modEng e (·.past (1 + opLen op))
  | n + 1, i =>
    if !(s.eng e).inLocal op then s.engineFault e 4
    else if opLoads op && bad == some i then (s.uncorrectable false).engineFault e 7
    else (s.opBody e op).rptLoop e op bad n (i + 1)

/-- n repetitions of a publication, one in each cycle (R187, R196). -/
def State.publishTimes (s : State) (e : Nat) (n : Nat) : EOp → Option State
  | .sende ra =>
    let v := ((s.eng e).reg ra).toNat
    some (if v < 512 then s.publishRun v n else iterate (·.addrFault e) n s)
  | .sendei c => some (s.publishRun c n)
  | _ => none

/-- RPT n: n repetitions with no boundary between them (R188, R190, R196). -/
def execRpt (e : Eng) (nm1 : BitVec 6) (body : EOp) (bad : Option Nat) (s : State) : Out :=
  .next (if s.engFree e then
    let a := s.begins e
    if rptOk body then
      match a.publishTimes e (nm1.toNat + 1) body with
      | some t => t.rptLoop e body none 0 0
      | none => a.rptLoop e body bad (nm1.toNat + 1) 0
    else a.engineFault e 3
  else s)

/-! ### RPTI -/

/-- One repetition under RPTI, and whether it has been executed; `bad` gives its read of local memory or the first load of its customer
opcode an uncorrectable error, `micro` that micro-word (R190, R192, R204, R354). -/
def State.repetition (s : State) (e : Nat) (bad : Bool) (micro : Option Nat) (op : EOp) : State × Bool :=
  let x := s.eng e
  match op with
  | .ld o rd b ra v => (s.issueLoad e o rd b ra v, false)
  | .st o rs b ra v => (s.setEng e (x.post (x.storeOf o rs b ra v)), decide (x.posted.length < 8))
  | .custom n rd ra b imm => s.custom e n { rd := rd, ra := ra, x := b.toFin, imm := imm } none micro (if bad then some 0 else none)
  | o =>
    match x.stalledLoad o with
    | some r => (s.setEng e { x with run := .stallLoad r }, false)
    | none =>
      if bad && opLoads o && eccCovers ((x.dataAddr o).getD 0) then (s.eccRead e ((x.dataAddr o).getD 0) 2 id, false)
      else (s.opBody e o, true)

/-- `n` repetitions from number i on of `left` that remain; then PC behind the pair, or the boundary between two repetitions; a repetition
that stalls or has to be repeated is not yet executed (R190, R192). -/
def State.rptiLoop (s : State) (e : Nat) (op : EOp) (bad : Option Nat) (micro : Option (Nat × Nat)) : Nat → Nat → Nat → State
  | 0, _, left =>
    if left = 0 then s.modEng e fun x => { x with rpti := none }.past (1 + opLen op)
    else s.modEng e fun x => { x with rpti := some (BitVec.ofNat 24 left) }
  | n + 1, i, left =>
    let r := s.repetition e (bad == some i) ((micro.filter fun m => m.1 == i).map (·.2)) op
    if r.2 && (r.1.eng e).run == .running then r.1.rptiLoop e op bad micro n (i + 1) (left - 1)
    else if (r.1.eng e).faulted then r.1
    else r.1.modEng e fun x => { x with rpti := some (BitVec.ofNat 24 left) }

/-- The instruction behind RPTI is illegal: R188, or the decode of a customer opcode (R185, R188, R200). -/
def State.rptiCase (s : State) (e : Nat) (op : EOp) : Option Nat :=
  if !rptiOk op then some 3
  else match op with | .custom n _ _ x _ => s.custCase e n x | _ => none

/-- RPTI: repetitions of the instruction, as many as RC holds or as an RPTI has left, and before an interrupt at most `stop`
(R188, R190, R192, R196, R204). -/
def execRpti (e : Eng) (body : EOp) (stop : Option Nat) (errors : RptiErrors) (s : State) : Out :=
  .next (if s.engRuns e then
    let a := s.begins e
    match a.rptiCase e body with
    | some k => match body with | .custom .. => if k = 3 then a.engineFault e 3 else a.custFault e k | _ => a.engineFault e k
    | none =>
      let x := a.eng e
      let left := (x.rpti.getD x.rc).toNat
      let n := match stop with | some k => min k left | none => left
      match a.publishTimes e n body with
      | some t => t.rptiLoop e body none none 0 0 (left - n)
      | none => a.rptiLoop e body errors.data errors.micro n 0 left
  else s)

end Sys2Proof.Machine
end

