-- ==== Sys2Proof/Machine/EngineRows.lean ====
section
/-! DEFINITION. The rows of the engines: one per instruction, and what completes an instruction in flight (chapters 07 and 08). -/
namespace Sys2Proof.Machine

/-! ### Short form (R181, R182) -/

/-- MFSR: a special register to a general register (R186). -/
def execMfsr (e : Eng) (rd : Reg) (sr : BitVec 4) (s : State) : Out := s.issue e (.mfsr rd sr)

/-- MTSR: a general register to a special register (R186). -/
def execMtsr (e : Eng) (sr : BitVec 4) (ra : Reg) (s : State) : Out := s.issue e (.mtsr sr ra)

/-- ADD: ra + rb (R165, R181). -/
def execAdd (e : Eng) (rd : Reg) (ra : Reg) (rb : Reg) (s : State) : Out := s.issue e (.alu .add rd ra rb)

/-- SUB: ra − rb (R165, R181). -/
def execSub (e : Eng) (rd : Reg) (ra : Reg) (rb : Reg) (s : State) : Out := s.issue e (.alu .sub rd ra rb)

/-- AND: ra and rb (R165, R181). -/
def execAnd (e : Eng) (rd : Reg) (ra : Reg) (rb : Reg) (s : State) : Out := s.issue e (.alu .and rd ra rb)

/-- OR: ra or rb (R165, R181). -/
def execOr (e : Eng) (rd : Reg) (ra : Reg) (rb : Reg) (s : State) : Out := s.issue e (.alu .or rd ra rb)

/-- XOR: ra xor rb (R165, R181). -/
def execXor (e : Eng) (rd : Reg) (ra : Reg) (rb : Reg) (s : State) : Out := s.issue e (.alu .xor rd ra rb)

/-- MIN: signed minimum (R165, R181). -/
def execMin (e : Eng) (rd : Reg) (ra : Reg) (rb : Reg) (s : State) : Out := s.issue e (.alu .min rd ra rb)

/-- MAX: signed maximum (R165, R181). -/
def execMax (e : Eng) (rd : Reg) (ra : Reg) (rb : Reg) (s : State) : Out := s.issue e (.alu .max rd ra rb)

/-- MINU: unsigned minimum (R165, R181). -/
def execMinu (e : Eng) (rd : Reg) (ra : Reg) (rb : Reg) (s : State) : Out := s.issue e (.alu .minu rd ra rb)

/-- MAXU: unsigned maximum (R165, R181). -/
def execMaxu (e : Eng) (rd : Reg) (ra : Reg) (rb : Reg) (s : State) : Out := s.issue e (.alu .maxu rd ra rb)

/-- SLL: left shift by rb (R165, R181). -/
def execSll (e : Eng) (rd : Reg) (ra : Reg) (rb : Reg) (s : State) : Out := s.issue e (.alu .sll rd ra rb)

/-- SRL: logical right shift by rb (R165, R181). -/
def execSrl (e : Eng) (rd : Reg) (ra : Reg) (rb : Reg) (s : State) : Out := s.issue e (.alu .srl rd ra rb)

/-- SRA: arithmetic right shift by rb (R165, R181). -/
def execSra (e : Eng) (rd : Reg) (ra : Reg) (rb : Reg) (s : State) : Out := s.issue e (.alu .sra rd ra rb)

/-- ROR: right rotate by rb (R165, R181). -/
def execRor (e : Eng) (rd : Reg) (ra : Reg) (rb : Reg) (s : State) : Out := s.issue e (.alu .ror rd ra rb)

/-- ROL: left rotate by rb (R165, R181). -/
def execRol (e : Eng) (rd : Reg) (ra : Reg) (rb : Reg) (s : State) : Out := s.issue e (.alu .rol rd ra rb)

/-- SEQ: ra = rb (R165, R181). -/
def execSeq (e : Eng) (rd : Reg) (ra : Reg) (rb : Reg) (s : State) : Out := s.issue e (.alu .seq rd ra rb)

/-- SNE: ra ≠ rb (R165, R181). -/
def execSne (e : Eng) (rd : Reg) (ra : Reg) (rb : Reg) (s : State) : Out := s.issue e (.alu .sne rd ra rb)

/-- SLT: ra < rb, signed (R165, R181). -/
def execSlt (e : Eng) (rd : Reg) (ra : Reg) (rb : Reg) (s : State) : Out := s.issue e (.alu .slt rd ra rb)

/-- SLTU: ra < rb, unsigned (R165, R181). -/
def execSltu (e : Eng) (rd : Reg) (ra : Reg) (rb : Reg) (s : State) : Out := s.issue e (.alu .sltu rd ra rb)

/-- SLE: ra ≤ rb, signed (R165, R181). -/
def execSle (e : Eng) (rd : Reg) (ra : Reg) (rb : Reg) (s : State) : Out := s.issue e (.alu .sle rd ra rb)

/-- SLEU: ra ≤ rb, unsigned (R165, R181). -/
def execSleu (e : Eng) (rd : Reg) (ra : Reg) (rb : Reg) (s : State) : Out := s.issue e (.alu .sleu rd ra rb)

/-- NEG: 0 − ra (R165, R181). -/
def execNeg (e : Eng) (rd : Reg) (ra : Reg) (s : State) : Out := s.issue e (.neg rd ra)

/-- ABS: absolute value of ra (R165, R181). -/
def execAbs (e : Eng) (rd : Reg) (ra : Reg) (s : State) : Out := s.issue e (.abs rd ra)

/-- MUL: issued to the multiplier (R165 to R168). -/
def execMul (e : Eng) (ra : Reg) (rb : Reg) (s : State) : Out := s.issue e (.mul .mul ra rb)

/-- MULU: issued to the multiplier (R165 to R168). -/
def execMulu (e : Eng) (ra : Reg) (rb : Reg) (s : State) : Out := s.issue e (.mul .mulu ra rb)

/-- DIVS: issued to the divider (R165 to R168). -/
def execDivs (e : Eng) (ra : Reg) (rb : Reg) (s : State) : Out := s.issue e (.mul .divs ra rb)

/-- DIVU: issued to the divider (R165 to R168). -/
def execDivu (e : Eng) (ra : Reg) (rb : Reg) (s : State) : Out := s.issue e (.mul .divu ra rb)

/-- LDW: a word of the data space (R157, R181). -/
def execLdw (e : Eng) (rd : Reg) (ra : Reg) (u4 : BitVec 4) (ecc : Fin 3) (s : State) : Out := s.issueRead e ecc (.ldw rd ra u4)

/-- STW: a word stored to the data space (R157, R181). -/
def execStw (e : Eng) (rs : Reg) (ra : Reg) (u4 : BitVec 4) (s : State) : Out := s.issue e (.stw rs ra u4)

/-- LDWI: a word loaded with a post-step of ra (R181). -/
def execLdwi (e : Eng) (rd : Reg) (ra : Reg) (s4 : BitVec 4) (ecc : Fin 3) (s : State) : Out := s.issueRead e ecc (.ldwi rd ra s4)

/-- STWI: a word stored with a post-step of ra (R181). -/
def execStwi (e : Eng) (rs : Reg) (ra : Reg) (s4 : BitVec 4) (s : State) : Out := s.issue e (.stwi rs ra s4)

/-- ADDI: rd + s8 (R181). -/
def execAddi (e : Eng) (rd : Reg) (s8 : BitVec 8) (s : State) : Out := s.issue e (.addi rd s8)

/-- MOVI: s8 (R181). -/
def execMovi (e : Eng) (rd : Reg) (s8 : BitVec 8) (s : State) : Out := s.issue e (.movi rd s8)

/-- BZ: branch where rs is zero (R181). -/
def execBz (e : Eng) (rs : Reg) (s8 : BitVec 8) (s : State) : Out := s.issue e (.bz rs s8)

/-- BNZ: branch where rs is not zero (R181). -/
def execBnz (e : Eng) (rs : Reg) (s8 : BitVec 8) (s : State) : Out := s.issue e (.bnz rs s8)

/-- BRA: branch (R181). -/
def execBra (e : Eng) (s12 : BitVec 12) (s : State) : Out := s.issue e (.bra s12)

/-- NOP: none (R182). -/
def execNop (e : Eng) (s : State) : Out := s.issue e .nop

/-- HALT: enters HALTED (R151, R182). -/
def execHalt (e : Eng) (s : State) : Out := s.issue e .halt

/-- DI: IE := 0 (R171). -/
def execDi (e : Eng) (s : State) : Out := s.issue e .di

/-- EI: IE := 1 (R171). -/
def execEi (e : Eng) (s : State) : Out := s.issue e .ei

/-- RETI: return or tail-chain (R170). -/
def execReti (e : Eng) (s : State) : Out := s.issue e .reti

/-- WAITE: waits for an event of EVM (R193). -/
def execWaite (e : Eng) (s : State) : Out := s.issue e .waite

/-- WAITT: waits for TNOW to reach ra (R194). -/
def execWaitt (e : Eng) (ra : Reg) (s : State) : Out := s.issue e (.waitt ra)

/-- SENDE: publishes on the channel in ra (R196). -/
def execSende (e : Eng) (ra : Reg) (s : State) : Out := s.issue e (.sende ra)

/-- JMP: jump to ra (R182). -/
def execJmp (e : Eng) (ra : Reg) (s : State) : Out := s.issue e (.jmp ra)

/-- CALLR: call through ra (R182). -/
def execCallr (e : Eng) (ra : Reg) (s : State) : Out := s.issue e (.callr ra)

/-- MFB: a bank register to a general register (R182). -/
def execMfb (e : Eng) (rd : Reg) (b : BankReg) (s : State) : Out := s.issue e (.mfb rd b)

/-- MTB: a general register to a bank register (R182). -/
def execMtb (e : Eng) (b : BankReg) (ra : Reg) (s : State) : Out := s.issue e (.mtb b ra)

/-! ### Long form (R184) -/

/-- ADDI_L: ra + s18 (R165, R184). -/
def execAddiL (e : Eng) (rd : Reg) (ra : Reg) (s18 : BitVec 18) (s : State) : Out := s.issue e (.imm .addi rd ra s18)

/-- ANDI: ra and s18 (R165, R184). -/
def execAndi (e : Eng) (rd : Reg) (ra : Reg) (s18 : BitVec 18) (s : State) : Out := s.issue e (.imm .andi rd ra s18)

/-- ORI: ra or s18 (R165, R184). -/
def execOri (e : Eng) (rd : Reg) (ra : Reg) (s18 : BitVec 18) (s : State) : Out := s.issue e (.imm .ori rd ra s18)

/-- XORI: ra xor s18 (R165, R184). -/
def execXori (e : Eng) (rd : Reg) (ra : Reg) (s18 : BitVec 18) (s : State) : Out := s.issue e (.imm .xori rd ra s18)

/-- SLLI: left shift (R165, R184). -/
def execSlli (e : Eng) (rd : Reg) (ra : Reg) (s18 : BitVec 18) (s : State) : Out := s.issue e (.imm .slli rd ra s18)

/-- SRLI: logical right shift (R165, R184). -/
def execSrli (e : Eng) (rd : Reg) (ra : Reg) (s18 : BitVec 18) (s : State) : Out := s.issue e (.imm .srli rd ra s18)

/-- SRAI: arithmetic right shift (R165, R184). -/
def execSrai (e : Eng) (rd : Reg) (ra : Reg) (s18 : BitVec 18) (s : State) : Out := s.issue e (.imm .srai rd ra s18)

/-- RORI: right rotate (R165, R184). -/
def execRori (e : Eng) (rd : Reg) (ra : Reg) (s18 : BitVec 18) (s : State) : Out := s.issue e (.imm .rori rd ra s18)

/-- ROLI: left rotate (R165, R184). -/
def execRoli (e : Eng) (rd : Reg) (ra : Reg) (s18 : BitVec 18) (s : State) : Out := s.issue e (.imm .roli rd ra s18)

/-- SEQI: ra = s18 (R165, R184). -/
def execSeqi (e : Eng) (rd : Reg) (ra : Reg) (s18 : BitVec 18) (s : State) : Out := s.issue e (.imm .seqi rd ra s18)

/-- SNEI: ra ≠ s18 (R165, R184). -/
def execSnei (e : Eng) (rd : Reg) (ra : Reg) (s18 : BitVec 18) (s : State) : Out := s.issue e (.imm .snei rd ra s18)

/-- SLTI: ra < s18, signed (R165, R184). -/
def execSlti (e : Eng) (rd : Reg) (ra : Reg) (s18 : BitVec 18) (s : State) : Out := s.issue e (.imm .slti rd ra s18)

/-- SLTUI: ra < s18, unsigned (R165, R184). -/
def execSltui (e : Eng) (rd : Reg) (ra : Reg) (s18 : BitVec 18) (s : State) : Out := s.issue e (.imm .sltui rd ra s18)

/-- SGTI: ra > s18, signed (R165, R184). -/
def execSgti (e : Eng) (rd : Reg) (ra : Reg) (s18 : BitVec 18) (s : State) : Out := s.issue e (.imm .sgti rd ra s18)

/-- SGTUI: ra > s18, unsigned (R165, R184). -/
def execSgtui (e : Eng) (rd : Reg) (ra : Reg) (s18 : BitVec 18) (s : State) : Out := s.issue e (.imm .sgtui rd ra s18)

/-- LI: a constant of 24 bits (R184). -/
def execLi (e : Eng) (rd : Reg) (imm : BitVec 24) (s : State) : Out := s.issue e (.li rd imm)

/-- LDW_L: a word of the data space (R184). -/
def execLdwL (e : Eng) (rd : Reg) (ra : Reg) (s18 : BitVec 18) (ecc : Fin 3) (s : State) : Out := s.issueRead e ecc (.ldwL rd ra s18)

/-- STW_L: a word stored to the data space (R184). -/
def execStwL (e : Eng) (rs : Reg) (ra : Reg) (s18 : BitVec 18) (s : State) : Out := s.issue e (.stwL rs ra s18)

/-- LD_B: the engine is STALLED until the data return (R161, R162). -/
def execLdB (e : Eng) (rd : Reg) (b : BankReg) (ra : Reg) (s18 : BitVec 18) (s : State) : Out := s.issue e (.ld .b rd b ra s18)

/-- LD_B_S: the engine is STALLED until the data return (R161, R162). -/
def execLdBS (e : Eng) (rd : Reg) (b : BankReg) (ra : Reg) (s18 : BitVec 18) (s : State) : Out := s.issue e (.ld .bs rd b ra s18)

/-- LD_H: the engine is STALLED until the data return (R161, R162). -/
def execLdH (e : Eng) (rd : Reg) (b : BankReg) (ra : Reg) (s18 : BitVec 18) (s : State) : Out := s.issue e (.ld .h rd b ra s18)

/-- LD_H_S: the engine is STALLED until the data return (R161, R162). -/
def execLdHS (e : Eng) (rd : Reg) (b : BankReg) (ra : Reg) (s18 : BitVec 18) (s : State) : Out := s.issue e (.ld .hs rd b ra s18)

/-- LD_T: the engine is STALLED until the data return (R161, R162). -/
def execLdT (e : Eng) (rd : Reg) (b : BankReg) (ra : Reg) (s18 : BitVec 18) (s : State) : Out := s.issue e (.ld .t rd b ra s18)

/-- ST_B: a store posted in the engine's buffer (R161, R162). -/
def execStB (e : Eng) (rs : Reg) (b : BankReg) (ra : Reg) (s18 : BitVec 18) (s : State) : Out := s.issue e (.st .b rs b ra s18)

/-- ST_H: a store posted in the engine's buffer (R161, R162). -/
def execStH (e : Eng) (rs : Reg) (b : BankReg) (ra : Reg) (s18 : BitVec 18) (s : State) : Out := s.issue e (.st .h rs b ra s18)

/-- ST_T: a store posted in the engine's buffer (R161, R162). -/
def execStT (e : Eng) (rs : Reg) (b : BankReg) (ra : Reg) (s18 : BitVec 18) (s : State) : Out := s.issue e (.st .t rs b ra s18)

/-- BZ_L: branch where rs is zero (R184). -/
def execBzL (e : Eng) (rs : Reg) (s18 : BitVec 18) (s : State) : Out := s.issue e (.bzL rs s18)

/-- BNZ_L: branch where rs is not zero (R184). -/
def execBnzL (e : Eng) (rs : Reg) (s18 : BitVec 18) (s : State) : Out := s.issue e (.bnzL rs s18)

/-- BRA_L: branch (R184). -/
def execBraL (e : Eng) (s18 : BitVec 18) (s : State) : Out := s.issue e (.braL s18)

/-- CALL: call (R184). -/
def execCall (e : Eng) (s18 : BitVec 18) (s : State) : Out := s.issue e (.call s18)

/-- SENDEI: publishes on channel n (R196). -/
def execSendei (e : Eng) (n : Chan) (s : State) : Out := s.issue e (.sendei n)

/-! ### What completes later -/

/-- MUL_RESULT: the oldest product in flight is written to MHI and MLO (R166). -/
def execMulResult (e : Eng) (s : State) : Out := .next (s.modEng e Engine.landProduct)

/-- DIV_RESULT: the divide in flight is written, behind the products issued before it, and sets DOV or DZ (R155, R165 to R167). -/
def execDivResult (e : Eng) (s : State) : Out :=
  .next (if (s.eng e).divide.isSome then s.modEng e Engine.landed else s)

/-- A WAITING engine goes on where its condition holds and no entry has been selected (R193 to R195). -/
def State.endWait (s : State) (e : Nat) (timed : Bool) : State :=
  let x := s.eng e
  let mine := match x.run with | .waitE => !timed | .waitT _ => timed | _ => false
  if mine && x.e1.isNone then s.setEng e (s.finishWait x) else s

/-- WAIT_CONDITION_MET: EVL and EVM meet, and WAITE ends (R193). -/
def execWaitConditionMet (e : Eng) (s : State) : Out := .next (s.endWait e false)

/-- WAITT_TARGET_REACHED: TNOW reaches the target, and WAITT ends (R194). -/
def execWaittTargetReached (e : Eng) (s : State) : Out := .next (s.endWait e true)

/-- The access of a stalled load completes with its data, behind the post-step of its base register (R161, R162, R181). -/
def State.loaded (s : State) (e : Nat) (r : LoadReq) (v : W24) : State :=
  s.modEng e fun x =>
    ((match r.step with | some p => x.setReg p.1 p.2 | none => x).setReg r.rd (extend r.size r.sext v)).completed r.len

/-- A load of the data space returns, with the ECC outcome of a read of tile shared memory (R157, R162, R354). -/
def State.spaceReturn (s : State) (e : Nat) (r : LoadReq) (a : W24) (ecc : Fin 3) : State :=
  s.eccRead e a ecc fun t => let d := t.dataRead e a; d.2.loaded e r d.1

/-- The data of a load return, with the ECC outcome 0 none, 1 corrected, 2 uncorrectable; a read that meets an uncorrectable error outside
program memory is repeated, and the engine stays STALLED (R151, R161 to R163, R343, R354). -/
def State.loadReturn (s : State) (e : Nat) (r : LoadReq) (ecc : Fin 3) : State :=
  match (s.eng e).kept r, r.space with
  | some k, _ => (s.modEng e fun x => { x with replay := x.replay.put x.level none }).loaded e r k.data
  | none, some a => s.spaceReturn e r a ecc
  | none, none =>
    let plain := fun (t : State) => let d := t.loadMem e r.addr r.size; d.2.loaded e r d.1
    match regionOf r.addr.toNat with
    | .control =>
      let d := (s.drainAll e).readBlock e r
      d.2.loaded e r d.1
    | .unassigned => plain s
    | g =>
      let dram := g == Region.dram || g == Region.context
      if ecc = 0 then plain s
      else if ecc = 1 then plain (s.correctable dram)
      else if g = Region.tileProg then (s.uncorrectable false).engineFault e 7
      else (s.uncorrectable dram).fault (if dram then 0x60 else tileOf e) .own 0 false

/-- LOAD_DATA_RETURN: the data of the load that engine e is STALLED on return (R162). -/
def execLoadDataReturn (e : Eng) (ecc : Fin 3) (s : State) : Out :=
  .next (match (s.eng e).run with
    | .stallLoad r => if (s.eng e).e1.isNone then s.loadReturn e r ecc else s
    | _ => s)

/-- The oldest posted store reaches the fabric (R11, R162). -/
def State.drainOne (s : State) (e : Nat) : State :=
  match (s.eng e).posted with
  | [] => s
  | p :: rest =>
    (s.modEng e fun x => { x with posted := rest }).busWrite e
      ((accessBytes p.addr p.size).zip ((List.range p.size).map fun i => p.data.extractLsb' (8 * i) 8))

/-- An engine STALLED on a full buffer issues its store or its COMMIT where an entry is free (R162, R205). -/
def Engine.unstall (x : Engine) : Engine :=
  match x.run with
  | .stallStore p regs =>
    if x.e1.isNone ∧ x.posted.length < 8 then ({ x with posted := x.posted ++ [p] }.setRegs regs).completed 2 else x
  | _ => x

/-- A TILE_PWR of BANKED that waits for posted stores takes effect behind the last one (R175, R362). -/
def State.bankWaits (s : State) (t : Nat) : State :=
  if (s.tile t).pwrReq = 1 ∧ (s.tile t).power = .run then s.applyTilePwr t else s

/-- STORE_BUFFER_DRAIN: the oldest posted store is made, and a store that waits for the entry is issued (R162, R175). -/
def execStoreBufferDrain (e : Eng) (s : State) : Out := .next (((s.drainOne e).modEng e Engine.unstall).bankWaits (tileOf e))

/-- INTERRUPT_ENTRY: E2 and E3 of the entry selected at E1 (R163, R170, R173). -/
def execInterruptEntry (e : Eng) (s : State) : Out :=
  .next (if (s.eng e).e1.isSome then (s.settleRead e).enterLevel e else s)

/-- The engines of tile 0 settle before PARK: their posted stores drain, a multiply or divide completes (R175). -/
def State.tile0Settled (s : State) : State :=
  (enginesOf 0).foldl (fun t e => (t.drainAll e).modEng e Engine.landed) s

/-- POWER_STATE_COMMIT: a pending request whose conditions hold is entered (R175, R363); the supply absent at the entry is remembered
(R364). -/
def execPowerStateCommit (s : State) : Out :=
  .next (if !s.mayCommit then s
    else if s.power.req = 2 ∨ s.holdup.ride.isSome then s.sleepEntry.deepEntry s.holdup.ride.isSome false
    else s.tile0Settled.sleepEntry.enterPark)

/-- RESERVED_OPCODE: an illegal encoding has no effect and faults the engine (R151, R197, R374). -/
def execReservedOpcode (e : Eng) (p0 p1 : W18) (s : State) : Out :=
  .next (if s.engFree e then
    match decodeParcels p0 p1 with
    | .illegal k => s.engineFault e k
    | .op _ => s
  else s)

end Sys2Proof.Machine
end

