-- ==== Sys2Proof/Machine/Dispatch.lean ====
section
/-! DEFINITION. One arm per command: the one call of its meaning. -/
namespace Sys2Proof.Machine

def exec (i : Instr) (s : State) : Host.Outcome State Fault Refusal :=
  match i with
  | .unitReceived key unit ringFull => Sys2Proof.Machine.execUnitReceived key unit ringFull s
  | .recordOffered l => Sys2Proof.Machine.execRecordOffered l s
  | .brickAgeExpiry l => Sys2Proof.Machine.execBrickAgeExpiry l s
  | .sealComplete l => Sys2Proof.Machine.execSealComplete l s
  | .wytheWriteComplete l isRecord w lba => Sys2Proof.Machine.execWytheWriteComplete l isRecord w lba s
  | .journalApply l => Sys2Proof.Machine.execJournalApply l s
  | .laneOpenRetry l => Sys2Proof.Machine.execLaneOpenRetry l s
  | .objectSpanExpiry l => Sys2Proof.Machine.execObjectSpanExpiry l s
  | .rtpPacketReceived l => Sys2Proof.Machine.execRtpPacketReceived l s
  | .reorderTimeout l ssrc => Sys2Proof.Machine.execReorderTimeout l ssrc s
  | .copePeriodExpiry l => Sys2Proof.Machine.execCopePeriodExpiry l s
  | .copingRecordSigned l => Sys2Proof.Machine.execCopingRecordSigned l s
  | .retentionSweep => Sys2Proof.Machine.execRetentionSweep s
  | .razeRecordDurable c => Sys2Proof.Machine.execRazeRecordDurable c s
  | .horizonUpdate vLow tBank => Sys2Proof.Machine.execHorizonUpdate vLow tBank s
  | .holdupInadequateClear => Sys2Proof.Machine.execHoldupInadequateClear s
  | .bankTestStart why bank => Sys2Proof.Machine.execBankTestStart why bank s
  | .bankTestComplete charge change => Sys2Proof.Machine.execBankTestComplete charge change s
  | .drillRequest => Sys2Proof.Machine.execDrillRequest s
  | .drillStart => Sys2Proof.Machine.execDrillStart s
  | .drillComplete energy => Sys2Proof.Machine.execDrillComplete energy s
  | .drillOverdue => Sys2Proof.Machine.execDrillOverdue s
  | .currentSample microAmps => Sys2Proof.Machine.execCurrentSample microAmps s
  | .leakageCheck vBank => Sys2Proof.Machine.execLeakageCheck vBank s
  | .supplySample vSup vBank => Sys2Proof.Machine.execSupplySample vSup vBank s
  | .tDeclareExpiry => Sys2Proof.Machine.execTDeclareExpiry s
  | .supplyReturnRestart => Sys2Proof.Machine.execSupplyReturnRestart s
  | .restartScan l medium => Sys2Proof.Machine.execRestartScan l medium s
  | .contextRestore found => Sys2Proof.Machine.execContextRestore found s
  | .commandWordFetch c hostWord => Sys2Proof.Machine.execCommandWordFetch c hostWord s
  | .courseStart e tileGen handle addr status notify => Sys2Proof.Machine.execCourseStart e tileGen handle addr status notify s
  | .resumeCause ask cause => Sys2Proof.Machine.execResumeCause ask cause s
  | .waitTimeout c => Sys2Proof.Machine.execWaitTimeout c s
  | .stopRequest ask => Sys2Proof.Machine.execStopRequest ask s
  | .courseNop c => Sys2Proof.Machine.execCourseNop c s
  | .jump c => Sys2Proof.Machine.execJump c s
  | .branch c => Sys2Proof.Machine.execBranch c s
  | .wait c => Sys2Proof.Machine.execWait c s
  | .post c => Sys2Proof.Machine.execPost c s
  | .ingest c host => Sys2Proof.Machine.execIngest c host s
  | .seal c => Sys2Proof.Machine.execSeal c s
  | .cope c => Sys2Proof.Machine.execCope c s
  | .append c host medium => Sys2Proof.Machine.execAppend c host medium s
  | .read c host medium => Sys2Proof.Machine.execRead c host medium s
  | .verify c medium => Sys2Proof.Machine.execVerify c medium s
  | .raze c medium => Sys2Proof.Machine.execRaze c medium s
  | .move c => Sys2Proof.Machine.execMove c s
  | .ledger c => Sys2Proof.Machine.execLedger c s
  | .eth c host => Sys2Proof.Machine.execEth c host s
  | .nvme c host => Sys2Proof.Machine.execNvme c host s
  | .usb c host => Sys2Proof.Machine.execUsb c host s
  | .can c host => Sys2Proof.Machine.execCan c host s
  | .tdm c host => Sys2Proof.Machine.execTdm c host s
  | .contextClaim c claimants => Sys2Proof.Machine.execContextClaim c claimants s
  | .contextRelease request c => Sys2Proof.Machine.execContextRelease request c s
  | .contextAllocate request => Sys2Proof.Machine.execContextAllocate request s
  | .contextFree request c gen => Sys2Proof.Machine.execContextFree request c gen s
  | .locExtTakeRetry c => Sys2Proof.Machine.execLocExtTakeRetry c s
  | .rekeyRequest => Sys2Proof.Machine.execRekeyRequest s
  | .rekeySwitch => Sys2Proof.Machine.execRekeySwitch s
  | .hodSubmit m h addr => Sys2Proof.Machine.execHodSubmit m h addr s
  | .hodEnWrite m h en => Sys2Proof.Machine.execHodEnWrite m h en s
  | .hodDisSet m h => Sys2Proof.Machine.execHodDisSet m h s
  | .hodDisClear m h => Sys2Proof.Machine.execHodDisClear m h s
  | .descriptorStart h => Sys2Proof.Machine.execDescriptorStart h s
  | .descriptorComplete h => Sys2Proof.Machine.execDescriptorComplete h s
  | .droppingClear h => Sys2Proof.Machine.execDroppingClear h s
  | .mfsr e rd sr => Sys2Proof.Machine.execMfsr e rd sr s
  | .mtsr e sr ra => Sys2Proof.Machine.execMtsr e sr ra s
  | .add e rd ra rb => Sys2Proof.Machine.execAdd e rd ra rb s
  | .sub e rd ra rb => Sys2Proof.Machine.execSub e rd ra rb s
  | .and e rd ra rb => Sys2Proof.Machine.execAnd e rd ra rb s
  | .or e rd ra rb => Sys2Proof.Machine.execOr e rd ra rb s
  | .xor e rd ra rb => Sys2Proof.Machine.execXor e rd ra rb s
  | .neg e rd ra => Sys2Proof.Machine.execNeg e rd ra s
  | .abs e rd ra => Sys2Proof.Machine.execAbs e rd ra s
  | .min e rd ra rb => Sys2Proof.Machine.execMin e rd ra rb s
  | .max e rd ra rb => Sys2Proof.Machine.execMax e rd ra rb s
  | .minu e rd ra rb => Sys2Proof.Machine.execMinu e rd ra rb s
  | .maxu e rd ra rb => Sys2Proof.Machine.execMaxu e rd ra rb s
  | .sll e rd ra rb => Sys2Proof.Machine.execSll e rd ra rb s
  | .srl e rd ra rb => Sys2Proof.Machine.execSrl e rd ra rb s
  | .sra e rd ra rb => Sys2Proof.Machine.execSra e rd ra rb s
  | .ror e rd ra rb => Sys2Proof.Machine.execRor e rd ra rb s
  | .rol e rd ra rb => Sys2Proof.Machine.execRol e rd ra rb s
  | .seq e rd ra rb => Sys2Proof.Machine.execSeq e rd ra rb s
  | .sne e rd ra rb => Sys2Proof.Machine.execSne e rd ra rb s
  | .slt e rd ra rb => Sys2Proof.Machine.execSlt e rd ra rb s
  | .sltu e rd ra rb => Sys2Proof.Machine.execSltu e rd ra rb s
  | .sle e rd ra rb => Sys2Proof.Machine.execSle e rd ra rb s
  | .sleu e rd ra rb => Sys2Proof.Machine.execSleu e rd ra rb s
  | .mul e ra rb => Sys2Proof.Machine.execMul e ra rb s
  | .mulu e ra rb => Sys2Proof.Machine.execMulu e ra rb s
  | .divs e ra rb => Sys2Proof.Machine.execDivs e ra rb s
  | .divu e ra rb => Sys2Proof.Machine.execDivu e ra rb s
  | .mulResult e => Sys2Proof.Machine.execMulResult e s
  | .divResult e => Sys2Proof.Machine.execDivResult e s
  | .ldw e rd ra u4 ecc => Sys2Proof.Machine.execLdw e rd ra u4 ecc s
  | .stw e rs ra u4 => Sys2Proof.Machine.execStw e rs ra u4 s
  | .ldwi e rd ra s4 ecc => Sys2Proof.Machine.execLdwi e rd ra s4 ecc s
  | .stwi e rs ra s4 => Sys2Proof.Machine.execStwi e rs ra s4 s
  | .addi e rd s8 => Sys2Proof.Machine.execAddi e rd s8 s
  | .movi e rd s8 => Sys2Proof.Machine.execMovi e rd s8 s
  | .bz e rs s8 => Sys2Proof.Machine.execBz e rs s8 s
  | .bnz e rs s8 => Sys2Proof.Machine.execBnz e rs s8 s
  | .bra e s12 => Sys2Proof.Machine.execBra e s12 s
  | .nop e => Sys2Proof.Machine.execNop e s
  | .halt e => Sys2Proof.Machine.execHalt e s
  | .di e => Sys2Proof.Machine.execDi e s
  | .ei e => Sys2Proof.Machine.execEi e s
  | .reti e => Sys2Proof.Machine.execReti e s
  | .waite e => Sys2Proof.Machine.execWaite e s
  | .waitt e ra => Sys2Proof.Machine.execWaitt e ra s
  | .waitConditionMet e => Sys2Proof.Machine.execWaitConditionMet e s
  | .waittTargetReached e => Sys2Proof.Machine.execWaittTargetReached e s
  | .sende e ra => Sys2Proof.Machine.execSende e ra s
  | .rpt e nm1 body bad => Sys2Proof.Machine.execRpt e nm1 body bad s
  | .rpti e body stop errors => Sys2Proof.Machine.execRpti e body stop errors s
  | .jmp e ra => Sys2Proof.Machine.execJmp e ra s
  | .callr e ra => Sys2Proof.Machine.execCallr e ra s
  | .mfb e rd b => Sys2Proof.Machine.execMfb e rd b s
  | .mtb e b ra => Sys2Proof.Machine.execMtb e b ra s
  | .addiL e rd ra s18 => Sys2Proof.Machine.execAddiL e rd ra s18 s
  | .andi e rd ra s18 => Sys2Proof.Machine.execAndi e rd ra s18 s
  | .ori e rd ra s18 => Sys2Proof.Machine.execOri e rd ra s18 s
  | .xori e rd ra s18 => Sys2Proof.Machine.execXori e rd ra s18 s
  | .slli e rd ra s18 => Sys2Proof.Machine.execSlli e rd ra s18 s
  | .srli e rd ra s18 => Sys2Proof.Machine.execSrli e rd ra s18 s
  | .srai e rd ra s18 => Sys2Proof.Machine.execSrai e rd ra s18 s
  | .rori e rd ra s18 => Sys2Proof.Machine.execRori e rd ra s18 s
  | .roli e rd ra s18 => Sys2Proof.Machine.execRoli e rd ra s18 s
  | .seqi e rd ra s18 => Sys2Proof.Machine.execSeqi e rd ra s18 s
  | .snei e rd ra s18 => Sys2Proof.Machine.execSnei e rd ra s18 s
  | .slti e rd ra s18 => Sys2Proof.Machine.execSlti e rd ra s18 s
  | .sltui e rd ra s18 => Sys2Proof.Machine.execSltui e rd ra s18 s
  | .sgti e rd ra s18 => Sys2Proof.Machine.execSgti e rd ra s18 s
  | .sgtui e rd ra s18 => Sys2Proof.Machine.execSgtui e rd ra s18 s
  | .li e rd imm => Sys2Proof.Machine.execLi e rd imm s
  | .ldwL e rd ra s18 ecc => Sys2Proof.Machine.execLdwL e rd ra s18 ecc s
  | .stwL e rs ra s18 => Sys2Proof.Machine.execStwL e rs ra s18 s
  | .ldB e rd b ra s18 => Sys2Proof.Machine.execLdB e rd b ra s18 s
  | .ldBS e rd b ra s18 => Sys2Proof.Machine.execLdBS e rd b ra s18 s
  | .ldH e rd b ra s18 => Sys2Proof.Machine.execLdH e rd b ra s18 s
  | .ldHS e rd b ra s18 => Sys2Proof.Machine.execLdHS e rd b ra s18 s
  | .ldT e rd b ra s18 => Sys2Proof.Machine.execLdT e rd b ra s18 s
  | .stB e rs b ra s18 => Sys2Proof.Machine.execStB e rs b ra s18 s
  | .stH e rs b ra s18 => Sys2Proof.Machine.execStH e rs b ra s18 s
  | .stT e rs b ra s18 => Sys2Proof.Machine.execStT e rs b ra s18 s
  | .loadDataReturn e ecc => Sys2Proof.Machine.execLoadDataReturn e ecc s
  | .storeBufferDrain e => Sys2Proof.Machine.execStoreBufferDrain e s
  | .bzL e rs s18 => Sys2Proof.Machine.execBzL e rs s18 s
  | .bnzL e rs s18 => Sys2Proof.Machine.execBnzL e rs s18 s
  | .braL e s18 => Sys2Proof.Machine.execBraL e s18 s
  | .call e s18 => Sys2Proof.Machine.execCall e s18 s
  | .sendei e n => Sys2Proof.Machine.execSendei e n s
  | .customerOpcode e n rd ra x imm events data => Sys2Proof.Machine.execCustomerOpcode e n rd ra x imm events data s
  | .interruptEntry e => Sys2Proof.Machine.execInterruptEntry e s
  | .sourceArrival n => Sys2Proof.Machine.execSourceArrival n s
  | .srcCountRead m n => Sys2Proof.Machine.execSrcCountRead m n s
  | .snapSel m n => Sys2Proof.Machine.execSnapSel m n s
  | .raise m n => Sys2Proof.Machine.execRaise m n s
  | .delivery t => Sys2Proof.Machine.execDelivery t s
  | .moderationExpiry t => Sys2Proof.Machine.execModerationExpiry t s
  | .publication ch k => Sys2Proof.Machine.execPublication ch k s
  | .publish e val => Sys2Proof.Machine.execPublish e val s
  | .arrTake t => Sys2Proof.Machine.execArrTake t s
  | .blockTaskStart t => Sys2Proof.Machine.execBlockTaskStart t s
  | .rearmBlockEnd ch => Sys2Proof.Machine.execRearmBlockEnd ch s
  | .rateWindowEnd => Sys2Proof.Machine.execRateWindowEnd s
  | .coursePortTake ch => Sys2Proof.Machine.execCoursePortTake ch s
  | .routerSnapSel m t => Sys2Proof.Machine.execRouterSnapSel m t s
  | .send m ch val => Sys2Proof.Machine.execSend m ch val s
  | .ack m ch val => Sys2Proof.Machine.execAck m ch val s
  | .mailboxLock m => Sys2Proof.Machine.execMailboxLock m s
  | .crossingDetected a b => Sys2Proof.Machine.execCrossingDetected a b s
  | .submitHi e val => Sys2Proof.Machine.execSubmitHi e val s
  | .submit12Lo m val => Sys2Proof.Machine.execSubmit12Lo m val s
  | .mortarJobComplete u => Sys2Proof.Machine.execMortarJobComplete u s
  | .starvationDetected inp => Sys2Proof.Machine.execStarvationDetected inp s
  | .slotStart arrivals => Sys2Proof.Machine.execSlotStart arrivals s
  | .slotSel m val => Sys2Proof.Machine.execSlotSel m val s
  | .frameBoundary => Sys2Proof.Machine.execFrameBoundary s
  | .queueEnable m q host => Sys2Proof.Machine.execQueueEnable m q host s
  | .queueDisable m q => Sys2Proof.Machine.execQueueDisable m q s
  | .sqDoorbell m q val => Sys2Proof.Machine.execSqDoorbell m q val s
  | .cqDoorbell m q val => Sys2Proof.Machine.execCqDoorbell m q val s
  | .entryTake host => Sys2Proof.Machine.execEntryTake host s
  | .nopEntry q => Sys2Proof.Machine.execNopEntry q s
  | .startEntry q => Sys2Proof.Machine.execStartEntry q s
  | .signalEntry q => Sys2Proof.Machine.execSignalEntry q s
  | .stopEntry q => Sys2Proof.Machine.execStopEntry q s
  | .holdEntry q => Sys2Proof.Machine.execHoldEntry q s
  | .writeEntry q source => Sys2Proof.Machine.execWriteEntry q source s
  | .mortarEntry q => Sys2Proof.Machine.execMortarEntry q s
  | .completionPosted q => Sys2Proof.Machine.execCompletionPosted q s
  | .kx1200Nop q => Sys2Proof.Machine.execKx1200Nop q s
  | .ethTx q host => Sys2Proof.Machine.execEthTx q host s
  | .ethRx q => Sys2Proof.Machine.execEthRx q s
  | .nvmCmd q host => Sys2Proof.Machine.execNvmCmd q host s
  | .usbRead q => Sys2Proof.Machine.execUsbRead q s
  | .usbCapacity q => Sys2Proof.Machine.execUsbCapacity q s
  | .usbInquiry q => Sys2Proof.Machine.execUsbInquiry q s
  | .canTx q host => Sys2Proof.Machine.execCanTx q host s
  | .canRx q => Sys2Proof.Machine.execCanRx q s
  | .tdmTx q host => Sys2Proof.Machine.execTdmTx q host s
  | .tdmRx q => Sys2Proof.Machine.execTdmRx q s
  | .dictRead path idx sub => Sys2Proof.Machine.execDictRead path idx sub s
  | .dictWrite path idx sub val => Sys2Proof.Machine.execDictWrite path idx sub val s
  | .registerWrite m t val => Sys2Proof.Machine.execRegisterWrite m t val s
  | .wytheSetWrite path val => Sys2Proof.Machine.execWytheSetWrite path val s
  | .keyWrite path l n val => Sys2Proof.Machine.execKeyWrite path l n val s
  | .epochWrite path slot val => Sys2Proof.Machine.execEpochWrite path slot val s
  | .keysRevoked path val => Sys2Proof.Machine.execKeysRevoked path val s
  | .usdoRequest node op => Sys2Proof.Machine.execUsdoRequest node op s
  | .usdoSegmentTimeout node => Sys2Proof.Machine.execUsdoSegmentTimeout node s
  | .nmtResetApplication => Sys2Proof.Machine.execNmtResetApplication s
  | .nmtResetCommunication => Sys2Proof.Machine.execNmtResetCommunication s
  | .nmtStateCommand cmd => Sys2Proof.Machine.execNmtStateCommand cmd s
  | .heartbeat => Sys2Proof.Machine.execHeartbeat s
  | .bumundDatagram peer port bytes zeroSum => Sys2Proof.Machine.execBumundDatagram peer port bytes zeroSum s
  | .bumundTransferIdle peer => Sys2Proof.Machine.execBumundTransferIdle peer s
  | .storeAll path val => Sys2Proof.Machine.execStoreAll path val s
  | .configStoreComplete ok => Sys2Proof.Machine.execConfigStoreComplete ok s
  | .restoreAll path val => Sys2Proof.Machine.execRestoreAll path val s
  | .challenge path => Sys2Proof.Machine.execChallenge path s
  | .response path val => Sys2Proof.Machine.execResponse path val s
  | .sessionClose path => Sys2Proof.Machine.execSessionClose path s
  | .challengeExpiry path => Sys2Proof.Machine.execChallengeExpiry path s
  | .sessionIdleExpiry path => Sys2Proof.Machine.execSessionIdleExpiry path s
  | .objectHoldSet path c gen => Sys2Proof.Machine.execObjectHoldSet path c gen s
  | .objectHoldClear path c gen => Sys2Proof.Machine.execObjectHoldClear path c gen s
  | .objectOffload path c gen => Sys2Proof.Machine.execObjectOffload path c gen s
  | .objectRaze path c gen => Sys2Proof.Machine.execObjectRaze path c gen s
  | .objectResume path c gen => Sys2Proof.Machine.execObjectResume path c gen s
  | .objectStop path c gen => Sys2Proof.Machine.execObjectStop path c gen s
  | .trngTestFailure => Sys2Proof.Machine.execTrngTestFailure s
  | .trngRetest pass => Sys2Proof.Machine.execTrngRetest pass s
  | .trngFailTimeout => Sys2Proof.Machine.execTrngFailTimeout s
  | .drbgReseed => Sys2Proof.Machine.execDrbgReseed s
  | .image path val => Sys2Proof.Machine.execImage path val s
  | .activate path => Sys2Proof.Machine.execActivate path s
  | .bootKeyRevoke path val => Sys2Proof.Machine.execBootKeyRevoke path val s
  | .secEpochFloor path val => Sys2Proof.Machine.execSecEpochFloor path val s
  | .bootKeyDigest path n val => Sys2Proof.Machine.execBootKeyDigest path n val s
  | .lcRequest path val => Sys2Proof.Machine.execLcRequest path val s
  | .attestReport path => Sys2Proof.Machine.execAttestReport path s
  | .extest => Sys2Proof.Machine.execExtest s
  | .extestExit => Sys2Proof.Machine.execExtestExit s
  | .fault f op status isExternal ecc => Sys2Proof.Machine.execFault f op status isExternal ecc s
  | .retryBackoffExpiry f op ok => Sys2Proof.Machine.execRetryBackoffExpiry f op ok s
  | .rung2Complete f host => Sys2Proof.Machine.execRung2Complete f host s
  | .lcRung3LimitExpiry => Sys2Proof.Machine.execLcRung3LimitExpiry s
  | .pwrcycRelease => Sys2Proof.Machine.execPwrcycRelease s
  | .engineWatchdogExpiry e => Sys2Proof.Machine.execEngineWatchdogExpiry e s
  | .tileWatchdogExpiry t => Sys2Proof.Machine.execTileWatchdogExpiry t s
  | .deviceWatchdogExpiry => Sys2Proof.Machine.execDeviceWatchdogExpiry s
  | .alwaysOnWatchdogExpiry => Sys2Proof.Machine.execAlwaysOnWatchdogExpiry s
  | .ewdKick m e val => Sys2Proof.Machine.execEwdKick m e val s
  | .dwdKick m val => Sys2Proof.Machine.execDwdKick m val s
  | .awdKick m val => Sys2Proof.Machine.execAwdKick m val s
  | .refclkLoss => Sys2Proof.Machine.execRefclkLoss s
  | .refclkReturn => Sys2Proof.Machine.execRefclkReturn s
  | .pllLockLoss => Sys2Proof.Machine.execPllLockLoss s
  | .pwrReqPark m => Sys2Proof.Machine.execPwrReqPark m s
  | .pwrReqDeep m => Sys2Proof.Machine.execPwrReqDeep m s
  | .pwrReqCancel m => Sys2Proof.Machine.execPwrReqCancel m s
  | .powerStateCommit => Sys2Proof.Machine.execPowerStateCommit s
  | .wake cause => Sys2Proof.Machine.execWake cause s
  | .wakeTimerExpiry => Sys2Proof.Machine.execWakeTimerExpiry s
  | .tilePwrRun m t => Sys2Proof.Machine.execTilePwrRun m t s
  | .tilePwrBanked m t => Sys2Proof.Machine.execTilePwrBanked m t s
  | .tilePwrCold m t => Sys2Proof.Machine.execTilePwrCold m t s
  | .railPowerGood n => Sys2Proof.Machine.execRailPowerGood n s
  | .railSequencingFault => Sys2Proof.Machine.execRailSequencingFault s
  | .railSequenceRetry => Sys2Proof.Machine.execRailSequenceRetry s
  | .pgLoss n => Sys2Proof.Machine.execPgLoss n s
  | .powerOnStart => Sys2Proof.Machine.execPowerOnStart s
  | .aonrstAssert => Sys2Proof.Machine.execAonrstAssert s
  | .release m e => Sys2Proof.Machine.execRelease m e s
  | .haltReq m e => Sys2Proof.Machine.execHaltReq m e s
  | .thermalSample tj => Sys2Proof.Machine.execThermalSample tj s
  | .ignitionEdge rising => Sys2Proof.Machine.execIgnitionEdge rising s
  | .ethFrameReceived p frame ringFull rtsp => Sys2Proof.Machine.execEthFrameReceived p frame ringFull rtsp s
  | .ethLinkChange p up cut => Sys2Proof.Machine.execEthLinkChange p up cut s
  | .ptpMessage p msg => Sys2Proof.Machine.execPtpMessage p msg s
  | .ptpSyncTimeout => Sys2Proof.Machine.execPtpSyncTimeout s
  | .ppsEdge => Sys2Proof.Machine.execPpsEdge s
  | .ppsLoss => Sys2Proof.Machine.execPpsLoss s
  | .holdoverExpiry => Sys2Proof.Machine.execHoldoverExpiry s
  | .todSet path val => Sys2Proof.Machine.execTodSet path val s
  | .nvmeCompletion r cid status result data => Sys2Proof.Machine.execNvmeCompletion r cid status result data s
  | .nvmeTimeout r cid => Sys2Proof.Machine.execNvmeTimeout r cid s
  | .pcieLinkDown k => Sys2Proof.Machine.execPcieLinkDown k s
  | .usbAttach u good key block => Sys2Proof.Machine.execUsbAttach u good key block s
  | .usbDetach u => Sys2Proof.Machine.execUsbDetach u s
  | .tdmBlock t block ringFull => Sys2Proof.Machine.execTdmBlock t block ringFull s
  | .tdmClockLoss t cut => Sys2Proof.Machine.execTdmClockLoss t cut s
  | .canFrameReceived c frame ringFull => Sys2Proof.Machine.execCanFrameReceived c frame ringFull s
  | .canBusOff c => Sys2Proof.Machine.execCanBusOff c s
  | .smbalert => Sys2Proof.Machine.execSmbalert s
  | .i2cTransactionComplete ok => Sys2Proof.Machine.execI2cTransactionComplete ok s
  | .gpioEdge n rising => Sys2Proof.Machine.execGpioEdge n rising s
  | .gpioBlock block ringFull => Sys2Proof.Machine.execGpioBlock block ringFull s
  | .pcieLinkUp k host => Sys2Proof.Machine.execPcieLinkUp k host s
  | .pcieRefclkLoss => Sys2Proof.Machine.execPcieRefclkLoss s
  | .mdioTransactionComplete => Sys2Proof.Machine.execMdioTransactionComplete s
  | .canErrorFrame c => Sys2Proof.Machine.execCanErrorFrame c s
  | .rawTransferComplete o status amount long data => Sys2Proof.Machine.execRawTransferComplete o status amount long data s
  | .reservedOpcode e p0 p1 => Sys2Proof.Machine.execReservedOpcode e p0 p1 s
  | .dramWindowWrite off val => Sys2Proof.Machine.execDramWindowWrite off val s

end Sys2Proof.Machine
end

