-- ==== Sys2Proof/WellFormed.lean ====
section
/-! DEFINITION. Well-formed commands: what their open operands (numbers, byte strings, lists) may be for something outside the block to send
them. Every other operand is bounded by its type. No meaning relies on these checks. -/
namespace Sys2Proof

/-- Each of a list's keys stands once. -/
def onceEach {α β : Type} [DecidableEq β] (key : α → β) (l : List α) : Bool := (l.map key).eraseDups.length == l.length

/-- Blocks of host memory lie in a 64-bit address space (R276). -/
def hostReadOk (h : HostRead) : Bool := h.all fun b => decide (b.1 + b.2.length ≤ 2 ^ 64)

/-- A voltage in mV of a supply or bank that a 16-bit register shows (R59). -/
def milliVolts (v : Nat) : Bool := decide (v < 65536)

/-- Each member is found once and gives each label zone and zone number in range (R38, R50). -/
def scanOk (found : List MemberScan) : Bool :=
  onceEach (·.member) found && found.all fun m => decide (m.pointers.length ≤ m.zones) && m.pointers.all fun p => decide (p.1 < m.zones)

/-- The well-formed commands. -/
def Instr.wellFormed : Instr → Bool
  | .unitReceived _ unit _ => !unit.isEmpty
  | .horizonUpdate v _ | .leakageCheck v => milliVolts v
  | .bankTestStart _ bank => milliVolts bank.milliVolts
  | .supplySample v b => milliVolts v && milliVolts b
  | .contextRestore found => scanOk found
  | .commandWordFetch _ h => h.length == 0 || h.length == 32
  | .ingest _ h | .eth _ h | .nvme _ h | .usb _ h | .can _ h | .tdm _ h => hostReadOk h
  | .append _ h _ | .read _ h _ => hostReadOk h
  | .queueEnable _ _ h | .writeEntry _ ⟨h, _⟩ | .ethTx _ h | .nvmCmd _ h | .canTx _ h | .tdmTx _ h => hostReadOk h
  | .entryTake h | .rung2Complete _ h | .pcieLinkUp _ h => hostReadOk h
  | .contextClaim _ cs => !cs.isEmpty && onceEach (·.master) cs
  | .publication _ k => decide (0 < k)
  | .sourceArrival n => !neverRaised n
  | .slotStart a => a.new.all fun r => decide (r.since ≤ a.now) && decide (0 < r.bytes)
  | .ethFrameReceived _ f _ _ => !f.isEmpty
  | .canFrameReceived _ f _ => decide (8 ≤ f.length) && decide (f.length ≤ 72)
  | .dramWindowWrite off v => decide (off.toNat + v.length ≤ 0x100000000) && !v.isEmpty
  | .usbAttach _ _ _ block => decide (block < 2 ^ 32)
  | _ => true

end Sys2Proof
end

