-- ==== Sys2Proof/Safety.lean ====
section
/-! DEFINITION. What the claims call a sound state, and what they call unchanged. -/
namespace Sys2Proof.Machine

/-- Memory is in its canonical form and holds in every byte only bits of its slot (R16; log entry 4). -/
def State.memSound (s : State) : Prop :=
  Memory.wf s.mem = true ∧ ∀ c ∈ s.mem, c.2 &&& laneMask c.1 = c.2

/-- Of two states only engine e differs: every other engine, every byte of memory and every other register is the same. -/
def OnlyEngine (e : Nat) (s t : State) : Prop := t = { s with engines := t.engines } ∧ ∀ k, k ≠ e → t.eng k = s.eng k

/-- The account of R212 for one source. -/
def SrcRow.balanced (r : SrcRow) : Prop :=
  r.arrivals = r.delivered + r.coalesced + r.dropped + (if r.pending then 1 else 0)

/-- The account of R212 for every source of a well-formed table. -/
def State.vuBalanced (s : State) : Prop := Tab.Rising s.vu.src ∧ ∀ n, (s.vu.row n).balanced

/-- The account of R230 for one task input. -/
def TaskRow.balanced (r : TaskRow) : Prop :=
  r.arrivals = r.delivered + r.coalesced + r.dropped + (if r.arr ≠ 0 then 1 else 0)

/-- The account of R230 for every task input. -/
def State.routerBalanced (s : State) : Prop := ∀ i, (s.router.taskAt i).balanced

/-- The account of R249 for every mailbox channel. -/
def State.mailBalanced (s : State) : Prop :=
  ∀ c, (s.mbox.row c).sent = (s.mbox.row c).acks + (if (s.mbox.row c).full then 1 else 0)

/-- The account of R293: TAKEN_POS is the completions posted and the entries not yet posted, and the first entry answers the next
position to post. -/
def Pair.balanced (p : Pair) : Prop :=
  p.takenPos = p.posted + BitVec.ofNat 32 p.entries.length ∧ ∀ e ∈ p.entries.head?, e.pos = p.posted

/-- Entry e stands first in pair q, a queue of native entries; it has the opcode, nothing of it has started, no later entry has its
number, and the pair's service tile can dispatch it. -/
def State.firstEntry (s : State) (q op : Nat) (e : TakenEntry) (rest : List TakenEntry) : Prop :=
  (s.pair q).txn = false ∧ (s.pair q).entries = e :: rest ∧ e.started = false ∧ e.done = none ∧ eOp e.raw = op ∧
    (∀ r ∈ rest, r.no ≠ e.no) ∧ (s.tile (s.serviceTile q)).power ≠ .cold

/-- Pair q with its first entry replaced. -/
def State.withFirst (s : State) (q : Nat) (e : TakenEntry) (rest : List TakenEntry) : State :=
  s.setPair q { s.pair q with entries := e :: rest }

/-- A request on path p is served at once and not followed by a restart that an earlier request asked for (R305, R306, R311, R337). -/
def State.asks (s : State) (p : Path) : Bool := s.serving && !s.sec.restarting && (p != .canopen || s.usdoServed)

/-- The state in which a request is served: the answers of the command before are gone. -/
def State.fresh (s : State) : State := { s with reply := [] }

end Sys2Proof.Machine
end

