-- ==== Sys2Proof/Certificates/Slice0/Obligations.lean ====
section
/-! DEFINITION. The statements for the provers, each from the rules of spec/ that its docstring names. `Out` is the outcome of a command; a
statement that gives an answer as `.next t` for a `t` spelled out says with it everything that stays. -/
open Sys2Proof Sys2Proof.Machine

/-- A step with a command in front is that command's execution with the queue's rest; with no command waiting it is one tick of the time
(log entry 48), which changes nothing but the clocks, behind the request of the host that waits in its mailbox (log entry 114). -/
def Obligations.StepRunsFront : Prop :=
  ∀ (c : Instr) (rest : List Instr) (s : State),
    step { s with pending := c :: rest } = exec c { s with pending := rest } ∧
    (s.pending = [] → s.power.phase = .run → s.serving = true → s.mailWaits = true → step s = .next (s.serveMail.lcRestart).tick) ∧
    (s.pending = [] → s.mailWaits = false → step s = .next s.tick ∧ s.tick.aon = s.aon + 1 ∧
      s.tick.tnow = (if s.power.pllLock then s.tnow + 1 else s.tnow) ∧
      s.tick = { s with aon := s.tick.aon, tnow := s.tick.tnow, time := s.tick.time, draws := s.tick.draws })

/-- No command stops the block: every command, in every state, is answered with a next state. -/
def Obligations.EveryCommandAnswers : Prop := ∀ (c : Instr) (s : State), ∃ t, exec c s = .next t

/-- R178 to R184, R186, R204: the parcels of the spec's worked examples decode to the instructions that the examples give. -/
def Obligations.ParcelWords : Prop :=
  decodeParcels 0x33C81#18 0x01000#18 = .op (.li 2 0x041000#24) ∧ decodeParcels 0x29464#18 0 = .op (.movi 4 100#8) ∧
    decodeParcels 0x02240#18 0 = .op (.mtsr 2 4) ∧ decodeParcels 0x00900#18 0 = .op .rpti ∧
    decodeParcels 0x27021#18 0 = .op (.stwi 0 2 1) ∧ decodeParcels 0x3544E#18 6#18 = .op (.ld .hs 1 2 3 6#18) ∧
    decodeParcels 0x3C14E#18 4#18 = .op (.custom 0 5 3 2 4#18)

/-- R16 and the canonical form of memory (log entry 4): in every step the entries of memory stay in rising order, none of them 0, and no
byte holds a bit that its slot has not. -/
def Obligations.EveryStepKeepsMemorySound : Prop := ∀ s t : State, s.memSound → step s = .next t → t.memSound

/-- R10, R152, R174, R212, R221, R230, R249, R305, R369, R383: the block before its first start. No engine runs, no source is pending,
every account is even, time is 0 and free-running, the dictionary does not answer, memory reads 0. That nothing has power then is log
entry 30. -/
def Obligations.ResetState : Prop :=
  let s := State.reset
  s.pending = [] ∧ s.memSound ∧ s.vuBalanced ∧ s.routerBalanced ∧ s.mailBalanced ∧
    (∀ e, (s.eng e).run = .halted false ∧ (s.eng e).ie = false ∧ (s.eng e).act = 0 ∧ (s.eng e).posted = []) ∧
    (∀ e r, (s.eng e).reg r = 0) ∧ (∀ n, (s.vu.row n).pending = false ∧ (s.vu.row n).lastTarget = 0x9F) ∧ s.vu.ghold = false ∧
    (∀ a, s.byteAt a = 0) ∧ s.tnow = 0 ∧ s.time.now = 0 ∧ s.time.source = 0 ∧ s.time.mono = none ∧ s.dict.ready = false ∧
    s.dict.session = [] ∧ s.power.phase = .off

/-- R15 to R19, R277, R278: a word written by a master stands at its address in DRAM and no other byte changes; a write that a master may
not make, or that meets no register, is one address fault of the master and changes nothing else; the host's DRAM window reaches
general DRAM only. -/
def Obligations.PlainWrites : Prop :=
  ∀ (m : Master) (a : DevAddr) (off : BitVec 24) (w : BitVec 35) (v : W32) (b : Bytes) (s : State),
    let write := exec (.registerWrite m (.device a) v) s
    let base := s.rings.winBase.toNat * 0x100000000 + w.toNat % 0x100000000
    let through := exec (.dramWindowWrite w b) s
    (a.toNat % 4 = 0 → a.toNat < 0x370000000 → ∃ t, write = .next t ∧ t = { s with mem := t.mem } ∧ t.bytesAt a.toNat 4 = toLE 4 v.toNat ∧
      (∀ k, k < a.toNat ∨ a.toNat + 4 ≤ k → t.byteAt k = s.byteAt k)) ∧
    (a.toNat % 4 = 0 → 0x780000000 ≤ a.toNat → a.toNat < 0x780C00000 → ∃ t, write = .next t ∧ t = { s with mem := t.mem } ∧
      t.bytesAt a.toNat 4 = toLE 4 (v.toNat % 0x1000000) ∧ (∀ k, k < a.toNat ∨ a.toNat + 4 ≤ k → t.byteAt k = s.byteAt k)) ∧
    (a.toNat % 4 = 0 → 0x380000000 ≤ a.toNat → a.toNat < 0x780000000 → write = .next (s.addrFault m)) ∧
    (a.toNat % 4 = 0 → 0x370000000 ≤ a.toNat → a.toNat < 0x380000000 → 8 ≤ m.val → write = .next (s.addrFault m)) ∧
    (a.toNat % 4 = 0 → 0x790000000 ≤ a.toNat → a.toNat < 0x790C00000 → s.fw m = false → m.val ≠ 98 → write = .next (s.addrFault m)) ∧
    exec (.registerWrite m .msixEnable v) s = .next { s with rings := { s.rings with msixEn := v.getLsbD 0 } } ∧
    exec (.registerWrite m .msixFunctionMask v) s = .next { s with rings := { s.rings with msixFnMask := v.getLsbD 0 } } ∧
    exec (.registerWrite m .busMaster v) s = .next { s with rings := { s.rings with busMaster := v.getLsbD 0 } } ∧
    (bits v 0 8 < 96 → exec (.registerWrite m (.bar 0x900000#24) v) s = .next (s.raise (bits v 0 8))) ∧
    (96 ≤ bits v 0 8 → exec (.registerWrite m (.bar 0x900000#24) v) s = .next (s.addrFault 96)) ∧
    (0x880000 ≤ off.toNat → off.toNat ≠ 0x900000 → exec (.registerWrite m (.bar off) v) s = .next (s.addrFault 96)) ∧
    (base + b.length ≤ 0x370000000 → ∃ t, through = .next t ∧ t = { s with mem := t.mem } ∧ t.bytesAt base b.length = b ∧
      (∀ k, k < base ∨ base + b.length ≤ k → t.byteAt k = s.byteAt k)) ∧
    (0x370000000 ≤ base → b ≠ [] → through = .next (s.addrFault 96))

/-- R165, R181: what the short three-register instructions, NEG and ABS write, each wrapping modulo 2^24, with shift counts of 24 or more
and rotations as R165 gives them. Each completes on a free engine; only RD and PC of that engine change, and the mark of R218 that an
entry has left no boundary before its first instruction clears; RD = g0 discards the result. R164, R181: the short condition
instructions write 1 or 0. -/
def Obligations.ShortAluAndConditions : Prop :=
  (∀ (e : Eng) (rd ra rb : Reg) (s : State), s.engFree e = true →
    let x := (s.eng e).begun
    let a := x.reg ra
    let b := x.reg rb
    let n := b.toNat
    let put := fun (v : W24) => (Host.Outcome.next (s.setEng e ((x.setReg rd v).past 1)) : Out)
    exec (.add e rd ra rb) s = put (a + b) ∧ exec (.sub e rd ra rb) s = put (a - b) ∧
    exec (.and e rd ra rb) s = put (a &&& b) ∧ exec (.or e rd ra rb) s = put (a ||| b) ∧ exec (.xor e rd ra rb) s = put (a ^^^ b) ∧
    exec (.neg e rd ra) s = put (0 - a) ∧ exec (.abs e rd ra) s = put (if a.toInt < 0 then 0 - a else a) ∧
    exec (.min e rd ra rb) s = put (if a.toInt < b.toInt then a else b) ∧
    exec (.max e rd ra rb) s = put (if a.toInt < b.toInt then b else a) ∧
    exec (.minu e rd ra rb) s = put (if a.toNat < b.toNat then a else b) ∧
    exec (.maxu e rd ra rb) s = put (if a.toNat < b.toNat then b else a) ∧
    exec (.sll e rd ra rb) s = put (if n < 24 then a <<< n else 0) ∧
    exec (.srl e rd ra rb) s = put (if n < 24 then a >>> n else 0) ∧
    exec (.sra e rd ra rb) s = put (if n < 24 then a.sshiftRight n else if a.toInt < 0 then 0xFFFFFF else 0) ∧
    exec (.ror e rd ra rb) s = put ((a >>> (n % 24)) ||| (a <<< (24 - n % 24))) ∧
    exec (.rol e rd ra rb) s = put ((a <<< (n % 24)) ||| (a >>> (24 - n % 24)))) ∧
  (∀ (e : Eng) (rd ra rb : Reg) (s : State), s.engFree e = true →
    let x := (s.eng e).begun
    let a := x.reg ra
    let b := x.reg rb
    let put := fun (c : Prop) [Decidable c] => (Host.Outcome.next (s.setEng e ((x.setReg rd (if c then 1 else 0)).past 1)) : Out)
    exec (.seq e rd ra rb) s = put (a = b) ∧ exec (.sne e rd ra rb) s = put (a ≠ b) ∧
    exec (.slt e rd ra rb) s = put (a.toInt < b.toInt) ∧ exec (.sltu e rd ra rb) s = put (a.toNat < b.toNat) ∧
    exec (.sle e rd ra rb) s = put (a.toInt ≤ b.toInt) ∧ exec (.sleu e rd ra rb) s = put (a.toNat ≤ b.toNat))

/-- R165, R183, R184: what the long immediate instructions and LI write; IMM18 is sign-extended, a shift count zero-extended. Each
completes on a free engine; only RD and PC of that engine change, and the mark of R218 clears. -/
def Obligations.LongImmediateResults : Prop :=
  ∀ (e : Eng) (rd ra : Reg) (v : BitVec 18) (c : W24) (s : State), s.engFree e = true →
    let x := (s.eng e).begun
    let a := x.reg ra
    let i := (v.signExtend 24 : W24)
    let n := v.toNat
    let put := fun (v : W24) => (Host.Outcome.next (s.setEng e ((x.setReg rd v).past 2)) : Out)
    exec (.addiL e rd ra v) s = put (a + i) ∧ exec (.andi e rd ra v) s = put (a &&& i) ∧
    exec (.ori e rd ra v) s = put (a ||| i) ∧ exec (.xori e rd ra v) s = put (a ^^^ i) ∧
    exec (.slli e rd ra v) s = put (if n < 24 then a <<< n else 0) ∧
    exec (.srli e rd ra v) s = put (if n < 24 then a >>> n else 0) ∧
    exec (.srai e rd ra v) s = put (if n < 24 then a.sshiftRight n else if a.toInt < 0 then 0xFFFFFF else 0) ∧
    exec (.rori e rd ra v) s = put ((a >>> (n % 24)) ||| (a <<< (24 - n % 24))) ∧
    exec (.roli e rd ra v) s = put ((a <<< (n % 24)) ||| (a >>> (24 - n % 24))) ∧
    exec (.seqi e rd ra v) s = put (if a = i then 1 else 0) ∧ exec (.snei e rd ra v) s = put (if a = i then 0 else 1) ∧
    exec (.slti e rd ra v) s = put (if a.toInt < i.toInt then 1 else 0) ∧
    exec (.sltui e rd ra v) s = put (if a.toNat < i.toNat then 1 else 0) ∧
    exec (.sgti e rd ra v) s = put (if i.toInt < a.toInt then 1 else 0) ∧
    exec (.sgtui e rd ra v) s = put (if i.toNat < a.toNat then 1 else 0) ∧
    exec (.li e rd c) s = put c

/-- R181, R182: ADDI, MOVI, MFB, MTB and NOP; and R153: g0 reads 0, a write of it is discarded, a bank register keeps bits [10:0]. -/
def Obligations.MovesAndBanks : Prop :=
  ∀ (e : Eng) (rd ra : Reg) (b : BankReg) (v : BitVec 8) (s : State), s.engFree e = true →
    let x := (s.eng e).begun
    let out := fun (y : Engine) => (Host.Outcome.next (s.setEng e (y.past 1)) : Out)
    exec (.addi e rd v) s = out (x.setReg rd (x.reg rd + v.signExtend 24)) ∧
    exec (.movi e rd v) s = out (x.setReg rd (v.signExtend 24)) ∧
    exec (.mfb e rd b) s = out (x.setReg rd ((x.bank b).setWidth 24)) ∧
    exec (.mtb e b ra) s = out (x.setBank b ((x.reg ra).setWidth 11)) ∧
    exec (.nop e) s = out x ∧
    (∀ (k : Reg) (w : W24), (x.setReg rd w).reg k = if k = 0 then 0 else if k = rd then w else x.reg k)

/-- R154, R174, R186: MFSR reads each special register, TNOWL latching TNOWH; MTSR writes what a register holds and discards the rest, its
write of ESTAT changing IE, DOV and DZ alone. -/
def Obligations.SpecialRegisterMoves : Prop :=
  ∀ (e : Eng) (r : Reg) (s : State), s.engFree e = true →
    let x := (s.eng e).begun
    let v := x.reg r
    let from_ := fun (n : BitVec 4) (w : W24) => exec (.mfsr e r n) s = .next (s.setEng e ((x.setReg r w).past 1))
    let to_ := fun (n : BitVec 4) (y : Engine) => exec (.mtsr e n r) s = .next (((s.setEng e y).markIfHeld e).modEng e (·.past 1))
    from_ 0 x.mlo ∧ from_ 1 x.mhi ∧ from_ 2 x.rc ∧ from_ 3 x.estat ∧ from_ 5 x.tnowh ∧ from_ 6 x.evm ∧
    from_ 7 ((x.vbase ++ (0 : BitVec 10)).setWidth 24) ∧
    exec (.mfsr e r 4) s =
      .next (s.setEng e (({ x with tnowh := s.tnow.extractLsb' 24 24 }.setReg r (s.tnow.extractLsb' 0 24)).past 1)) ∧
    (∀ l : Fin 4, from_ (BitVec.ofNat 4 (8 + l)) ((x.ipc.look 0 l).setWidth 24) ∧
      from_ (BitVec.ofNat 4 (12 + l)) (if x.istat.look false l then 1 else 0)) ∧
    to_ 0 { x with mlo := v } ∧ to_ 1 { x with mhi := v } ∧ to_ 2 { x with rc := v } ∧
    to_ 3 { x with ie := v.getLsbD 0, dov := v.getLsbD 6, dz := v.getLsbD 7 } ∧ to_ 4 x ∧ to_ 5 x ∧ to_ 6 { x with evm := v } ∧
    to_ 7 { x with vbase := v.extractLsb' 10 8 } ∧
    (∀ l : Fin 4, to_ (BitVec.ofNat 4 (8 + l)) { x with ipc := x.ipc.put l (v.extractLsb' 0 18) } ∧
      to_ (BitVec.ofNat 4 (12 + l)) { x with istat := x.istat.put l (v.getLsbD 0) })

/-- R165, R166: MUL, MULU, DIVS and DIVU issued with no divide in flight leave MLO and MHI as they are; MUL_RESULT and DIV_RESULT write the
product, or the quotient, the remainder and the flags. -/
def Obligations.MultiplyAndDivide : Prop :=
  ∀ (e : Eng) (ra rb : Reg) (s : State), s.engFree e = true → (s.eng e).divide = none → (s.eng e).products = [] →
    let x := s.eng e
    let a := x.reg ra
    let b := x.reg rb
    let zero := decide (b = 0)
    let min := decide (a = 0x800000 ∧ b = 0xFFFFFF)
    (∃ t, exec (.mul e ra rb) s = .next t ∧ (t.eng e).mlo = x.mlo ∧ (t.eng e).mhi = x.mhi ∧ (t.eng e).pc = x.pc + 1 ∧ OnlyEngine e s t ∧
      ∃ u, exec (.mulResult e) t = .next u ∧ OnlyEngine e s u ∧
        ((u.eng e).mhi ++ (u.eng e).mlo : BitVec 48).toInt = a.toInt * b.toInt) ∧
    (∃ t, exec (.mulu e ra rb) s = .next t ∧ (t.eng e).mlo = x.mlo ∧ (t.eng e).mhi = x.mhi ∧ (t.eng e).pc = x.pc + 1 ∧ OnlyEngine e s t ∧
      ∃ u, exec (.mulResult e) t = .next u ∧ OnlyEngine e s u ∧
        ((u.eng e).mhi ++ (u.eng e).mlo : BitVec 48).toNat = a.toNat * b.toNat) ∧
    (∃ t, exec (.divs e ra rb) s = .next t ∧ (t.eng e).mlo = x.mlo ∧ (t.eng e).mhi = x.mhi ∧ (t.eng e).pc = x.pc + 1 ∧ OnlyEngine e s t ∧
      ∃ u, exec (.divResult e) t = .next u ∧ OnlyEngine e s u ∧
        (u.eng e).dz = (x.dz || zero) ∧ (u.eng e).dov = (x.dov || min) ∧
        (if zero then (u.eng e).mlo = 0xFFFFFF ∧ (u.eng e).mhi = a
         else if min then (u.eng e).mlo = 0x800000 ∧ (u.eng e).mhi = 0
         else (u.eng e).mlo.toInt = a.toInt.tdiv b.toInt ∧ (u.eng e).mhi.toInt = a.toInt.tmod b.toInt)) ∧
    (∃ t, exec (.divu e ra rb) s = .next t ∧ (t.eng e).mlo = x.mlo ∧ (t.eng e).mhi = x.mhi ∧ (t.eng e).pc = x.pc + 1 ∧ OnlyEngine e s t ∧
      ∃ u, exec (.divResult e) t = .next u ∧ OnlyEngine e s u ∧
        (u.eng e).dz = (x.dz || zero) ∧ (u.eng e).dov = x.dov ∧
        (if zero then (u.eng e).mlo = 0xFFFFFF ∧ (u.eng e).mhi = a
         else (u.eng e).mlo.toNat = a.toNat / b.toNat ∧ (u.eng e).mhi.toNat = a.toNat % b.toNat))

/-- R157, R181, R184: loads and stores of the engine's local memory. A load writes RD and the post-step of LDWI its base, the loaded value
winning where RD = RA; a store writes the one word, STWI the value of RA before the step where RS = RA. Nothing else changes. -/
def Obligations.LocalMemoryAccesses : Prop :=
  ∀ (e : Eng) (rd ra : Reg) (u : BitVec 4) (i : BitVec 18) (s : State), s.engFree e = true →
    let x := (s.eng e).begun
    let b := x.reg ra
    let word := fun (a : W24) => x.loc.look 0 a.toNat
    let write := fun (a : W24) => { x with loc := x.loc.store 0 a.toNat (x.reg rd) }
    let out := fun (n : Nat) (y : Engine) => (Host.Outcome.next (s.setEng e (y.past n)) : Out)
    let short := b + u.setWidth 24
    let long := b + i.signExtend 24
    let step := b + u.signExtend 24
    (short.toNat < 0x4000 →
      exec (.ldw e rd ra u 0) s = out 1 (x.setReg rd (word short)) ∧ exec (.stw e rd ra u) s = out 1 (write short)) ∧
    (long.toNat < 0x4000 →
      exec (.ldwL e rd ra i 0) s = out 2 (x.setReg rd (word long)) ∧ exec (.stwL e rd ra i) s = out 2 (write long)) ∧
    (b.toNat < 0x4000 →
      exec (.ldwi e rd ra u 0) s = out 1 ((x.setReg ra step).setReg rd (word b)) ∧
      exec (.stwi e rd ra u) s = out 1 ((write b).setReg ra step))

/-- R16, R157, R162, R187: a store to the tile's shared data memory writes the three bytes of one word. A load leaves the engine STALLED at
its instruction with every register as it was; the data that return are the word's bytes, with LDWI's post-step, the loaded value
winning. Every other byte of memory and everything outside the engine stays. -/
def Obligations.SharedMemoryAccesses : Prop :=
  ∀ (e : Eng) (rd ra : Reg) (u : BitVec 4) (i : BitVec 18) (s : State), s.engFree e = true → (s.eng e).replay.look none (s.eng e).level = none →
    let x := (s.eng e).begun
    let b := x.reg ra
    let short := b + u.setWidth 24
    let long := b + i.signExtend 24
    let step := b + u.signExtend 24
    let d := fun (a : W24) => 0x780000000 + (e.val / 8) * 0x100000 + 4 * (a.toNat - 0x40000)
    let shared := fun (a : W24) => 0x40000 ≤ a.toNat ∧ a.toNat < 0x80000
    let word := fun (a : W24) => s.byteAt (d a + 2) ++ s.byteAt (d a + 1) ++ s.byteAt (d a)
    let stores := fun (c : Instr) (a : W24) (y : Engine) => ∃ t, exec c s = .next t ∧ t.eng e = y ∧
      (∀ k : Fin 3, t.byteAt (d a + k) = (x.reg rd).extractLsb' (8 * k) 8) ∧
      (∀ k, k < d a ∨ d a + 3 ≤ k → t.byteAt k = s.byteAt k) ∧ t = { s with engines := t.engines, mem := t.mem } ∧
      ∀ k, k ≠ e.val → t.eng k = s.eng k
    let loads := fun (c : Instr) (y : Engine) => ∃ t, exec c s = .next t ∧ OnlyEngine e s t ∧ (t.eng e).pc = x.pc ∧
      (∀ k, (t.eng e).reg k = x.reg k) ∧ ∃ v, exec (.loadDataReturn e 0) t = .next v ∧ OnlyEngine e s v ∧ v.eng e = y
    (shared short → stores (.stw e rd ra u) short (x.past 1) ∧ loads (.ldw e rd ra u 0) ((x.setReg rd (word short)).past 1)) ∧
    (shared long → stores (.stwL e rd ra i) long (x.past 2) ∧ loads (.ldwL e rd ra i 0) ((x.setReg rd (word long)).past 2)) ∧
    (shared b → stores (.stwi e rd ra u) b ((x.setReg ra step).past 1) ∧
      loads (.ldwi e rd ra u 0) (((x.setReg ra step).setReg rd (word b)).past 1))

/-- R178, R181, R182, R184: branches and calls, their targets modulo 2^18 from the first parcel. CALL and CALLR write the parcel behind
them into g15, CALLR reading RA before. -/
def Obligations.BranchesAndCalls : Prop :=
  ∀ (e : Eng) (r : Reg) (v8 : BitVec 8) (v12 : BitVec 12) (v : BitVec 18) (s : State), s.engFree e = true →
    let x := (s.eng e).begun
    let z := decide (x.reg r = 0)
    let go := fun (p : W18) => (Host.Outcome.next (s.setEng e { x with pc := p }) : Out)
    exec (.bz e r v8) s = go (if z then x.pc + v8.signExtend 18 else x.pc + 1) ∧
    exec (.bnz e r v8) s = go (if z then x.pc + 1 else x.pc + v8.signExtend 18) ∧
    exec (.bra e v12) s = go (x.pc + v12.signExtend 18) ∧
    exec (.bzL e r v) s = go (if z then x.pc + v else x.pc + 2) ∧ exec (.bnzL e r v) s = go (if z then x.pc + 2 else x.pc + v) ∧
    exec (.braL e v) s = go (x.pc + v) ∧ exec (.jmp e r) s = go ((x.reg r).extractLsb' 0 18) ∧
    exec (.call e v) s = .next (s.setEng e { x.setReg 15 ((x.pc + 2).setWidth 24) with pc := x.pc + v }) ∧
    exec (.callr e r) s = .next (s.setEng e { x.setReg 15 ((x.pc + 1).setWidth 24) with pc := (x.reg r).extractLsb' 0 18 })

/-- R151, R171, R193, R194: HALT, DI and EI; WAITE and WAITT complete where their condition holds and leave the engine WAITING otherwise;
the wait ends with the condition, at the parcel behind it. -/
def Obligations.HaltAndWaits : Prop :=
  ∀ (e : Eng) (ra : Reg) (s : State), s.engFree e = true →
    let x := (s.eng e).begun
    let out := fun (y : Engine) => (Host.Outcome.next (s.setEng e y) : Out)
    let target := x.reg ra
    exec (.halt e) s = out { x with pc := x.pc + 1, run := .halted true } ∧
    (∃ t, exec (.di e) s = .next t ∧ OnlyEngine e s t ∧ (t.eng e).ie = false ∧ (t.eng e).pc = x.pc + 1 ∧ (t.eng e).g = x.g) ∧
    exec (.ei e) s = out { x with pc := x.pc + 1, ie := true } ∧
    (x.evl &&& x.evm ≠ 0 → exec (.waite e) s = out (x.past 1)) ∧
    (x.evl &&& x.evm = 0 → ∃ t, exec (.waite e) s = .next t ∧ (t.eng e).run = .waitE ∧ (t.eng e).pc = x.pc ∧ OnlyEngine e s t ∧
      ∀ v, v &&& x.evm ≠ 0 → ∃ u, exec (.waitConditionMet e) (t.modEng e fun y => { y with evl := v }) = .next u ∧
        (u.eng e).run = .running ∧ (u.eng e).pc = x.pc + 1 ∧ (u.eng e).evl = v) ∧
    (0 ≤ (s.tnow.extractLsb' 0 24 - target : W24).toInt → exec (.waitt e ra) s = out (x.past 1)) ∧
    ((s.tnow.extractLsb' 0 24 - target : W24).toInt < 0 →
      exec (.waitt e ra) s = out { x with run := .waitT target } ∧
      ∀ now : BitVec 48, 0 ≤ (now.extractLsb' 0 24 - target : W24).toInt →
        exec (.waittTargetReached e) { s.setEng e { x with run := .waitT target } with tnow := now } =
          .next ({ s with tnow := now }.setEng e { x with pc := x.pc + 1, run := .running }))

/-- R170, R173, R218: an interrupt entry at a boundary saves PC and IE, sets the level active and goes to the latched vector, with no
boundary before its first instruction; RETI with nothing pending above returns; RETI at the base level is an engine fault of case 6. -/
def Obligations.InterruptEntryAndReturn : Prop :=
  ∀ (e : Eng) (n : Src) (l : BitVec 2) (v : W18) (s : State),
    let x := s.eng e
    (x.run = .running → x.rpti = none → x.e1 = some (n, l, v) →
      exec (.interruptEntry e) s = .next (s.setEng e { x with
        ipc := x.ipc.put l.toNat x.pc, istat := x.istat.put l.toNat x.ie, act := x.act ||| (1#4 <<< l.toNat), pc := v, e1 := none
        entered := true })) ∧
    (∀ k, s.engFree e = true → x.level = k + 1 →
      (s.begins e).winner e (some (e.val, { x with act := x.act &&& ~~~(1#4 <<< k) }.level)) = none →
      ∃ t, exec (.reti e) s = .next t ∧ OnlyEngine e s t ∧ (t.eng e).pc = x.ipc.look 0 k ∧ (t.eng e).ie = x.istat.look false k ∧
        (t.eng e).act = x.act &&& ~~~(1#4 <<< k) ∧ (t.eng e).g = x.g ∧ (t.eng e).run = .running ∧ (t.eng e).entered = true) ∧
    (s.engFree e = true → x.level = 0 →
      exec (.reti e) s = .next (((s.setEng e { x.begun with
        run := .halted false, faulted := true, faultCase := 6, faultPc := x.pc, rpti := none }).raise 240).fault (e.val / 8) .none 0 false))

/-- R189: "A repetition whose effective address lies outside 0_0000h–0_3FFFh raises illegal-instruction in that repetition." The
repetitions before it stand, the failing one has no effect, and the engine faults with case 4 (R151, R374). -/
def Obligations.RptOutsideLocalMemory : Prop :=
  ∀ (e : Eng) (nm1 : BitVec 6) (rs ra : Reg) (k : Nat) (s : State), s.engFree e = true → ra ≠ 0 → rs ≠ ra →
    let x := s.eng e
    let b := (x.reg ra).toNat
    b < 0x4000 → k ≤ nm1.toNat → b + k = 0x4000 →
      ∃ t, exec (.rpt e nm1 (.stwi rs ra 1) none) s =
          .next (((t.modEng e fun y => { y with
            run := .halted false, faulted := true, faultCase := 4, faultPc := x.pc, rpti := none }).raise 240).fault (e.val / 8) .none 0 false) ∧
        OnlyEngine e s t ∧ (t.eng e).reg ra = BitVec.ofNat 24 0x4000 ∧ (t.eng e).pc = x.pc ∧
        (∀ j, b ≤ j → j < 0x4000 → (t.eng e).loc.look 0 j = x.reg rs) ∧
        (∀ j, j < b ∨ 0x4000 ≤ j → (t.eng e).loc.look 0 j = x.loc.look 0 j)

/-- R190, R191: RPT n executes its instruction n times and RPTI as often as RC holds, with no change of RC, and PC then stands behind the
pair; with RC at 0 the instruction is not executed. Stated for an ADDI of 1 to a register. R192: an interrupt between two repetitions
of an RPTI finds the engine at the prefix; at its entry RC receives the repetitions not yet begun and IPC the prefix. -/
def Obligations.RepeatsAndTheirInterrupt : Prop :=
  (∀ (e : Eng) (nm1 : BitVec 6) (rd : Reg) (s : State), s.engFree e = true → rd ≠ 0 →
    let x := s.eng e
    (∃ t, exec (.rpt e nm1 (.addi rd 1) none) s = .next t ∧ OnlyEngine e s t ∧
      (t.eng e).reg rd = x.reg rd + BitVec.ofNat 24 (nm1.toNat + 1) ∧ (t.eng e).pc = x.pc + 2 ∧ (t.eng e).rc = x.rc) ∧
    (∃ t, exec (.rpti e (.addi rd 1) none ⟨none, none⟩) s = .next t ∧ OnlyEngine e s t ∧
      (t.eng e).reg rd = x.reg rd + x.rc ∧ (t.eng e).pc = x.pc + 2 ∧ (t.eng e).rc = x.rc ∧ (t.eng e).rpti = none)) ∧
  (∀ (e : Eng) (rd : Reg) (k : Nat) (n : Src) (l : BitVec 2) (v : W18) (s : State), s.engFree e = true → rd ≠ 0 →
    let x := s.eng e
    k < x.rc.toNat →
      ∃ t, exec (.rpti e (.addi rd 1) (some k) ⟨none, none⟩) s = .next t ∧ (t.eng e).pc = x.pc ∧
        ∃ u, exec (.interruptEntry e) (t.modEng e fun y => { y with e1 := some (n, l, v) }) = .next u ∧
          (u.eng e).reg rd = x.reg rd + BitVec.ofNat 24 k ∧ (u.eng e).rc.toNat = x.rc.toNat - k ∧
          (u.eng e).ipc.look 0 l.toNat = x.pc ∧ (u.eng e).pc = v ∧ (u.eng e).act.getLsbD l.toNat = true)

/-- R20: "An offset never carries into the bank: a multi-byte access that crosses a 16 MiB boundary wraps within the same bank." The device
byte address is b × 2^24 + offset. -/
def Obligations.BankedAddresses : Prop :=
  ∀ (b : BitVec 11) (off : W24) (i : Nat),
    (devAddr b off).toNat = b.toNat * 2 ^ 24 + off.toNat ∧
    (byteAddr (devAddr b off) i).toNat = b.toNat * 2 ^ 24 + (off.toNat + i) % 2 ^ 24

/-- R161, R162: a load leaves the engine STALLED with its destination unwritten. R5, R161, R162: the data of a load from DRAM with no store
of the engine posted: the bytes in little-endian order, extended as the load selects, written into RD; the engine runs on behind the
load. Only the engine changes. -/
def Obligations.LoadsStallAndReturn : Prop :=
  (∀ (e : Eng) (rd ra : Reg) (b : BankReg) (v : BitVec 18) (s : State), s.engFree e = true →
    let x := (s.eng e).begun
    let a := devAddr (x.bank b) (x.reg ra + v.signExtend 24)
    let out := fun (n : Nat) (sext : Bool) => (Host.Outcome.next (s.setEng e { x with
      run := .stallLoad { rd := rd, addr := a, size := n, sext := sext } }) : Out)
    exec (.ldB e rd b ra v) s = out 1 false ∧ exec (.ldBS e rd b ra v) s = out 1 true ∧ exec (.ldH e rd b ra v) s = out 2 false ∧
    exec (.ldHS e rd b ra v) s = out 2 true ∧ exec (.ldT e rd b ra v) s = out 3 false) ∧
  (∀ (e : Eng) (r : LoadReq) (s : State),
    let x := s.eng e
    let at_ := fun (i : Nat) => s.byteAt (byteAddr r.addr i).toNat
    x.run = .stallLoad r → x.e1 = none → x.rpti = none → x.posted = [] → x.replay.look none x.level = none →
    r.space = none → r.step = none → r.len = 2 → r.size ≤ 3 → (∀ i, i < 3 → (byteAddr r.addr i).toNat < 0x370000000) →
      ∃ t, exec (.loadDataReturn e 0) s = .next t ∧ OnlyEngine e s t ∧ (t.eng e).run = .running ∧ (t.eng e).pc = x.pc + 2 ∧
        (∀ k, k ≠ r.rd → (t.eng e).reg k = x.reg k) ∧
        (r.rd ≠ 0 → r.size = 1 → (t.eng e).reg r.rd = if r.sext then (at_ 0).signExtend 24 else (at_ 0).setWidth 24) ∧
        (r.rd ≠ 0 → r.size = 2 → (t.eng e).reg r.rd = if r.sext then (at_ 1 ++ at_ 0).signExtend 24 else (at_ 1 ++ at_ 0).setWidth 24) ∧
        (r.rd ≠ 0 → r.size = 3 → (t.eng e).reg r.rd = at_ 2 ++ at_ 1 ++ at_ 0))

/-- R162: a store is posted while the buffer has a free entry, and the engine goes on; with eight entries it is STALLED. No memory changes.
R5, R11, R161, R162, R175: the oldest posted store to DRAM is made: its bytes in little-endian order, every other byte of memory
unchanged. A tile asked to be banked while it runs waits for that store. -/
def Obligations.StoresPostAndReachMemory : Prop :=
  (∀ (e : Eng) (rs ra : Reg) (b : BankReg) (v : BitVec 18) (s : State), s.engFree e = true →
    let x := (s.eng e).begun
    let p := fun (n : Nat) => { addr := devAddr (x.bank b) (x.reg ra + v.signExtend 24), size := n, data := x.reg rs : Posted }
    let out := fun (n : Nat) => (Host.Outcome.next (s.setEng e
      (if x.posted.length < 8 then { x with posted := x.posted ++ [p n], pc := x.pc + 2 } else { x with run := .stallStore (p n) [] })) : Out)
    exec (.stB e rs b ra v) s = out 1 ∧ exec (.stH e rs b ra v) s = out 2 ∧ exec (.stT e rs b ra v) s = out 3) ∧
  (∀ (e : Eng) (p : Posted) (rest : List Posted) (s : State),
    let x := s.eng e
    let g := s.tile (e.val / 8)
    x.run = .running → x.posted = p :: rest → p.size ≤ 3 → (∀ i, i < p.size → (byteAddr p.addr i).toNat < 0x370000000) →
    g.pwrReq ≠ 1 ∨ g.power ≠ .run →
      ∃ t, exec (.storeBufferDrain e) s = .next t ∧ t.eng e = { x with posted := rest } ∧
        t = { s with engines := t.engines, mem := t.mem } ∧
        (∀ i, i < p.size → t.byteAt (byteAddr p.addr i).toNat = p.data.extractLsb' (8 * i) 8) ∧
        (∀ a, (∀ i, i < p.size → a ≠ (byteAddr p.addr i).toNat) → t.byteAt a = s.byteAt a))

/-- R185, R200, R204, R205: a customer opcode whose sequence is one ADD of RA and IMM18 and a COMMIT to RD writes that sum, and has no
effect where an interrupt is taken at a boundary before its COMMIT; with no loaded entry it is an engine fault of case 5, counted in
DECODE_ILLEGAL (R210, R374). -/
def Obligations.CustomerOpcodes : Prop :=
  ∀ (e : Eng) (n rd ra : Reg) (x : BitVec 2) (v : BitVec 18) (s : State), s.engFree e = true →
    let y := (s.eng e).begun
    let w := s.tile (e.val / 8)
    let d := w.entries.look {} n
    (d.valid = true → d.xBank = true → d.lenM1 = 1 →
      w.micro.look 0 d.start.toNat = 0x5241#72 → w.micro.look 0 (d.start.toNat + 1) = 0x1000000000003F#72 →
      exec (.customerOpcode e n rd ra x v ⟨none, none⟩ none) s = .next (s.setEng e ((y.setReg rd (y.reg ra + v.signExtend 24)).past 2)) ∧
      (∀ k, k < 2 → exec (.customerOpcode e n rd ra x v ⟨some k, none⟩ none) s = .next (s.setEng e y))) ∧
    (d.valid = false →
      exec (.customerOpcode e n rd ra x v ⟨none, none⟩ none) s =
        .next ((({ s with sec := { s.sec with decodeIllegal := satAdd s.sec.decodeIllegal 1 } }.setEng e { y with
          run := .halted false, faulted := true, faultCase := 5, faultPc := y.pc, rpti := none }).raise 240).fault (e.val / 8) .none 0 false))

/-- R197, R374: an illegal encoding has no effect but the engine fault, with its case: 1 an unassigned opcode, 2 a reserved field not zero. -/
def Obligations.IllegalEncodings : Prop :=
  ∀ (e : Eng) (p q : W18) (s : State), s.engFree e = true →
    let x := s.eng e
    let stop := fun (k : BitVec 3) => (Host.Outcome.next (((s.setEng e { x with
      run := .halted false, faulted := true, faultCase := k, faultPc := x.pc, rpti := none }).raise 240).fault (e.val / 8) .none 0 false) : Out)
    let op := p.extractLsb' 12 6
    let lop := p.extractLsb' 10 6
    (op = 0x03 ∨ op = 0x0F ∨ (0x15 ≤ op ∧ op ≤ 0x17) ∨ op = 0x1E ∨ op = 0x1F ∨ (0x2D ≤ op ∧ op ≤ 0x2F) →
      exec (.reservedOpcode e p q) s = stop 1) ∧
    (op = 0 → p.extractLsb' 8 4 = 0xE ∨ p.extractLsb' 8 4 = 0xF → exec (.reservedOpcode e p q) s = stop 1) ∧
    (p.extractLsb' 16 2 = 3 → 0x1F ≤ lop → lop ≤ 0x2F → exec (.reservedOpcode e p q) s = stop 1) ∧
    (0x20 ≤ op → op ≤ 0x23 → p.extractLsb' 8 4 ≠ 0 → exec (.reservedOpcode e p q) s = stop 2) ∧
    (op = 0x09 ∨ op = 0x0A ∨ op = 0x01 ∨ op = 0x02 → p.extractLsb' 0 4 ≠ 0 → exec (.reservedOpcode e p q) s = stop 2) ∧
    (p.extractLsb' 16 2 = 3 → lop ≤ 0x0E ∨ lop = 0x10 ∨ lop = 0x11 → p.extractLsb' 0 2 ≠ 0 → exec (.reservedOpcode e p q) s = stop 2)

/-- R178 to R184: every engine instruction decodes from its encoding to itself, with every operand at every value. -/
def Obligations.ParcelsDecodeTheirEncoding : Prop :=
  ∀ o : EOp, decodeParcels (encodeOp o).1 (encodeOp o).2 = .op o

/-- R211, R213, R221: an arrival at a source, by its block or by a write of RAISE below 96, counts once in ARRIVALS: as COUNT and PENDING,
or as coalesced, or at COUNT 255 as dropped, raising source 247; a RAISE of 96 to 255 is an address fault, and a number that is never
raised does not arrive. -/
def Obligations.SourceArrivals : Prop :=
  ∀ (m : Master) (n : Src) (s : State), s.watcher.asleep = false →
    let r := s.vu.row n
    (n.val < 96 → exec (.raise m n) s = exec (.sourceArrival n) s) ∧
    (96 ≤ n.val → exec (.raise m n) s = .next (s.addrFault m)) ∧
    (n.val = 191 ∨ (149 ≤ n.val ∧ n.val ≤ 159) → exec (.sourceArrival n) s = .next s) ∧
    (neverRaised n = false → ∃ t, exec (.sourceArrival n) s = .next t ∧ (t.vu.row n).arrivals = r.arrivals + 1 ∧ (t.vu.row n).delivered = r.delivered ∧
      t = { s with vu := t.vu, engines := t.engines } ∧
      (∀ k, k ≠ n.val → k ≠ 247 → t.vu.row k = s.vu.row k) ∧
      (r.count ≠ 255 → t.vu.row 247 = if n.val = 247 then t.vu.row n else s.vu.row 247) ∧
      (r.count = 255 → t.vu.row n = { r with arrivals := r.arrivals + 1, dropped := r.dropped + 1 } ∧
        (n.val ≠ 247 → (t.vu.row 247).arrivals = (s.vu.row 247).arrivals + 1)) ∧
      (r.count ≠ 255 → r.pending = true → t.vu.row n =
        { r with arrivals := r.arrivals + 1, coalesced := r.coalesced + 1, count := r.count + 1 }) ∧
      (r.count ≠ 255 → r.pending = false → t.vu.row n =
        { r with arrivals := r.arrivals + 1, pending := true, count := r.count + 1 }))

/-- R211, R212, R217, R221: a read of a source's count clears COUNT alone; SNAP_SEL copies the counters and PENDING of one source for
masters 0 to 7 and the open debug port; the end of moderation clears HELD_MOD alone. -/
def Obligations.VectorUnitReads : Prop :=
  ∀ (m : Master) (n : Src) (t : Target) (s : State),
    let r := s.vu.row n
    exec (.srcCountRead m n) s = .next { s with vu := { s.vu with src := s.vu.src.put n { r with count := 0 } } } ∧
    (s.fw m = true → exec (.snapSel m n) s = .next { s with vu := { s.vu with
      snapArrivals := r.arrivals, snapDelivered := r.delivered, snapCoalesced := r.coalesced, snapDropped := r.dropped
      snapPending := r.pending, snapSrc := BitVec.ofNat 8 n } }) ∧
    (s.fw m = false → exec (.snapSel m n) s = .next (s.addrFault m)) ∧
    exec (.moderationExpiry t) s =
      .next { s with vu := { s.vu with tgt := s.vu.tgt.put t { s.vu.target t with heldMod := false } } }

/-- R215, R217, R219: a delivery to a target whose winner is source n clears PENDING, counts DELIVERED, sets LAST_TARGET and LAST_SRC and
starts moderation where HOLDOFF is not 0; an engine RUNNING selects the source with the vector VBASE + 4n, a host vector makes one
write. -/
def Obligations.Deliveries : Prop :=
  ∀ (t : Target) (n : Nat) (r : SrcRow) (s : State), s.winner t none = some (n, r) →
    let g := s.vu.target t
    let q := s.vu.row n
    (t.val < 96 → (s.eng t).run = .running →
      ∃ u, exec (.delivery t) s = .next u ∧ (u.eng t).e1 = some (Fin.ofNat 256 n, r.level, ((s.eng t).vbase ++ (0 : BitVec 10)) + BitVec.ofNat 18 (4 * n)) ∧
        (u.eng t).pc = (s.eng t).pc ∧ (u.eng t).run = .running ∧
        u.vu.row n = { q with pending := false, delivered := q.delivered + 1, lastTarget := BitVec.ofNat 8 t } ∧
        u.vu.target t = { g with lastSrc := BitVec.ofNat 8 n, heldMod := g.heldMod || decide (g.holdoff ≠ 0) } ∧
        u = { s with vu := u.vu, engines := u.engines } ∧ ∀ k, k ≠ t.val → u.eng k = s.eng k) ∧
    (96 ≤ t.val →
      ∃ u, exec (.delivery t) s = .next u ∧
        u.rings.msixWrites = s.rings.msixWrites ++ [(t.val - 96, s.rings.msix.look 0 (4 * (t.val - 96) + 1) ++ s.rings.msix.look 0 (4 * (t.val - 96)), s.rings.msix.look 0 (4 * (t.val - 96) + 2))] ∧
        u.vu.row n = { q with pending := false, delivered := q.delivered + 1, lastTarget := BitVec.ofNat 8 t } ∧
        u.vu.target t = { g with lastSrc := BitVec.ofNat 8 n, heldMod := g.heldMod || decide (g.holdoff ≠ 0) } ∧ u.engines = s.engines)

/-- R212: ARRIVALS = DELIVERED + COALESCED + DROPPED + PENDING, modulo 2^32, for every source: kept by every command of the vector unit
from every state whose source table is well-formed. -/
def Obligations.VectorUnitAccounts : Prop :=
  ∀ (c : Instr) (s t : State), s.vuBalanced →
    (match c with
      | .sourceArrival _ | .srcCountRead _ _ | .snapSel _ _ | .raise _ _ | .delivery _ | .moderationExpiry _ => True
      | _ => False) →
    exec c s = .next t → t.vuBalanced

/-- R225, R228, R231: k publications on a channel within one window. A channel that may not fire counts them GATED, one that blocks
BLOCKED, raising source 224 for each; otherwise FIRED counts them, the channel blocks, and every task input that hears it takes k
arrivals. R196, R226, R239: SENDE, SENDEI and a write of PUBLISH make one publication on their channel; a value above 511 publishes
nothing and is an address fault of the engine's tile. In PARK and DEEP an engine's publication has no effect on the router (R237, log
entry 98). PC moves behind SENDE and SENDEI. -/
def Obligations.BlockAndEnginePublications : Prop :=
  (∀ (c : Chan) (k : Nat) (s : State), 0 < k →
    let x := s.router.chanAt c
    (s.router.mayFire c = false → exec (.publication c k) s = .next { s with router := { s.router with
      chan := s.router.chan.put c { x with gated := x.gated + BitVec.ofNat 32 k } } }) ∧
    (s.router.mayFire c = true → x.blocking = true → exec (.publication c k) s = .next (({ s with router := { s.router with
      chan := s.router.chan.put c { x with blocked := x.blocked + BitVec.ofNat 32 k } } }).raiseN 224 k)) ∧
    (s.router.mayFire c = true → x.blocking = false → ∃ t, exec (.publication c k) s = .next t ∧
      t.router.chanAt c = { x with fired := x.fired + BitVec.ofNat 32 k, blocking := true, waves := x.waves + 1 } ∧
      (∀ i, (s.router.taskAt i).hears c = false → t.router.taskAt i = s.router.taskAt i) ∧
      (∀ i, (s.router.taskAt i).hears c = true → i < 1536 → t.router.taskAt i = (s.router.taskAt i).arriveN k) ∧
      (∀ i, (t.router.taskAt i).arrivals =
        (s.router.taskAt i).arrivals + if (s.router.taskAt i).hears c then BitVec.ofNat 32 k else 0) ∧
      t.mem = s.mem ∧ t.mbox = s.mbox ∧ t.mortar = s.mortar)) ∧
  (∀ (e : Eng) (n : Chan) (ra : Reg) (v : W24) (s : State),
    let a := s.begins e
    let one := fun (c : Nat) (u t : State) =>
      if s.power.phase = .park ∨ s.power.phase = .deep then t = u else exec (.publication (Fin.ofNat 512 c) 1) u = .next t
    (v.toNat < 512 → ∃ t, exec (.publish e v) s = .next t ∧ one v.toNat s t) ∧
    (512 ≤ v.toNat → exec (.publish e v) s = .next (s.addrFault e)) ∧
    (s.engFree e = true → ∃ t, one n a t ∧ exec (.sendei e n) s = .next (t.modEng e (·.past 2))) ∧
    (s.engFree e = true → ((s.eng e).reg ra).toNat < 512 →
      ∃ t, one ((s.eng e).reg ra).toNat a t ∧ exec (.sende e ra) s = .next (t.modEng e (·.past 1))) ∧
    (s.engFree e = true → 512 ≤ ((s.eng e).reg ra).toNat → exec (.sende e ra) s = .next ((a.addrFault e).modEng e (·.past 1))))

/-- R229, R230, R231, R232, R235: a take returns the count of a task input and clears it, counting DELIVERED, and a take that finds 0
counts nothing; the end of a block and of a rate window; the take of a course port on which no context waits. -/
def Obligations.RouterTakesAndWindows : Prop :=
  ∀ (i : TaskInput) (c : Chan) (m : Master) (s : State),
    let r := s.router.taskAt i
    let x := s.router.chanAt c
    let p := s.router.port.look {} c
    let took := { r with arr := 0, delivered := r.delivered + 1 }
    (r.arr ≠ 0 → exec (.arrTake i) s = .next { s with router := { s.router with task := s.router.task.put i took } } ∧
      exec (.blockTaskStart i) s = .next { s with router := { s.router with task := s.router.task.put i took } }) ∧
    (r.arr = 0 → ∃ t, exec (.arrTake i) s = .next t ∧ ∀ k, t.router.taskAt k = s.router.taskAt k) ∧
    exec (.rearmBlockEnd c) s = .next { s with router := { s.router with chan := s.router.chan.put c { x with blocking := false } } } ∧
    (∃ t, exec .rateWindowEnd s = .next t ∧ (t.router.chanAt c).waves = 0 ∧ (t.router.chanAt c).fired = x.fired ∧
      (t.router.chanAt c).rateHit = (x.rateHit || (decide (x.rateMax ≠ 0) && decide (x.rateMax.toNat < x.waves)))) ∧
    (s.fw m = true → exec (.routerSnapSel m i) s = .next { s with router := { s.router with
      snapArrivals := r.arrivals, snapDelivered := r.delivered, snapCoalesced := r.coalesced, snapDropped := r.dropped
      snapPending := decide (r.arr ≠ 0), snapInput := BitVec.ofNat 11 i } }) ∧
    (p.arr ≠ 0 → (∀ e ∈ s.courses.held, e.2.channel.map (·.toNat) ≠ some c.val) → ∃ t, exec (.coursePortTake c) s = .next t ∧
      t.router.port.look {} c = { p with arr := 0, delivered := p.delivered + 1 })

/-- R230: per task input ARRIVALS = DELIVERED + COALESCED + DROPPED + PENDING, modulo 2^32: kept by every publication and every take. -/
def Obligations.RouterAccounts : Prop :=
  ∀ (c : Instr) (s t : State), s.routerBalanced →
    (match c with
      | .publication _ _ | .publish _ _ | .arrTake _ | .blockTaskStart _ | .rearmBlockEnd _ | .rateWindowEnd | .routerSnapSel _ _ => True
      | _ => False) →
    exec c s = .next t → t.routerBalanced

/-- R241, R242, R244, R245, R339: a SEND by a master that takes part (the debug port while it is open) and may send. An empty slot takes
the staged words 1 to 15 and word 0 stamped with the sender and the tag, and SENT counts; with a full slot REFUSED counts, source 230
is raised and the message stays. A refused master is a violation, a master that takes no part an address fault. R246: an ACK of a full
slot by a master that takes part and may acknowledge empties it, keeps the value and counts in ACKS; one of an empty slot counts in
STRAY alone; a refused master is a violation. -/
def Obligations.MailboxSendsAndAcks : Prop :=
  (∀ (m : Master) (c : Mbox) (v : W32) (s : State),
    let x := s.mbox.row c
    (m.val = 99 → s.debugOpen = false → exec (.send m c v) s = .next (s.addrFault m)) ∧ (m.val < 99 ∨ m.val = 99 ∧ s.debugOpen = true →
    (s.mbox.maySend m c = true → x.full = false → ∃ t, exec (.send m c v) s = .next t ∧
      (t.mbox.row c).full = true ∧ (t.mbox.row c).sent = x.sent + 1 ∧ (t.mbox.row c).lastResult = 1 ∧ (t.mbox.row c).acked = false ∧
      (t.mbox.row c).slot.look 0 0 = (v.extractLsb' 8 16 ++ (0 : BitVec 1) ++ BitVec.ofNat 7 m) ∧
      (∀ i, 1 ≤ i → i < 16 → (t.mbox.row c).slot.look 0 i = x.stage.look 0 i) ∧
      (t.mbox.row c).refused = x.refused ∧ (t.mbox.row c).acks = x.acks ∧
      (∀ k, k ≠ c.val → t.mbox.row k = s.mbox.row k) ∧ t.mbox.violations = s.mbox.violations ∧ t.mem = s.mem) ∧
    (s.mbox.maySend m c = true → x.full = true → exec (.send m c v) s = .next ({ s with mbox := { s.mbox with
      ch := s.mbox.ch.put c { x with refused := x.refused + 1, lastResult := 2 } } }.raise 230)) ∧
    (s.mbox.maySend m c = false →
      exec (.send m c v) s = .next ({ s with mbox := { s.mbox with violations := s.mbox.violations + 1 } }.raise 229)))) ∧
  (∀ (m : Master) (c : Mbox) (v : W32) (s : State),
    let x := s.mbox.row c
    (m.val = 99 → s.debugOpen = false → exec (.ack m c v) s = .next (s.addrFault m)) ∧ (m.val < 99 ∨ m.val = 99 ∧ s.debugOpen = true →
    (s.mbox.mayAck m c = true → x.full = true → ∃ t, exec (.ack m c v) s = .next t ∧
      t.mbox.row c = { x with ackVal := v.extractLsb' 0 24, full := false, acked := true, acks := x.acks + 1 } ∧
      (∀ k, k ≠ c.val → t.mbox.row k = s.mbox.row k) ∧ t.mem = s.mem ∧ t.router = s.router) ∧
    (s.mbox.mayAck m c = true → x.full = false → exec (.ack m c v) s =
      .next { s with mbox := { s.mbox with ch := s.mbox.ch.put c { x with stray := x.stray + 1 } } }) ∧
    (s.mbox.mayAck m c = false →
      exec (.ack m c v) s = .next ({ s with mbox := { s.mbox with violations := s.mbox.violations + 1 } }.raise 229))))

/-- R243, R250: LOCKED is set by masters 0 to 7 and 98 alone. A crossing that holds past a CROSS_LIMIT other than 0 and has not been raised
counts once in CROSSINGS, names its channels and raises source 228. -/
def Obligations.MailboxLockAndCrossings : Prop :=
  ∀ (m : Master) (a b : Mbox) (s : State),
    (m.val < 8 ∨ m = 98 → exec (.mailboxLock m) s = .next { s with mbox := { s.mbox with locked := true } }) ∧
    (8 ≤ m.val → m ≠ 98 → exec (.mailboxLock m) s = .next (s.addrFault m)) ∧
    (s.crossing a b = true → s.mbox.crossLimit ≠ 0 → (∀ e, (s.eng e).crossed = []) →
      ∃ t, exec (.crossingDetected a b) s = .next t ∧ t.mbox.crossings = s.mbox.crossings + 1 ∧
        t.mbox.crossA = BitVec.ofNat 10 (min a b) ∧ t.mbox.crossB = BitVec.ofNat 10 (max a b) ∧ t.mbox.ch = s.mbox.ch ∧
        exec (.crossingDetected a b) t = .next t) ∧
    (s.crossing a b = false → exec (.crossingDetected a b) s = .next s)

/-- R249: SENT = ACKS + FULL, modulo 2^32, on every channel: kept by every SEND, ACK and lock; and every SEND write of a master that takes
part is counted once, in SENT, REFUSED or VIOLATIONS. -/
def Obligations.MailboxAccounts : Prop :=
  ∀ (m : Master) (c : Mbox) (v : W32) (s : State), s.mailBalanced → m.val < 99 ∨ m.val = 99 ∧ s.debugOpen = true →
    (∃ t, exec (.send m c v) s = .next t ∧ t.mailBalanced ∧
      (t.mbox.row c).sent + (t.mbox.row c).refused + t.mbox.violations =
        (s.mbox.row c).sent + (s.mbox.row c).refused + s.mbox.violations + 1) ∧
    (∃ t, exec (.ack m c v) s = .next t ∧ t.mailBalanced) ∧ (∃ t, exec (.mailboxLock m) s = .next t ∧ t.mailBalanced)

/-- R257 to R259, R266, R430: a submission whose 32-byte aligned descriptor passes every check enters its queue while the queue has room
(an engine's on its tile's input, SUBMIT12's on input 12); on a full queue it is refused, counted, and raises source 207; an address
outside general DRAM is an address fault. -/
def Obligations.MortarSubmissions : Prop :=
  ∀ (e : Eng) (m : Master) (v : W32) (s : State),
    let a := (v.extractLsb' 0 11 ++ (s.eng e).submitLo : BitVec 35).toNat
    let t := e.val / 8
    let d := readJobDesc (s.devBytes a 32)
    let j : Job := { kind := .soft d.op d.key d.len d.src d.dst d.sig, tag := d.tag, engine := some e, since := s.tnow }
    let q := s.mortar.row t
    (a % 32 = 0 → a + 31 < 0x370000000 → q.jobs.length < 8 → s.jobStatus d (decide (e.val < 8)) = 0 →
      exec (.submitHi e v) s =
        .next (s.mortarTurn { s.mortar with input := s.mortar.input.put t { q with jobs := q.jobs ++ [j] } })) ∧
    (a % 32 = 0 → a + 31 < 0x370000000 → 8 ≤ q.jobs.length → exec (.submitHi e v) s =
      .next ({ s with mortar := { s.mortar with input := s.mortar.input.put t { q with subRefused := q.subRefused + 1 } } }.raise 207)) ∧
    (a % 32 ≠ 0 ∨ 0x370000000 ≤ a + 31 → exec (.submitHi e v) s = .next (s.addrFault e)) ∧
    (s.fw m = false → exec (.submit12Lo m v) s = .next (s.addrFault m)) ∧
    (m.val < 8 →
      let b := ((s.eng m).submit12Hi ++ v : BitVec 35).toNat
      let d2 := readJobDesc (s.devBytes b 32)
      let p := s.mortar.row 12
      b % 32 = 0 → b + 31 < 0x370000000 → p.jobs.length < 8 → s.jobStatus d2 false = 0 →
        exec (.submit12Lo m v) s = .next (s.mortarTurn { s.mortar with input := s.mortar.input.put 12 { p with jobs := p.jobs ++ [
          { kind := .soft d2.op d2.key d2.len d2.src d2.dst d2.sig, tag := d2.tag, engine := some (Fin.ofNat 96 m), since := s.tnow }] } }))

/-- R259, R261, R264: a hash job that holds a unit and was submitted by no engine and no host entry completes: its digest stands at DST,
most significant byte first, behind it the completion word, and COMPLETED of its input counts; an input's oldest waiting job past
STARVE_LIMIT is marked, and the arbiter takes its turn. -/
def Obligations.MortarCompletionsAndStarvation : Prop :=
  ∀ (u : Fin 10) (i : Fin 15) (j : Job) (rest : List Job) (s : State),
    (∀ (n : Nat) (h : Job) (len : Nat) (src dst : DevAddr), s.mortar.holder u = some (n, h) → h.kind = .soft 1 0 len src dst 0 →
      h.engine = none → h.host = none → (∀ l, (s.lane l).sealHeld = false ∧ (s.lane l).signHeld = false) → dst.toNat + 0x68 ≤ 0x370000000 →
        ∃ t, exec (.mortarJobComplete u) s = .next t ∧
          t.bytesAt dst.toNat 48 = toBE 48 (Config.sha384 (s.devBytes src.toNat len)).toNat ∧
          t.bytesAt (dst.toNat + 0x60) 8 = toLE 8 (h.tag.toNat * 2 ^ 16 + n * 2 ^ 32) ∧
          ∀ a, a < dst.toNat ∨ dst.toNat + 0x68 ≤ a → t.byteAt a = s.byteAt a) ∧
    ((s.mortar.row i).jobs = j :: rest → j.unit = none → (∀ k ∈ rest, k.unit = none → k.age s.tnow ≤ j.age s.tnow) →
      exec (.starvationDetected i) s =
      .next (s.mortarTurn { s.mortar with
        input := s.mortar.input.put i { s.mortar.row i with jobs := { j with starved := true } :: rest } }))

/-- R267, R268, R270, R271, R274: a slot that starts goes to its owner where a request of the owner's class waits, else after a declaration
to class 6, else to the class that has waited longest, and moves up to 4,096 bytes of it; from a declaration to LC_DONE an access for
the last course is of class 6; a copy with no class-6 entry is never selected; the pending copy becomes active at the frame boundary. -/
def Obligations.SlotTables : Prop :=
  ∀ (now : Nat) (new : List DramRequest) (m : Master) (v : W32) (s : State),
    let k := s.slots.cur + 1
    let owner := s.slots.owner s.slots.active k.toNat
    let q := s.slots.queue ++ new.map s.dramWait
    (∃ t, exec (.slotStart ⟨now, new⟩) s = .next t ∧ t.slots.cur = k ∧
      ((∃ r ∈ q, r.cls.val = owner.toNat) → t.slots.served = some (owner, true)) ∧
      ((¬ ∃ r ∈ q, r.cls.val = owner.toNat) → s.holdup.declared = true → (∃ r ∈ q, r.cls = 6) → t.slots.served = some (6, false)) ∧
      (∀ r, q = [r] → r.cls.val ≠ owner.toNat → t.slots.served = some (BitVec.ofNat 3 r.cls, false)) ∧
      (∀ r, q = [r] → r.bytes ≤ 4096 → t.slots.queue = []) ∧
      (∀ r, q = [r] → 4096 < r.bytes → t.slots.queue = [{ r with bytes := r.bytes - 4096 }]) ∧
      (q = [] → t.slots.served = none) ∧ t = { s with slots := t.slots }) ∧
    (∀ r : DramRequest, r.lastCourse = true → s.holdup.declared = true → s.holdup.lcOver = false → s.dramClass r = 6) ∧
    (s.fw m = true → s.slots.hasSix (v.getLsbD 0) = true → exec (.slotSel m v) s =
      .next { s with slots := { s.slots with sel := v.getLsbD 0, swapPending := true } }) ∧
    (s.fw m = true → s.slots.hasSix (v.getLsbD 0) = false → exec (.slotSel m v) s = .next (s.addrFault m)) ∧
    (s.fw m = false → exec (.slotSel m v) s = .next (s.addrFault m)) ∧
    exec .frameBoundary s = .next { s with slots := { s.slots with
      active := if s.slots.swapPending then s.slots.sel else s.slots.active, swapPending := false, frames := s.slots.frames + 1 } }

/-- R279, R280, R285: an accepted enable of a pair sets EN and zeroes its ring positions, a refused one sets CFG_ERR alone; a disable
clears EN and completes with 0203h what was taken and not handed over. A valid SQ doorbell covers the entries up to its index, a valid
CQ doorbell moves the completion head to its index; any other is counted in DB_ERR and changes nothing else. -/
def Obligations.HostQueues : Prop :=
  ∀ (m : Master) (q : QueueId) (h : HostRead) (v : W32) (s : State), m.val < 8 ∨ m = 96 →
    let p := s.pair q
    let n := p.size.toNat
    let i := v.toNat % 65536
    (p.en = false → p.enableOk = true → p.recover = false → exec (.queueEnable m q h) s = .next (s.setPair q { p with
      en := true, cfgErr := false, takenPos := 0, covered := 0, posted := 0, cqHead := 0, credit := 0, entries := []
      serviceTile := some (BitVec.ofNat 4 (s.cfg (0x6400 + q) 1)) })) ∧
    (p.en = false → p.enableOk = false → exec (.queueEnable m q h) s = .next (s.setPair q { p with cfgErr := true })) ∧
    (p.en = true → ∃ t, exec (.queueDisable m q) s = .next t ∧ (t.pair q).en = false ∧
      (t.pair q).entries = p.entries.map (fun e =>
        if e.handed || e.done.isSome then e else { e with started := true, done := some { status := 0x0203 } }) ∧
      t.mem = s.mem ∧ t.hostMem = s.hostMem ∧ ∀ k, k ≠ q.val → t.pair k = s.pair k) ∧
    (p.en = true → p.enableOk = true → i < n →
      (p.slot p.takenPos + n - p.slot p.posted) % n ≤ (i + n - p.slot p.posted) % n →
      ∃ c, exec (.sqDoorbell m q v) s = .next (s.setPair q { p with covered := c }) ∧ p.slot c = i ∧ (c - p.takenPos).toNat < n) ∧
    (p.en = true → p.enableOk = true → i < n → (i + n - p.slot p.cqHead) % n ≤ (p.posted - p.cqHead).toNat →
      ∃ c, exec (.cqDoorbell m q v) s = .next (s.setPair q { p with cqHead := c }) ∧ p.slot c = i ∧ (c - p.cqHead).toNat < n) ∧
    (p.en = false ∨ n ≤ i →
      exec (.sqDoorbell m q v) s = .next (s.setPair q { p with dbErr := p.dbErr + 1 }) ∧
      exec (.cqDoorbell m q v) s = .next (s.setPair q { p with dbErr := p.dbErr + 1 }))

/-- R55, R287, R289, R290, R291, R293: the pair whose turn it is, the highest below the cursor with covered entries, credit and room, gives
a turn of entries, and the shadow record in host memory holds the new TAKEN_POS; the first entry's ready completion goes to its slot of
the completion ring and raises the pair's source, that of a WRITE not while a journal line of its lane still waits. Both keep the
pair's account and every byte of device memory. -/
def Obligations.EntriesTakenAndPosted : Prop :=
  ∀ (q : QueueId) (h : HostRead) (e : TakenEntry) (rest : List TakenEntry) (d : RingDone) (s : State),
    s.iface.linkDown.getLsbD 4 = false →
    let p := s.pair q
    let n := p.turn
    (Tab.Rising s.rings.pair → q.val < s.rings.cursor → 0 < n → (∀ k, q.val < k → k < s.rings.cursor → (s.pair k).turn = 0) →
      ∃ t, exec (.entryTake h) s = .next t ∧
        t.pair q = { p with takenPos := p.takenPos + BitVec.ofNat 32 n, credit := p.credit - n
                            entries := p.entries ++ (List.range n).map (s.takenEntry h p) } ∧
        t.hostMem = hostStore s.hostMem p.shadow.toNat (shadowBytes (p.takenPos + BitVec.ofNat 32 n) p.epoch) ∧
        t.rings.entriesTaken = s.rings.entriesTaken + BitVec.ofNat 64 n ∧ t.rings.cursor = q.val ∧ t.mem = s.mem ∧
        (∀ k, k ≠ q.val → t.pair k = s.pair k) ∧ (p.balanced → p.entries ≠ [] → (t.pair q).balanced)) ∧
    (p.entries = e :: rest → e.done = some d → p.txn = false → eOp e.raw = 6 → (∃ x ∈ s.journal.line, x.1 = bits e.raw 80 8) →
      exec (.completionPosted q) s = .next s) ∧
    (p.entries = e :: rest → e.done = some d → (p.txn = false → eOp e.raw = 6 → ∀ x ∈ s.journal.line, x.1 ≠ bits e.raw 80 8) →
      ∃ t, exec (.completionPosted q) s = .next t ∧ (t.pair q).entries = rest ∧ (t.pair q).posted = e.pos + 1 ∧
        t.hostMem = hostStore s.hostMem ((p.cqBase.toNat + 32 * p.slot e.pos) % 2 ^ 64) (completionBytes p q e.pos (bits e.raw 16 16) d) ∧
        t.mem = s.mem ∧ (∀ k, k ≠ q.val → t.pair k = s.pair k) ∧
        (p.irqEn = false → t.vu = s.vu) ∧
        (p.irqEn = true → s.watcher.asleep = false →
          (t.vu.row (96 + p.irqGroup.toNat)).arrivals = (s.vu.row (96 + p.irqGroup.toNat)).arrivals + 1) ∧
        (p.balanced → (t.pair q).takenPos = (t.pair q).posted + BitVec.ofNat 32 rest.length))

/-- R53, R104, R282, R283: the native entries. NOP completes at once; START starts a course with the entry as its starter and is handed
over; SIGNAL makes a resume cause pending, or meets a razing claim; STOP asks a course at work to stop; HOLD sets or clears the hold of
a free object's context; WRITE offers its bytes in units of 64 KiB and completes with the bytes accepted, with 0901h where a rung 2 on
the lane's tile cut it; MORTAR submits its descriptor on input 13 and is handed over. -/
def Obligations.NativeEntries : Prop :=
  ∀ (q : QueueId) (h : HostRead) (e : TakenEntry) (rest : List TakenEntry) (s : State),
    let c := eCtx e.raw
    let r := s.ctxRec c
    let done := fun (t : State) (d : RingDone) => t.withFirst q { e with started := true, done := some d } rest
    let handed := { e with started := true, handed := true }
    (s.firstEntry q 1 e rest → exec (.nopEntry q) s = .next (done s { status := 0 })) ∧
    (s.firstEntry q 2 e rest → c ≠ 0 → r.gen = eGen e.raw → r.course = false → r.state = 1 ∨ r.state = 2 ∨ r.state = 3 →
      s.claimable c = true → bits (e.raw.extractLsb' 320 40) 0 5 = 0 → rangeOk true (e.raw.extractLsb' 320 40) 32 true = true →
      ∃ t, exec (.startEntry q) s = .next t ∧ (t.pair q).entries = handed :: rest ∧ (t.ctxRec c).course = true ∧
        (t.ctxRec c).suspended = false ∧ (t.ctxRec c).statusAddr = e.raw.extractLsb' 320 40 ∧ (t.ctxRec c).postSeq = 0 ∧
        (t.ctxRec c).hostBase = e.raw.extractLsb' 384 64 ∧ (t.ctxRec c).notifyEn = e.raw.getLsbD 96 ∧
        (t.course c).addr = e.raw.extractLsb' 256 40 ∧ (t.course c).word = none ∧ (t.course c).entry = some (e.ref q) ∧ t.mem = s.mem) ∧
    (s.firstEntry q 3 e rest → c ≠ 0 → r.gen = eGen e.raw → bits e.raw 160 4 = 2 → s.razes c = true →
      exec (.signalEntry q) s = .next (done s { status := 0x0501 })) ∧
    (s.firstEntry q 3 e rest → c ≠ 0 → r.gen = eGen e.raw → (bits e.raw 160 4 = 2 → s.razes c = false ∧ r.state ≠ 4) → r.course = true →
      r.suspended = false → ∃ t, exec (.signalEntry q) s = .next t ∧
        (t.ctxRec c).pending = r.pending ||| BitVec.ofNat 16 (2 ^ bits e.raw 160 4) ∧
        (t.pair q).entries = { e with started := true, done := some { status := 0 } } :: rest ∧ t.mem = s.mem ∧
        t.courses.held = s.courses.held) ∧
    (s.firstEntry q 4 e rest → c ≠ 0 → r.gen = eGen e.raw → r.course = true → r.suspended = false → (s.course c).wait = none →
      (s.course c).word.isSome = true →
      exec (.stopEntry q) s = .next (done (s.setCourse c { s.course c with stop := true }) { status := 0 })) ∧
    (s.firstEntry q 5 e rest → c ≠ 0 → r.gen = eGen e.raw → r.course = false → r.state = 2 ∨ r.state = 3 → s.claimable c = true →
      (∀ x ∈ s.courses.held, x.1 ≠ c → s.ctx.setOf x.1 ≠ s.ctx.setOf c) →
      ∃ t, exec (.holdEntry q) s = .next t ∧ (t.ctxRec c).hold = e.raw.getLsbD 160 ∧ (t.ctxRec c).claimed = false ∧
        (t.ctxRec c).state = r.state ∧ (t.pair q).entries = { e with started := true, done := some { status := 0 } } :: rest ∧
        t.mem = s.mem) ∧
    (s.firstEntry q 6 e rest →
      let l := bits e.raw 80 8
      let n := bits e.raw 128 32
      let o := (s.withFirst q handed rest).offerUnits l (unitsOfBytes (s.hostBytes h (bits e.raw 192 64) n) (n / 65536 + 1))
      let us := unitsOfBytes (s.hostBytes h (bits e.raw 192 64) n) (n / 65536 + 1)
      let x := fun k => (s.withFirst q handed rest).offerUnits l (us.take k)
      s.olderWrite l e.no = false → s.laneType l = 8 → s.holdup.declared = true ∨ s.tilePowered 8 = true → (s.lane l).active = true →
      (s.lane l).ingest = none → 0 < n → n ≤ (s.pair q).maxXfer.toNat →
      (o.2.2 = 0 → o.2.1 = n → exec (.writeEntry q ⟨h, none⟩) s =
        .next (((o.1.addRefused l 0).wake l).entryDone (e.ref q) { status := 0, detail := BitVec.ofNat 64 n })) ∧
      (∀ k, (x k).2.2 = 0 → (x k).2.1 < n → exec (.writeEntry q ⟨h, some k⟩) s =
        .next ((((x k).1.addRefused l (Nat.min 65536 (n - (x k).2.1))).wake l).entryDone (e.ref q)
          { status := 0x0901, detail := BitVec.ofNat 64 (x k).2.1 }))) ∧
    (s.firstEntry q 7 e rest →
      let a := bits e.raw 256 40
      let d := readJobDesc (s.devBytes a 32)
      let w := s.mortar.row 13
      w.jobs.length < 8 → a % 32 = 0 → a + 31 < 0x370000000 → s.jobStatus d false = 0 →
      exec (.mortarEntry q) s = .next ((s.withFirst q handed rest).mortarTurn { s.mortar with
        input := s.mortar.input.put 13 { w with jobs := w.jobs ++ [
          { kind := .soft d.op d.key d.len d.src d.dst d.sig, tag := d.tag, host := some (e.ref q), since := s.tnow }] } }))

/-- R417, R418, R420: the words of a transaction queue. NOP completes at once. Each other word that passes the checks of R103 starts its
raw operation on its unit, with its data from host memory or its room in host memory, and its entry is marked as started. -/
def Obligations.TransactionWords : Prop :=
  ∀ (q : QueueId) (h : HostRead) (e : TakenEntry) (s : State), e.done = none →
    let w := e.raw
    let n := bits w 64 32
    let u := bits w 32 4
    let sub := bits w 36 4
    let a : W64 := w.extractLsb' 96 64
    let arg : W64 := w.extractLsb' 160 64
    let p := s.pair q
    let room : List (BitVec 40 × Nat) := [(0x8000000000, n)]
    let mk := fun (op sel : Nat) (param : W64) (d : Bytes) (segs : List (BitVec 40 × Nat)) =>
      ({ owner := .entry q e.pos, op := op, sel := BitVec.ofNat 24 sel, param := param, count := n, base := a, segs := segs, data := d } : RawOp)
    let started := p.entries.map fun (x : TakenEntry) => if x.no = e.no then { x with started := true } else x
    let goes := fun (op : Nat) (x : Out) (r : RawOp) =>
      s.kxEntry q op = some e → s.holdup.declared = false → s.rawCheck r = 0 →
        ∃ t, x = .next t ∧ t.raws = s.raws ++ [r] ∧ t.pair q = { p with entries := started } ∧
          (op ≠ 0x20 → t.nvme = s.nvme) ∧ t.mem = s.mem ∧ t.hostMem = s.hostMem ∧ ∀ k, k ≠ q.val → t.pair k = s.pair k
    (s.kxEntry q 1 = some e → exec (.kx1200Nop q) s = .next (s.setPair q { p with entries := p.entries.map fun (x : TakenEntry) =>
      if x.no = e.no ∧ x.done = none then { x with started := true, done := some { status := 0 } } else x })) ∧
    goes 0x10 (exec (.ethTx q h) s) (mk 0x20 u (BitVec.ofNat 64 (sub % 2)) (s.hostBytes h a.toNat n) []) ∧
    goes 0x11 (exec (.ethRx q) s) (mk 0x20 (u + 16) (BitVec.ofNat 64 (sub % 2)) [] room) ∧
    (n = 0 ∨ devRangeOk (bits arg 0 35) n true = true →
      goes 0x20 (exec (.nvmCmd q h) s) (mk 0x21 (u + 4 * (sub % 2)) arg (s.hostBytes h a.toNat 64) [(arg.setWidth 40, n)])) ∧
    goes 0x30 (exec (.usbRead q) s) (mk 0x22 (u + 256 * (sub % 8)) arg [] room) ∧
    goes 0x31 (exec (.usbCapacity q) s) (mk 0x22 (u + 16 + 256 * (sub % 8)) 0 [] room) ∧
    goes 0x32 (exec (.usbInquiry q) s) (mk 0x22 (u + 32 + 256 * (sub % 8)) 0 [] room) ∧
    goes 0x40 (exec (.canTx q h) s) (mk 0x23 u 0 (s.hostBytes h a.toNat n) []) ∧
    goes 0x41 (exec (.canRx q) s) (mk 0x23 (u + 16) 0 [] room) ∧
    goes 0x50 (exec (.tdmTx q h) s) (mk 0x24 u 0 (s.hostBytes h a.toNat n) []) ∧
    goes 0x51 (exec (.tdmRx q) s) (mk 0x24 (u + 16) 0 [] room)

/-- R116, R117, R119, R122 to R124, R133: the requests to the context store. The highest of the claimants of one cycle gets a free context;
the holder's release frees it, a request with an old TILE_GEN or handle is refused and counted; an allocation takes the head of the
free list while more than FREE_RESERVE are free; a free advances GENERATION and puts the context at the list's tail; a copy that waits
for a LOC_EXT context tries again; a re-key draws a new key and a finished one switches. -/
def Obligations.ContextStoreRequests : Prop :=
  ∀ (x : Claimant) (c : CtxId) (qs : List Claimant) (k : Nat) (l : List (Nat × Nat)) (a : BindArea) (w : Nat × Nat × LocEntry) (s : State),
    let r := s.ctxRec c
    let m := x.master
    let fresh := s.claimStale c { x with handle := none } = false
    (qs ≠ [] → (∀ q ∈ qs, s.claimStale c q = false) → s.claimable c = true →
      ∃ t, exec (.contextClaim c qs) s = .next t ∧ ∃ top : Master, (∃ q ∈ qs, q.master = top) ∧ (∀ q ∈ qs, q.master.val ≤ top.val) ∧
        t.ctxRec c = { r with claimed := true, claimId := BitVec.ofNat 8 top } ∧
        t.reply = qs.map fun q => { dest := q.master, status := if q.master = top then 0 else 0x0501 }) ∧
    (s.claimStale c x = true → exec (.contextRelease x c) s = .next (s.staleRef.answer m 0x0505)) ∧
    (s.claimStale c x = false → r.claimed = true → r.claimId.toNat = m.val → r.suspended = false → s.setWaiters c = [] →
      (∀ e ∈ s.ctx.courseClaim, e.1 ≠ c.val) → ∃ t, exec (.contextRelease x c) s = .next t ∧ t.ctxRec c = { r with claimed := false, claimId := 0 } ∧
        t.reply = [{ dest := m }] ∧ t.mem = s.mem) ∧
    (fresh → s.fw m = true ∨ m = 96 → s.ctx.restoreDone = true → s.cfg 0x2100 2 < freeCount s.ctx.free → freeTake s.ctx.free = some (k, l) → k ≠ 0 →
      ∃ t, exec (.contextAllocate x) s = .next t ∧ t.ctx.free = l ∧ (t.ctxRec k).state = 1 ∧ (t.ctxRec k).gen = (s.ctxRec k).gen ∧
        (t.ctxRec k).imageSeq = s.ctx.imageSeq + 1 ∧ (t.ctxRec k).course = false ∧ (t.ctxRec k).claimed = false ∧
        t.reply = [{ dest := m, data := toLE 4 k ++ toLE 2 (s.ctxRec k).gen.toNat }]) ∧
    (fresh → s.fw m = true ∨ m = 96 → c ≠ 0 → r.course = false → r.claimed = false → r.state = 1 ∨ r.state = 4 → r.extContext = 0 →
      ∃ t, exec (.contextFree x c r.gen) s = .next t ∧ t.ctx.free = s.ctx.free ++ [(c.val, 1)] ∧ (t.ctxRec c).state = 0 ∧
        (t.ctxRec c).gen = r.gen + 1 ∧ t.reply = [{ dest := m }]) ∧
    (s.lanes = [] → s.ctx.locWait = [w] → w.2.1 = c.val → w.2.2.lba ≠ 0xFFFFFFFFFFFF →
      exec (.locExtTakeRetry c) s = .next (({ s with ctx := { s.ctx with locWait := [] } }).appendPlaced w.1 c w.2.2)) ∧
    (∃ t, exec .rekeyRequest s = .next t ∧ t.bind.active = s.bind.active ∧
      t.bind.build = some { key := (Config.drbg s.sec.drawn).extractLsb' 0 128 } ∧ t.sec.drawn = s.sec.drawn + 1 ∧
      (s.watcher.asleep = false → (t.vu.row 246).arrivals = (s.vu.row 246).arrivals + 1)) ∧
    (s.bind.build = some a → a.stash.length ≤ 48 → (∀ e ∈ s.bind.active.all, (a.inBuckets e.key).isSome = true) →
      ∃ t, exec .rekeySwitch s = .next t ∧ t.bind.active = a ∧ t.bind.build = none ∧ t.bind.rekeys = s.bind.rekeys + 1 ∧
        t.ctx = s.ctx ∧ t.mem = s.mem)

/-- R137 to R140, R142, R143, R146: a hod takes an aligned descriptor from a master that may submit; it latches a descriptor that passes
its checks and rejects one that fails; a completed copy stands at DST with its DONE writeback behind it and no other byte changed; DIS
drops what is queued, and the dropped descriptors' writebacks with 0604h are made before DROPPING clears. -/
def Obligations.HodCommands : Prop :=
  ∀ (m i : Master) (h : Hod) (a : DevAddr) (en : Bool) (rest : List HodEntry) (e : HodEntry) (d b : Nat) (s : State),
    let x := s.hod h
    let first : HodEntry := { addr := a.toNat, issuer := .submit i }
    let w := BitVec.ofNat 256 (leNat (s.devBytes a.toNat 32))
    let bond := x.bonds.look 0 (dBond w)
    (s.hodIssuer m h = true → x.queue.length < 32 → x.dis = false → a.toNat % 32 = 0 → a.toNat + 31 < 0x370000000 →
      exec (.hodSubmit m h a) s = .next (s.modHod h fun y => { y with queue := y.queue ++ [{ addr := a.toNat, issuer := .submit m }] })) ∧
    (s.hodIssuer m h = true → 32 ≤ x.queue.length ∨ x.dis = true → exec (.hodSubmit m h a) s =
      .next ((s.modHod h fun y => { y with subRefused := satAdd y.subRefused 1 }).raise 190)) ∧
    (s.hodIssuer m h = false → exec (.hodSubmit m h a) s = .next (s.addrFault m)) ∧
    (s.fw m = true → exec (.hodEnWrite m h en) s = .next (s.modHod h fun y => { y with en := en })) ∧
    (s.fw m = true → x.dis = false → x.work = none → (∀ q ∈ x.queue, q.block = none) →
      ∃ t, exec (.hodDisSet m h) s = .next t ∧ (t.hod h).dis = true ∧ (t.hod h).queue = [] ∧ (t.hod h).dropped = x.queue ∧
        (t.hod h).dropping = !x.queue.isEmpty ∧ t.mem = s.mem ∧ ∀ k, k ≠ h.val → t.hod k = s.hod k) ∧
    (s.fw m = true → x.dis = true → x.dropping = true → exec (.hodDisClear m h) s = .next (s.modHod h fun y => { y with disClear := true })) ∧
    (s.fw m = true → x.dis = true → x.dropping = false → x.waiting = [] →
      exec (.hodDisClear m h) s = .next (s.modHod h fun y => { y with dis := false, disClear := false })) ∧
    (x.en = true → x.dis = false → x.work = none → s.hodPowered h = true → x.queue = first :: rest → x.waiting = [] →
      (descStatus w bond false = 0 → exec (.descriptorStart h) s = .next (s.modHod h fun y => { y with
        queue := rest, work := some { addr := a.toNat, issuer := .submit i, desc := w, bond := bond } })) ∧
      (descStatus w bond false ≠ 0 → dEvid w = false → dIrq w = false → a.toNat % 32 = 0 → a.toNat + 31 < 0x370000000 →
        ∃ t, exec (.descriptorStart h) s = .next t ∧ (t.hod h).queue = rest ∧ (t.hod h).work = none ∧
          (t.hod h).rejectCount = satAdd x.rejectCount 1 ∧ (t.hod h).doneCount = x.doneCount ∧
          t.bytesAt (a.toNat + 0x1C) 4 = toLE 4 (0x8000 + (descStatus w bond false).toNat * 65536) ∧
          (∀ k, k < a.toNat + 0x1C ∨ a.toNat + 0x20 ≤ k → t.byteAt k = s.byteAt k))) ∧
    (∀ v : BitVec 256, s.hodPowered h = true → x.work = some { addr := d, issuer := .submit i, desc := v, bond := 0 } →
      dBondEn v = false → dIrq v = false → dSrc v + dLen v ≤ 0x370000000 → dDst v + dLen v ≤ 0x370000000 → d + 0x20 ≤ 0x370000000 →
      dSrc v + dLen v ≤ dDst v ∨ dDst v + dLen v ≤ dSrc v → d + 0x20 ≤ dDst v ∨ dDst v + dLen v ≤ d + 0x1C →
        ∃ t, exec (.descriptorComplete h) s = .next t ∧ (t.hod h).work = none ∧ (t.hod h).doneCount = x.doneCount + 1 ∧
          (t.hod h).bytesMoved = x.bytesMoved + BitVec.ofNat 64 (dLen v) ∧ (t.hod h).queue = x.queue ∧
          (∀ k, k < dLen v → t.byteAt (dDst v + k) = s.byteAt (dSrc v + k)) ∧ t.bytesAt (d + 0x1C) 4 = toLE 4 0x8000 ∧
          (∀ k, k < dDst v ∨ dDst v + dLen v ≤ k → k < d + 0x1C ∨ d + 0x20 ≤ k → t.byteAt k = s.byteAt k)) ∧
    (x.dropping = true → x.dropped = [e] → e = { addr := b, issuer := .submit i } → b + 0x20 ≤ 0x370000000 → x.waiting = [] →
      ∃ t, exec (.droppingClear h) s = .next t ∧ (t.hod h).dropping = false ∧ (t.hod h).dropped = [] ∧
        (t.hod h).dropCount = satAdd x.dropCount 1 ∧ t.bytesAt (b + 0x1C) 4 = toLE 4 0x06048000 ∧
        (s.watcher.asleep = false → (t.vu.row 189).arrivals = (s.vu.row 189).arrivals + 1) ∧
        (∀ k, k < b + 0x1C ∨ b + 0x20 ≤ k → t.byteAt k = s.byteAt k))

/-- R90, R91, R102, R106, R107: the control words, for a word with NEXT and without a course stop. NOP goes on to the next word, JUMP to
its target, BRANCH to its target exactly where its test gives what INVERT asks; WAIT suspends the course at the following word with the
causes that end it; POST writes a KIND 3 status word and goes on. None of them changes LAST_STATUS. -/
def Obligations.ControlWords : Prop :=
  ∀ (c : CtxId) (w : BitVec 256) (s : State),
    let x := s.course c
    let r := s.ctxRec c
    let v := bits (wParam w) 16 16
    let o := s.ctxRec (wObject w c)
    let on := fun (a : BitVec 40) => (Host.Outcome.next (s.setCourse c (x.next a)) : Out)
    let test := fun (n : Nat) (hit : Bool) => s.heldWord c 3 = some w → bits (wParam w) 0 4 = n →
      exec (.branch c) s = on (if hit != (wParam w).getLsbD 4 then wAddr w else x.addr + 32)
    wNext w = true → wPost w = false → x.stop = false → x.spanEnd = none →
    (s.heldWord c 1 = some w → exec (.courseNop c) s = on (x.addr + 32)) ∧
    (s.heldWord c 2 = some w → exec (.jump c) s = on (wAddr w)) ∧
    test 0 true ∧ test 1 (decide (r.lastStatus.toNat = v)) ∧ test 2 (decide (r.lastStatus.toNat / 256 = v % 256)) ∧
    test 3 (decide (r.resumeCause.toNat = v % 16)) ∧ test 4 (decide (r.lastStatus ≠ 0)) ∧ test 5 r.lenMem ∧
    (o.state = 2 ∨ o.state = 3 → test 6 o.hold ∧
      test 8 (decide (o.deadline ≠ 0) && decide (o.deadline.toNat ≤ s.time.now.toNat % 2 ^ 48))) ∧
    test 7 (decide (r.pending &&& BitVec.ofNat 16 v ≠ 0)) ∧
    (s.heldWord c 4 = some w → x.entry = none → r.pending &&& waitMask w = 0 →
      (∀ z ∈ s.courses.held, z.1 ≠ c → s.ctx.setOf z.1 ≠ s.ctx.setOf c) →
      ∃ t, exec (.wait c) s = .next t ∧ (t.ctxRec c).suspended = true ∧ (t.ctxRec c).resumeAddr = x.addr + 32 ∧
        (t.ctxRec c).claimed = false ∧ (t.ctxRec c).course = true ∧ (t.ctxRec c).lastStatus = r.lastStatus ∧
        (t.course c).mask = waitMask w ∧ (t.course c).channel = some ((wParam w).extractLsb' 16 9) ∧ t.mem = s.mem) ∧
    (s.heldWord c 5 = some w → r.notifyEn = false → r.statusAddr.toNat + 32 ≤ 0x370000000 →
      ∃ t, exec (.post c) s = .next t ∧ t.course c = x.next (x.addr + 32) ∧ (t.ctxRec c) = { r with postSeq := r.postSeq + 1 } ∧
        t.bytesAt r.statusAddr.toNat 32 = statusBytes r c 3 x.addr 5 (s.engineOf c) { detail := wParam w } ∧
        (∀ a, a < r.statusAddr.toNat ∨ r.statusAddr.toNat + 32 ≤ a → t.byteAt a = s.byteAt a))

/-- R104 to R109, R111, R113: a start makes the context the home of a running course; a fetch latches a word that passes every check, and a
malformed word ends the course; a cause is pending until it resumes a suspended course at its resume address; a stop request stops a
course at work at its word boundary and ends a suspended one. -/
def Obligations.CoursesStartAndStop : Prop :=
  ∀ (e : Eng) (q : Claimant) (c : CtxId) (addr status : BitVec 40) (k : Fin 16) (s : State), c ≠ 0 → s.claimStale c q = false →
    let r := s.ctxRec c
    let x := s.course c
    let w := BitVec.ofNat 256 (leNat (s.devBytes x.addr.toNat 32))
    let bit := BitVec.ofNat 16 (2 ^ k.val)
    let gen := (s.tile (tileOf e)).gen
    let asked := k.val ∈ [1, 2, 3, 4, 5, 6, 7, 9] ∧ (k = 2 → s.razes c = false ∧ r.state ≠ 4)
    let turn := s.courseRuns c = true ∧ s.courseTile c = true ∧ s.myTurn c = true
    (e.val < 8 → r.course = false → r.state = 1 ∨ r.state = 2 ∨ r.state = 3 → s.claimable c = true → status.toNat % 32 = 0 →
      rangeOk false status 32 true = true →
      ∃ t, exec (.courseStart e gen ⟨c, r.gen⟩ addr status none) s = .next t ∧ (t.ctxRec c).course = true ∧ (t.ctxRec c).suspended = false ∧
        (t.ctxRec c).claimed = true ∧ (t.ctxRec c).statusAddr = status ∧ (t.ctxRec c).postSeq = 0 ∧ (t.ctxRec c).pending = 0 ∧
        (t.ctxRec c).lastStatus = 0 ∧ (t.course c).addr = addr ∧ (t.course c).word = none ∧ (t.course c).entry = none ∧
        (t.ctxRec c).tile.toNat ∈ List.range 12 ∧ (r.tile = 0 → (t.ctxRec c).tile ≠ 0) ∧ (r.tile ≠ 0 → (t.ctxRec c).tile = r.tile) ∧
        t.reply = [{ dest := e }] ∧ t.mem = s.mem) ∧
    (8 ≤ e.val → exec (.courseStart e gen ⟨c, r.gen⟩ addr status none) s = .next (s.addrFault e)) ∧
    (turn → x.word = none → x.failed = none → x.addr.toNat + 31 < 0x370000000 → s.checkWord c x.addr w = 0 → wSuspend w = false →
      exec (.commandWordFetch c []) s = .next ((s.unready c).setCourse c { x with word := some w, fresh := false })) ∧
    (turn → x.word = none → x.failed = none → x.addr.toNat + 31 < 0x370000000 →
      s.checkWord c x.addr w ≠ 0 → x.entry = none → r.notifyEn = false → (s.ctx.courseClaim.filter fun e => e.2 == c.val && e.1 != c.val) = [] →
      r.statusAddr.getLsbD 39 = false →
      ∃ t, exec (.commandWordFetch c []) s = .next t ∧ (t.ctxRec c).course = false ∧ (t.ctxRec c).lastStatus = 0 ∧
        t.mem = (s.setBytes (bits r.statusAddr 0 35) (statusBytes r c 1 x.addr (wOp w) (s.engineOf c)
          { status := s.checkWord c x.addr w, residual := BitVec.ofNat 32 (x.total - x.done + wCount w) })).mem) ∧
    (asked → r.course = true → r.suspended = false →
      ∃ t, exec (.resumeCause ⟨c, q⟩ k) s = .next t ∧ (t.ctxRec c).pending = r.pending ||| bit ∧ t.courses.held = s.courses.held ∧ t.mem = s.mem) ∧
    (asked → r.course = true → r.suspended = true → r.pending = 0 → x.mask.getLsbD k.val = true → s.claimable c = true →
      ∃ t, exec (.resumeCause ⟨c, q⟩ k) s = .next t ∧ (t.ctxRec c).suspended = false ∧ (t.ctxRec c).claimed = true ∧
        (t.ctxRec c).resumeCause = BitVec.ofNat 4 k.val ∧ (t.ctxRec c).pending = 0 ∧ (t.course c).addr = r.resumeAddr ∧
        (t.course c).fresh = true ∧ t.mem = s.mem) ∧
    (r.course = true → r.suspended = true → x.channel.isSome = true → x.mask = 0x0040 → r.pending = 0 → s.claimable c = true →
      ∃ t, exec (.waitTimeout c) s = .next t ∧ (t.ctxRec c).suspended = false ∧ (t.ctxRec c).resumeCause = 6 ∧
        (t.course c).addr = r.resumeAddr) ∧
    (r.course = true → r.suspended = false → x.wait = none → x.word.isSome = true →
      exec (.stopRequest ⟨c, q⟩) s = .next ((s.setCourse c { x with stop := true }).answer q.master 0)) ∧
    (r.course = true → r.suspended = true → r.claimed = false → x.entry = none → r.notifyEn = false → r.statusAddr.getLsbD 39 = false →
      (s.ctx.courseClaim.filter fun e => e.2 == c.val && e.1 != c.val) = [] →
      ∃ t, exec (.stopRequest ⟨c, q⟩) s = .next t ∧ (t.ctxRec c).course = false ∧ (t.ctxRec c).suspended = false ∧
        t.reply = [{ dest := q.master }] ∧
        t.mem = (s.setBytes (bits r.statusAddr 0 35)
          (statusBytes r c 1 r.resumeAddr (s.opcodeAt r.resumeAddr) 0xFF { status := 0x0181 })).mem)

/-- R85 to R88, R93 to R101: the lane and object commands of a course, each for a single word with NEXT, without LIST, SPAN, SKIP and POST.
The ones that end at once leave LAST_STATUS 0000h and LEN 0 and go on to the next word; the others wait, and what they wait for is set
up. -/
def Obligations.LaneAndObjectWords : Prop :=
  ∀ (c : CtxId) (w : BitVec 256) (md : Medium) (b : Bytes) (o : ObjChain) (u : Fin 10) (j : Job) (s : State),
    let x := s.course c
    let r := s.ctxRec c
    let l := bits (wSel w) 0 8
    let y := s.lane l
    let n := (wParam w).toNat
    let k := bits (wSel w) 0 5
    let ended := fun (t : State) => t.course c = x.next (x.addr + 32) ∧ (t.ctxRec c).lastStatus = 0 ∧ (t.ctxRec c).lenMem = false ∧
      (t.ctxRec c).course = r.course
    wNext w = true → wPost w = false → wSpan w = false → wList w = false → wSkip w = false → x.stop = false → x.head = none →
    x.spanEnd = none → x.total = 0 → x.done = 0 → x.gather = [] → x.segs = [] → x.nextSeq = none → s.holdup.declared = false →
    (s.heldWord c 0x10 = some w → y.active = true → y.ingest = none → s.writeWaits l = false → s.laneType l ≠ 8 → y.ready = [] → y.ring = [] →
      exec (.ingest c []) s = .next ((s.modLane l fun y => { y with
        ingest := some c, fileOffset := if s.laneType l = 7 then wParam w else y.fileOffset }).setCourse c
        { x with wait := some (.ingest l), total := wCount w })) ∧
    (s.heldWord c 0x11 = some w → bits (wParam w) 0 2 = 0 → y.sealing = none → ∃ t, exec (.seal c) s = .next t ∧ ended t ∧ t.mem = s.mem ∧
      t.lanes = s.lanes) ∧
    (s.heldWord c 0x12 = some w → bits (wParam w) 0 9 = 1 → y.obj = some o → s.slotHoldsKey (s.laneCfg l 0xA) = true →
      exec (.cope c) s = .next ((s.setCourse c { x with wait := some (.cope l y.freshSeq none) }).cadence l)) ∧
    (s.heldWord c 0x13 = some w → bits (wSel w) 0 2 = 2 → b = s.devBytes (bits (wAddr w) 0 35) 1024 → (wAddr w).getLsbD 39 = false →
      wCount w = 1024 → s.holdsObject (wObject w c) = true → s.checkRecord b = 0 → s.wytheList.contains 0 = true → s.wythes.failed.getLsbD 0 = false →
      let m := s.memberFor 0 (rSeq b)
      let d := s.member m
      d.copeNext + d.lbas 1024 ≤ d.zoneLbas → d.zoned = true →
      ∃ t, exec (.append c [] md) s = .next t ∧ (t.course c).wait = some .append ∧ (t.course c).word = some w ∧
        t.nvme = s.nvme ++ [{ port := s.portOf m, cid := s.nextCid.look 0 (s.portOf m), use := .append c m none (wObject w c) none }] ∧
        (t.member m).copeNext = d.copeNext + d.lbas 1024 ∧ t.mem = s.mem) ∧
    (s.heldWord c 0x14 = some w → (wSel w).getLsbD 3 = false → bits (wSel w) 0 2 = 0 → s.wytheList.contains 0 = true →
      s.holdsObject (wObject w c) = true → n ≤ (s.ctxRec (wObject w c)).lastSeq.toNat → (s.ctxRec (wObject w c)).lastSeq ≠ 0xFFFFFFFFFFFFFFFF →
      s.readUnit md w (wObject w c) n = .bytes b → b.length = wCount w → 0 < wCount w → (wAddr w).toNat + wCount w ≤ 0x370000000 →
      ∃ t, exec (.read c [] md) s = .next t ∧ ended t ∧ t.bytesAt (wAddr w).toNat (wCount w) = b ∧
        (∀ a, a < (wAddr w).toNat ∨ (wAddr w).toNat + wCount w ≤ a → t.byteAt a = s.byteAt a)) ∧
    (s.heldWord c 0x15 = some w → (wSel w).getLsbD 3 = false → bits (wSel w) 0 2 = 0 → s.wytheList.contains 0 = true →
      s.holdsObject (wObject w c) = true → 0 < wCount w → n + wCount w ≤ (s.ctxRec (wObject w c)).lastSeq.toNat + 1 →
      (s.ctxRec (wObject w c)).lastSeq ≠ 0xFFFFFFFFFFFFFFFF → s.verifyData md w (wObject w c) n 0 = true →
      exec (.verify c md) s = .next (((s.setCourse c { x with wait := some (.verify false md n (wCount w) none) }).askVerify c false).turnNow)) ∧
    (x.wait = some (.verify false md n 1 none) → x.word = some w → wCount w = 1 → (wSel w).getLsbD 3 = false → bits (wSel w) 0 2 = 0 →
      s.mortar.holder u = some (14, j) → j.kind = .verify c false → s.lanes = [] →
      s.courses.held = [(c.val, x)] → s.verifyOn md w (wObject w c) n 0 = 0 →
      ∃ t, exec (.mortarJobComplete u) s = .next t ∧ ended t ∧ t.mem = s.mem ∧
        (t.mortar.row 14).completed = (s.mortar.row 14).completed + 1) ∧
    (s.heldWord c 0x16 = some w → wObject w c = c.val → r.state = 3 → r.hold = false → s.slotHoldsKey (s.laneCfg r.lane.toNat 0xA) = true →
      (s.lane r.lane.toNat).chainOf c = some o →
      exec (.raze c md) s = .next ((s.setCourse c { x with wait := some (.raze c) }).recordDue r.lane.toNat
        { kind := 4, ctx := c, located := some o.lastDigest, area := s.razeArea c (razeCause w r.resumeCause) })) ∧
    (s.heldWord c 0x17 = some w → k ≠ 0x1F → (s.hod k).room = true → wCount w = 1 →
      exec (.move c) s = .next (((s.moveForget c).modHod k fun y => { y.unwait (.move c) with
        queue := y.queue ++ [{ addr := bits (wAddr w) 0 35, issuer := .move c }] }).setCourse c { x with wait := some (.move k 1 0 0 0) })) ∧
    (s.heldWord c 0x18 = some w → 0 < wCount w → (wAddr w).toNat + 48 * wCount w ≤ 0x370000000 →
      let out := (List.range (wCount w)).flatMap fun i => s.snapshot (l + i)
      ∃ t, exec (.ledger c) s = .next t ∧ ended t ∧ t.bytesAt (wAddr w).toNat (48 * wCount w) = out ∧
        (∀ a, a < (wAddr w).toNat ∨ (wAddr w).toNat + 48 * wCount w ≤ a → t.byteAt a = s.byteAt a))

/-- R83, R87, R103: the raw words of a course, single, in device form, without LIST and SPAN: one that passes the checks of R103 hands its
operation to its port, with the bytes of its buffer for a transmit and the buffer's place for a receive, and waits. A receive that ends
with exactly COUNT bytes places them in the buffer and the course goes on. -/
def Obligations.RawWords : Prop :=
  ∀ (c : CtxId) (w : BitVec 256) (data : Bytes) (r : RawOp) (s : State),
    let x := s.course c
    let n := wCount w
    let base := (s.ctxRec c).hostBase
    let recv := (wSel w).getLsbD 4
    let buffer := s.devBytes (bits (wAddr w) 0 35) n
    let tx : RawOp := { owner := .course c, op := wOp w, sel := wSel w, param := wParam w, count := n, data := buffer, base := base, segs := [] }
    let rx : RawOp := { owner := .course c, op := wOp w, sel := wSel w, param := wParam w, count := n, data := [], base := base, segs := [(wAddr w, n)] }
    let nv : RawOp := { owner := .course c, op := wOp w, sel := wSel w, param := wParam w, count := n, base := base
                        data := s.devBytes (bits (wAddr w) 0 35) 64, segs := [((wParam w).setWidth 40, n)] }
    let waits := fun (z : Out) (q : RawOp) => s.rawCheck q = 0 →
      ∃ t, z = .next t ∧ t.raws = s.raws ++ [q] ∧ (t.course c).wait = some .raw ∧ (t.course c).word = x.word ∧ t.ctx = s.ctx ∧
        (wOp w ≠ 0x21 → t.nvme = s.nvme) ∧ t.mem = s.mem
    wSpan w = false → wList w = false → wSkip w = false → (wAddr w).getLsbD 39 = false → x.total = 0 → x.done = 0 → x.gather = [] →
    x.segs = [] → x.spanEnd = none →
    (s.heldWord c 0x20 = some w → recv = false → waits (exec (.eth c []) s) tx) ∧ (s.heldWord c 0x20 = some w → recv = true → waits (exec (.eth c []) s) rx) ∧
    (s.heldWord c 0x21 = some w → waits (exec (.nvme c []) s) nv) ∧ (s.heldWord c 0x22 = some w → waits (exec (.usb c []) s) rx) ∧
    (s.heldWord c 0x23 = some w → recv = false → waits (exec (.can c []) s) tx) ∧ (s.heldWord c 0x23 = some w → recv = true → waits (exec (.can c []) s) rx) ∧
    (s.heldWord c 0x24 = some w → recv = false → waits (exec (.tdm c []) s) tx) ∧ (s.heldWord c 0x24 = some w → recv = true → waits (exec (.tdm c []) s) rx) ∧
    (s.raws = [r] → r.owner = .course c → r.op ≠ 0x21 → r.receives = true → r.skip = false → r.data = [] → r.segs = [(wAddr w, r.count)] →
      0 < r.count → data.length = r.count → (wAddr w).toNat + r.count ≤ 0x370000000 → s.inRung2 (rawFunc r) = false → x.word = some w → x.stop = false →
      wNext w = true → wPost w = false → s.holdup.declared = false →
      ∃ t, exec (.rawTransferComplete (.course c) 0 data.length false data) s = .next t ∧ t.raws = [] ∧ t.course c = x.next (x.addr + 32) ∧
        (t.ctxRec c).lastStatus = 0 ∧ (t.ctxRec c).lenMem = false ∧ t.bytesAt (wAddr w).toNat r.count = data ∧
        (∀ a, a < (wAddr w).toNat ∨ (wAddr w).toNat + r.count ≤ a → t.byteAt a = s.byteAt a))

/-- R33, R35, R37, R56, R61, R93, R378: what arrives for a lane. A unit of a bound key stands in the ring of its open lane, or is refused
where the ring is full or power loss is declared, or is discarded and counted at its interface; the record of a frame is admitted
whole, or refused whole and counted where it would pass the lane's share; an RTP packet ahead of its order is held, and the reorder
timeout puts a held packet in order with the missing numbers as source gaps; a brick of age closes with its payload whole. -/
def Obligations.LaneArrivals : Prop :=
  ∀ (l : Lane) (key : BitVec 320) (b : Bytes) (u : RingUnit) (rest : List RingUnit) (c : Nat) (o : ObjChain) (ssrc next : W32) (h : HeldPkt)
    (w : BitVec 256) (s : State),
    let y := s.lane l
    let r := frameRecord u y.gapNext
    let n := r.bytes.length
    let f := y.fill
    let d := (rtpSeq u.bytes - next.setWidth 16).toNat
    let win := y.window (rtpSsrc u.bytes)
    (s.laneFor key = none → exec (.unitReceived key b false) s = .next (s.discard (keyFunc key) b.length)) ∧
    (s.laneFor key = some l.val → y.active = false → exec (.unitReceived key b false) s = .next (s.discard (keyFunc key) b.length)) ∧
    (s.laneFor key = some l.val → y.active = true → s.holdup.declared = false →
      (y.ingest = none → exec (.unitReceived key b false) s = .next (s.modLane l fun x => { x with
        ring := x.ring ++ [{ bytes := b, key := key, time := s.time.now }] })) ∧
      exec (.unitReceived key b true) s = .next (s.addRefused l b.length)) ∧
    (s.laneType l = 5 → y.ring = u :: rest → y.ingest = some c → (s.course c).word = some w → wSkip w = false → (s.course c).total = 0 →
      s.holdup.declared = false → s.holdup.closed = false → y.obj = some o → y.acts = [] → y.openRec = none → y.nextFill = none →
      (y.inflight.toNat + n ≤ y.share.toNat → f.align = 0 → f.due = none → f.payload.length + n < f.capacity →
        ∃ t, exec (.recordOffered l) s = .next t ∧ (t.lane l).ring = rest ∧ (t.lane l).fill.payload = f.payload ++ r.bytes ∧
          (t.lane l).led.accepted = y.led.accepted + BitVec.ofNat 64 n ∧ (t.lane l).inflight = y.inflight + BitVec.ofNat 64 n ∧
          (t.lane l).led.refused = y.led.refused ∧ (t.course c).done = (s.course c).done + n ∧ t.mem = s.mem) ∧
      (y.share.toNat < y.inflight.toNat + n → f.payload = [] → o.sourceType ≠ 7 →
        ∃ t, exec (.recordOffered l) s = .next t ∧ (t.lane l).ring = rest ∧ (t.lane l).fill.payload = [] ∧
          (t.lane l).led.refused = y.led.refused + BitVec.ofNat 64 n ∧ (t.lane l).led.accepted = y.led.accepted ∧
          (t.lane l).inflight = y.inflight ∧ (t.course c).done = (s.course c).done)) ∧
    (s.laneType l = 1 ∨ s.laneType l = 2 ∨ s.laneType l = 3 → y.ring = u :: rest → y.ingest = some c → y.ready = [] →
      (rtpOk u.bytes = false → exec (.rtpPacketReceived l) s =
        .next ((s.modLane l fun x => { x with ring := rest }).addRefused l (paddedLen u.bytes.length))) ∧
      (rtpOk u.bytes = true → (s.bind.lookup u.key).isSome = true → win.next = some next →
        (1 ≤ d → d ≤ s.laneCfg l 8 → d ≤ 3000 → (∀ p ∈ win.held, p.seq ≠ next + BitVec.ofNat 32 d) →
          exec (.rtpPacketReceived l) s = .next (s.modLane l fun x => { x with
            ring := rest
            windows := x.windows.put (rtpSsrc u.bytes).toNat { win with
              held := holdAt { seq := next + BitVec.ofNat 32 d, unit := u, since := s.tnow } win.held } })) ∧
        (65436 ≤ d → s.laneCfg l 8 ≠ 0 → y.nextFill = none →
          exec (.rtpPacketReceived l) s = .next (s.modLane l fun x => { x with
            ring := rest, windows := x.windows.put (rtpSsrc u.bytes).toNat win, fill := { x.fill with late := x.fill.late + 1 } })))) ∧
    ((y.window ssrc).held = [h] → (y.window ssrc).next = some next → y.ingest = none →
      ∃ t, exec (.reorderTimeout l ssrc) s = .next t ∧ ∃ p : Rec, (t.lane l).ready = y.ready ++ [p] ∧ p.gaps = (h.seq - next).toNat ∧
        ((t.lane l).window ssrc).held = [] ∧ ((t.lane l).window ssrc).next = some (h.seq + 1) ∧ t.mem = s.mem) ∧
    (y.nextFill = none → f.payload ≠ [] → f.payload.length < f.capacity → s.canClose l = true → y.obj = some o → y.acts = [] → y.openRetry = false →
      y.ingest = none → s.courses.held = [] → s.holdup.lastCourse = false →
      ∃ t, exec (.brickAgeExpiry l) s = .next t ∧ ∃ q : Brick, (t.lane l).sealing = some q ∧ q.payload = f.payload ∧ q.seq = o.nextSeq ∧
        q.ctx = o.ctx ∧ q.last = false ∧ q.digest = none ∧ (t.lane l).fill.payload = [] ∧ (t.lane l).writing = y.writing ∧
        (t.lane l).obj.map (·.nextSeq) = some (o.nextSeq + 1) ∧ t.mem = s.mem)

/-- R30, R43 to R48, R52, R54, R77, R125, R428, R429: what moves on in a lane. The pass over a closed brick gives it its digest and the
next brick its predecessor; a brick that every configured wythe has written is DURABLE; the journal applies one line; an open lane has
an object in a context of its own; an object whose span has passed closes with its LAST brick behind a new one; a record falls due, is
signed, and is chained to the record before it; a retention deadline is delivered once as cause 1; an object whose razing record is
DURABLE is razed. -/
def Obligations.LaneProgress : Prop :=
  ∀ (l : Lane) (b : Brick) (i k lba : Nat) (j : Job) (fr : List (Nat × Nat)) (o : ObjChain) (w : Fin 2) (r : RecWait) (rw : RecWrite)
    (c : CtxId) (word : BitVec 256) (s : State),
    let y := s.lane l
    let quiet := s.courses.held = [] ∧ y.acts = [] ∧ y.fill.payload = [] ∧ 576 < y.fill.size ∧ y.openRetry = false ∧ y.ingest = none ∧
      s.holdup.lastCourse = false
    (s.mortar.grantedJob (.seal l) = some (i, j) → y.sealing = some b → b.digest = none → b.gapStatus = 0 → y.writing = none → quiet →
      y.obj = some o → o.ctx = b.ctx →
      ∃ t, exec (.sealComplete l) s = .next t ∧ (t.lane l).sealing = none ∧ ∃ q : Brick, (t.lane l).writing = some q ∧
        q.digest = some (Config.sha384 (b.header ++ b.payload)) ∧ q.payload = b.payload ∧ q.seq = b.seq ∧
        (t.lane l).obj.map (·.prevDigest) = some (Config.sha384 (b.header ++ b.payload)) ∧ t.mem = s.mem) ∧
    (s.wytheList = [w.val] → y.writing = some b → b.issued = true → b.written = [] → b.last = false → y.sealing = none → y.recWrites = [] →
      y.copeBricks = 0 → quiet →
      ∃ t, exec (.wytheWriteComplete l false w lba) s = .next t ∧ (t.lane l).writing = none ∧
        (t.lane l).led.durable = y.led.durable + BitVec.ofNat 64 b.payload.length ∧
        (t.lane l).inflight = y.inflight - BitVec.ofNat 64 b.payload.length ∧ (t.lane l).led.lastSeq = b.seq ∧
        (t.ctxRec b.ctx).lastSeq = b.seq ∧ (t.ctxRec b.ctx).objPayload = (s.ctxRec b.ctx).objPayload + BitVec.ofNat 64 b.payload.length) ∧
    (s.wytheList = [w.val] → y.writing = none → y.sealing = none → y.recWrites = [rw] → rw.issued = true → rw.written = [] → quiet →
      ∃ t, exec (.wytheWriteComplete l true w lba) s = .next t ∧ (t.lane l).recWrites = [] ∧ (t.lane l).led.recordSeq = rw.seq ∧
        (t.lane l).led.lastRecord = Config.sha384 rw.bytes) ∧
    (exec (.journalApply none) s = .next { s with journal := s.journal.apply s.mono none }) ∧
    (y.tailWait = false → exec (.journalApply (some l)) s = .next { s with journal := s.journal.apply s.mono (some l.val) }) ∧
    (y.active = false → s.openCheck l ≠ 0 → exec (.laneOpenRetry l) s = .next (s.modLane l fun x => { x with openStatus := s.openCheck l })) ∧
    (y.active = false → s.openCheck l = 0 → s.ctx.restoreDone = true → y.obj = none → y.acts = [] → s.wythes.ssdsReady = false →
      freeTake s.ctx.free = some (k, fr) →
      ∃ t, exec (.laneOpenRetry l) s = .next t ∧ (t.lane l).active = true ∧ (t.lane l).openStatus = 0 ∧
        (t.lane l).obj.map (·.ctx) = some k ∧ (t.ctxRec k).state = 2 ∧ (t.ctxRec k).lane = BitVec.ofNat 8 l ∧ t.ctx.free = fr) ∧
    (y.active = true → y.span ≠ 0 → y.obj = some o → y.nextFill = none → y.fill.payload.length < y.fill.capacity → s.canClose l = true → y.acts = [] → y.ingest = none → s.courses.held = [] →
      s.holdup.lastCourse = false → s.ctx.restoreDone = true → s.wythes.ssdsReady = false → freeTake s.ctx.free = some (k, fr) →
      ∃ t, exec (.objectSpanExpiry l) s = .next t ∧ ∃ q : Brick, (t.lane l).sealing = some q ∧ q.last = true ∧ q.ctx = o.ctx ∧
        q.seq = o.nextSeq ∧ q.payload = y.fill.payload ∧ (t.lane l).obj.map (·.ctx) = some k ∧ (t.lane l).fill.payload = [] ∧
        (t.ctxRec o.ctx).state = 3) ∧
    (y.obj = some o → y.rec1 = none → y.recQueue = [] → y.scanned = true → s.time.mono.isSome = true →
      s.slotHoldsKey (s.laneCfg l 0xA) = true →
      ∃ t, exec (.copePeriodExpiry l) s = .next t ∧ ∃ q : RecWait, (t.lane l).rec1 = some q ∧ q.seq = y.signedSeq + 1 ∧ q.req.kind = 1 ∧
        q.req.ctx = o.ctx ∧ (t.lane l).cadenceDue = false ∧ t.mem = s.mem) ∧
    (y.obj = some o → y.rec1 = some r → exec (.copePeriodExpiry l) s =
      .next (s.modLane l fun x => { x with cadenceDue := true, copeMerged := satAdd x.copeMerged 1 })) ∧
    (s.mortar.grantedJob (.cope l) = some (i, j) → y.rec1 = some r → y.recQueue = [] → y.cadenceDue = false → y.sealing = none →
      y.writing = none → quiet →
      let bytes := r.body ++ toBE 96 (Config.ecdsaSign (s.scalarOf r.slot r.epoch) r.body).toNat
      ∃ t, exec (.copingRecordSigned l) s = .next t ∧ (t.lane l).rec1 = none ∧ (t.lane l).signedSeq = r.seq ∧
        (t.lane l).signedDigest = Config.sha384 bytes) ∧
    (s.ctxList = [c.val] → s.sweepDue c = true → s.memberList = [] → (s.ctxRec c).suspended = false →
      ∃ t, exec .retentionSweep s = .next t ∧ (t.ctxRec c).pending = (s.ctxRec c).pending ||| 2 ∧ t.sweepDue c = false) ∧
    (s.lanes = [(l.val, y)] → y.razeReady = [(c.val, r.seq)] → s.memberList = [] → s.holdup.declared = false →
      s.courses.held = [(c.val, { s.course c with word := some word, wait := some (.raze c) })] → (s.course c).stop = false →
      wNext word = true → wPost word = false → wSpan word = false →
      ∃ t, exec (.razeRecordDurable c) s = .next t ∧ (t.ctxRec c).state = 4 ∧ (t.ctxRec c).lastStatus = 0 ∧ (t.lane l).razeReady = [] ∧
        (t.course c).addr = (s.course c).addr + 32 ∧ (t.course c).wait = none)

/-- R58, R60, R62, R63, R65, R67: the bank and the horizon. A horizon update sets H, 0 while the controller is re-initialised, and gives
each active lane its share by weight; hold-up-inadequate clears on H at 1.25 times the brick sizes with no cause; a bank test that is
due starts at 4.0 V and 2 A and gives C_MEAS, the charge over the voltage fall, and ESR_MEAS, the voltage step over the current step; a
drill writes DRILL_BYTES in the power configuration of the last course and gives EB_MEAS, the energy less idle by the bytes (its rails
are log entry 108); a current sample enters one term of the charge ledger, which stays Q_STORED = Q_IN - Q_OUT - Q_LEAK, and a leakage
check brings Q_STORED to what the bank holds. -/
def Obligations.HorizonAndBank : Prop :=
  ∀ (v mA microC milliV microV milliA drawn idle : Nat) (why : BankDue) (t i : Int) (l : Lane) (s : State),
    let a := { s with holdup := { s.holdup with vbank := BitVec.ofNat 16 v, tbank := BitVec.ofInt 16 t } }
    let total : Nat := s.activeLanes.foldl (fun n k => n + s.weight k) 0
    let h := s.journal.now
    let c := microC / milliV
    let esr := 1000 * microV / milliA
    let n := s.drillWritten
    let due := match why with
      | .ignition => s.holdup.ignition = true ∧ s.holdup.tested = false ∧ s.cfg 0x4000 2 ≤ v + 200
      | .periodic => s.power.phase = Phase.run
      | .thermistor => 15 ≤ (s.holdup.tbank.toInt - s.holdup.tMeas.toInt).natAbs
    let counted := fun (n : Nat) (u : State) => s.watcher.asleep = false → (u.vu.row n).arrivals = (s.vu.row n).arrivals + 1
    (∃ u, exec (.horizonUpdate v t) s = .next u ∧ u.holdup.vbank = BitVec.ofNat 16 v ∧ u.mem = s.mem ∧
      u.holdup.horizon = (if s.inRung2 0x66 then 0 else BitVec.ofNat 64 (a.horizonAt v)) ∧
      ((s.lane l).active = true → (u.lane l).share = BitVec.ofNat 64 (u.holdup.horizon.toNat * s.weight l / total)) ∧
      (u.lane l).inflight = (s.lane l).inflight) ∧
    (s.holdup.inadequate.getLsbD 0 = true → s.causes = 0 → 5 * s.brickSum ≤ 4 * s.holdup.horizon.toNat →
      ∃ u, exec .holdupInadequateClear s = .next u ∧ u.holdup = { s.holdup with inadequate := 0 } ∧ counted 211 u) ∧
    (s.holdup.bankUse = .idle → s.holdup.declared = false → due → 4000 ≤ v → 2000 ≤ mA →
      exec (.bankTestStart why ⟨v, mA⟩) s = .next { s with holdup := { s.holdup with bankUse := .test } }) ∧
    (s.holdup.bankUse = .idle → s.holdup.declared = false → due → v < 4000 ∨ mA < 2000 →
      exec (.bankTestStart why ⟨v, mA⟩) s = .next (s.raise 213)) ∧
    (s.holdup.bankUse = .test → 0 < milliV → 0 < milliA →
      (s.cfg 0x4000 1 ≤ 5 * c → c ≤ 5 * s.cfg 0x4000 1 → 1000 ≤ esr → esr ≤ 2000000 →
        ∃ u, exec (.bankTestComplete ⟨microC, milliV⟩ ⟨microV, milliA⟩) s = .next u ∧ u.holdup.cMeas = some (BitVec.ofNat 32 c) ∧
          u.holdup.esrMeas = BitVec.ofNat 32 esr ∧ u.holdup.tMeas = s.holdup.tbank ∧ u.holdup.testTime = s.time.now ∧
          u.holdup.bankUse = .idle ∧ counted 212 u) ∧
      (5 * c < s.cfg 0x4000 1 ∨ 5 * s.cfg 0x4000 1 < c ∨ esr < 1000 ∨ 2000000 < esr →
        exec (.bankTestComplete ⟨microC, milliV⟩ ⟨microV, milliA⟩) s =
          .next ({ s with holdup := { s.holdup with bankUse := .idle, tested := true } }.raise 213))) ∧
    exec .drillRequest s = .next { s with holdup := { s.holdup with drillAsked := true } } ∧
    (s.holdup.bankUse = .idle → s.holdup.declared = false → s.holdup.ride = none → s.holdup.drillAsked = true →
      ∃ u, exec .drillStart s = .next u ∧ u.holdup = { s.holdup with bankUse := .drill, drillAsked := false } ∧
        u.power.railEn = s.power.railEn &&& 0x1FF ∧ ∀ m ∈ s.memberList, (u.member m).drillBytes = s.drillSize m) ∧
    (s.holdup.bankUse = .drill → 0 < n → idle ≤ drawn →
      ∃ u, exec (.drillComplete ⟨drawn, idle⟩) s = .next u ∧ u.holdup = { s.holdup with
        bankUse := .idle, drillDue := false, drillTime := s.time.now, ebMeas := BitVec.ofNat 32 ((drawn - idle) * 1000 / n) } ∧
        u.power.railEn = 0xFFF ∧ counted 214 u) ∧
    exec .drillOverdue s = .next ({ s with holdup := { s.holdup with drillDue := true } }.raise 215) ∧
    (∃ u, exec (.currentSample i) s = .next u ∧ (u.holdup.chargeRem + 1000 * (s.holdup.chargeRem + 10 * i).tdiv 1000 = s.holdup.chargeRem + 10 * i) ∧
      u.journal.now.qStored = u.journal.now.qIn - u.journal.now.qOut - u.journal.now.qLeak ∧ u.journal.now.qLeak = h.qLeak ∧
      u.journal.now.qIn - u.journal.now.qOut = h.qIn - h.qOut + BitVec.ofInt 64 ((s.holdup.chargeRem + 10 * i).tdiv 1000) ∧ u.mem = s.mem) ∧
    (s.chgEn = false → h.qStored = h.qIn - h.qOut - h.qLeak →
      ∃ u, exec (.leakageCheck v) s = .next u ∧ u.journal.now.qStored = BitVec.ofInt 64 (s.bankC.mul { num := 1000 * v }).floor ∧
        u.journal.now.qIn = h.qIn ∧ u.journal.now.qOut = h.qOut ∧
        u.journal.now.qStored = u.journal.now.qIn - u.journal.now.qOut - u.journal.now.qLeak)

/-- R68, R70, R71, R74, R78, R127: the supply and the restart. A supply below VSUP_FAIL begins a ride-through; its end by T_DECLARE
declares power loss, with nothing in flight through to LC_DONE; a supply that has returned restarts the device, whose claims, FIFOs and
declaration a start wipes; the restored contexts make the free list; the scan of a lane with nothing more on the media leaves its
object open at the journal's next brick. -/
def Obligations.SupplyAndRestart : Prop :=
  ∀ (v b : Nat) (l : Lane) (c : Nat) (s : State),
    let y := s.lane l
    let r := s.ctxRec c
    let a := { s with holdup := { s.holdup with vsup := BitVec.ofNat 16 v, bankNow := BitVec.ofNat 16 b } }
    (s.power.phase = .run → s.holdup.declared = false → s.holdup.ride = none → v < 65536 → v < s.cfg 0x4002 1 → 0 < s.cfg 0x4002 3 → a.triggers = 0 →
      ∃ u, exec (.supplySample v b) s = .next u ∧ u.holdup.ride = some s.tnow ∧ u.holdup.vsup = BitVec.ofNat 16 v ∧ u.holdup.declared = false ∧
        (s.watcher.asleep = false → (u.vu.row 209).arrivals = (s.vu.row 209).arrivals + 1)) ∧
    (s.power.phase = .run → s.holdup.declared = false → s.holdup.ride = none → v < 65536 → s.cfg 0x4002 1 ≤ v →
      exec (.supplySample v b) s = .next a.overcharge) ∧
    (s.power.phase = .run → s.holdup.declared = false → s.holdup.ride.isSome = true → s.supplyGood = true → s.ladder.warm = none →
      s.ladder.deferred = none → s.lanes = [] → s.hods = [] → s.courses.held = [] → s.raws = [] → s.memberList = [] → s.ctx.imageQueue = [] →
      s.mortar.input = [] →
      ∃ u, exec .tDeclareExpiry s = .next u ∧ u.holdup.declared = true ∧ u.holdup.ride = none ∧ u.holdup.lcOver = true ∧ u.power.phase = .run ∧
        u.holdup.declarations = satAdd s.holdup.declarations 1 ∧ u.journal.now.powerLoss = true ∧ u.journal.now.lcStarted = true ∧
        u.journal.now.lcDone = true ∧ u.journal.now.declCause = s.triggers ||| 1 ∧ u.power.railEn = s.power.railEn &&& 0x1FF) ∧
    (s.power.phase = .run → s.holdup.declared = true → s.holdup.lcOver = true → s.holdup.supplyBack.isSome = true →
      exec .supplyReturnRestart s = .next (s.startNow 4) ∧
      ∃ w, s.startWipe 4 = w ∧ w.power.resetCause = 4 ∧ w.power.starts = satAdd s.power.starts 1 ∧ w.holdup.declared = false ∧
        w.holdup.lcOver = false ∧ (∀ t, t < 12 → (w.tile t).gen = (s.tile t).gen + 1) ∧ w.engines = [] ∧ w.mem = [] ∧ w.courses.held = [] ∧
        w.journal = s.journal.applyAll (s.time.mono.getD 0) ∧ w.sec.fuse = s.sec.fuse) ∧
    (s.power.phase = .run → s.wythes.ssdsReady = false → s.holdup.declared = false → s.memberList = [] → s.lanes = [] → s.ctx.cache = [] →
      s.ctx.table = [] → s.ctx.imageQueue = [] →
      ∃ u, exec (.contextRestore []) s = .next u ∧ u.wythes.ssdsReady = true ∧ u.ctx.restoreDone = true ∧ u.ctx.free = [(1, 1048575)] ∧
        u.ctx.imageSeq = s.ctx.imageSeq ∧ u.time.mono = some (s.time.mono.getD 0x100000000) ∧ u.journal.now.powerLoss = false ∧
        u.journal.valid = true ∧ (s.watcher.asleep = false → (u.vu.row 218).arrivals = (s.vu.row 218).arrivals + 1)) ∧
    (s.wythes.ssdsReady = true → s.holdup.declared = false → s.holdup.lastCourse = false → s.courses.held = [] → s.journal.valid = true →
      y.led.isOpen = true → y.scanned = false → y.acts = [] → y.fill.payload = [] → 576 < y.fill.size → y.ingest = none → y.openRetry = false →
      y.led.accepted = y.led.durable + y.led.lost → y.led.durable.toNat + y.led.lost.toNat < 2 ^ 64 → c = y.led.context.toNat → s.ctxList = [c] →
      r.state = 2 → r.lane = BitVec.ofNat 8 l → r.sourceType.toNat = s.laneCfg l 1 → s.laneCfg l 1 ≠ 0 →
      ∃ u, exec (.restartScan l []) s = .next u ∧ (u.lane l).scanned = true ∧ ∃ o : ObjChain, (u.lane l).obj = some o ∧ o.ctx = c ∧
        o.nextSeq = y.led.lastSeq + 1 ∧ o.prevDigest = y.led.lastDigest ∧ (u.lane l).inflight = 0 ∧ (u.lane l).led.lastSeq = y.led.lastSeq ∧ (u.lane l).led.accepted = y.led.accepted ∧
        (u.lane l).signedSeq = y.led.recordSeq)

/-- R341 to R353: faults and watchdogs. A fault with an operation to repeat begins rung 1; one without begins rung 2 of its function while
the function's entries are few, with source 243, or joins what is under way; a retry that succeeds ends, one that fails counts its try;
a rung 2 that ends adds its outage; a watchdog that expires is a fault of what it guards, the always-on one a power cycle; a kick
restarts its watchdog. -/
def Obligations.FaultsAndWatchdogs : Prop :=
  ∀ (f : Func) (op : FaultOp) (st : Status) (ext : Bool) (h : HostRead) (r : Retry) (rest : List Retry) (since : Nat) (w : Warm)
    (e : Eng) (t : Tile) (m : Master) (v : W32) (s : State),
    let x := s.func f
    let retry := fun (l : List Retry) => (Host.Outcome.next (s.modFunc f fun y => { y with retries := l }) : Out)
    let counted := fun (n : Nat) (u : State) => s.watcher.asleep = false → (u.vu.row n).arrivals = (s.vu.row n).arrivals + 1
    let joined : Out := .next { s with ladder := { s.ladder with joined := satAdd s.ladder.joined 1 } }
    (s.faultSeen f = true → s.inRung2 f = false → s.ladder.warm = none → op ≠ .none →
      ∃ u, exec (.fault f op st ext false) s = .next u ∧ (u.func f).rung1 = satAdd x.rung1 1 ∧
        (u.func f).retries = x.retries ++ [{ op := op, status := st, external := ext, limit := s.tries f
                                             window := s.cfg (0x5100 + f) 2, backoff := s.cfg (0x5100 + f) 3 }] ∧ u.mem = s.mem ∧ u.courses = s.courses) ∧
    (s.faultSeen f = true → s.inRung2 f = false → s.ladder.warm = none → s.holdup.lastCourse = false → hasRung2 f = true → 0x0C ≤ f.val →
      (s.within (s.cfg (0x5100 + f) 2) x.recent).length < s.cfg 0x5000 1 → s.raws = [] → s.nvme = [] → s.lanes = [] → x.retries = [] →
      ∃ u, exec (.fault f .none st ext false) s = .next u ∧ (u.func f).rung2 = satAdd x.rung2 1 ∧ (u.func f).busy = some (s.aon, ext) ∧
        u.inRung2 f = true ∧ counted 243 u ∧ u.mem = s.mem) ∧
    (s.faultSeen f = true → s.inRung2 f = true ∨ s.ladder.warm.isSome = true → exec (.fault f op st ext false) s = joined) ∧
    (s.faultSeen f = false → exec (.fault f op st ext false) s = .next s) ∧
    (takeRetry op x.retries = some (r, rest) →
      (op ≠ .own → exec (.retryBackoffExpiry f op true) s = retry rest) ∧
      (r.tries + 1 < r.limit → exec (.retryBackoffExpiry f op false) s = retry ({ r with tries := r.tries + 1 } :: rest))) ∧
    (x.busy = some (since, ext) → 0x28 ≤ f.val → f.val ≤ 0x2F →
      ∃ u, exec (.rung2Complete f h) s = .next u ∧ u.inRung2 f = false ∧
        u.ladder.outageTotal = s.ladder.outageTotal + BitVec.ofNat 64 ((s.aon - since) / 76800) ∧ u.mem = s.mem) ∧
    (s.ladder.warm = some w → w.rung4 = true → ∃ u, exec .lcRung3LimitExpiry s = .next u ∧ u.power.phase = .cycle w.hold ∧ u.power.railEn = 0 ∧
      u.power.nextCause = 2 ∧ u.ladder.warm = none ∧ u.engines = [] ∧ u.sec.fuse = s.sec.fuse) ∧
    (s.ladder.warm = some w → w.rung4 = false → w.hot = false → exec .lcRung3LimitExpiry s = .next (s.start 3)) ∧
    (s.ladder.warm = none → exec .lcRung3LimitExpiry s = .next s) ∧
    (s.watchdogsRest = false → s.power.phase = .run ∨ s.power.phase = .park →
      (s.ladder.ewdLimit.look 0 e ≠ 0 → exec (.engineWatchdogExpiry e) s = .next ((s.raise 241).fault (e.val / 8) .none 0 false)) ∧
      (s.ladder.ewdLimit.look 0 e = 0 → exec (.engineWatchdogExpiry e) s = .next s)) ∧
    (s.watchdogsRest = false → s.power.phase = .run →
      (s.coursesOn t ≠ [] → exec (.tileWatchdogExpiry t) s = .next ((s.raise 242).fault t .none 0 false)) ∧
      (s.coursesOn t = [] → exec (.tileWatchdogExpiry t) s = .next s) ∧
      (s.ladder.dwdLimit ≠ 0 → s.ladder.warm = none → s.holdup.lastCourse = false → (s.within (s.cfg 0x5000 2) s.ladder.rung3At).length < s.cfg 0x5000 3 →
        ∃ b, exec .deviceWatchdogExpiry s = .next b.warmReset ∧ (b.func 0x6F).rung3 = satAdd (s.func 0x6F).rung3 1 ∧
          (∃ q, b.ladder.warm = some q ∧ q.rung4 = false ∧ q.f = 0x6F ∧ q.since = s.aon) ∧ b.holdup.closed = true ∧
          b.journal.now.ladder = true ∧ counted 243 b) ∧
      (s.ladder.warm = none → ∃ u, exec .alwaysOnWatchdogExpiry s = .next u ∧ u.power.phase = .cycle s.manyCycles ∧
        (u.func 0x6F).rung4 = satAdd (s.func 0x6F).rung4 1 ∧ u.power.railEn = 0 ∧ u.engines = [])) ∧
    (s.watchdogsRest = true → exec (.engineWatchdogExpiry e) s = .next s ∧ exec (.tileWatchdogExpiry t) s = .next s ∧
      exec .deviceWatchdogExpiry s = .next s ∧ exec .alwaysOnWatchdogExpiry s = .next s) ∧
    (s.fw m = true ∨ m.val = e.val → exec (.ewdKick m e v) s =
      .next { s with ladder := { s.ladder with ewdSince := s.ladder.ewdSince.put e s.aon } }) ∧
    (s.fw m = false → m.val ≠ e.val → exec (.ewdKick m e v) s = .next (s.addrFault m)) ∧
    (s.fw m = true → exec (.dwdKick m v) s = .next { s with ladder := { s.ladder with dwdSince := s.aon } }) ∧
    (s.fw m = true → ∃ u, exec (.awdKick m v) s = .next u ∧ u.ladder = { s.ladder with awdBoot := false, awdSince := s.aon } ∧
      (s.ladder.awdBoot = false → u.sec = s.sec)) ∧
    (s.fw m = false → exec (.dwdKick m v) s = .next (s.addrFault m) ∧ exec (.awdKick m v) s = .next (s.addrFault m))

/-- R339, R359, R361 to R367, R372, R373, R412: clocks, rails, power states, run control, temperature, boundary scan. -/
def Obligations.PowerAndRunControl : Prop :=
  ∀ (m : Master) (e : Eng) (t : Tile) (n : Fin 12) (cause : Fin 6) (k : Nat) (b rising : Bool) (tj : Int) (s : State),
    let p := s.power
    let pow := fun (q : Power) => (Host.Outcome.next { s with power := q } : Out)
    let cut := fun (o : Out) => ∃ u, o = .next u ∧ (∃ q, u.power.phase = .cycle q) ∧ u.power.railEn = 0 ∧ u.power.nextCause = 2 ∧
      (u.func 0x6F).rung4 = satAdd (s.func 0x6F).rung4 1 ∧ u.engines = [] ∧ u.mem = [] ∧ u.sec.fuse = s.sec.fuse
    let warn : Int := s.cfg 0x2003 3
    (p.phase = .run → exec .refclkLoss s = .next { s.offCore false with
      power := { p with phase := .noClock, refclkOk := false, pllLock := false, req := 0, reqPending := false }
      ladder := { s.ladder.off with warm := none } }) ∧
    (p.phase = .deep → exec .refclkLoss s = pow { p with refclkOk := false } ∧ exec .refclkReturn s = pow { p with refclkOk := true } ∧
      exec .pllLockLoss s = .next s) ∧
    (s.holdup.lastCourse = false → (p.phase = .noClock → cut (exec .refclkReturn s)) ∧ (p.phase = .run → cut (exec .pllLockLoss s)) ∧
      (p.phase = .run → n.val < 8 → p.railEn.getLsbD n = true → cut (exec (.pgLoss n) s))) ∧
    (s.holdup.lastCourse = true → p.phase = .run → n.val < 8 → p.railEn.getLsbD n = true → s.ladder.deferred = none →
      exec (.pgLoss n) s = .next { s with ladder := { s.ladder with deferred := some { f := 0x6F, st := 0, external := false, four := true } } } ∧
      exec .pllLockLoss s = .next { s with
        power := { p with pllLock := false }
        ladder := { s.ladder with deferred := some { f := 0x6F, st := 0, external := false, four := true } } }) ∧
    (p.railEn.getLsbD n = false → exec (.pgLoss n) s = .next s) ∧
    (s.runMaster m = true → exec (.pwrReqPark m) s = pow { p with req := 1, reqPending := true } ∧
      exec (.pwrReqDeep m) s = pow { p with req := 2, reqPending := true } ∧ exec (.pwrReqCancel m) s = pow { p with req := 0, reqPending := false } ∧
      (0 < t.val → (s.tile t).power = .banked → ∃ u, exec (.tilePwrRun m t) s = .next u ∧ (u.tile t).power = .run ∧
        (u.tile t).gen = (s.tile t).gen + 1 ∧ u.mem = s.mem ∧ u.engines = s.engines) ∧
      (0 < t.val → (s.tile t).power = .run → s.tileQuiet t = true → ∃ u, exec (.tilePwrBanked m t) s = .next u ∧
        (u.tile t).power = .banked ∧ (u.tile t).pwrReq = 1 ∧ u.mem = s.mem ∧
        ∀ k, ¬ (8 * t.val ≤ k ∧ k < 8 * t.val + 8) → u.eng k = s.eng k) ∧
      (0 < t.val → (s.tile t).power = .run → s.tileQuiet t = false →
        exec (.tilePwrBanked m t) s = .next (s.modTile t fun x => { x with pwrReq := 1 })) ∧
      (0 < t.val → (s.tile t).power = .run → s.courses.held = [] → s.lanes = [] →
        ∃ u, exec (.tilePwrCold m t) s = .next u ∧ (u.tile t).power = .cold ∧ (∀ i, i < 8 → u.eng (8 * t + i) = (s.eng (8 * t + i)).wiped) ∧
          (∀ k, ¬ (8 * t.val ≤ k ∧ k < 8 * t.val + 8) → u.eng k = s.eng k) ∧
          (∀ a, (0x780000000 + t.val * 0x100000 ≤ a ∧ a < 0x780000000 + (t.val + 1) * 0x100000) ∨
            (0x790000000 + t.val * 0x100000 ≤ a ∧ a < 0x790000000 + (t.val + 1) * 0x100000) → u.byteAt a = 0) ∧
          (∀ a, a < 0x370000000 → u.byteAt a = s.byteAt a)) ∧
      exec (.tilePwrCold m 0) s = .next s ∧
      (∀ q, (s.eng e).run = .halted q → (s.tile (e.val / 8)).power ≠ .cold → exec (.release m e) s = .next (s.setEng e { s.eng e with
        pc := (s.eng e).startPc, faulted := false, faultCase := 0, run := .running, haltReq := false, replay := [] })) ∧
      ((s.eng e).run = .running → (s.eng e).e1 = none → (s.eng e).rpti = none →
        exec (.haltReq m e) s = .next (s.setEng e { s.eng e with run := .halted false, haltReq := true }))) ∧
    (s.runMaster m = false → exec (.pwrReqPark m) s = .next (s.addrFault m) ∧ exec (.tilePwrCold m t) s = .next (s.addrFault m) ∧
      exec (.release m e) s = .next (s.addrFault m) ∧ exec (.haltReq m e) s = .next (s.addrFault m)) ∧
    (s.mayCommit = true → s.courses.held = [] → s.lanes = [] → s.holdup.ride = none → p.req = 1 →
      ∃ u, exec .powerStateCommit s = .next u ∧ u.power.phase = .park ∧ u.watcher.asleep = true ∧ u.power.req = 0 ∧
        u.power.railEn = p.railEn &&& 0xFF ∧ (u.tile 0).power = .banked ∧ (∀ i, 1 ≤ i → i ≤ 11 → (u.tile i).power = .cold) ∧ u.dict.ready = false) ∧
    (s.mayCommit = true → p.req = 2 → ∃ u, exec .powerStateCommit s = .next u ∧ u.power.phase = .deep ∧ u.power.railEn = 0 ∧
      u.watcher.asleep = true ∧ u.engines = [] ∧ u.mem = [] ∧ u.sec.fuse = s.sec.fuse) ∧
    (s.mayCommit = false → exec .powerStateCommit s = .next s) ∧
    (p.phase = .deep → p.refclkOk = true →
      let up := fun (c : Nat) => pow { p with phase := .rails 0, railEn := 1, nextCause := 5, railRow := 0
                                              wakeCause := if p.wakeCause = 0 then BitVec.ofNat 8 c else p.wakeCause }
      (s.wakeHolds cause = true → exec (.wake cause) s = up cause) ∧ (s.cfg 0x2002 4 ≠ 0 → exec .wakeTimerExpiry s = up 4)) ∧
    (p.phase = .park → s.wakeHolds cause = true → exec (.wake cause) s = .next (s.leavePark cause)) ∧
    (p.phase = .rails k → n.val = k →
      (k < 7 → exec (.railPowerGood n) s = pow { p with phase := .rails (k + 1), railEn := p.railEn ||| BitVec.ofNat 12 (2 ^ (k + 1)) }) ∧
      (k = 7 → exec (.railPowerGood n) s = .next (s.startNow p.nextCause)) ∧
      exec .railSequencingFault s = pow { p with
        phase := if p.railRow + 1 < 3 then .railRetry else .railStop, railRow := p.railRow + 1, railEn := 0
        railFaultStep := BitVec.ofNat 4 (k + 1), railFaults := satAdd p.railFaults 1 }) ∧
    (p.phase = .railRetry → exec .railSequenceRetry s = pow { p with phase := .rails 0, railEn := 1 }) ∧
    (p.phase = .cycle b → exec .pwrcycRelease s = pow { p with phase := .rails 0, railEn := 1, nextCause := 2, refclkOk := true, railRow := 0 }) ∧
    (p.phase = .off → s.holdup.ignition = true →
      exec .powerOnStart s = pow { p with phase := .rails 0, railEn := 1, nextCause := 1, refclkOk := true, railRow := 0 }) ∧
    (∃ u, exec .aonrstAssert s = .next u ∧ u.power.phase = .off ∧ u.power.railEn = 0 ∧ u.journal.valid = false ∧ u.ladder = {} ∧
      u.engines = [] ∧ u.mem = [] ∧ u.sec.fuse = s.sec.fuse ∧ u.sec.slot = s.sec.slot) ∧
    (p.phase ≠ .off → ∃ u, exec .extest s = .next u ∧ u.power.phase = .extest ∧ u.power.railEn = 0 ∧ u.engines = [] ∧ u.sec.fuse = s.sec.fuse) ∧
    (p.phase = .extest → exec .extestExit s = pow { p with phase := .rails 0, railEn := 1, nextCause := 7, railRow := 0 }) ∧
    (p.phase = .run → tj < 130 → tj < warn → exec (.thermalSample tj) s = pow (p.sampleTj tj (s.cfg 0x2003 3))) ∧
    (p.phase = .run → tj < 130 → warn ≤ tj → p.warned = false →
      exec (.thermalSample tj) s = .next ({ s with power := p.sampleTj tj (s.cfg 0x2003 3) }.raise 222)) ∧
    exec (.ignitionEdge rising) s = exec (.publication (if rising then 256 else 257) 1) { s with holdup := { s.holdup with
      ignition := rising, tested := if rising then false else s.holdup.tested } }

/-- R378 to R381, R384, R387, R395, R397: what arrives at an Ethernet port goes the one way of R380 that its class takes; a link that goes
down or comes up raises its source, and a PCIe link that is lost enters rung 2 of its function. -/
def Obligations.EthernetAndLinks : Prop :=
  ∀ (p : Fin 10) (k : Fin 5) (frame b : Bytes) (full rtsp zero : Bool) (key : BitVec 320) (peer src dst l cut : Nat) (e : Ether) (h : HostRead)
    (g : Func) (s : State),
    let i := s.iface
    let core := s.power.phase = .run ∨ s.power.phase = .park
    let run := s.power.phase = .run ∨ (s.power.phase = .park ∧ k.val = 4)
    let on := s.receiving (0x10 + p) = true ∧ i.ethMode.look 0 p ≠ 0
    let dropped : Out := .next { s with iface := { i with discards := i.discards.modify 0 (0x10 + p) (satAdd · frame.length) } }
    let toTile : Out := .next { s with iface := { i with tile0Frames := i.tile0Frames ++ [(p.val, e.bare)] } }
    let got := exec (.ethFrameReceived p frame full rtsp) s
    let kind := classify p (if s.ptpOn p then s.time.profile else 0) rtsp e
    let link := s.raise (128 + p)
    let bit := BitVec.ofNat 10 (2 ^ p.val)
    let mask := BitVec.ofNat 5 (2 ^ k.val)
    let src144 := if k.val = 4 then 148 else 144 + k.val
    (¬ on → got = .next s) ∧
    (on → readEther frame = none → got = dropped) ∧
    (on → readEther frame = some e →
      (kind = .discard → got = dropped) ∧ (kind = .ptp → got = .next s) ∧ (kind = .tile0 → got = toTile) ∧
      (kind = .other → s.rawWaits 0x20 p = none → got = dropped) ∧
      (kind = .udp key peer src dst b zero →
        (s.laneFor key = some l → ∃ t, got = .next t ∧ exec (.unitReceived key b full) s = .next t) ∧
        (s.laneFor key = none → dst = 47110 → s.cfg 0x5811 1 / 2 ^ p.val % 2 = 1 →
          ∃ t, got = .next t ∧ exec (.bumundDatagram peer p b zero) s = .next t) ∧
        (s.laneFor key = none → dst = 68 → bits key 0 8 = 1 → got = toTile) ∧
        (s.laneFor key = none → dst ≠ 47110 → dst ≠ 68 → rtcpKey key src dst b = none → s.rawWaits 0x20 p = none → got = dropped))) ∧
    (on → i.ethUp.getLsbD p = false → exec (.ethLinkChange p true cut) s = .next { link with iface := { i with ethUp := i.ethUp ||| bit } }) ∧
    (on → i.ethUp.getLsbD p = true → s.raws = [] → exec (.ethLinkChange p false cut) s = .next { link with
      iface := { i with ethUp := i.ethUp &&& ~~~bit, discards := i.discards.modify 0 (0x10 + p) (satAdd · cut) } }) ∧
    (i.ethUp.getLsbD p = full → exec (.ethLinkChange p full cut) s = .next s) ∧
    (core → exec .mdioTransactionComplete s = .next (s.raise 138)) ∧ (¬ core → exec .mdioTransactionComplete s = .next s) ∧
    (run → i.linkDown.getLsbD k = true → k.val ≠ 4 ∨ s.rings.scanOwed = false → exec (.pcieLinkUp k h) s =
      .next { s.raise src144 with iface := { i with linkDown := i.linkDown &&& ~~~mask } }) ∧
    (i.linkDown.getLsbD k = false → exec (.pcieLinkUp k h) s = .next s) ∧
    (i.linkDown.getLsbD k = true → exec (.pcieLinkDown k) s = .next s) ∧
    (run → i.linkDown.getLsbD k = false → s.raws = [] → s.nvme = [] → s.lanes = [] → g.val = 0x20 + k.val →
      (s.inRung2 g = true ∨ s.ladder.warm.isSome = true → ∃ t, exec (.pcieLinkDown k) s = .next t ∧
        t.iface = { i with linkDown := i.linkDown ||| mask } ∧ t.ladder = { s.ladder with joined := satAdd s.ladder.joined 1 } ∧ t.mem = s.mem) ∧
      (s.inRung2 g = false → s.ladder.warm = none → s.holdup.lastCourse = false → (s.func g).retries = [] →
        (s.within (s.cfg (0x5100 + g) 2) (s.func g).recent).length < s.cfg 0x5000 1 → ∃ t, exec (.pcieLinkDown k) s = .next t ∧
          t.iface = { i with linkDown := i.linkDown ||| mask } ∧ (t.func g).busy = some (s.aon, true) ∧ t.inRung2 g = true ∧
          (t.func g).rung2 = satAdd (s.func g).rung2 1 ∧ t.mem = s.mem)) ∧
    (core → g.val = 0x24 → s.power.pcieCc = true → ∃ t, exec .pcieRefclkLoss s = .next t ∧ exec (.fault g .none 0 true false) s = .next t) ∧
    (s.power.pcieCc = false → exec .pcieRefclkLoss s = .next s)

/-- R87, R103, R378, R387 to R391, R393 to R395, R397: the outcomes and arrivals of NVMe, USB, TDM, CAN FD, the board buses and the GPIO
lines. In PARK and DEEP only the lines of GPIO_WAKE publish (R237 and R394; log entry 98). -/
def Obligations.OutsideUnits : Prop :=
  ∀ (r : Fin 4) (cid : BitVec 16) (st : BitVec 15) (res : W64) (data block : Bytes) (m : Nat) (ms : List Nat) (o : RawOwner) (c : CtxId)
    (w : BitVec 256) (a : BitVec 40) (q : RawOp) (u : Fin 8) (n : Fin 32) (good rising : Bool) (key : BitVec 320) (size cut l : Nat) (g : Func)
    (s : State),
    let i := s.iface
    let run := s.power.phase = .run
    let core := s.power.phase = .run ∨ s.power.phase = .park
    let find := s.nvme.find? fun x => x.port == r.val && x.cid == cid
    let rest := s.nvme.filter fun x => !(x.port == r.val && x.cid == cid)
    let f := 0x20 + r.val
    let done := exec (.nvmeCompletion r cid st res data) s
    let late := exec (.nvmeTimeout r cid) s
    let retried := fun (x : Out) (status : Status) => ∃ t, x = .next t ∧ (t.func f).rung1 = satAdd (s.func f).rung1 1 ∧
      (t.func f).retries = (s.func f).retries ++ [{ op := .raw o, status := status, external := true, limit := s.tries f
                                                    window := s.cfg (0x5100 + f) 2, backoff := s.cfg (0x5100 + f) 3 }] ∧ t.nvme = s.nvme ∧ t.mem = s.mem
    let faulted := fun (x : Out) (g : Func) (op : FaultOp) (status : Status) (z : State) =>
      ∃ t, x = .next t ∧ exec (.fault g op status true false) z = .next t
    let stands := s.modLane l fun x => { x with ring := x.ring ++ [{ bytes := block, key := key, time := s.time.now }] }
    let taken := s.laneFor key = some l ∧ (s.lane l).active = true ∧ s.holdup.declared = false ∧ (s.lane l).ingest = none
    let dropped := fun (f n : Nat) => { s with iface := { i with discards := i.discards.modify 0 f (satAdd · n) } }
    (find = none → done = .next s ∧ late = .next s) ∧
    (s.inRung2 f = true → done = .next s) ∧
    (find = some { port := r, cid := cid, use := .raw o } → run → s.inRung2 f = false → s.retrying f o = false → s.ladder.warm = none →
      (st ≠ 0 → retried done 0x0703) ∧ retried late 0x0707) ∧
    (find = some { port := r, cid := cid, use := .flush m } → s.inRung2 f = false → s.holdup.flushing = some ms → ms.filter (· != m) ≠ [] →
      exec (.nvmeCompletion r cid 0 res data) s =
        .next { s with nvme := rest, holdup := { s.holdup with flushing := some (ms.filter (· != m)) } }) ∧
    (find = some { port := r, cid := cid, use := .raw (.course c) } → s.inRung2 f = false → s.raws = [q] → q.owner = .course c → q.op = 0x21 →
      q.skip = false → q.segs = [(a, q.count)] → a.getLsbD 39 = false → 0 < q.count → data.length = q.count →
      a.toNat + q.count ≤ 0x370000000 → (s.course c).word = some w → (s.course c).stop = false → (s.course c).total = 0 →
      (s.course c).gather = [] → (s.course c).segs = [] → wSpan w = false → wList w = false → wSkip w = false → wNext w = true → wPost w = false →
      s.holdup.declared = false →
      ∃ t, exec (.nvmeCompletion r cid 0 res data) s = .next t ∧ t.raws = [] ∧ t.nvme = rest ∧
        t.course c = (s.course c).next ((s.course c).addr + 32) ∧ (t.ctxRec c).lastStatus = 0 ∧ t.bytesAt a.toNat q.count = data ∧
        (∀ k, k < a.toNat ∨ a.toNat + q.count ≤ k → t.byteAt k = s.byteAt k)) ∧
    (s.receiving (0x28 + u) = true → s.cfg 0x5840 1 / 2 ^ u.val % 2 = 1 →
      (keyFunc key = 0x28 + u.val → size = 512 ∨ size = 4096 → ∃ t, exec (.usbAttach u true key size) s = .next t ∧
        t.iface = { i with usb := i.usb.put u (key, size) } ∧ t.mem = s.mem) ∧
      exec (.usbAttach u false key size) s = .next (s.raise (160 + u))) ∧
    (s.cfg 0x5840 1 / 2 ^ u.val % 2 = 0 → exec (.usbAttach u good key size) s = .next s) ∧
    (s.receiving (0x28 + u) = true → s.raws = [] → s.lanes = [] →
      exec (.usbDetach u) s = .next { s.raise (160 + u) with iface := { i with usb := i.usb.del u } }) ∧
    (s.receiving (0x30 + r) = true → (i.tdm.look {} r).role ≠ 0 →
      (s.keysOf (0x30 + r) = [key] → taken → exec (.tdmBlock r block false) s = .next (stands.eventOutput (66 + r)) ∧
        exec (.tdmBlock r block true) s = .next ((s.addRefused l block.length).raise (168 + r))) ∧
      (s.keysOf (0x30 + r) = [] → s.rawWaits 0x24 r = none → exec (.tdmBlock r block good) s = .next (dropped (0x30 + r) block.length)) ∧
      ((i.tdm.look {} r).role = 2 → s.keysOf (0x30 + r) = [] → g.val = 0x30 + r.val →
        faulted (exec (.tdmClockLoss r cut) s) g .none 0x0701 ((dropped (0x30 + r) cut).raise (168 + r)))) ∧
    ((i.tdm.look {} r).role = 0 → exec (.tdmBlock r block good) s = .next s ∧ exec (.tdmClockLoss r cut) s = .next s) ∧
    (s.receiving (0x34 + r) = true → (i.can.look {} r).mode ≠ 0 → i.busOff.getLsbD r = false →
      (s.keysOf (0x34 + r) = [key] → taken → exec (.canFrameReceived r block false) s = .next (stands.eventOutput (70 + r)) ∧
        exec (.canFrameReceived r block true) s = .next (s.addRefused l block.length)) ∧
      (s.keysOf (0x34 + r) = [] → s.rawWaits 0x23 r = none →
        exec (.canFrameReceived r block good) s = .next (dropped (0x34 + r) block.length)) ∧
      (g.val = 0x34 + r.val → faulted (exec (.canBusOff r) s) g .own 0x0701
        ({ s with iface := { i with busOff := i.busOff ||| BitVec.ofNat 4 (2 ^ r.val) } }.raise (172 + r)))) ∧
    (s.receiving (0x34 + r) = true → (i.can.look {} r).mode ≠ 0 → exec (.canErrorFrame r) s =
      .next { s with iface := { i with canErrors := i.canErrors.modify 0 r (· + 1) } }) ∧
    (i.busOff.getLsbD r = true → run → exec (.canFrameReceived r block good) s = .next s ∧ exec (.canBusOff r) s = .next s) ∧
    (core → exec .smbalert s = .next (s.raise 220) ∧ exec (.i2cTransactionComplete true) s = .next (s.raise 221) ∧
      (g.val = 0x39 → faulted (exec (.i2cTransactionComplete false) s) g .own 0x0707 (s.raise 221))) ∧
    (¬ core → exec .smbalert s = .next s ∧ exec (.i2cTransactionComplete good) s = .next s) ∧
    (run ∨ ((s.power.phase = .park ∨ s.power.phase = .deep ∧ s.power.refclkOk = true) ∧ s.cfg 0x5870 5 / 2 ^ n.val % 2 = 1) →
      s.cfg 0x5870 1 / 2 ^ n.val % 2 = 0 → exec (.gpioEdge n rising) s = .next
      (({ s with iface := { i with gpio := if rising then i.gpio ||| BitVec.ofNat 32 (2 ^ n.val)
                                           else i.gpio &&& ~~~(BitVec.ofNat 32 (2 ^ n.val)) } }).eventOutput
        (2 * n + (if rising then 0 else 1)))) ∧
    (s.power.phase = .park ∨ s.power.phase = .deep → s.cfg 0x5870 5 / 2 ^ n.val % 2 = 0 → exec (.gpioEdge n rising) s = .next s) ∧
    (s.receiving 0x3A = true → s.keysOf 0x3A = [key] → taken → exec (.gpioBlock block false) s = .next stands) ∧
    (s.receiving 0x3A = true → s.keysOf 0x3A = [] → exec (.gpioBlock block good) s = .next (dropped 0x3A block.length))

/-- R382, R383, R394, R398: a candidate locks after eight good Sync messages or four accepted edges and is then the source; a source that
loses its lock leaves the service in holdover, which the expiry ends; an edge outside PPS_WINDOW is rejected and counted; TOD_SET
applies at the next edge; an edge in DEEP only publishes (R237, log entry 98). -/
def Obligations.TimeService : Prop :=
  ∀ (p : Fin 10) (path : Path) (off : Int) (g : Option Nat) (v : BitVec 80) (b : Bytes) (s : State),
    let x := s.time
    let core := s.power.phase = .run ∨ s.power.phase = .park
    let sync := exec (.ptpMessage p (.sync off)) s
    let edge := exec .ppsEdge s
    let e := secondOffset x.now
    let set := fun (t : TimeSt) => (Host.Outcome.next { s with time := t } : Out)
    (s.ptpOn p = false → sync = .next s) ∧
    (s.ptpOn p = true → x.selected = none → x.ptpLocked = false → off.natAbs ≤ 1000 →
      (x.ptpRun < 7 → sync = set { x with ptpRun := x.ptpRun + 1, slew := -off * 768 }) ∧
      (x.ptpRun = 7 → ∃ t, sync = .next t ∧ t.time.ptpLocked = true ∧ t.time.source = (if x.profile = 1 then 1 else 2) ∧
        t.time.todGiven = true ∧ t.time.lastLock = some x.now ∧ t.time.slew = -off * 768 ∧ t.time.offset = BitVec.ofInt 32 off ∧ t.mem = s.mem)) ∧
    (s.ptpOn p = true → x.ptpLocked = true → x.selected = some false → 100000 < off.natAbs → off.natAbs ≤ 1000000 →
      ∃ t, sync = .next t ∧ t.time.ptpLocked = false ∧ t.time.source = 4 ∧ t.time.lastLock = some x.now ∧ t.time.ptpRun = 0 ∧ t.mem = s.mem) ∧
    (s.ptpOn p = true → exec (.ptpMessage p .other) s = .next s ∧
      (g ≠ s.iface.ptpMaster → exec (.ptpMessage p (.announce g)) s = .next (({ s with iface := { s.iface with ptpMaster := g } }).raise 139)) ∧
      exec (.ptpMessage p (.announce s.iface.ptpMaster)) s = .next s) ∧
    (x.ptpLocked = false → exec .ptpSyncTimeout s = set { x with ptpRun := 0 }) ∧
    (x.ptpLocked = true → x.selected = some false → ∃ t, exec .ptpSyncTimeout s = .next t ∧ t.time.source = 4 ∧ t.time.ptpLocked = false ∧
      t.time.lastLock = some x.now ∧ t.mem = s.mem) ∧
    (s.power.phase = .deep → s.power.refclkOk = true → edge = .next (s.eventOutput 64)) ∧
    (¬ core → s.power.phase ≠ .deep → edge = .next s) ∧
    (core → x.todNext = some v → bits v 48 32 = 0 → ∃ t, edge = .next t ∧ t.time.now = v ∧ t.time.todNext = none ∧
      t.time.todGiven = true ∧ t.time.ppsRun = x.ppsRun + 1 ∧ t.mem = s.mem) ∧
    (core → x.todNext = none → s.cfg 0x5820 6 * 1000 < e.natAbs → ∃ t, edge = .next t ∧
      t.time = { x with ppsRun := 0, ppsRejected := satAdd x.ppsRejected 1 } ∧ t.mem = s.mem) ∧
    (core → x.todNext = none → e.natAbs ≤ s.cfg 0x5820 6 * 1000 → e.natAbs ≤ 1000000 → x.selected = none → x.ppsLocked = false →
      (x.ppsRun < 3 → ∃ t, edge = .next t ∧ t.time = { x with ppsRun := x.ppsRun + 1, slew := -e * 768 } ∧ t.mem = s.mem) ∧
      (x.ppsRun = 3 → x.todGiven = true → ∃ t, edge = .next t ∧ t.time.ppsLocked = true ∧ t.time.source = 3 ∧ t.time.lastLock = some x.now ∧
        t.time.offset = BitVec.ofInt 32 e ∧ t.mem = s.mem)) ∧
    (x.ppsLocked = false → exec .ppsLoss s = set { x with ppsRun := 0 }) ∧
    (x.ppsLocked = true → x.selected = some true → ∃ t, exec .ppsLoss s = .next t ∧ t.time.source = 4 ∧ t.time.ppsLocked = false ∧
      t.time.lastLock = some x.now ∧ t.mem = s.mem) ∧
    (x.source = 4 → exec .holdoverExpiry s = .next (({ s with time := { x with source := 0 } }).raise 142)) ∧
    (x.source ≠ 4 → exec .holdoverExpiry s = .next s) ∧
    (s.asks path = true → s.role path = 3 → s.sec.fuse.lc ≠ 4 → b.length = 10 → exec (.todSet path b) s = .next
      (({ s.fresh with time := { x with todNext := some (BitVec.ofNat 80 (leNat b)) } }).sendAnswer path {}))

/-- R299, R301, R302, R304, R305, R318: a request is served at once or held; a read of a readable entry is answered with its value; a write
passes its checks in their order (ENDED, existence, access, role, length) or is answered with the abort code and status of the first
that fails and changes nothing; an object request sets or clears the hold of its handle's object, makes its cause pending or asks its
course to stop, and is refused on a stale handle or without a course. -/
def Obligations.DictionaryRequests : Prop :=
  ∀ (p : Path) (idx : BitVec 16) (sub : BitVec 8) (v : Bytes) (e : DEntry) (c : CtxId) (gen : BitVec 16) (s : State),
    let i := idx.toNat
    let n := sub.toNat
    let z := s.fresh
    let read := exec (.dictRead p idx sub) s
    let write := exec (.dictWrite p idx sub v) s
    let no := fun (abort : W32) (status : Status) => (Host.Outcome.next (z.sendAnswer p { abort := abort, status := status }) : Out)
    let check := z.writeCheck p i n v
    let r := s.ctxRec c
    let ask := fun (k : Nat) => s.asks p = true ∧ (z.writeCheck p 0x6F00 1 (toLE 3 c.val ++ toLE 2 gen.toNat ++ toLE 1 k ++ [0, 0])).good = true
    let stale := fun (k : Nat) (x : Out) =>
      ask k → r.gen ≠ gen → x = .next (z.staleRef.sendAnswer p { abort := 0x08000020, status := 0x0505 })
    let served := fun (x : Out) (meets : State → Prop) => ∃ t, x = .next t ∧ meets t ∧ t.dict.requests = s.dict.requests + 1 ∧
      t.reply = [{ dest := pathNum p }] ∧ t.mem = s.mem
    let held := fun (k : Nat) (x : Out) (on : Bool) => ask k → r.gen = gen → c ≠ 0 → r.course = false → r.state = 2 ∨ r.state = 3 →
      s.claimable c = true → (∀ e ∈ s.courses.held, e.1 ≠ c → s.ctx.setOf e.1 ≠ s.ctx.setOf c) →
      served x fun t => (t.ctxRec c).hold = on ∧ (t.ctxRec c).claimed = false ∧ (t.ctxRec c).state = r.state
    let caused := fun (k n : Nat) (x : Out) => ask k → r.gen = gen → c ≠ 0 → (n = 2 → s.razes c = false ∧ r.state ≠ 4) →
      (r.course = true → r.suspended = false → served x fun t => (t.ctxRec c).pending = r.pending ||| BitVec.ofNat 16 (2 ^ n) ∧
        t.courses.held = s.courses.held) ∧
      (r.course = false → x = .next (z.sendAnswer p { abort := 0x08000020, status := 0x0504 }))
    (s.serving = false → p ≠ .canopen → s.power.phase = .run ∨ s.power.phase = .park → exec (.dictRead p idx sub) s = .next { z with
      dict := { s.dict with held := s.dict.held ++ [.call { path := p, idx := idx, sub := sub, val := none }] } }) ∧
    (s.usdoServed = false → p = .canopen → read = .next s ∧ write = .next s) ∧
    (s.asks p = true →
      (findEntry i n = .ok e →
        (e.acc ≠ .wo → (dictEntry i n).isSome = true → i ≠ 0x1001 → i ≠ 0x4801 → i ≠ 0x4820 →
          read = .next (z.sendAnswer p { data := z.dictValue p i n })) ∧
        (e.acc = .wo → read = no 0x06010001 0x0103) ∧
        (s.sec.fuse.lc ≠ 4 → e.acc = .ro ∨ e.acc = .const → write = no 0x06010002 0x0103) ∧
        (s.sec.fuse.lc ≠ 4 → e.acc = .rw →
          (s.role p < writeRole i n v → writeRole i n v = 3 → (∀ q ∈ s.dict.session, q.1 ≠ pathNum p) → write = no 0x08000000 0x0802) ∧
          (s.role p < writeRole i n v → writeRole i n v ≠ 3 ∨ s.dict.session.any (·.1 == pathNum p) = true →
            write = no 0x06010000 0x0801) ∧
          (writeRole i n v ≤ s.role p → e.ty.fits v = false → write = no 0x06070010 0x0107))) ∧
      (i = 0x1001 → n = 0 → read = .next (({ z with dict := { z.dict with errorReg := z.dict.errorReg &&& 4 } }).sendAnswer p
        { data := [s.dict.errorReg] })) ∧
      (indexExists i = false → dictEntry i n = none → read = no 0x06020000 0x0103 ∧ (s.sec.fuse.lc ≠ 4 → write = no 0x06020000 0x0103)) ∧
      (indexExists i = true → n ≠ 0 → dictEntry i n = none → read = no 0x06090011 0x0103) ∧
      (s.sec.fuse.lc = 4 → write = no 0x08000022 0x0805) ∧
      (check.good = false → write = .next (z.sendAnswer p check)) ∧
      (check.good = true → i = 0x2000 ∨ (0x6800 ≤ i ∧ i < 0x6900) ∨ i = 0x5810 →
        ∃ t, write = .next t ∧ t.dictBytes i n = v ∧ (∀ j k, dictKey j k ≠ dictKey i n → t.dictBytes j k = s.dictBytes j k) ∧
          t.reply = [{ dest := pathNum p }] ∧ t.mem = s.mem ∧ t.engines = s.engines)) ∧
    stale 1 (exec (.objectHoldSet p c gen) s) ∧ stale 2 (exec (.objectHoldClear p c gen) s) ∧ stale 3 (exec (.objectOffload p c gen) s) ∧
    stale 4 (exec (.objectRaze p c gen) s) ∧ stale 5 (exec (.objectResume p c gen) s) ∧ stale 6 (exec (.objectStop p c gen) s) ∧
    held 1 (exec (.objectHoldSet p c gen) s) true ∧ held 2 (exec (.objectHoldClear p c gen) s) false ∧
    caused 3 2 (exec (.objectOffload p c gen) s) ∧ caused 4 7 (exec (.objectRaze p c gen) s) ∧ caused 5 4 (exec (.objectResume p c gen) s) ∧
    (ask 6 → r.gen = gen → c ≠ 0 → r.course = true → r.suspended = false → (s.course c).wait = none → (s.course c).word.isSome = true →
      served (exec (.objectStop p c gen) s) fun t => t.course c = { s.course c with stop := true } ∧ (t.ctxRec c).course = true)

/-- R48, R134, R303, R311, R312, R315, R316, R331: the entries whose write does more than set a value. A flow key is bound behind its
lane's keys; an epoch and a key revocation are in force at once; a store is begun with the values of its instant and answered when its
copy is verified or has failed; a challenge is 48 fresh bytes, a verified response opens the path's session, and the session ends by a
request or idle. -/
def Obligations.StoresKeysAndSessions : Prop :=
  ∀ (p : Path) (l : Lane) (n : Fin 4) (slot : Fin 16) (v c : Bytes) (w : BitVec 8) (x : BitVec 32) (copy : Nat) (e : BindEntry) (s : State),
    let z := s.fresh
    let d := s.dict
    let path := pathNum p
    let key := keyOfBytes v
    let i := 0x3200 + l.val
    let bound := s.bind.order.look [] l
    let ok := fun (i n : Nat) (v : Bytes) => s.asks p = true ∧ (s.fresh.writeCheck p i n v).good = true
    let yes := fun (t : State) => (Host.Outcome.next (t.sendAnswer p {}) : Out)
    let no := fun (t : State) (abort : W32) (status : Status) => (Host.Outcome.next (t.sendAnswer p { abort := abort, status := status }) : Out)
    let idle := ∀ l, l < 256 → s.laneCfg l 1 = 0
    let r := v.getD 0 0
    let signer := s.dictBytes 0x4802 (r.toNat + 1)
    let opens := ok 0x4801 2 v ∧ (s.sec.fuse.lc = 1 ∨ s.sec.fuse.lc = 2 ∨ s.sec.fuse.lc = 3) ∧ d.challenge.find? (·.1 == path) = some (path, c) ∧
      r.toNat ≤ 3 ∧ signer ≠ [] ∧ s.cfg 0x4802 5 / 2 ^ r.toNat % 2 = 0 ∧ path ≠ 1
    (ok 0x5800 1 [w] → (s.holdup.declared = true → exec (.wytheSetWrite p w) s = no z 0x08000020 0x0402) ∧
      (s.holdup.declared = false → idle → s.lanes = [] → ∃ t, exec (.wytheSetWrite p w) s = .next t ∧
        t.wythes.configured = s.wythes.configured &&& w.setWidth 2 ∧ t.dictBytes 0x5800 1 = [w] ∧ t.reply = [{ dest := path }])) ∧
    (ok i (n + 1) v → v ≠ [] →
      (s.bind.lookup key = some e → e.learned = false → s.dictBytes i (n + 1) ≠ v → exec (.keyWrite p l n v) s = no z 0x08000021 0x0103) ∧
      (s.bind.lookup key = none → s.dictBytes i (n + 1) = [] → bound.length < 8 → (s.lane l).active = true → keyFunc key < 0x28 →
        (z.bindInsert (z.laneEntry l key)).1 = true → ∃ t, exec (.keyWrite p l n v) s = .next t ∧ t.dictBytes i (n + 1) = v ∧
          t.bind.order.look [] l = bound ++ [key] ∧ t.reply = [{ dest := path }] ∧ t.mem = s.mem)) ∧
    (ok (0x4840 + slot) 1 (toLE 4 x.toNat) → idle → exec (.epochWrite p slot x) s = yes (z.setDict (0x4840 + slot) 1 (toLE 4 x.toNat))) ∧
    (s.asks p = true → s.sec.fuse.lc ≠ 4 → 8 ≤ slot.val → exec (.epochWrite p slot x) s = no z 0x06020000 0x0103) ∧
    (ok 0x4802 5 [w] → ∃ t, exec (.keysRevoked p w) s = .next t ∧ t.dictBytes 0x4802 5 = [w] ∧
      t.dict.session = d.session.filter (fun q => w.toNat / 2 ^ q.2.1 % 2 == 0) ∧ t.reply = [{ dest := path }] ∧ t.mem = s.mem) ∧
    (ok 0x1010 1 v → (s.sec.fuse.lc = 0 → exec (.storeAll p v) s = no z 0x08000022 0x0805) ∧
      (s.sec.fuse.lc ≠ 0 → s.holdup.declared = true → exec (.storeAll p v) s = no z 0x08000020 0x0402) ∧
      (s.sec.fuse.lc ≠ 0 → s.holdup.declared = false → exec (.storeAll p v) s = .next { z with
        sec := { s.sec with storing := some (z.copyBytes z.nextCopy.2 (z.configEntries false), z.nextCopy.1, p) } })) ∧
    (ok 0x1011 1 v → s.sec.fuse.lc ≠ 0 → s.holdup.declared = false → exec (.restoreAll p v) s = .next { z with
        sec := { s.sec with storing := some (z.copyBytes z.nextCopy.2 (z.configEntries true), z.nextCopy.1, p) } }) ∧
    (s.sec.storing = some (c, copy, p) → d.held = [] → path ≠ 1 → d.keyPending = none → d.mailOwed = none →
      let done := fun (b : Bytes) => { z with sec := { s.sec with storing := none, config := s.sec.config.put copy b } }
      exec (.configStoreComplete true) s = yes (done c) ∧
      exec (.configStoreComplete false) s = no ((done []).raise 250) 0x08000020 0x0707) ∧
    (s.sec.storing = none → exec (.configStoreComplete true) s = .next s ∧ exec (.configStoreComplete false) s = .next s) ∧
    (s.asks p = true → (s.sec.trngOk = true ∨ s.sec.generated < 2 ^ 20 →
        let b := toBE 48 (Config.drbg s.sec.drawn).toNat
        ∃ t, exec (.challenge p) s = .next t ∧ t.dict.challenge = d.challenge.put path b ∧ t.sec.drawn = s.sec.drawn + 1 ∧
          t.reply = [{ dest := path, data := b }] ∧ t.dict.session = d.session ∧ t.mem = s.mem) ∧
      (s.sec.trngOk = false → 2 ^ 20 ≤ s.sec.generated → exec (.challenge p) s = no z 0x05040000 0x0707)) ∧
    (opens → exec (.response p v) s =
      (if Config.ecdsaVerify signer (c ++ toLE 4 s.sec.fuse.serial.toNat ++ [BitVec.ofNat 8 path, r]) (slice v 1 96) then
        yes { z with dict := { d with challenge := d.challenge.del path, session := d.session.put path (r.toNat, pathPeer p) } }
      else no (z.raise 251) 0x08000000 0x0802)) ∧
    (ok 0x4801 2 v → s.sec.fuse.lc = 1 → d.challenge.find? (·.1 == path) = none → exec (.response p v) s = no (z.raise 251) 0x08000000 0x0802) ∧
    (ok 0x4801 4 [1] → exec (.sessionClose p) s = yes { z with dict := { d with session := d.session.del path } }) ∧
    exec (.challengeExpiry p) s = .next { s with dict := { d with challenge := d.challenge.del path } } ∧
    exec (.sessionIdleExpiry p) s = .next { s with dict := { d with session := d.session.del path } }

/-- R305 to R309: the two protocols of the dictionary. A USDO frame is served in pre-operational and operational; a value too long for one
frame goes in segments, at most one transfer a client and eight in all, and a segment that does not come ends it; NMT commands move the
node's state and a reset ends transfers and path 0's session. A Bumund datagram is served on an enabled port, a malformed one is
counted, a repeated SEQ gets the same answer and executes nothing. The form of the longest expedited value is log entry 25. -/
def Obligations.CanopenAndBumund : Prop :=
  ∀ (node : BitVec 8) (idx : BitVec 16) (sub : BitVec 8) (v b d : Bytes) (total k : Nat) (op : UsdoOp) (a : Answer) (peer : Nat) (port : Fin 10)
    (zero : Bool) (cmd : BitVec 8) (s : State),
    let z := s.fresh
    let x := s.dict
    let n := node.toNat
    let usdo := fun (op : UsdoOp) => exec (.usdoRequest node op) s
    let state := fun (m : Nmt) => (Host.Outcome.next { s with dict := { x with nmt := m } } : Out)
    let slots := fun (t : Tab UsdoXfer) => { z with dict := { x with usdo := t } }
    let tells := fun (t : State) (a : Answer) => (Host.Outcome.next (t.sendAnswer .canopen a) : Out)
    let mine := x.usdo.find? (·.1 == n)
    let q := x.peer peer
    let got := exec (.bumundDatagram peer port b zero) s
    let enabled := s.cfg 0x5811 1 / 2 ^ port.val % 2 = 1
    let served := s.serving = true ∧ s.sec.restarting = false
    let y := z.setPeer q
    (s.usdoServed = false ∨ x.ready = false → usdo op = .next s) ∧
    (s.asks .canopen = true →
      (mine = none → x.usdo.length < 8 → ∃ t, usdo (.download idx sub v) = .next t ∧ exec (.dictWrite .canopen idx sub v) s = .next t) ∧
      (mine = none → x.usdo.length < 8 → (z.perform .canopen idx.toNat sub.toNat none).2 = some a → a.good = true → a.data.length ≤ 56 →
        ∃ t, usdo (.upload idx sub) = .next t ∧ exec (.dictRead .canopen idx sub) s = .next t) ∧
      (z.perform .canopen idx.toNat sub.toNat none = (z, some a) → a.good = true → 56 < a.data.length → mine = none → x.usdo.length < 8 →
        usdo (.upload idx sub) = tells (slots (x.usdo.put n (.up a.data))) { data := toLE 4 a.data.length }) ∧
      (8 ≤ x.usdo.length ∨ x.usdo.any (·.1 == n) = true →
        usdo (.beginDown idx sub total) = tells z { abort := 0x05040005, status := 0x0501 } ∧
        usdo (.download idx sub v) = tells z { abort := 0x05040005, status := 0x0501 } ∧
        usdo (.upload idx sub) = tells z { abort := 0x05040005, status := 0x0501 }) ∧
      (x.usdo = [] → usdo (.beginDown idx sub total) = tells (slots (x.usdo.put n (.down idx sub total []))) {}) ∧
      (mine = none → usdo (.segmentDown v) = tells z { abort := 0x05040001, status := 0x0107 } ∧
        usdo (.segmentUp k) = tells z { abort := 0x05040001, status := 0x0107 }) ∧
      (mine = some (n, .up d) → k < d.length → usdo (.segmentUp k) = tells (slots (x.usdo.put n (.up (d.drop k)))) { data := d.take k }) ∧
      (mine = some (n, .up d) → d.length ≤ k → usdo (.segmentUp k) = tells (slots (x.usdo.del n)) { data := d }) ∧
      (mine = some (n, .down idx sub total d) →
        ((d ++ v).length < total → usdo (.segmentDown v) = tells (slots (x.usdo.put n (.down idx sub total (d ++ v)))) {}) ∧
        (total < (d ++ v).length → usdo (.segmentDown v) = tells (slots (x.usdo.del n)) { abort := 0x05030000, status := 0x0107 }) ∧
        ((d ++ v).length = total → ∃ t, usdo (.segmentDown v) = .next t ∧
          exec (.dictWrite .canopen idx sub (d ++ v)) { s with dict := { x with usdo := x.usdo.del n } } = .next t))) ∧
    (x.usdo.any (·.1 == n) = true → exec (.usdoSegmentTimeout node) s = tells (slots (x.usdo.del n)) { abort := 0x05040000, status := 0x0707 }) ∧
    (x.usdo.any (·.1 == n) = false → exec (.usdoSegmentTimeout node) s = .next s) ∧
    (x.ready = false → exec .nmtResetApplication s = .next s ∧ exec .nmtResetCommunication s = .next s ∧
      exec (.nmtStateCommand cmd) s = .next s) ∧
    (x.ready = true → (∃ t, exec .nmtResetApplication s = .next t ∧ exec .nmtResetCommunication s = .next t ∧ t.dict.nmt = .preOperational ∧
        t.dict.usdo = [] ∧ t.dict.nmtSent = x.nmtSent ++ [.initialisation] ∧ t.dict.session = x.session.del 0 ∧
        t.dict.challenge = x.challenge.del 0 ∧ (t.iface.can.look {} 0).node = s.cfg 0x5810 1 ∧ t.mem = s.mem ∧ t.engines = s.engines) ∧
      exec (.nmtStateCommand 1) s = state .operational ∧ exec (.nmtStateCommand 2) s = state .stopped ∧
      exec (.nmtStateCommand 128) s = state .preOperational ∧
      (cmd ≠ 1 → cmd ≠ 2 → cmd ≠ 128 → exec (.nmtStateCommand cmd) s = .next s)) ∧
    (s.cfg 0x1017 0 ≠ 0 → x.nmt ≠ .initialisation → exec .heartbeat s = .next { s with dict := { x with nmtSent := x.nmtSent ++ [x.nmt] } }) ∧
    (s.cfg 0x1017 0 = 0 ∨ x.nmt = .initialisation → exec .heartbeat s = .next s) ∧
    (¬ enabled → got = .next s) ∧
    (enabled → bumundOk b zero = false → got = .next { s with dict := { x with discarded := satAdd x.discarded 1 } }) ∧
    (enabled → bumundOk b zero = true → served → q.owed = none →
      (q.last = some (bSeq b, d) → ∃ t, got = .next t ∧ t.reply.map (·.data) = [d] ∧ t.dict.vals = x.vals ∧ t.sec = s.sec ∧ t.mem = s.mem ∧
        t.dict.peer peer = q) ∧
      (q.last = none → bOp b = 1 → bOffset b = 0 → y.perform (.bumund peer) (bIdx b) (bSub b) none = (y, some { data := d }) →
        ∃ t, got = .next t ∧ ∃ m, t.reply = [{ dest := 1, peer := some peer, data := m }] ∧ m.drop 32 = d.take 1408 ∧ slice m 5 1 = [0x81] ∧ slice m 8 4 = slice b 8 4 ∧
          (t.dict.peer peer).kept = some (bIdx b, bSub b, d) ∧ (t.dict.peer peer).last = some (bSeq b, m) ∧ t.mem = s.mem) ∧
      (q.last = none → bOp b ≠ 1 → bOp b ≠ 2 → ∃ t, got = .next t ∧ ∃ m,
        t.reply = [{ dest := 1, peer := some peer, status := 0x0107, abort := 0x05040001, data := m }] ∧ t.dict.vals = x.vals ∧ t.mem = s.mem) ∧
      (q.last = none → bOp b = 2 → bOffset b = 0 → bLast b = false → bLen b ≤ bTotal b → ∃ t, got = .next t ∧
        (t.dict.peer peer).write = some (bIdx b, bSub b, bTotal b, slice b 32 (bLen b)) ∧ t.dict.vals = x.vals ∧ t.mem = s.mem)) ∧
    exec (.bumundTransferIdle peer) s = .next { s with dict := { x with peers := x.peers.map fun w =>
      if w.id = peer then { w with write := none, kept := none } else w } }

/-- R210, R320, R322, R323, R326 to R329, R334, R336, R337, R340: entropy failures and reseeds are counted, a source that fails or recovers
without power shows at the next start (log entry 115); a written image stands in the inactive slot; ACTIVATE records a verified image
for a trial boot and refuses another with source 253; boot keys, the security floor and the life cycle move one way; an accepted
transition burns the fuse and restarts the device; a report is signed by the identity key. -/
def Obligations.EntropyImagesAndLifeCycle : Prop :=
  ∀ (p : Path) (n : Fin 4) (v : Bytes) (w : BitVec 8) (r : Running) (g : Func) (s : State),
    let z := s.fresh
    let x := s.sec
    let f := x.fuse
    let ok := fun (i n : Nat) (v : Bytes) => s.asks p = true ∧ (s.fresh.writeCheck p i n v).good = true
    let yes := fun (t : State) => (Host.Outcome.next (t.sendAnswer p {}) : Out)
    let no := fun (t : State) (abort : W32) (status : Status) => (Host.Outcome.next (t.sendAnswer p { abort := abort, status := status }) : Out)
    let on := s.power.phase.powered = true
    let source := fun (bad : Bool) => (Host.Outcome.next { s with sec := { x with trngBad := bad } } : Out)
    let fails := { s with sec := { x with trngOk := false, trngBad := true, trngFails := satAdd x.trngFails 1 } }.raise 252
    let burnt := fun (g : Fuses) => { z with sec := { x with fuse := g } }
    let all := f.bootRevoked ||| w.setWidth 4
    let target := fieldAt v 0 1
    let asked := ok 0x4830 1 v ∧ v.length = 8
    let rightful := fieldAt v 1 3 = 0 ∧ fieldAt v 4 4 = f.serial.toNat ∧ lcTransition f.lc target = true
    let idle := ∀ l, l < 256 → s.laneCfg l 1 = 0 ∧ (s.lane l).inflight = 0
    (on → exec .trngTestFailure s = .next fails) ∧ (¬ on → exec .trngTestFailure s = source true) ∧
    (x.trngOk = false → exec .drbgReseed s = .next s ∧
      (on → exec (.trngRetest true) s = .next { s with sec := { x with trngOk := true, trngBad := false } } ∧
        exec (.trngRetest false) s = .next fails) ∧
      (¬ on → exec (.trngRetest true) s = source false ∧ exec (.trngRetest false) s = source true)) ∧
    (g.val = 0x65 → x.trngOk = false → ∃ t, exec .trngFailTimeout s = .next t ∧ exec (.fault g .none 0 false false) s = .next t) ∧
    (x.trngOk = true → exec .trngFailTimeout s = .next s) ∧
    (x.trngOk = true → exec (.trngRetest true) s = .next s ∧ exec (.trngRetest false) s = .next s ∧
      exec .drbgReseed s = .next { s with sec := { x with reseeds := x.reseeds + 1, generated := 0 } }) ∧
    (ok 0x7001 1 v → (v.length ≤ 0x1F00000 → exec (.image p v) s = yes { z with sec := { x with slot := x.slot.put s.inactive.toNat v } }) ∧
      (0x1F00000 < v.length → exec (.image p v) s = no z 0x08000020 0x0107)) ∧
    (ok 0x7001 2 [1] → exec (.activate p) s =
      (if z.imageStatus (z.slotImage z.inactive) (z.storedNumber 0x7000 4) = 0 then yes { z with sec := x.writeBoot s.inactive 1 }
      else no (z.raise 253) 0x08000020 (z.imageStatus (z.slotImage z.inactive) (z.storedNumber 0x7000 4)))) ∧
    (ok 0x4870 5 [w] → w.toNat < 16 → x.running = some r →
      ((w.setWidth 4).getLsbD r.key = true → exec (.bootKeyRevoke p w) s = no z 0x08000020 0x0806) ∧
      ((w.setWidth 4).getLsbD r.key = false → f.bootKeys all = [] → exec (.bootKeyRevoke p w) s = no z 0x06090030 0x0107) ∧
      ((w.setWidth 4).getLsbD r.key = false → f.bootKeys all ≠ [] →
        exec (.bootKeyRevoke p w) s = yes (burnt { f with bootRevoked := all }))) ∧
    (ok 0x4870 6 [w] → x.running = some r →
      (f.secFloor ≤ w.toNat → w.toNat ≤ r.secEpoch → exec (.secEpochFloor p w) s = yes (burnt { f with secFloor := w.toNat })) ∧
      (w.toNat < f.secFloor ∨ r.secEpoch < w.toNat → exec (.secEpochFloor p w) s = no z 0x06090030 0x0107)) ∧
    (ok 0x4870 (n + 1) v →
      (f.bootDigest.look 0 n = 0 →
        exec (.bootKeyDigest p n v) s = yes (burnt { f with bootDigest := f.bootDigest.put n (BitVec.ofNat 384 (beNat v)) })) ∧
      (f.bootDigest.look 0 n ≠ 0 → exec (.bootKeyDigest p n v) s = no z 0x08000021 0x0103)) ∧
    (asked → ¬ rightful → exec (.lcRequest p v) s = no z 0x06090030 0x0107) ∧
    (asked → rightful → s.holdup.declared = true → exec (.lcRequest p v) s = no z 0x08000020 0x0402) ∧
    (asked → rightful → s.holdup.declared = false → target = 1 → f.serial = 0 → exec (.lcRequest p v) s = no z 0x08000020 0x0805) ∧
    (asked → rightful → s.holdup.declared = false → idle → target = 1 → f.serial ≠ 0 → f.bootKeys f.bootRevoked ≠ [] →
      let t := z.lcBurn 1
      exec (.lcRequest p v) s = .next ((t.sendAnswer p {}).start 6) ∧ t.sec.fuse.lc = 1 ∧ t.sec.fuse.serial = f.serial ∧ t.sec.config = []) ∧
    (asked → rightful → s.holdup.declared = false → idle → target = 4 →
      let t := z.lcBurn 4
      exec (.lcRequest p v) s = .next ((t.sendAnswer p {}).start 6) ∧ t.sec.fuse.lc = 4 ∧ t.sec.fuse.identityDestroyed = true ∧
        t.sec.fuse.sealDestroyed = true ∧ t.sec.config = []) ∧
    (s.asks p = true → (z.hasIdentity = true →
        exec (.attestReport p) s = .next (z.sendAnswer p { data := z.attestation (pathNum p) })) ∧
      (z.hasIdentity = false → exec (.attestReport p) s = no z 0x08000022 0x0805))
end

