-- ==== Sys2Proof/Laws/Dispatch.lean ====
section
/-! SUPPORT. What exec calls for each command: the arm of every constructor. -/
namespace Sys2Proof.Machine

@[simp] theorem exec_unitReceived (key : BitVec 320) (unit : Bytes) (ringFull : Bool) (s : State) : exec (.unitReceived key unit ringFull) s = execUnitReceived key unit ringFull s := rfl
@[simp] theorem exec_recordOffered (l : Lane) (s : State) : exec (.recordOffered l) s = execRecordOffered l s := rfl
@[simp] theorem exec_brickAgeExpiry (l : Lane) (s : State) : exec (.brickAgeExpiry l) s = execBrickAgeExpiry l s := rfl
@[simp] theorem exec_sealComplete (l : Lane) (s : State) : exec (.sealComplete l) s = execSealComplete l s := rfl
@[simp] theorem exec_wytheWriteComplete (l : Lane) (isRecord : Bool) (w : Fin 2) (lba : Nat) (s : State) : exec (.wytheWriteComplete l isRecord w lba) s = execWytheWriteComplete l isRecord w lba s := rfl
@[simp] theorem exec_journalApply (l : Option Lane) (s : State) : exec (.journalApply l) s = execJournalApply l s := rfl
@[simp] theorem exec_laneOpenRetry (l : Lane) (s : State) : exec (.laneOpenRetry l) s = execLaneOpenRetry l s := rfl
@[simp] theorem exec_objectSpanExpiry (l : Lane) (s : State) : exec (.objectSpanExpiry l) s = execObjectSpanExpiry l s := rfl
@[simp] theorem exec_rtpPacketReceived (l : Lane) (s : State) : exec (.rtpPacketReceived l) s = execRtpPacketReceived l s := rfl
@[simp] theorem exec_reorderTimeout (l : Lane) (ssrc : BitVec 32) (s : State) : exec (.reorderTimeout l ssrc) s = execReorderTimeout l ssrc s := rfl
@[simp] theorem exec_copePeriodExpiry (l : Lane) (s : State) : exec (.copePeriodExpiry l) s = execCopePeriodExpiry l s := rfl
@[simp] theorem exec_copingRecordSigned (l : Lane) (s : State) : exec (.copingRecordSigned l) s = execCopingRecordSigned l s := rfl
@[simp] theorem exec_retentionSweep (s : State) : exec .retentionSweep s = execRetentionSweep s := rfl
@[simp] theorem exec_razeRecordDurable (c : CtxId) (s : State) : exec (.razeRecordDurable c) s = execRazeRecordDurable c s := rfl
@[simp] theorem exec_horizonUpdate (vLow : Nat) (tBank : Int) (s : State) : exec (.horizonUpdate vLow tBank) s = execHorizonUpdate vLow tBank s := rfl
@[simp] theorem exec_holdupInadequateClear (s : State) : exec .holdupInadequateClear s = execHoldupInadequateClear s := rfl
@[simp] theorem exec_bankTestStart (why : BankDue) (bank : BankReading) (s : State) : exec (.bankTestStart why bank) s = execBankTestStart why bank s := rfl
@[simp] theorem exec_bankTestComplete (charge : TestCharge) (change : TestStep) (s : State) : exec (.bankTestComplete charge change) s = execBankTestComplete charge change s := rfl
@[simp] theorem exec_drillRequest (s : State) : exec .drillRequest s = execDrillRequest s := rfl
@[simp] theorem exec_drillStart (s : State) : exec .drillStart s = execDrillStart s := rfl
@[simp] theorem exec_drillComplete (energy : DrillEnergy) (s : State) : exec (.drillComplete energy) s = execDrillComplete energy s := rfl
@[simp] theorem exec_drillOverdue (s : State) : exec .drillOverdue s = execDrillOverdue s := rfl
@[simp] theorem exec_currentSample (microAmps : Int) (s : State) : exec (.currentSample microAmps) s = execCurrentSample microAmps s := rfl
@[simp] theorem exec_leakageCheck (vBank : Nat) (s : State) : exec (.leakageCheck vBank) s = execLeakageCheck vBank s := rfl
@[simp] theorem exec_supplySample (vSup : Nat) (vBank : Nat) (s : State) : exec (.supplySample vSup vBank) s = execSupplySample vSup vBank s := rfl
@[simp] theorem exec_tDeclareExpiry (s : State) : exec .tDeclareExpiry s = execTDeclareExpiry s := rfl
@[simp] theorem exec_supplyReturnRestart (s : State) : exec .supplyReturnRestart s = execSupplyReturnRestart s := rfl
@[simp] theorem exec_restartScan (l : Lane) (medium : Medium) (s : State) : exec (.restartScan l medium) s = execRestartScan l medium s := rfl
@[simp] theorem exec_contextRestore (found : List MemberScan) (s : State) : exec (.contextRestore found) s = execContextRestore found s := rfl
@[simp] theorem exec_commandWordFetch (c : CtxId) (hostWord : Bytes) (s : State) : exec (.commandWordFetch c hostWord) s = execCommandWordFetch c hostWord s := rfl
@[simp] theorem exec_courseStart (e : Eng) (tileGen : BitVec 16) (handle : CtxHandle) (addr : BitVec 40) (status : BitVec 40) (notify : Option (BitVec 8)) (s : State) : exec (.courseStart e tileGen handle addr status notify) s = execCourseStart e tileGen handle addr status notify s := rfl
@[simp] theorem exec_resumeCause (ask : CtxAsk) (cause : Fin 16) (s : State) : exec (.resumeCause ask cause) s = execResumeCause ask cause s := rfl
@[simp] theorem exec_waitTimeout (c : CtxId) (s : State) : exec (.waitTimeout c) s = execWaitTimeout c s := rfl
@[simp] theorem exec_stopRequest (ask : CtxAsk) (s : State) : exec (.stopRequest ask) s = execStopRequest ask s := rfl
@[simp] theorem exec_courseNop (c : CtxId) (s : State) : exec (.courseNop c) s = execCourseNop c s := rfl
@[simp] theorem exec_jump (c : CtxId) (s : State) : exec (.jump c) s = execJump c s := rfl
@[simp] theorem exec_branch (c : CtxId) (s : State) : exec (.branch c) s = execBranch c s := rfl
@[simp] theorem exec_wait (c : CtxId) (s : State) : exec (.wait c) s = execWait c s := rfl
@[simp] theorem exec_post (c : CtxId) (s : State) : exec (.post c) s = execPost c s := rfl
@[simp] theorem exec_ingest (c : CtxId) (host : HostRead) (s : State) : exec (.ingest c host) s = execIngest c host s := rfl
@[simp] theorem exec_seal (c : CtxId) (s : State) : exec (.seal c) s = execSeal c s := rfl
@[simp] theorem exec_cope (c : CtxId) (s : State) : exec (.cope c) s = execCope c s := rfl
@[simp] theorem exec_append (c : CtxId) (host : HostRead) (medium : Medium) (s : State) : exec (.append c host medium) s = execAppend c host medium s := rfl
@[simp] theorem exec_read (c : CtxId) (host : HostRead) (medium : Medium) (s : State) : exec (.read c host medium) s = execRead c host medium s := rfl
@[simp] theorem exec_verify (c : CtxId) (medium : Medium) (s : State) : exec (.verify c medium) s = execVerify c medium s := rfl
@[simp] theorem exec_raze (c : CtxId) (medium : Medium) (s : State) : exec (.raze c medium) s = execRaze c medium s := rfl
@[simp] theorem exec_move (c : CtxId) (s : State) : exec (.move c) s = execMove c s := rfl
@[simp] theorem exec_ledger (c : CtxId) (s : State) : exec (.ledger c) s = execLedger c s := rfl
@[simp] theorem exec_eth (c : CtxId) (host : HostRead) (s : State) : exec (.eth c host) s = execEth c host s := rfl
@[simp] theorem exec_nvme (c : CtxId) (host : HostRead) (s : State) : exec (.nvme c host) s = execNvme c host s := rfl
@[simp] theorem exec_usb (c : CtxId) (host : HostRead) (s : State) : exec (.usb c host) s = execUsb c host s := rfl
@[simp] theorem exec_can (c : CtxId) (host : HostRead) (s : State) : exec (.can c host) s = execCan c host s := rfl
@[simp] theorem exec_tdm (c : CtxId) (host : HostRead) (s : State) : exec (.tdm c host) s = execTdm c host s := rfl
@[simp] theorem exec_contextClaim (c : CtxId) (claimants : List Claimant) (s : State) : exec (.contextClaim c claimants) s = execContextClaim c claimants s := rfl
@[simp] theorem exec_contextRelease (request : Claimant) (c : CtxId) (s : State) : exec (.contextRelease request c) s = execContextRelease request c s := rfl
@[simp] theorem exec_contextAllocate (request : Claimant) (s : State) : exec (.contextAllocate request) s = execContextAllocate request s := rfl
@[simp] theorem exec_contextFree (request : Claimant) (c : CtxId) (gen : BitVec 16) (s : State) : exec (.contextFree request c gen) s = execContextFree request c gen s := rfl
@[simp] theorem exec_locExtTakeRetry (c : CtxId) (s : State) : exec (.locExtTakeRetry c) s = execLocExtTakeRetry c s := rfl
@[simp] theorem exec_rekeyRequest (s : State) : exec .rekeyRequest s = execRekeyRequest s := rfl
@[simp] theorem exec_rekeySwitch (s : State) : exec .rekeySwitch s = execRekeySwitch s := rfl
@[simp] theorem exec_hodSubmit (m : Master) (h : Hod) (addr : BitVec 35) (s : State) : exec (.hodSubmit m h addr) s = execHodSubmit m h addr s := rfl
@[simp] theorem exec_hodEnWrite (m : Master) (h : Hod) (en : Bool) (s : State) : exec (.hodEnWrite m h en) s = execHodEnWrite m h en s := rfl
@[simp] theorem exec_hodDisSet (m : Master) (h : Hod) (s : State) : exec (.hodDisSet m h) s = execHodDisSet m h s := rfl
@[simp] theorem exec_hodDisClear (m : Master) (h : Hod) (s : State) : exec (.hodDisClear m h) s = execHodDisClear m h s := rfl
@[simp] theorem exec_descriptorStart (h : Hod) (s : State) : exec (.descriptorStart h) s = execDescriptorStart h s := rfl
@[simp] theorem exec_descriptorComplete (h : Hod) (s : State) : exec (.descriptorComplete h) s = execDescriptorComplete h s := rfl
@[simp] theorem exec_droppingClear (h : Hod) (s : State) : exec (.droppingClear h) s = execDroppingClear h s := rfl
@[simp] theorem exec_mfsr (e : Eng) (rd : Reg) (sr : BitVec 4) (s : State) : exec (.mfsr e rd sr) s = execMfsr e rd sr s := rfl
@[simp] theorem exec_mtsr (e : Eng) (sr : BitVec 4) (ra : Reg) (s : State) : exec (.mtsr e sr ra) s = execMtsr e sr ra s := rfl
@[simp] theorem exec_add (e : Eng) (rd : Reg) (ra : Reg) (rb : Reg) (s : State) : exec (.add e rd ra rb) s = execAdd e rd ra rb s := rfl
@[simp] theorem exec_sub (e : Eng) (rd : Reg) (ra : Reg) (rb : Reg) (s : State) : exec (.sub e rd ra rb) s = execSub e rd ra rb s := rfl
@[simp] theorem exec_and (e : Eng) (rd : Reg) (ra : Reg) (rb : Reg) (s : State) : exec (.and e rd ra rb) s = execAnd e rd ra rb s := rfl
@[simp] theorem exec_or (e : Eng) (rd : Reg) (ra : Reg) (rb : Reg) (s : State) : exec (.or e rd ra rb) s = execOr e rd ra rb s := rfl
@[simp] theorem exec_xor (e : Eng) (rd : Reg) (ra : Reg) (rb : Reg) (s : State) : exec (.xor e rd ra rb) s = execXor e rd ra rb s := rfl
@[simp] theorem exec_neg (e : Eng) (rd : Reg) (ra : Reg) (s : State) : exec (.neg e rd ra) s = execNeg e rd ra s := rfl
@[simp] theorem exec_abs (e : Eng) (rd : Reg) (ra : Reg) (s : State) : exec (.abs e rd ra) s = execAbs e rd ra s := rfl
@[simp] theorem exec_min (e : Eng) (rd : Reg) (ra : Reg) (rb : Reg) (s : State) : exec (.min e rd ra rb) s = execMin e rd ra rb s := rfl
@[simp] theorem exec_max (e : Eng) (rd : Reg) (ra : Reg) (rb : Reg) (s : State) : exec (.max e rd ra rb) s = execMax e rd ra rb s := rfl
@[simp] theorem exec_minu (e : Eng) (rd : Reg) (ra : Reg) (rb : Reg) (s : State) : exec (.minu e rd ra rb) s = execMinu e rd ra rb s := rfl
@[simp] theorem exec_maxu (e : Eng) (rd : Reg) (ra : Reg) (rb : Reg) (s : State) : exec (.maxu e rd ra rb) s = execMaxu e rd ra rb s := rfl
@[simp] theorem exec_sll (e : Eng) (rd : Reg) (ra : Reg) (rb : Reg) (s : State) : exec (.sll e rd ra rb) s = execSll e rd ra rb s := rfl
@[simp] theorem exec_srl (e : Eng) (rd : Reg) (ra : Reg) (rb : Reg) (s : State) : exec (.srl e rd ra rb) s = execSrl e rd ra rb s := rfl
@[simp] theorem exec_sra (e : Eng) (rd : Reg) (ra : Reg) (rb : Reg) (s : State) : exec (.sra e rd ra rb) s = execSra e rd ra rb s := rfl
@[simp] theorem exec_ror (e : Eng) (rd : Reg) (ra : Reg) (rb : Reg) (s : State) : exec (.ror e rd ra rb) s = execRor e rd ra rb s := rfl
@[simp] theorem exec_rol (e : Eng) (rd : Reg) (ra : Reg) (rb : Reg) (s : State) : exec (.rol e rd ra rb) s = execRol e rd ra rb s := rfl
@[simp] theorem exec_seq (e : Eng) (rd : Reg) (ra : Reg) (rb : Reg) (s : State) : exec (.seq e rd ra rb) s = execSeq e rd ra rb s := rfl
@[simp] theorem exec_sne (e : Eng) (rd : Reg) (ra : Reg) (rb : Reg) (s : State) : exec (.sne e rd ra rb) s = execSne e rd ra rb s := rfl
@[simp] theorem exec_slt (e : Eng) (rd : Reg) (ra : Reg) (rb : Reg) (s : State) : exec (.slt e rd ra rb) s = execSlt e rd ra rb s := rfl
@[simp] theorem exec_sltu (e : Eng) (rd : Reg) (ra : Reg) (rb : Reg) (s : State) : exec (.sltu e rd ra rb) s = execSltu e rd ra rb s := rfl
@[simp] theorem exec_sle (e : Eng) (rd : Reg) (ra : Reg) (rb : Reg) (s : State) : exec (.sle e rd ra rb) s = execSle e rd ra rb s := rfl
@[simp] theorem exec_sleu (e : Eng) (rd : Reg) (ra : Reg) (rb : Reg) (s : State) : exec (.sleu e rd ra rb) s = execSleu e rd ra rb s := rfl
@[simp] theorem exec_mul (e : Eng) (ra : Reg) (rb : Reg) (s : State) : exec (.mul e ra rb) s = execMul e ra rb s := rfl
@[simp] theorem exec_mulu (e : Eng) (ra : Reg) (rb : Reg) (s : State) : exec (.mulu e ra rb) s = execMulu e ra rb s := rfl
@[simp] theorem exec_divs (e : Eng) (ra : Reg) (rb : Reg) (s : State) : exec (.divs e ra rb) s = execDivs e ra rb s := rfl
@[simp] theorem exec_divu (e : Eng) (ra : Reg) (rb : Reg) (s : State) : exec (.divu e ra rb) s = execDivu e ra rb s := rfl
@[simp] theorem exec_mulResult (e : Eng) (s : State) : exec (.mulResult e) s = execMulResult e s := rfl
@[simp] theorem exec_divResult (e : Eng) (s : State) : exec (.divResult e) s = execDivResult e s := rfl
@[simp] theorem exec_ldw (e : Eng) (rd : Reg) (ra : Reg) (u4 : BitVec 4) (ecc : Fin 3) (s : State) : exec (.ldw e rd ra u4 ecc) s = execLdw e rd ra u4 ecc s := rfl
@[simp] theorem exec_stw (e : Eng) (rs : Reg) (ra : Reg) (u4 : BitVec 4) (s : State) : exec (.stw e rs ra u4) s = execStw e rs ra u4 s := rfl
@[simp] theorem exec_ldwi (e : Eng) (rd : Reg) (ra : Reg) (s4 : BitVec 4) (ecc : Fin 3) (s : State) : exec (.ldwi e rd ra s4 ecc) s = execLdwi e rd ra s4 ecc s := rfl
@[simp] theorem exec_stwi (e : Eng) (rs : Reg) (ra : Reg) (s4 : BitVec 4) (s : State) : exec (.stwi e rs ra s4) s = execStwi e rs ra s4 s := rfl
@[simp] theorem exec_addi (e : Eng) (rd : Reg) (s8 : BitVec 8) (s : State) : exec (.addi e rd s8) s = execAddi e rd s8 s := rfl
@[simp] theorem exec_movi (e : Eng) (rd : Reg) (s8 : BitVec 8) (s : State) : exec (.movi e rd s8) s = execMovi e rd s8 s := rfl
@[simp] theorem exec_bz (e : Eng) (rs : Reg) (s8 : BitVec 8) (s : State) : exec (.bz e rs s8) s = execBz e rs s8 s := rfl
@[simp] theorem exec_bnz (e : Eng) (rs : Reg) (s8 : BitVec 8) (s : State) : exec (.bnz e rs s8) s = execBnz e rs s8 s := rfl
@[simp] theorem exec_bra (e : Eng) (s12 : BitVec 12) (s : State) : exec (.bra e s12) s = execBra e s12 s := rfl
@[simp] theorem exec_nop (e : Eng) (s : State) : exec (.nop e) s = execNop e s := rfl
@[simp] theorem exec_halt (e : Eng) (s : State) : exec (.halt e) s = execHalt e s := rfl
@[simp] theorem exec_di (e : Eng) (s : State) : exec (.di e) s = execDi e s := rfl
@[simp] theorem exec_ei (e : Eng) (s : State) : exec (.ei e) s = execEi e s := rfl
@[simp] theorem exec_reti (e : Eng) (s : State) : exec (.reti e) s = execReti e s := rfl
@[simp] theorem exec_waite (e : Eng) (s : State) : exec (.waite e) s = execWaite e s := rfl
@[simp] theorem exec_waitt (e : Eng) (ra : Reg) (s : State) : exec (.waitt e ra) s = execWaitt e ra s := rfl
@[simp] theorem exec_waitConditionMet (e : Eng) (s : State) : exec (.waitConditionMet e) s = execWaitConditionMet e s := rfl
@[simp] theorem exec_waittTargetReached (e : Eng) (s : State) : exec (.waittTargetReached e) s = execWaittTargetReached e s := rfl
@[simp] theorem exec_sende (e : Eng) (ra : Reg) (s : State) : exec (.sende e ra) s = execSende e ra s := rfl
@[simp] theorem exec_rpt (e : Eng) (nm1 : BitVec 6) (body : EOp) (bad : Option Nat) (s : State) : exec (.rpt e nm1 body bad) s = execRpt e nm1 body bad s := rfl
@[simp] theorem exec_rpti (e : Eng) (body : EOp) (stop : Option Nat) (errors : RptiErrors) (s : State) : exec (.rpti e body stop errors) s = execRpti e body stop errors s := rfl
@[simp] theorem exec_jmp (e : Eng) (ra : Reg) (s : State) : exec (.jmp e ra) s = execJmp e ra s := rfl
@[simp] theorem exec_callr (e : Eng) (ra : Reg) (s : State) : exec (.callr e ra) s = execCallr e ra s := rfl
@[simp] theorem exec_mfb (e : Eng) (rd : Reg) (b : BankReg) (s : State) : exec (.mfb e rd b) s = execMfb e rd b s := rfl
@[simp] theorem exec_mtb (e : Eng) (b : BankReg) (ra : Reg) (s : State) : exec (.mtb e b ra) s = execMtb e b ra s := rfl
@[simp] theorem exec_addiL (e : Eng) (rd : Reg) (ra : Reg) (s18 : BitVec 18) (s : State) : exec (.addiL e rd ra s18) s = execAddiL e rd ra s18 s := rfl
@[simp] theorem exec_andi (e : Eng) (rd : Reg) (ra : Reg) (s18 : BitVec 18) (s : State) : exec (.andi e rd ra s18) s = execAndi e rd ra s18 s := rfl
@[simp] theorem exec_ori (e : Eng) (rd : Reg) (ra : Reg) (s18 : BitVec 18) (s : State) : exec (.ori e rd ra s18) s = execOri e rd ra s18 s := rfl
@[simp] theorem exec_xori (e : Eng) (rd : Reg) (ra : Reg) (s18 : BitVec 18) (s : State) : exec (.xori e rd ra s18) s = execXori e rd ra s18 s := rfl
@[simp] theorem exec_slli (e : Eng) (rd : Reg) (ra : Reg) (s18 : BitVec 18) (s : State) : exec (.slli e rd ra s18) s = execSlli e rd ra s18 s := rfl
@[simp] theorem exec_srli (e : Eng) (rd : Reg) (ra : Reg) (s18 : BitVec 18) (s : State) : exec (.srli e rd ra s18) s = execSrli e rd ra s18 s := rfl
@[simp] theorem exec_srai (e : Eng) (rd : Reg) (ra : Reg) (s18 : BitVec 18) (s : State) : exec (.srai e rd ra s18) s = execSrai e rd ra s18 s := rfl
@[simp] theorem exec_rori (e : Eng) (rd : Reg) (ra : Reg) (s18 : BitVec 18) (s : State) : exec (.rori e rd ra s18) s = execRori e rd ra s18 s := rfl
@[simp] theorem exec_roli (e : Eng) (rd : Reg) (ra : Reg) (s18 : BitVec 18) (s : State) : exec (.roli e rd ra s18) s = execRoli e rd ra s18 s := rfl
@[simp] theorem exec_seqi (e : Eng) (rd : Reg) (ra : Reg) (s18 : BitVec 18) (s : State) : exec (.seqi e rd ra s18) s = execSeqi e rd ra s18 s := rfl
@[simp] theorem exec_snei (e : Eng) (rd : Reg) (ra : Reg) (s18 : BitVec 18) (s : State) : exec (.snei e rd ra s18) s = execSnei e rd ra s18 s := rfl
@[simp] theorem exec_slti (e : Eng) (rd : Reg) (ra : Reg) (s18 : BitVec 18) (s : State) : exec (.slti e rd ra s18) s = execSlti e rd ra s18 s := rfl
@[simp] theorem exec_sltui (e : Eng) (rd : Reg) (ra : Reg) (s18 : BitVec 18) (s : State) : exec (.sltui e rd ra s18) s = execSltui e rd ra s18 s := rfl
@[simp] theorem exec_sgti (e : Eng) (rd : Reg) (ra : Reg) (s18 : BitVec 18) (s : State) : exec (.sgti e rd ra s18) s = execSgti e rd ra s18 s := rfl
@[simp] theorem exec_sgtui (e : Eng) (rd : Reg) (ra : Reg) (s18 : BitVec 18) (s : State) : exec (.sgtui e rd ra s18) s = execSgtui e rd ra s18 s := rfl
@[simp] theorem exec_li (e : Eng) (rd : Reg) (imm : BitVec 24) (s : State) : exec (.li e rd imm) s = execLi e rd imm s := rfl
@[simp] theorem exec_ldwL (e : Eng) (rd : Reg) (ra : Reg) (s18 : BitVec 18) (ecc : Fin 3) (s : State) : exec (.ldwL e rd ra s18 ecc) s = execLdwL e rd ra s18 ecc s := rfl
@[simp] theorem exec_stwL (e : Eng) (rs : Reg) (ra : Reg) (s18 : BitVec 18) (s : State) : exec (.stwL e rs ra s18) s = execStwL e rs ra s18 s := rfl
@[simp] theorem exec_ldB (e : Eng) (rd : Reg) (b : BankReg) (ra : Reg) (s18 : BitVec 18) (s : State) : exec (.ldB e rd b ra s18) s = execLdB e rd b ra s18 s := rfl
@[simp] theorem exec_ldBS (e : Eng) (rd : Reg) (b : BankReg) (ra : Reg) (s18 : BitVec 18) (s : State) : exec (.ldBS e rd b ra s18) s = execLdBS e rd b ra s18 s := rfl
@[simp] theorem exec_ldH (e : Eng) (rd : Reg) (b : BankReg) (ra : Reg) (s18 : BitVec 18) (s : State) : exec (.ldH e rd b ra s18) s = execLdH e rd b ra s18 s := rfl
@[simp] theorem exec_ldHS (e : Eng) (rd : Reg) (b : BankReg) (ra : Reg) (s18 : BitVec 18) (s : State) : exec (.ldHS e rd b ra s18) s = execLdHS e rd b ra s18 s := rfl
@[simp] theorem exec_ldT (e : Eng) (rd : Reg) (b : BankReg) (ra : Reg) (s18 : BitVec 18) (s : State) : exec (.ldT e rd b ra s18) s = execLdT e rd b ra s18 s := rfl
@[simp] theorem exec_stB (e : Eng) (rs : Reg) (b : BankReg) (ra : Reg) (s18 : BitVec 18) (s : State) : exec (.stB e rs b ra s18) s = execStB e rs b ra s18 s := rfl
@[simp] theorem exec_stH (e : Eng) (rs : Reg) (b : BankReg) (ra : Reg) (s18 : BitVec 18) (s : State) : exec (.stH e rs b ra s18) s = execStH e rs b ra s18 s := rfl
@[simp] theorem exec_stT (e : Eng) (rs : Reg) (b : BankReg) (ra : Reg) (s18 : BitVec 18) (s : State) : exec (.stT e rs b ra s18) s = execStT e rs b ra s18 s := rfl
@[simp] theorem exec_loadDataReturn (e : Eng) (ecc : Fin 3) (s : State) : exec (.loadDataReturn e ecc) s = execLoadDataReturn e ecc s := rfl
@[simp] theorem exec_storeBufferDrain (e : Eng) (s : State) : exec (.storeBufferDrain e) s = execStoreBufferDrain e s := rfl
@[simp] theorem exec_bzL (e : Eng) (rs : Reg) (s18 : BitVec 18) (s : State) : exec (.bzL e rs s18) s = execBzL e rs s18 s := rfl
@[simp] theorem exec_bnzL (e : Eng) (rs : Reg) (s18 : BitVec 18) (s : State) : exec (.bnzL e rs s18) s = execBnzL e rs s18 s := rfl
@[simp] theorem exec_braL (e : Eng) (s18 : BitVec 18) (s : State) : exec (.braL e s18) s = execBraL e s18 s := rfl
@[simp] theorem exec_call (e : Eng) (s18 : BitVec 18) (s : State) : exec (.call e s18) s = execCall e s18 s := rfl
@[simp] theorem exec_sendei (e : Eng) (n : Chan) (s : State) : exec (.sendei e n) s = execSendei e n s := rfl
@[simp] theorem exec_customerOpcode (e : Eng) (n : Reg) (rd : Reg) (ra : Reg) (x : BitVec 2) (imm : BitVec 18) (events : MicroEvents) (data : Option Nat) (s : State) : exec (.customerOpcode e n rd ra x imm events data) s = execCustomerOpcode e n rd ra x imm events data s := rfl
@[simp] theorem exec_interruptEntry (e : Eng) (s : State) : exec (.interruptEntry e) s = execInterruptEntry e s := rfl
@[simp] theorem exec_sourceArrival (n : Src) (s : State) : exec (.sourceArrival n) s = execSourceArrival n s := rfl
@[simp] theorem exec_srcCountRead (m : Master) (n : Src) (s : State) : exec (.srcCountRead m n) s = execSrcCountRead m n s := rfl
@[simp] theorem exec_snapSel (m : Master) (n : Src) (s : State) : exec (.snapSel m n) s = execSnapSel m n s := rfl
@[simp] theorem exec_raise (m : Master) (n : Src) (s : State) : exec (.raise m n) s = execRaise m n s := rfl
@[simp] theorem exec_delivery (t : Target) (s : State) : exec (.delivery t) s = execDelivery t s := rfl
@[simp] theorem exec_moderationExpiry (t : Target) (s : State) : exec (.moderationExpiry t) s = execModerationExpiry t s := rfl
@[simp] theorem exec_publication (ch : Chan) (k : Nat) (s : State) : exec (.publication ch k) s = execPublication ch k s := rfl
@[simp] theorem exec_publish (e : Eng) (val : W24) (s : State) : exec (.publish e val) s = execPublish e val s := rfl
@[simp] theorem exec_arrTake (t : TaskInput) (s : State) : exec (.arrTake t) s = execArrTake t s := rfl
@[simp] theorem exec_blockTaskStart (t : TaskInput) (s : State) : exec (.blockTaskStart t) s = execBlockTaskStart t s := rfl
@[simp] theorem exec_rearmBlockEnd (ch : Chan) (s : State) : exec (.rearmBlockEnd ch) s = execRearmBlockEnd ch s := rfl
@[simp] theorem exec_rateWindowEnd (s : State) : exec .rateWindowEnd s = execRateWindowEnd s := rfl
@[simp] theorem exec_coursePortTake (ch : Chan) (s : State) : exec (.coursePortTake ch) s = execCoursePortTake ch s := rfl
@[simp] theorem exec_routerSnapSel (m : Master) (t : TaskInput) (s : State) : exec (.routerSnapSel m t) s = execRouterSnapSel m t s := rfl
@[simp] theorem exec_send (m : Master) (ch : Mbox) (val : BitVec 32) (s : State) : exec (.send m ch val) s = execSend m ch val s := rfl
@[simp] theorem exec_ack (m : Master) (ch : Mbox) (val : BitVec 32) (s : State) : exec (.ack m ch val) s = execAck m ch val s := rfl
@[simp] theorem exec_mailboxLock (m : Master) (s : State) : exec (.mailboxLock m) s = execMailboxLock m s := rfl
@[simp] theorem exec_crossingDetected (a : Mbox) (b : Mbox) (s : State) : exec (.crossingDetected a b) s = execCrossingDetected a b s := rfl
@[simp] theorem exec_submitHi (e : Eng) (val : BitVec 32) (s : State) : exec (.submitHi e val) s = execSubmitHi e val s := rfl
@[simp] theorem exec_submit12Lo (m : Master) (val : BitVec 32) (s : State) : exec (.submit12Lo m val) s = execSubmit12Lo m val s := rfl
@[simp] theorem exec_mortarJobComplete (u : Fin 10) (s : State) : exec (.mortarJobComplete u) s = execMortarJobComplete u s := rfl
@[simp] theorem exec_starvationDetected (inp : Fin 15) (s : State) : exec (.starvationDetected inp) s = execStarvationDetected inp s := rfl
@[simp] theorem exec_slotStart (arrivals : SlotArrivals) (s : State) : exec (.slotStart arrivals) s = execSlotStart arrivals s := rfl
@[simp] theorem exec_slotSel (m : Master) (val : BitVec 32) (s : State) : exec (.slotSel m val) s = execSlotSel m val s := rfl
@[simp] theorem exec_frameBoundary (s : State) : exec .frameBoundary s = execFrameBoundary s := rfl
@[simp] theorem exec_queueEnable (m : Master) (q : QueueId) (host : HostRead) (s : State) : exec (.queueEnable m q host) s = execQueueEnable m q host s := rfl
@[simp] theorem exec_queueDisable (m : Master) (q : QueueId) (s : State) : exec (.queueDisable m q) s = execQueueDisable m q s := rfl
@[simp] theorem exec_sqDoorbell (m : Master) (q : QueueId) (val : BitVec 32) (s : State) : exec (.sqDoorbell m q val) s = execSqDoorbell m q val s := rfl
@[simp] theorem exec_cqDoorbell (m : Master) (q : QueueId) (val : BitVec 32) (s : State) : exec (.cqDoorbell m q val) s = execCqDoorbell m q val s := rfl
@[simp] theorem exec_entryTake (host : HostRead) (s : State) : exec (.entryTake host) s = execEntryTake host s := rfl
@[simp] theorem exec_nopEntry (q : QueueId) (s : State) : exec (.nopEntry q) s = execNopEntry q s := rfl
@[simp] theorem exec_startEntry (q : QueueId) (s : State) : exec (.startEntry q) s = execStartEntry q s := rfl
@[simp] theorem exec_signalEntry (q : QueueId) (s : State) : exec (.signalEntry q) s = execSignalEntry q s := rfl
@[simp] theorem exec_stopEntry (q : QueueId) (s : State) : exec (.stopEntry q) s = execStopEntry q s := rfl
@[simp] theorem exec_holdEntry (q : QueueId) (s : State) : exec (.holdEntry q) s = execHoldEntry q s := rfl
@[simp] theorem exec_writeEntry (q : QueueId) (source : WriteSource) (s : State) : exec (.writeEntry q source) s = execWriteEntry q source s := rfl
@[simp] theorem exec_mortarEntry (q : QueueId) (s : State) : exec (.mortarEntry q) s = execMortarEntry q s := rfl
@[simp] theorem exec_completionPosted (q : QueueId) (s : State) : exec (.completionPosted q) s = execCompletionPosted q s := rfl
@[simp] theorem exec_kx1200Nop (q : QueueId) (s : State) : exec (.kx1200Nop q) s = execKx1200Nop q s := rfl
@[simp] theorem exec_ethTx (q : QueueId) (host : HostRead) (s : State) : exec (.ethTx q host) s = execEthTx q host s := rfl
@[simp] theorem exec_ethRx (q : QueueId) (s : State) : exec (.ethRx q) s = execEthRx q s := rfl
@[simp] theorem exec_nvmCmd (q : QueueId) (host : HostRead) (s : State) : exec (.nvmCmd q host) s = execNvmCmd q host s := rfl
@[simp] theorem exec_usbRead (q : QueueId) (s : State) : exec (.usbRead q) s = execUsbRead q s := rfl
@[simp] theorem exec_usbCapacity (q : QueueId) (s : State) : exec (.usbCapacity q) s = execUsbCapacity q s := rfl
@[simp] theorem exec_usbInquiry (q : QueueId) (s : State) : exec (.usbInquiry q) s = execUsbInquiry q s := rfl
@[simp] theorem exec_canTx (q : QueueId) (host : HostRead) (s : State) : exec (.canTx q host) s = execCanTx q host s := rfl
@[simp] theorem exec_canRx (q : QueueId) (s : State) : exec (.canRx q) s = execCanRx q s := rfl
@[simp] theorem exec_tdmTx (q : QueueId) (host : HostRead) (s : State) : exec (.tdmTx q host) s = execTdmTx q host s := rfl
@[simp] theorem exec_tdmRx (q : QueueId) (s : State) : exec (.tdmRx q) s = execTdmRx q s := rfl
@[simp] theorem exec_dictRead (path : Path) (idx : BitVec 16) (sub : BitVec 8) (s : State) : exec (.dictRead path idx sub) s = execDictRead path idx sub s := rfl
@[simp] theorem exec_dictWrite (path : Path) (idx : BitVec 16) (sub : BitVec 8) (val : Bytes) (s : State) : exec (.dictWrite path idx sub val) s = execDictWrite path idx sub val s := rfl
@[simp] theorem exec_registerWrite (m : Master) (t : RegTarget) (val : BitVec 32) (s : State) : exec (.registerWrite m t val) s = execRegisterWrite m t val s := rfl
@[simp] theorem exec_wytheSetWrite (path : Path) (val : BitVec 8) (s : State) : exec (.wytheSetWrite path val) s = execWytheSetWrite path val s := rfl
@[simp] theorem exec_keyWrite (path : Path) (l : Lane) (n : Fin 4) (val : Bytes) (s : State) : exec (.keyWrite path l n val) s = execKeyWrite path l n val s := rfl
@[simp] theorem exec_epochWrite (path : Path) (slot : Fin 16) (val : BitVec 32) (s : State) : exec (.epochWrite path slot val) s = execEpochWrite path slot val s := rfl
@[simp] theorem exec_keysRevoked (path : Path) (val : BitVec 8) (s : State) : exec (.keysRevoked path val) s = execKeysRevoked path val s := rfl
@[simp] theorem exec_usdoRequest (node : BitVec 8) (op : UsdoOp) (s : State) : exec (.usdoRequest node op) s = execUsdoRequest node op s := rfl
@[simp] theorem exec_usdoSegmentTimeout (node : BitVec 8) (s : State) : exec (.usdoSegmentTimeout node) s = execUsdoSegmentTimeout node s := rfl
@[simp] theorem exec_nmtResetApplication (s : State) : exec .nmtResetApplication s = execNmtResetApplication s := rfl
@[simp] theorem exec_nmtResetCommunication (s : State) : exec .nmtResetCommunication s = execNmtResetCommunication s := rfl
@[simp] theorem exec_nmtStateCommand (cmd : BitVec 8) (s : State) : exec (.nmtStateCommand cmd) s = execNmtStateCommand cmd s := rfl
@[simp] theorem exec_heartbeat (s : State) : exec .heartbeat s = execHeartbeat s := rfl
@[simp] theorem exec_bumundDatagram (peer : Nat) (port : Fin 10) (bytes : Bytes) (zeroSum : Bool) (s : State) : exec (.bumundDatagram peer port bytes zeroSum) s = execBumundDatagram peer port bytes zeroSum s := rfl
@[simp] theorem exec_bumundTransferIdle (peer : Nat) (s : State) : exec (.bumundTransferIdle peer) s = execBumundTransferIdle peer s := rfl
@[simp] theorem exec_storeAll (path : Path) (val : Bytes) (s : State) : exec (.storeAll path val) s = execStoreAll path val s := rfl
@[simp] theorem exec_configStoreComplete (ok : Bool) (s : State) : exec (.configStoreComplete ok) s = execConfigStoreComplete ok s := rfl
@[simp] theorem exec_restoreAll (path : Path) (val : Bytes) (s : State) : exec (.restoreAll path val) s = execRestoreAll path val s := rfl
@[simp] theorem exec_challenge (path : Path) (s : State) : exec (.challenge path) s = execChallenge path s := rfl
@[simp] theorem exec_response (path : Path) (val : Bytes) (s : State) : exec (.response path val) s = execResponse path val s := rfl
@[simp] theorem exec_sessionClose (path : Path) (s : State) : exec (.sessionClose path) s = execSessionClose path s := rfl
@[simp] theorem exec_challengeExpiry (path : Path) (s : State) : exec (.challengeExpiry path) s = execChallengeExpiry path s := rfl
@[simp] theorem exec_sessionIdleExpiry (path : Path) (s : State) : exec (.sessionIdleExpiry path) s = execSessionIdleExpiry path s := rfl
@[simp] theorem exec_objectHoldSet (path : Path) (c : CtxId) (gen : BitVec 16) (s : State) : exec (.objectHoldSet path c gen) s = execObjectHoldSet path c gen s := rfl
@[simp] theorem exec_objectHoldClear (path : Path) (c : CtxId) (gen : BitVec 16) (s : State) : exec (.objectHoldClear path c gen) s = execObjectHoldClear path c gen s := rfl
@[simp] theorem exec_objectOffload (path : Path) (c : CtxId) (gen : BitVec 16) (s : State) : exec (.objectOffload path c gen) s = execObjectOffload path c gen s := rfl
@[simp] theorem exec_objectRaze (path : Path) (c : CtxId) (gen : BitVec 16) (s : State) : exec (.objectRaze path c gen) s = execObjectRaze path c gen s := rfl
@[simp] theorem exec_objectResume (path : Path) (c : CtxId) (gen : BitVec 16) (s : State) : exec (.objectResume path c gen) s = execObjectResume path c gen s := rfl
@[simp] theorem exec_objectStop (path : Path) (c : CtxId) (gen : BitVec 16) (s : State) : exec (.objectStop path c gen) s = execObjectStop path c gen s := rfl
@[simp] theorem exec_trngTestFailure (s : State) : exec .trngTestFailure s = execTrngTestFailure s := rfl
@[simp] theorem exec_trngRetest (pass : Bool) (s : State) : exec (.trngRetest pass) s = execTrngRetest pass s := rfl
@[simp] theorem exec_trngFailTimeout (s : State) : exec .trngFailTimeout s = execTrngFailTimeout s := rfl
@[simp] theorem exec_drbgReseed (s : State) : exec .drbgReseed s = execDrbgReseed s := rfl
@[simp] theorem exec_image (path : Path) (val : Bytes) (s : State) : exec (.image path val) s = execImage path val s := rfl
@[simp] theorem exec_activate (path : Path) (s : State) : exec (.activate path) s = execActivate path s := rfl
@[simp] theorem exec_bootKeyRevoke (path : Path) (val : BitVec 8) (s : State) : exec (.bootKeyRevoke path val) s = execBootKeyRevoke path val s := rfl
@[simp] theorem exec_secEpochFloor (path : Path) (val : BitVec 8) (s : State) : exec (.secEpochFloor path val) s = execSecEpochFloor path val s := rfl
@[simp] theorem exec_bootKeyDigest (path : Path) (n : Fin 4) (val : Bytes) (s : State) : exec (.bootKeyDigest path n val) s = execBootKeyDigest path n val s := rfl
@[simp] theorem exec_lcRequest (path : Path) (val : Bytes) (s : State) : exec (.lcRequest path val) s = execLcRequest path val s := rfl
@[simp] theorem exec_attestReport (path : Path) (s : State) : exec (.attestReport path) s = execAttestReport path s := rfl
@[simp] theorem exec_extest (s : State) : exec .extest s = execExtest s := rfl
@[simp] theorem exec_extestExit (s : State) : exec .extestExit s = execExtestExit s := rfl
@[simp] theorem exec_fault (f : Func) (op : FaultOp) (status : BitVec 16) (isExternal : Bool) (ecc : Bool) (s : State) : exec (.fault f op status isExternal ecc) s = execFault f op status isExternal ecc s := rfl
@[simp] theorem exec_retryBackoffExpiry (f : Func) (op : FaultOp) (ok : Bool) (s : State) : exec (.retryBackoffExpiry f op ok) s = execRetryBackoffExpiry f op ok s := rfl
@[simp] theorem exec_rung2Complete (f : Func) (host : HostRead) (s : State) : exec (.rung2Complete f host) s = execRung2Complete f host s := rfl
@[simp] theorem exec_lcRung3LimitExpiry (s : State) : exec .lcRung3LimitExpiry s = execLcRung3LimitExpiry s := rfl
@[simp] theorem exec_pwrcycRelease (s : State) : exec .pwrcycRelease s = execPwrcycRelease s := rfl
@[simp] theorem exec_engineWatchdogExpiry (e : Eng) (s : State) : exec (.engineWatchdogExpiry e) s = execEngineWatchdogExpiry e s := rfl
@[simp] theorem exec_tileWatchdogExpiry (t : Tile) (s : State) : exec (.tileWatchdogExpiry t) s = execTileWatchdogExpiry t s := rfl
@[simp] theorem exec_deviceWatchdogExpiry (s : State) : exec .deviceWatchdogExpiry s = execDeviceWatchdogExpiry s := rfl
@[simp] theorem exec_alwaysOnWatchdogExpiry (s : State) : exec .alwaysOnWatchdogExpiry s = execAlwaysOnWatchdogExpiry s := rfl
@[simp] theorem exec_ewdKick (m : Master) (e : Eng) (val : BitVec 32) (s : State) : exec (.ewdKick m e val) s = execEwdKick m e val s := rfl
@[simp] theorem exec_dwdKick (m : Master) (val : BitVec 32) (s : State) : exec (.dwdKick m val) s = execDwdKick m val s := rfl
@[simp] theorem exec_awdKick (m : Master) (val : BitVec 32) (s : State) : exec (.awdKick m val) s = execAwdKick m val s := rfl
@[simp] theorem exec_refclkLoss (s : State) : exec .refclkLoss s = execRefclkLoss s := rfl
@[simp] theorem exec_refclkReturn (s : State) : exec .refclkReturn s = execRefclkReturn s := rfl
@[simp] theorem exec_pllLockLoss (s : State) : exec .pllLockLoss s = execPllLockLoss s := rfl
@[simp] theorem exec_pwrReqPark (m : Master) (s : State) : exec (.pwrReqPark m) s = execPwrReqPark m s := rfl
@[simp] theorem exec_pwrReqDeep (m : Master) (s : State) : exec (.pwrReqDeep m) s = execPwrReqDeep m s := rfl
@[simp] theorem exec_pwrReqCancel (m : Master) (s : State) : exec (.pwrReqCancel m) s = execPwrReqCancel m s := rfl
@[simp] theorem exec_powerStateCommit (s : State) : exec .powerStateCommit s = execPowerStateCommit s := rfl
@[simp] theorem exec_wake (cause : Fin 6) (s : State) : exec (.wake cause) s = execWake cause s := rfl
@[simp] theorem exec_wakeTimerExpiry (s : State) : exec .wakeTimerExpiry s = execWakeTimerExpiry s := rfl
@[simp] theorem exec_tilePwrRun (m : Master) (t : Tile) (s : State) : exec (.tilePwrRun m t) s = execTilePwrRun m t s := rfl
@[simp] theorem exec_tilePwrBanked (m : Master) (t : Tile) (s : State) : exec (.tilePwrBanked m t) s = execTilePwrBanked m t s := rfl
@[simp] theorem exec_tilePwrCold (m : Master) (t : Tile) (s : State) : exec (.tilePwrCold m t) s = execTilePwrCold m t s := rfl
@[simp] theorem exec_railPowerGood (n : Fin 12) (s : State) : exec (.railPowerGood n) s = execRailPowerGood n s := rfl
@[simp] theorem exec_railSequencingFault (s : State) : exec .railSequencingFault s = execRailSequencingFault s := rfl
@[simp] theorem exec_railSequenceRetry (s : State) : exec .railSequenceRetry s = execRailSequenceRetry s := rfl
@[simp] theorem exec_pgLoss (n : Fin 12) (s : State) : exec (.pgLoss n) s = execPgLoss n s := rfl
@[simp] theorem exec_powerOnStart (s : State) : exec .powerOnStart s = execPowerOnStart s := rfl
@[simp] theorem exec_aonrstAssert (s : State) : exec .aonrstAssert s = execAonrstAssert s := rfl
@[simp] theorem exec_release (m : Master) (e : Eng) (s : State) : exec (.release m e) s = execRelease m e s := rfl
@[simp] theorem exec_haltReq (m : Master) (e : Eng) (s : State) : exec (.haltReq m e) s = execHaltReq m e s := rfl
@[simp] theorem exec_thermalSample (tj : Int) (s : State) : exec (.thermalSample tj) s = execThermalSample tj s := rfl
@[simp] theorem exec_ignitionEdge (rising : Bool) (s : State) : exec (.ignitionEdge rising) s = execIgnitionEdge rising s := rfl
@[simp] theorem exec_ethFrameReceived (p : Fin 10) (frame : Bytes) (ringFull : Bool) (rtsp : Bool) (s : State) : exec (.ethFrameReceived p frame ringFull rtsp) s = execEthFrameReceived p frame ringFull rtsp s := rfl
@[simp] theorem exec_ethLinkChange (p : Fin 10) (up : Bool) (cut : Nat) (s : State) : exec (.ethLinkChange p up cut) s = execEthLinkChange p up cut s := rfl
@[simp] theorem exec_ptpMessage (p : Fin 10) (msg : PtpMsg) (s : State) : exec (.ptpMessage p msg) s = execPtpMessage p msg s := rfl
@[simp] theorem exec_ptpSyncTimeout (s : State) : exec .ptpSyncTimeout s = execPtpSyncTimeout s := rfl
@[simp] theorem exec_ppsEdge (s : State) : exec .ppsEdge s = execPpsEdge s := rfl
@[simp] theorem exec_ppsLoss (s : State) : exec .ppsLoss s = execPpsLoss s := rfl
@[simp] theorem exec_holdoverExpiry (s : State) : exec .holdoverExpiry s = execHoldoverExpiry s := rfl
@[simp] theorem exec_todSet (path : Path) (val : Bytes) (s : State) : exec (.todSet path val) s = execTodSet path val s := rfl
@[simp] theorem exec_nvmeCompletion (r : Fin 4) (cid : BitVec 16) (status : BitVec 15) (result : BitVec 64) (data : Bytes) (s : State) : exec (.nvmeCompletion r cid status result data) s = execNvmeCompletion r cid status result data s := rfl
@[simp] theorem exec_nvmeTimeout (r : Fin 4) (cid : BitVec 16) (s : State) : exec (.nvmeTimeout r cid) s = execNvmeTimeout r cid s := rfl
@[simp] theorem exec_pcieLinkDown (k : Fin 5) (s : State) : exec (.pcieLinkDown k) s = execPcieLinkDown k s := rfl
@[simp] theorem exec_usbAttach (u : Fin 8) (good : Bool) (key : BitVec 320) (block : Nat) (s : State) : exec (.usbAttach u good key block) s = execUsbAttach u good key block s := rfl
@[simp] theorem exec_usbDetach (u : Fin 8) (s : State) : exec (.usbDetach u) s = execUsbDetach u s := rfl
@[simp] theorem exec_tdmBlock (t : Fin 4) (block : Bytes) (ringFull : Bool) (s : State) : exec (.tdmBlock t block ringFull) s = execTdmBlock t block ringFull s := rfl
@[simp] theorem exec_tdmClockLoss (t : Fin 4) (cut : Nat) (s : State) : exec (.tdmClockLoss t cut) s = execTdmClockLoss t cut s := rfl
@[simp] theorem exec_canFrameReceived (c : Fin 4) (frame : Bytes) (ringFull : Bool) (s : State) : exec (.canFrameReceived c frame ringFull) s = execCanFrameReceived c frame ringFull s := rfl
@[simp] theorem exec_canBusOff (c : Fin 4) (s : State) : exec (.canBusOff c) s = execCanBusOff c s := rfl
@[simp] theorem exec_smbalert (s : State) : exec .smbalert s = execSmbalert s := rfl
@[simp] theorem exec_i2cTransactionComplete (ok : Bool) (s : State) : exec (.i2cTransactionComplete ok) s = execI2cTransactionComplete ok s := rfl
@[simp] theorem exec_gpioEdge (n : Fin 32) (rising : Bool) (s : State) : exec (.gpioEdge n rising) s = execGpioEdge n rising s := rfl
@[simp] theorem exec_gpioBlock (block : Bytes) (ringFull : Bool) (s : State) : exec (.gpioBlock block ringFull) s = execGpioBlock block ringFull s := rfl
@[simp] theorem exec_pcieLinkUp (k : Fin 5) (host : HostRead) (s : State) : exec (.pcieLinkUp k host) s = execPcieLinkUp k host s := rfl
@[simp] theorem exec_pcieRefclkLoss (s : State) : exec .pcieRefclkLoss s = execPcieRefclkLoss s := rfl
@[simp] theorem exec_mdioTransactionComplete (s : State) : exec .mdioTransactionComplete s = execMdioTransactionComplete s := rfl
@[simp] theorem exec_canErrorFrame (c : Fin 4) (s : State) : exec (.canErrorFrame c) s = execCanErrorFrame c s := rfl
@[simp] theorem exec_rawTransferComplete (o : RawOwner) (status : BitVec 16) (amount : Nat) (long : Bool) (data : Bytes) (s : State) : exec (.rawTransferComplete o status amount long data) s = execRawTransferComplete o status amount long data s := rfl
@[simp] theorem exec_reservedOpcode (e : Eng) (p0 : BitVec 18) (p1 : BitVec 18) (s : State) : exec (.reservedOpcode e p0 p1) s = execReservedOpcode e p0 p1 s := rfl
@[simp] theorem exec_dramWindowWrite (off : BitVec 35) (val : Bytes) (s : State) : exec (.dramWindowWrite off val) s = execDramWindowWrite off val s := rfl

end Sys2Proof.Machine
end

