-- ==== Sys2Proof/Laws/Tab.lean ====
section
/-! SUPPORT. Laws of the sparse tables: a read after a write, and the order of their entries. -/
namespace Sys2Proof

theorem Tab.look_nil {α : Type} (d : α) (k : Nat) : Tab.look ([] : Tab α) d k = d := rfl

@[simp] theorem Tab.look_put_same {α : Type} (t : Tab α) (d : α) (k : Nat) (v : α) : (t.put k v).look d k = v := by
  induction t with
  | nil => simp [Tab.put, Tab.look]
  | cons e r ih =>
    obtain ⟨j, w⟩ := e
    simp only [Tab.put]
    split
    · simp [Tab.look]
    · split
      · simp [Tab.look]
      · simp only [Tab.look]
        rw [if_neg (by omega)]
        exact ih

theorem Tab.look_put_other {α : Type} (t : Tab α) (d : α) {k j : Nat} (v : α) (h : j ≠ k) :
    (t.put k v).look d j = t.look d j := by
  induction t with
  | nil => simp only [Tab.put, Tab.look]; rw [if_neg (by omega)]
  | cons e r ih =>
    obtain ⟨i, w⟩ := e
    simp only [Tab.put]
    split
    · simp only [Tab.look]; rw [if_neg (by omega)]
    · split
      · next h2 => subst h2; simp only [Tab.look]; rw [if_neg (by omega), if_neg (by omega)]
      · simp only [Tab.look]; rw [ih]

/-- The later of two writes of one entry stands. -/
@[simp] theorem Tab.put_put {α : Type} (t : Tab α) (k : Nat) (v w : α) : (t.put k v).put k w = t.put k w := by
  induction t with
  | nil => simp [Tab.put]
  | cons e r ih =>
    obtain ⟨j, x⟩ := e
    simp only [Tab.put]
    split
    · simp [Tab.put]
    · split
      · simp [Tab.put]
      · next h1 h2 => simp only [Tab.put]; rw [if_neg h1, if_neg h2, ih]

theorem Tab.look_put {α : Type} (t : Tab α) (d : α) (k j : Nat) (v : α) :
    (t.put k v).look d j = if j = k then v else t.look d j := by
  split
  · next h => subst h; simp
  · next h => exact Tab.look_put_other t d v h

@[simp] theorem Tab.look_modify_same {α : Type} (t : Tab α) (d : α) (k : Nat) (f : α → α) :
    (t.modify d k f).look d k = f (t.look d k) := by
  simp [Tab.modify]

theorem Tab.look_modify_other {α : Type} (t : Tab α) (d d' : α) {k j : Nat} (f : α → α) (h : j ≠ k) :
    (t.modify d k f).look d' j = t.look d' j := Tab.look_put_other t d' _ h

theorem Tab.look_modify {α : Type} (t : Tab α) (d : α) (k j : Nat) (f : α → α) :
    (t.modify d k f).look d j = if j = k then f (t.look d k) else t.look d j := Tab.look_put t d k j _

theorem Tab.look_not_listed {α : Type} (t : Tab α) (d : α) (k : Nat) (h : ∀ e ∈ t, e.1 ≠ k) : t.look d k = d := by
  induction t with
  | nil => rfl
  | cons e r ih =>
    simp only [Tab.look]
    rw [if_neg (h e (by simp))]
    exact ih fun x hx => h x (by simp [hx])

@[simp] theorem Tab.look_del_same {α : Type} (t : Tab α) (d : α) (k : Nat) : (t.del k).look d k = d := by
  apply Tab.look_not_listed
  intro e he
  simp [Tab.del] at he
  exact he.2

theorem Tab.look_del_other {α : Type} (t : Tab α) (d : α) {k j : Nat} (h : j ≠ k) : (t.del k).look d j = t.look d j := by
  induction t with
  | nil => rfl
  | cons e r ih =>
    by_cases hk : e.1 = k
    · have : Tab.del (e :: r) k = Tab.del r k := by simp [Tab.del, hk]
      rw [this, ih]
      simp only [Tab.look]
      rw [if_neg (by omega)]
    · have : Tab.del (e :: r) k = e :: Tab.del r k := by simp [Tab.del, hk]
      rw [this]
      simp only [Tab.look]
      rw [ih]

/-- A canonical store reads back what it stored. -/
@[simp] theorem Tab.look_store_same {α : Type} [DecidableEq α] (t : Tab α) (d : α) (k : Nat) (v : α) :
    (t.store d k v).look d k = v := by
  simp only [Tab.store]
  split
  · next h => rw [Tab.look_del_same, h]
  · simp

theorem Tab.look_store_other {α : Type} [DecidableEq α] (t : Tab α) (d d' : α) {k j : Nat} (v : α) (h : j ≠ k) :
    (t.store d k v).look d' j = t.look d' j := by
  simp only [Tab.store]
  split
  · exact Tab.look_del_other t d' h
  · exact Tab.look_put_other t d' v h

theorem Tab.put_mem {α : Type} {t : Tab α} {k : Nat} {v : α} {e : Nat × α} (h : e ∈ t.put k v) : e = (k, v) ∨ e ∈ t := by
  induction t with
  | nil => simp [Tab.put] at h; exact Or.inl h
  | cons c r ih =>
    obtain ⟨j, w⟩ := c
    simp only [Tab.put] at h
    split at h
    · simp at h; rcases h with h | h | h <;> simp [h]
    · split at h
      · simp at h; rcases h with h | h <;> simp [h]
      · simp at h
        rcases h with h | h
        · simp [h]
        · rcases ih h with h | h <;> simp [h]

theorem Tab.put_rising {α : Type} {t : Tab α} (k : Nat) (v : α) (h : t.Rising) : (t.put k v).Rising := by
  induction t with
  | nil => simp [Tab.put, Tab.Rising]
  | cons c r ih =>
    obtain ⟨j, w⟩ := c
    obtain ⟨h1, h2⟩ := h
    simp only [Tab.put]
    split
    · next hk =>
      refine ⟨?_, h1, h2⟩
      intro d hd
      simp at hd
      rcases hd with hd | hd
      · subst hd; exact hk
      · have := h1 d hd; simp only at this ⊢; omega
    · split
      · next hk => exact ⟨fun d hd => by have := h1 d hd; simp only at this ⊢; omega, h2⟩
      · refine ⟨?_, ih h2⟩
        intro d hd
        rcases Tab.put_mem hd with hd | hd
        · subst hd; simp only; omega
        · exact h1 d hd

theorem Tab.filter_rising {α : Type} {t : Tab α} (p : Nat × α → Bool) (h : t.Rising) : Tab.Rising (t.filter p) := by
  induction t with
  | nil => exact h
  | cons c r ih =>
    obtain ⟨h1, h2⟩ := h
    by_cases hp : p c
    · rw [List.filter_cons_of_pos hp]
      exact ⟨fun d hd => h1 d (List.mem_filter.mp hd).1, ih h2⟩
    · rw [List.filter_cons_of_neg hp]
      exact ih h2

theorem Tab.store_rising {α : Type} [DecidableEq α] {t : Tab α} (d : α) (k : Nat) (v : α) (h : t.Rising) :
    (t.store d k v).Rising := by
  simp only [Tab.store]
  split
  · exact Tab.filter_rising _ h
  · exact Tab.put_rising k v h

end Sys2Proof
end

