-- ==== Sys2Proof/Laws/State.lean ====
section
/-! SUPPORT. What each named update of State and of an engine writes, and every field that it leaves as it was. -/
namespace Sys2Proof.Machine

/-! ### Engines and tiles -/

@[simp] theorem State.eng_setEng_same (s : State) (e : Nat) (x : Engine) : (s.setEng e x).eng e = x := by simp [State.setEng, State.eng]

theorem State.eng_setEng_other (s : State) {e f : Nat} (x : Engine) (h : f ≠ e) : (s.setEng e x).eng f = s.eng f :=
  Tab.look_put_other s.engines {} x h

@[simp] theorem State.eng_modEng_same (s : State) (e : Nat) (f : Engine → Engine) : (s.modEng e f).eng e = f (s.eng e) :=
  State.eng_setEng_same s e _

theorem State.eng_modEng_other (s : State) {e k : Nat} (f : Engine → Engine) (h : k ≠ e) : (s.modEng e f).eng k = s.eng k :=
  State.eng_setEng_other s _ h

@[simp] theorem State.tile_modTile_same (s : State) (t : Nat) (f : TileSt → TileSt) : (s.modTile t f).tile t = f (s.tile t) := by
  simp [State.modTile, State.tile]

theorem State.tile_modTile_other (s : State) {t k : Nat} (f : TileSt → TileSt) (h : k ≠ t) : (s.modTile t f).tile k = s.tile k :=
  Tab.look_modify_other s.tiles {} {} f h

/-! ### Engine registers -/

/-- g0 reads 0 (R153). -/
@[simp] theorem Engine.reg_zero (x : Engine) : x.reg 0 = 0 := by simp [Engine.reg]

/-- A write of g0 is discarded (R153). -/
@[simp] theorem Engine.setReg_zero (x : Engine) (v : W24) : x.setReg 0 v = x := by simp [Engine.setReg]

theorem Engine.reg_setReg_same (x : Engine) (r : Reg) (v : W24) (h : r ≠ 0) : (x.setReg r v).reg r = v := by
  simp [Engine.setReg, Engine.reg, h]

theorem Engine.reg_setReg_other (x : Engine) {r k : Reg} (v : W24) (h : k ≠ r) : (x.setReg r v).reg k = x.reg k := by
  simp only [Engine.setReg]
  split
  · rfl
  · simp only [Engine.reg]
    split
    · rfl
    · exact Tab.look_put_other x.g 0 v fun hk => h (Fin.ext hk)

theorem Engine.reg_setReg (x : Engine) (r k : Reg) (v : W24) :
    (x.setReg r v).reg k = if k = 0 then 0 else if k = r then v else x.reg k := by
  by_cases h0 : k = 0
  · subst h0; simp
  · by_cases h : k = r
    · subst h; simp [h0, Engine.reg_setReg_same]
    · simp [h0, h, Engine.reg_setReg_other x v h]

@[simp] theorem Engine.bank_setBank_same (x : Engine) (b : BankReg) (v : BitVec 11) : (x.setBank b v).bank b = v := by
  simp [Engine.setBank, Engine.bank]

@[simp] theorem Engine.setBank_g (x : Engine) (b : BankReg) (v : BitVec 11) : (x.setBank b v).g = x.g := rfl
@[simp] theorem Engine.mark_g (x : Engine) (k : Nat) : (x.mark k).g = x.g := rfl
@[simp] theorem Engine.setReg_b (x : Engine) (r : Reg) (v : W24) : (x.setReg r v).b = x.b := by
  simp only [Engine.setReg]; split <;> rfl
@[simp] theorem Engine.mark_b (x : Engine) (k : Nat) : (x.mark k).b = x.b := rfl
@[simp] theorem Engine.setReg_pc (x : Engine) (r : Reg) (v : W24) : (x.setReg r v).pc = x.pc := by
  simp only [Engine.setReg]; split <;> rfl
@[simp] theorem Engine.setBank_pc (x : Engine) (b : BankReg) (v : BitVec 11) : (x.setBank b v).pc = x.pc := rfl
@[simp] theorem Engine.mark_pc (x : Engine) (k : Nat) : (x.mark k).pc = x.pc := rfl
@[simp] theorem Engine.setReg_mlo (x : Engine) (r : Reg) (v : W24) : (x.setReg r v).mlo = x.mlo := by
  simp only [Engine.setReg]; split <;> rfl
@[simp] theorem Engine.setBank_mlo (x : Engine) (b : BankReg) (v : BitVec 11) : (x.setBank b v).mlo = x.mlo := rfl
@[simp] theorem Engine.mark_mlo (x : Engine) (k : Nat) : (x.mark k).mlo = x.mlo := rfl
@[simp] theorem Engine.setReg_mhi (x : Engine) (r : Reg) (v : W24) : (x.setReg r v).mhi = x.mhi := by
  simp only [Engine.setReg]; split <;> rfl
@[simp] theorem Engine.setBank_mhi (x : Engine) (b : BankReg) (v : BitVec 11) : (x.setBank b v).mhi = x.mhi := rfl
@[simp] theorem Engine.mark_mhi (x : Engine) (k : Nat) : (x.mark k).mhi = x.mhi := rfl
@[simp] theorem Engine.setReg_rc (x : Engine) (r : Reg) (v : W24) : (x.setReg r v).rc = x.rc := by
  simp only [Engine.setReg]; split <;> rfl
@[simp] theorem Engine.setBank_rc (x : Engine) (b : BankReg) (v : BitVec 11) : (x.setBank b v).rc = x.rc := rfl
@[simp] theorem Engine.mark_rc (x : Engine) (k : Nat) : (x.mark k).rc = x.rc := rfl
@[simp] theorem Engine.setReg_ie (x : Engine) (r : Reg) (v : W24) : (x.setReg r v).ie = x.ie := by
  simp only [Engine.setReg]; split <;> rfl
@[simp] theorem Engine.setBank_ie (x : Engine) (b : BankReg) (v : BitVec 11) : (x.setBank b v).ie = x.ie := rfl
@[simp] theorem Engine.mark_ie (x : Engine) (k : Nat) : (x.mark k).ie = x.ie := rfl
@[simp] theorem Engine.setReg_act (x : Engine) (r : Reg) (v : W24) : (x.setReg r v).act = x.act := by
  simp only [Engine.setReg]; split <;> rfl
@[simp] theorem Engine.setBank_act (x : Engine) (b : BankReg) (v : BitVec 11) : (x.setBank b v).act = x.act := rfl
@[simp] theorem Engine.mark_act (x : Engine) (k : Nat) : (x.mark k).act = x.act := rfl
@[simp] theorem Engine.setReg_dov (x : Engine) (r : Reg) (v : W24) : (x.setReg r v).dov = x.dov := by
  simp only [Engine.setReg]; split <;> rfl
@[simp] theorem Engine.setBank_dov (x : Engine) (b : BankReg) (v : BitVec 11) : (x.setBank b v).dov = x.dov := rfl
@[simp] theorem Engine.mark_dov (x : Engine) (k : Nat) : (x.mark k).dov = x.dov := rfl
@[simp] theorem Engine.setReg_dz (x : Engine) (r : Reg) (v : W24) : (x.setReg r v).dz = x.dz := by
  simp only [Engine.setReg]; split <;> rfl
@[simp] theorem Engine.setBank_dz (x : Engine) (b : BankReg) (v : BitVec 11) : (x.setBank b v).dz = x.dz := rfl
@[simp] theorem Engine.mark_dz (x : Engine) (k : Nat) : (x.mark k).dz = x.dz := rfl
@[simp] theorem Engine.setReg_tnowh (x : Engine) (r : Reg) (v : W24) : (x.setReg r v).tnowh = x.tnowh := by
  simp only [Engine.setReg]; split <;> rfl
@[simp] theorem Engine.setBank_tnowh (x : Engine) (b : BankReg) (v : BitVec 11) : (x.setBank b v).tnowh = x.tnowh := rfl
@[simp] theorem Engine.mark_tnowh (x : Engine) (k : Nat) : (x.mark k).tnowh = x.tnowh := rfl
@[simp] theorem Engine.setReg_evm (x : Engine) (r : Reg) (v : W24) : (x.setReg r v).evm = x.evm := by
  simp only [Engine.setReg]; split <;> rfl
@[simp] theorem Engine.setBank_evm (x : Engine) (b : BankReg) (v : BitVec 11) : (x.setBank b v).evm = x.evm := rfl
@[simp] theorem Engine.mark_evm (x : Engine) (k : Nat) : (x.mark k).evm = x.evm := rfl
@[simp] theorem Engine.setReg_vbase (x : Engine) (r : Reg) (v : W24) : (x.setReg r v).vbase = x.vbase := by
  simp only [Engine.setReg]; split <;> rfl
@[simp] theorem Engine.setBank_vbase (x : Engine) (b : BankReg) (v : BitVec 11) : (x.setBank b v).vbase = x.vbase := rfl
@[simp] theorem Engine.mark_vbase (x : Engine) (k : Nat) : (x.mark k).vbase = x.vbase := rfl
@[simp] theorem Engine.setReg_ipc (x : Engine) (r : Reg) (v : W24) : (x.setReg r v).ipc = x.ipc := by
  simp only [Engine.setReg]; split <;> rfl
@[simp] theorem Engine.setBank_ipc (x : Engine) (b : BankReg) (v : BitVec 11) : (x.setBank b v).ipc = x.ipc := rfl
@[simp] theorem Engine.mark_ipc (x : Engine) (k : Nat) : (x.mark k).ipc = x.ipc := rfl
@[simp] theorem Engine.setReg_istat (x : Engine) (r : Reg) (v : W24) : (x.setReg r v).istat = x.istat := by
  simp only [Engine.setReg]; split <;> rfl
@[simp] theorem Engine.setBank_istat (x : Engine) (b : BankReg) (v : BitVec 11) : (x.setBank b v).istat = x.istat := rfl
@[simp] theorem Engine.mark_istat (x : Engine) (k : Nat) : (x.mark k).istat = x.istat := rfl
@[simp] theorem Engine.setReg_run (x : Engine) (r : Reg) (v : W24) : (x.setReg r v).run = x.run := by
  simp only [Engine.setReg]; split <;> rfl
@[simp] theorem Engine.setBank_run (x : Engine) (b : BankReg) (v : BitVec 11) : (x.setBank b v).run = x.run := rfl
@[simp] theorem Engine.mark_run (x : Engine) (k : Nat) : (x.mark k).run = x.run := rfl
@[simp] theorem Engine.setReg_faulted (x : Engine) (r : Reg) (v : W24) : (x.setReg r v).faulted = x.faulted := by
  simp only [Engine.setReg]; split <;> rfl
@[simp] theorem Engine.setBank_faulted (x : Engine) (b : BankReg) (v : BitVec 11) : (x.setBank b v).faulted = x.faulted := rfl
@[simp] theorem Engine.mark_faulted (x : Engine) (k : Nat) : (x.mark k).faulted = x.faulted := rfl
@[simp] theorem Engine.setReg_faultCase (x : Engine) (r : Reg) (v : W24) : (x.setReg r v).faultCase = x.faultCase := by
  simp only [Engine.setReg]; split <;> rfl
@[simp] theorem Engine.setBank_faultCase (x : Engine) (b : BankReg) (v : BitVec 11) : (x.setBank b v).faultCase = x.faultCase := rfl
@[simp] theorem Engine.mark_faultCase (x : Engine) (k : Nat) : (x.mark k).faultCase = x.faultCase := rfl
@[simp] theorem Engine.setReg_faultPc (x : Engine) (r : Reg) (v : W24) : (x.setReg r v).faultPc = x.faultPc := by
  simp only [Engine.setReg]; split <;> rfl
@[simp] theorem Engine.setBank_faultPc (x : Engine) (b : BankReg) (v : BitVec 11) : (x.setBank b v).faultPc = x.faultPc := rfl
@[simp] theorem Engine.mark_faultPc (x : Engine) (k : Nat) : (x.mark k).faultPc = x.faultPc := rfl
@[simp] theorem Engine.setReg_startPc (x : Engine) (r : Reg) (v : W24) : (x.setReg r v).startPc = x.startPc := by
  simp only [Engine.setReg]; split <;> rfl
@[simp] theorem Engine.setBank_startPc (x : Engine) (b : BankReg) (v : BitVec 11) : (x.setBank b v).startPc = x.startPc := rfl
@[simp] theorem Engine.mark_startPc (x : Engine) (k : Nat) : (x.mark k).startPc = x.startPc := rfl
@[simp] theorem Engine.setReg_haltReq (x : Engine) (r : Reg) (v : W24) : (x.setReg r v).haltReq = x.haltReq := by
  simp only [Engine.setReg]; split <;> rfl
@[simp] theorem Engine.setBank_haltReq (x : Engine) (b : BankReg) (v : BitVec 11) : (x.setBank b v).haltReq = x.haltReq := rfl
@[simp] theorem Engine.mark_haltReq (x : Engine) (k : Nat) : (x.mark k).haltReq = x.haltReq := rfl
@[simp] theorem Engine.setReg_evl (x : Engine) (r : Reg) (v : W24) : (x.setReg r v).evl = x.evl := by
  simp only [Engine.setReg]; split <;> rfl
@[simp] theorem Engine.setBank_evl (x : Engine) (b : BankReg) (v : BitVec 11) : (x.setBank b v).evl = x.evl := rfl
@[simp] theorem Engine.setReg_loc (x : Engine) (r : Reg) (v : W24) : (x.setReg r v).loc = x.loc := by
  simp only [Engine.setReg]; split <;> rfl
@[simp] theorem Engine.setBank_loc (x : Engine) (b : BankReg) (v : BitVec 11) : (x.setBank b v).loc = x.loc := rfl
@[simp] theorem Engine.mark_loc (x : Engine) (k : Nat) : (x.mark k).loc = x.loc := rfl
@[simp] theorem Engine.setReg_posted (x : Engine) (r : Reg) (v : W24) : (x.setReg r v).posted = x.posted := by
  simp only [Engine.setReg]; split <;> rfl
@[simp] theorem Engine.setBank_posted (x : Engine) (b : BankReg) (v : BitVec 11) : (x.setBank b v).posted = x.posted := rfl
@[simp] theorem Engine.mark_posted (x : Engine) (k : Nat) : (x.mark k).posted = x.posted := rfl
@[simp] theorem Engine.setReg_replay (x : Engine) (r : Reg) (v : W24) : (x.setReg r v).replay = x.replay := by
  simp only [Engine.setReg]; split <;> rfl
@[simp] theorem Engine.setBank_replay (x : Engine) (b : BankReg) (v : BitVec 11) : (x.setBank b v).replay = x.replay := rfl
@[simp] theorem Engine.mark_replay (x : Engine) (k : Nat) : (x.mark k).replay = x.replay := rfl
@[simp] theorem Engine.setReg_products (x : Engine) (r : Reg) (v : W24) : (x.setReg r v).products = x.products := by
  simp only [Engine.setReg]; split <;> rfl
@[simp] theorem Engine.setBank_products (x : Engine) (b : BankReg) (v : BitVec 11) : (x.setBank b v).products = x.products := rfl
@[simp] theorem Engine.mark_products (x : Engine) (k : Nat) : (x.mark k).products = x.products := rfl
@[simp] theorem Engine.setReg_divide (x : Engine) (r : Reg) (v : W24) : (x.setReg r v).divide = x.divide := by
  simp only [Engine.setReg]; split <;> rfl
@[simp] theorem Engine.setBank_divide (x : Engine) (b : BankReg) (v : BitVec 11) : (x.setBank b v).divide = x.divide := rfl
@[simp] theorem Engine.mark_divide (x : Engine) (k : Nat) : (x.mark k).divide = x.divide := rfl
@[simp] theorem Engine.setReg_rpti (x : Engine) (r : Reg) (v : W24) : (x.setReg r v).rpti = x.rpti := by
  simp only [Engine.setReg]; split <;> rfl
@[simp] theorem Engine.setBank_rpti (x : Engine) (b : BankReg) (v : BitVec 11) : (x.setBank b v).rpti = x.rpti := rfl
@[simp] theorem Engine.mark_rpti (x : Engine) (k : Nat) : (x.mark k).rpti = x.rpti := rfl
@[simp] theorem Engine.setReg_e1 (x : Engine) (r : Reg) (v : W24) : (x.setReg r v).e1 = x.e1 := by
  simp only [Engine.setReg]; split <;> rfl
@[simp] theorem Engine.setBank_e1 (x : Engine) (b : BankReg) (v : BitVec 11) : (x.setBank b v).e1 = x.e1 := rfl
@[simp] theorem Engine.mark_e1 (x : Engine) (k : Nat) : (x.mark k).e1 = x.e1 := rfl
@[simp] theorem Engine.setReg_crossed (x : Engine) (r : Reg) (v : W24) : (x.setReg r v).crossed = x.crossed := by
  simp only [Engine.setReg]; split <;> rfl
@[simp] theorem Engine.setBank_crossed (x : Engine) (b : BankReg) (v : BitVec 11) : (x.setBank b v).crossed = x.crossed := rfl
@[simp] theorem Engine.mark_crossed (x : Engine) (k : Nat) : (x.mark k).crossed = x.crossed := rfl
@[simp] theorem Engine.setReg_chSel (x : Engine) (r : Reg) (v : W24) : (x.setReg r v).chSel = x.chSel := by
  simp only [Engine.setReg]; split <;> rfl
@[simp] theorem Engine.setBank_chSel (x : Engine) (b : BankReg) (v : BitVec 11) : (x.setBank b v).chSel = x.chSel := rfl
@[simp] theorem Engine.mark_chSel (x : Engine) (k : Nat) : (x.mark k).chSel = x.chSel := rfl
@[simp] theorem Engine.setReg_submitLo (x : Engine) (r : Reg) (v : W24) : (x.setReg r v).submitLo = x.submitLo := by
  simp only [Engine.setReg]; split <;> rfl
@[simp] theorem Engine.setBank_submitLo (x : Engine) (b : BankReg) (v : BitVec 11) : (x.setBank b v).submitLo = x.submitLo := rfl
@[simp] theorem Engine.mark_submitLo (x : Engine) (k : Nat) : (x.mark k).submitLo = x.submitLo := rfl
@[simp] theorem Engine.setReg_submit12Hi (x : Engine) (r : Reg) (v : W24) : (x.setReg r v).submit12Hi = x.submit12Hi := by
  simp only [Engine.setReg]; split <;> rfl
@[simp] theorem Engine.setBank_submit12Hi (x : Engine) (b : BankReg) (v : BitVec 11) : (x.setBank b v).submit12Hi = x.submit12Hi := rfl
@[simp] theorem Engine.mark_submit12Hi (x : Engine) (k : Nat) : (x.mark k).submit12Hi = x.submit12Hi := rfl

/-! ### setEng -/

@[simp] theorem State.pending_setEng (s : State) (e : Nat) (x : Engine) : (s.setEng e x).pending = s.pending := rfl
@[simp] theorem State.draws_setEng (s : State) (e : Nat) (x : Engine) : (s.setEng e x).draws = s.draws := rfl
@[simp] theorem State.tnow_setEng (s : State) (e : Nat) (x : Engine) : (s.setEng e x).tnow = s.tnow := rfl
@[simp] theorem State.mem_setEng (s : State) (e : Nat) (x : Engine) : (s.setEng e x).mem = s.mem := rfl
@[simp] theorem State.hostMem_setEng (s : State) (e : Nat) (x : Engine) : (s.setEng e x).hostMem = s.hostMem := rfl
@[simp] theorem State.addrFaults_setEng (s : State) (e : Nat) (x : Engine) : (s.setEng e x).addrFaults = s.addrFaults := rfl
@[simp] theorem State.tiles_setEng (s : State) (e : Nat) (x : Engine) : (s.setEng e x).tiles = s.tiles := rfl
@[simp] theorem State.vu_setEng (s : State) (e : Nat) (x : Engine) : (s.setEng e x).vu = s.vu := rfl
@[simp] theorem State.watcher_setEng (s : State) (e : Nat) (x : Engine) : (s.setEng e x).watcher = s.watcher := rfl
@[simp] theorem State.router_setEng (s : State) (e : Nat) (x : Engine) : (s.setEng e x).router = s.router := rfl
@[simp] theorem State.mbox_setEng (s : State) (e : Nat) (x : Engine) : (s.setEng e x).mbox = s.mbox := rfl
@[simp] theorem State.mortar_setEng (s : State) (e : Nat) (x : Engine) : (s.setEng e x).mortar = s.mortar := rfl
@[simp] theorem State.slots_setEng (s : State) (e : Nat) (x : Engine) : (s.setEng e x).slots = s.slots := rfl
@[simp] theorem State.rings_setEng (s : State) (e : Nat) (x : Engine) : (s.setEng e x).rings = s.rings := rfl
@[simp] theorem State.ctx_setEng (s : State) (e : Nat) (x : Engine) : (s.setEng e x).ctx = s.ctx := rfl
@[simp] theorem State.bind_setEng (s : State) (e : Nat) (x : Engine) : (s.setEng e x).bind = s.bind := rfl
@[simp] theorem State.hods_setEng (s : State) (e : Nat) (x : Engine) : (s.setEng e x).hods = s.hods := rfl
@[simp] theorem State.reply_setEng (s : State) (e : Nat) (x : Engine) : (s.setEng e x).reply = s.reply := rfl
@[simp] theorem State.sec_setEng (s : State) (e : Nat) (x : Engine) : (s.setEng e x).sec = s.sec := rfl
@[simp] theorem State.holdup_setEng (s : State) (e : Nat) (x : Engine) : (s.setEng e x).holdup = s.holdup := rfl
@[simp] theorem State.lanes_setEng (s : State) (e : Nat) (x : Engine) : (s.setEng e x).lanes = s.lanes := rfl
@[simp] theorem State.wythes_setEng (s : State) (e : Nat) (x : Engine) : (s.setEng e x).wythes = s.wythes := rfl
@[simp] theorem State.journal_setEng (s : State) (e : Nat) (x : Engine) : (s.setEng e x).journal = s.journal := rfl
@[simp] theorem State.time_setEng (s : State) (e : Nat) (x : Engine) : (s.setEng e x).time = s.time := rfl
@[simp] theorem State.dict_setEng (s : State) (e : Nat) (x : Engine) : (s.setEng e x).dict = s.dict := rfl
@[simp] theorem State.iface_setEng (s : State) (e : Nat) (x : Engine) : (s.setEng e x).iface = s.iface := rfl
@[simp] theorem State.ladder_setEng (s : State) (e : Nat) (x : Engine) : (s.setEng e x).ladder = s.ladder := rfl
@[simp] theorem State.power_setEng (s : State) (e : Nat) (x : Engine) : (s.setEng e x).power = s.power := rfl
@[simp] theorem State.aon_setEng (s : State) (e : Nat) (x : Engine) : (s.setEng e x).aon = s.aon := rfl
@[simp] theorem State.courses_setEng (s : State) (e : Nat) (x : Engine) : (s.setEng e x).courses = s.courses := rfl
@[simp] theorem State.raws_setEng (s : State) (e : Nat) (x : Engine) : (s.setEng e x).raws = s.raws := rfl
@[simp] theorem State.nvme_setEng (s : State) (e : Nat) (x : Engine) : (s.setEng e x).nvme = s.nvme := rfl
@[simp] theorem State.nextCid_setEng (s : State) (e : Nat) (x : Engine) : (s.setEng e x).nextCid = s.nextCid := rfl

/-! ### modEng -/

@[simp] theorem State.pending_modEng (s : State) (e : Nat) (f : Engine → Engine) : (s.modEng e f).pending = s.pending := rfl
@[simp] theorem State.draws_modEng (s : State) (e : Nat) (f : Engine → Engine) : (s.modEng e f).draws = s.draws := rfl
@[simp] theorem State.tnow_modEng (s : State) (e : Nat) (f : Engine → Engine) : (s.modEng e f).tnow = s.tnow := rfl
@[simp] theorem State.mem_modEng (s : State) (e : Nat) (f : Engine → Engine) : (s.modEng e f).mem = s.mem := rfl
@[simp] theorem State.hostMem_modEng (s : State) (e : Nat) (f : Engine → Engine) : (s.modEng e f).hostMem = s.hostMem := rfl
@[simp] theorem State.addrFaults_modEng (s : State) (e : Nat) (f : Engine → Engine) : (s.modEng e f).addrFaults = s.addrFaults := rfl
@[simp] theorem State.tiles_modEng (s : State) (e : Nat) (f : Engine → Engine) : (s.modEng e f).tiles = s.tiles := rfl
@[simp] theorem State.vu_modEng (s : State) (e : Nat) (f : Engine → Engine) : (s.modEng e f).vu = s.vu := rfl
@[simp] theorem State.watcher_modEng (s : State) (e : Nat) (f : Engine → Engine) : (s.modEng e f).watcher = s.watcher := rfl
@[simp] theorem State.router_modEng (s : State) (e : Nat) (f : Engine → Engine) : (s.modEng e f).router = s.router := rfl
@[simp] theorem State.mbox_modEng (s : State) (e : Nat) (f : Engine → Engine) : (s.modEng e f).mbox = s.mbox := rfl
@[simp] theorem State.mortar_modEng (s : State) (e : Nat) (f : Engine → Engine) : (s.modEng e f).mortar = s.mortar := rfl
@[simp] theorem State.slots_modEng (s : State) (e : Nat) (f : Engine → Engine) : (s.modEng e f).slots = s.slots := rfl
@[simp] theorem State.rings_modEng (s : State) (e : Nat) (f : Engine → Engine) : (s.modEng e f).rings = s.rings := rfl
@[simp] theorem State.ctx_modEng (s : State) (e : Nat) (f : Engine → Engine) : (s.modEng e f).ctx = s.ctx := rfl
@[simp] theorem State.bind_modEng (s : State) (e : Nat) (f : Engine → Engine) : (s.modEng e f).bind = s.bind := rfl
@[simp] theorem State.hods_modEng (s : State) (e : Nat) (f : Engine → Engine) : (s.modEng e f).hods = s.hods := rfl
@[simp] theorem State.reply_modEng (s : State) (e : Nat) (f : Engine → Engine) : (s.modEng e f).reply = s.reply := rfl
@[simp] theorem State.sec_modEng (s : State) (e : Nat) (f : Engine → Engine) : (s.modEng e f).sec = s.sec := rfl
@[simp] theorem State.holdup_modEng (s : State) (e : Nat) (f : Engine → Engine) : (s.modEng e f).holdup = s.holdup := rfl
@[simp] theorem State.lanes_modEng (s : State) (e : Nat) (f : Engine → Engine) : (s.modEng e f).lanes = s.lanes := rfl
@[simp] theorem State.wythes_modEng (s : State) (e : Nat) (f : Engine → Engine) : (s.modEng e f).wythes = s.wythes := rfl
@[simp] theorem State.journal_modEng (s : State) (e : Nat) (f : Engine → Engine) : (s.modEng e f).journal = s.journal := rfl
@[simp] theorem State.time_modEng (s : State) (e : Nat) (f : Engine → Engine) : (s.modEng e f).time = s.time := rfl
@[simp] theorem State.dict_modEng (s : State) (e : Nat) (f : Engine → Engine) : (s.modEng e f).dict = s.dict := rfl
@[simp] theorem State.iface_modEng (s : State) (e : Nat) (f : Engine → Engine) : (s.modEng e f).iface = s.iface := rfl
@[simp] theorem State.ladder_modEng (s : State) (e : Nat) (f : Engine → Engine) : (s.modEng e f).ladder = s.ladder := rfl
@[simp] theorem State.power_modEng (s : State) (e : Nat) (f : Engine → Engine) : (s.modEng e f).power = s.power := rfl
@[simp] theorem State.aon_modEng (s : State) (e : Nat) (f : Engine → Engine) : (s.modEng e f).aon = s.aon := rfl
@[simp] theorem State.courses_modEng (s : State) (e : Nat) (f : Engine → Engine) : (s.modEng e f).courses = s.courses := rfl
@[simp] theorem State.raws_modEng (s : State) (e : Nat) (f : Engine → Engine) : (s.modEng e f).raws = s.raws := rfl
@[simp] theorem State.nvme_modEng (s : State) (e : Nat) (f : Engine → Engine) : (s.modEng e f).nvme = s.nvme := rfl
@[simp] theorem State.nextCid_modEng (s : State) (e : Nat) (f : Engine → Engine) : (s.modEng e f).nextCid = s.nextCid := rfl

/-! ### modTile -/

@[simp] theorem State.pending_modTile (s : State) (t : Nat) (f : TileSt → TileSt) : (s.modTile t f).pending = s.pending := rfl
@[simp] theorem State.draws_modTile (s : State) (t : Nat) (f : TileSt → TileSt) : (s.modTile t f).draws = s.draws := rfl
@[simp] theorem State.tnow_modTile (s : State) (t : Nat) (f : TileSt → TileSt) : (s.modTile t f).tnow = s.tnow := rfl
@[simp] theorem State.mem_modTile (s : State) (t : Nat) (f : TileSt → TileSt) : (s.modTile t f).mem = s.mem := rfl
@[simp] theorem State.hostMem_modTile (s : State) (t : Nat) (f : TileSt → TileSt) : (s.modTile t f).hostMem = s.hostMem := rfl
@[simp] theorem State.addrFaults_modTile (s : State) (t : Nat) (f : TileSt → TileSt) : (s.modTile t f).addrFaults = s.addrFaults := rfl
@[simp] theorem State.engines_modTile (s : State) (t : Nat) (f : TileSt → TileSt) : (s.modTile t f).engines = s.engines := rfl
@[simp] theorem State.vu_modTile (s : State) (t : Nat) (f : TileSt → TileSt) : (s.modTile t f).vu = s.vu := rfl
@[simp] theorem State.watcher_modTile (s : State) (t : Nat) (f : TileSt → TileSt) : (s.modTile t f).watcher = s.watcher := rfl
@[simp] theorem State.router_modTile (s : State) (t : Nat) (f : TileSt → TileSt) : (s.modTile t f).router = s.router := rfl
@[simp] theorem State.mbox_modTile (s : State) (t : Nat) (f : TileSt → TileSt) : (s.modTile t f).mbox = s.mbox := rfl
@[simp] theorem State.mortar_modTile (s : State) (t : Nat) (f : TileSt → TileSt) : (s.modTile t f).mortar = s.mortar := rfl
@[simp] theorem State.slots_modTile (s : State) (t : Nat) (f : TileSt → TileSt) : (s.modTile t f).slots = s.slots := rfl
@[simp] theorem State.rings_modTile (s : State) (t : Nat) (f : TileSt → TileSt) : (s.modTile t f).rings = s.rings := rfl
@[simp] theorem State.ctx_modTile (s : State) (t : Nat) (f : TileSt → TileSt) : (s.modTile t f).ctx = s.ctx := rfl
@[simp] theorem State.bind_modTile (s : State) (t : Nat) (f : TileSt → TileSt) : (s.modTile t f).bind = s.bind := rfl
@[simp] theorem State.hods_modTile (s : State) (t : Nat) (f : TileSt → TileSt) : (s.modTile t f).hods = s.hods := rfl
@[simp] theorem State.reply_modTile (s : State) (t : Nat) (f : TileSt → TileSt) : (s.modTile t f).reply = s.reply := rfl
@[simp] theorem State.sec_modTile (s : State) (t : Nat) (f : TileSt → TileSt) : (s.modTile t f).sec = s.sec := rfl
@[simp] theorem State.holdup_modTile (s : State) (t : Nat) (f : TileSt → TileSt) : (s.modTile t f).holdup = s.holdup := rfl
@[simp] theorem State.lanes_modTile (s : State) (t : Nat) (f : TileSt → TileSt) : (s.modTile t f).lanes = s.lanes := rfl
@[simp] theorem State.wythes_modTile (s : State) (t : Nat) (f : TileSt → TileSt) : (s.modTile t f).wythes = s.wythes := rfl
@[simp] theorem State.journal_modTile (s : State) (t : Nat) (f : TileSt → TileSt) : (s.modTile t f).journal = s.journal := rfl
@[simp] theorem State.time_modTile (s : State) (t : Nat) (f : TileSt → TileSt) : (s.modTile t f).time = s.time := rfl
@[simp] theorem State.dict_modTile (s : State) (t : Nat) (f : TileSt → TileSt) : (s.modTile t f).dict = s.dict := rfl
@[simp] theorem State.iface_modTile (s : State) (t : Nat) (f : TileSt → TileSt) : (s.modTile t f).iface = s.iface := rfl
@[simp] theorem State.ladder_modTile (s : State) (t : Nat) (f : TileSt → TileSt) : (s.modTile t f).ladder = s.ladder := rfl
@[simp] theorem State.power_modTile (s : State) (t : Nat) (f : TileSt → TileSt) : (s.modTile t f).power = s.power := rfl
@[simp] theorem State.aon_modTile (s : State) (t : Nat) (f : TileSt → TileSt) : (s.modTile t f).aon = s.aon := rfl
@[simp] theorem State.courses_modTile (s : State) (t : Nat) (f : TileSt → TileSt) : (s.modTile t f).courses = s.courses := rfl
@[simp] theorem State.raws_modTile (s : State) (t : Nat) (f : TileSt → TileSt) : (s.modTile t f).raws = s.raws := rfl
@[simp] theorem State.nvme_modTile (s : State) (t : Nat) (f : TileSt → TileSt) : (s.modTile t f).nvme = s.nvme := rfl
@[simp] theorem State.nextCid_modTile (s : State) (t : Nat) (f : TileSt → TileSt) : (s.modTile t f).nextCid = s.nextCid := rfl

/-! ### mark -/

@[simp] theorem State.pending_mark (s : State) (e k : Nat) : (s.mark e k).pending = s.pending := rfl
@[simp] theorem State.draws_mark (s : State) (e k : Nat) : (s.mark e k).draws = s.draws := rfl
@[simp] theorem State.tnow_mark (s : State) (e k : Nat) : (s.mark e k).tnow = s.tnow := rfl
@[simp] theorem State.mem_mark (s : State) (e k : Nat) : (s.mark e k).mem = s.mem := rfl
@[simp] theorem State.hostMem_mark (s : State) (e k : Nat) : (s.mark e k).hostMem = s.hostMem := rfl
@[simp] theorem State.addrFaults_mark (s : State) (e k : Nat) : (s.mark e k).addrFaults = s.addrFaults := rfl
@[simp] theorem State.tiles_mark (s : State) (e k : Nat) : (s.mark e k).tiles = s.tiles := rfl
@[simp] theorem State.vu_mark (s : State) (e k : Nat) : (s.mark e k).vu = s.vu := rfl
@[simp] theorem State.watcher_mark (s : State) (e k : Nat) : (s.mark e k).watcher = s.watcher := rfl
@[simp] theorem State.router_mark (s : State) (e k : Nat) : (s.mark e k).router = s.router := rfl
@[simp] theorem State.mbox_mark (s : State) (e k : Nat) : (s.mark e k).mbox = s.mbox := rfl
@[simp] theorem State.mortar_mark (s : State) (e k : Nat) : (s.mark e k).mortar = s.mortar := rfl
@[simp] theorem State.slots_mark (s : State) (e k : Nat) : (s.mark e k).slots = s.slots := rfl
@[simp] theorem State.rings_mark (s : State) (e k : Nat) : (s.mark e k).rings = s.rings := rfl
@[simp] theorem State.ctx_mark (s : State) (e k : Nat) : (s.mark e k).ctx = s.ctx := rfl
@[simp] theorem State.bind_mark (s : State) (e k : Nat) : (s.mark e k).bind = s.bind := rfl
@[simp] theorem State.hods_mark (s : State) (e k : Nat) : (s.mark e k).hods = s.hods := rfl
@[simp] theorem State.reply_mark (s : State) (e k : Nat) : (s.mark e k).reply = s.reply := rfl
@[simp] theorem State.sec_mark (s : State) (e k : Nat) : (s.mark e k).sec = s.sec := rfl
@[simp] theorem State.holdup_mark (s : State) (e k : Nat) : (s.mark e k).holdup = s.holdup := rfl
@[simp] theorem State.lanes_mark (s : State) (e k : Nat) : (s.mark e k).lanes = s.lanes := rfl
@[simp] theorem State.wythes_mark (s : State) (e k : Nat) : (s.mark e k).wythes = s.wythes := rfl
@[simp] theorem State.journal_mark (s : State) (e k : Nat) : (s.mark e k).journal = s.journal := rfl
@[simp] theorem State.time_mark (s : State) (e k : Nat) : (s.mark e k).time = s.time := rfl
@[simp] theorem State.dict_mark (s : State) (e k : Nat) : (s.mark e k).dict = s.dict := rfl
@[simp] theorem State.iface_mark (s : State) (e k : Nat) : (s.mark e k).iface = s.iface := rfl
@[simp] theorem State.ladder_mark (s : State) (e k : Nat) : (s.mark e k).ladder = s.ladder := rfl
@[simp] theorem State.power_mark (s : State) (e k : Nat) : (s.mark e k).power = s.power := rfl
@[simp] theorem State.aon_mark (s : State) (e k : Nat) : (s.mark e k).aon = s.aon := rfl
@[simp] theorem State.courses_mark (s : State) (e k : Nat) : (s.mark e k).courses = s.courses := rfl
@[simp] theorem State.raws_mark (s : State) (e k : Nat) : (s.mark e k).raws = s.raws := rfl
@[simp] theorem State.nvme_mark (s : State) (e k : Nat) : (s.mark e k).nvme = s.nvme := rfl
@[simp] theorem State.nextCid_mark (s : State) (e k : Nat) : (s.mark e k).nextCid = s.nextCid := rfl

/-! ### raise -/

@[simp] theorem State.pending_raise (s : State) (n : Nat) : (s.raise n).pending = s.pending := rfl
@[simp] theorem State.draws_raise (s : State) (n : Nat) : (s.raise n).draws = s.draws := rfl
@[simp] theorem State.tnow_raise (s : State) (n : Nat) : (s.raise n).tnow = s.tnow := rfl
@[simp] theorem State.mem_raise (s : State) (n : Nat) : (s.raise n).mem = s.mem := rfl
@[simp] theorem State.hostMem_raise (s : State) (n : Nat) : (s.raise n).hostMem = s.hostMem := rfl
@[simp] theorem State.addrFaults_raise (s : State) (n : Nat) : (s.raise n).addrFaults = s.addrFaults := rfl
@[simp] theorem State.tiles_raise (s : State) (n : Nat) : (s.raise n).tiles = s.tiles := rfl
@[simp] theorem State.router_raise (s : State) (n : Nat) : (s.raise n).router = s.router := rfl
@[simp] theorem State.mbox_raise (s : State) (n : Nat) : (s.raise n).mbox = s.mbox := rfl
@[simp] theorem State.mortar_raise (s : State) (n : Nat) : (s.raise n).mortar = s.mortar := rfl
@[simp] theorem State.slots_raise (s : State) (n : Nat) : (s.raise n).slots = s.slots := rfl
@[simp] theorem State.rings_raise (s : State) (n : Nat) : (s.raise n).rings = s.rings := rfl
@[simp] theorem State.ctx_raise (s : State) (n : Nat) : (s.raise n).ctx = s.ctx := rfl
@[simp] theorem State.bind_raise (s : State) (n : Nat) : (s.raise n).bind = s.bind := rfl
@[simp] theorem State.hods_raise (s : State) (n : Nat) : (s.raise n).hods = s.hods := rfl
@[simp] theorem State.reply_raise (s : State) (n : Nat) : (s.raise n).reply = s.reply := rfl
@[simp] theorem State.sec_raise (s : State) (n : Nat) : (s.raise n).sec = s.sec := rfl
@[simp] theorem State.holdup_raise (s : State) (n : Nat) : (s.raise n).holdup = s.holdup := rfl
@[simp] theorem State.lanes_raise (s : State) (n : Nat) : (s.raise n).lanes = s.lanes := rfl
@[simp] theorem State.wythes_raise (s : State) (n : Nat) : (s.raise n).wythes = s.wythes := rfl
@[simp] theorem State.journal_raise (s : State) (n : Nat) : (s.raise n).journal = s.journal := rfl
@[simp] theorem State.time_raise (s : State) (n : Nat) : (s.raise n).time = s.time := rfl
@[simp] theorem State.dict_raise (s : State) (n : Nat) : (s.raise n).dict = s.dict := rfl
@[simp] theorem State.iface_raise (s : State) (n : Nat) : (s.raise n).iface = s.iface := rfl
@[simp] theorem State.ladder_raise (s : State) (n : Nat) : (s.raise n).ladder = s.ladder := rfl
@[simp] theorem State.power_raise (s : State) (n : Nat) : (s.raise n).power = s.power := rfl
@[simp] theorem State.aon_raise (s : State) (n : Nat) : (s.raise n).aon = s.aon := rfl
@[simp] theorem State.courses_raise (s : State) (n : Nat) : (s.raise n).courses = s.courses := rfl
@[simp] theorem State.raws_raise (s : State) (n : Nat) : (s.raise n).raws = s.raws := rfl
@[simp] theorem State.nvme_raise (s : State) (n : Nat) : (s.raise n).nvme = s.nvme := rfl
@[simp] theorem State.nextCid_raise (s : State) (n : Nat) : (s.raise n).nextCid = s.nextCid := rfl

/-! ### addrFaultF -/

@[simp] theorem State.pending_addrFaultF (s : State) (f : Nat) : (s.addrFaultF f).pending = s.pending := rfl
@[simp] theorem State.draws_addrFaultF (s : State) (f : Nat) : (s.addrFaultF f).draws = s.draws := rfl
@[simp] theorem State.tnow_addrFaultF (s : State) (f : Nat) : (s.addrFaultF f).tnow = s.tnow := rfl
@[simp] theorem State.mem_addrFaultF (s : State) (f : Nat) : (s.addrFaultF f).mem = s.mem := rfl
@[simp] theorem State.hostMem_addrFaultF (s : State) (f : Nat) : (s.addrFaultF f).hostMem = s.hostMem := rfl
@[simp] theorem State.tiles_addrFaultF (s : State) (f : Nat) : (s.addrFaultF f).tiles = s.tiles := rfl
@[simp] theorem State.router_addrFaultF (s : State) (f : Nat) : (s.addrFaultF f).router = s.router := rfl
@[simp] theorem State.mbox_addrFaultF (s : State) (f : Nat) : (s.addrFaultF f).mbox = s.mbox := rfl
@[simp] theorem State.mortar_addrFaultF (s : State) (f : Nat) : (s.addrFaultF f).mortar = s.mortar := rfl
@[simp] theorem State.slots_addrFaultF (s : State) (f : Nat) : (s.addrFaultF f).slots = s.slots := rfl
@[simp] theorem State.rings_addrFaultF (s : State) (f : Nat) : (s.addrFaultF f).rings = s.rings := rfl
@[simp] theorem State.ctx_addrFaultF (s : State) (f : Nat) : (s.addrFaultF f).ctx = s.ctx := rfl
@[simp] theorem State.bind_addrFaultF (s : State) (f : Nat) : (s.addrFaultF f).bind = s.bind := rfl
@[simp] theorem State.hods_addrFaultF (s : State) (f : Nat) : (s.addrFaultF f).hods = s.hods := rfl
@[simp] theorem State.reply_addrFaultF (s : State) (f : Nat) : (s.addrFaultF f).reply = s.reply := rfl
@[simp] theorem State.sec_addrFaultF (s : State) (f : Nat) : (s.addrFaultF f).sec = s.sec := rfl
@[simp] theorem State.holdup_addrFaultF (s : State) (f : Nat) : (s.addrFaultF f).holdup = s.holdup := rfl
@[simp] theorem State.lanes_addrFaultF (s : State) (f : Nat) : (s.addrFaultF f).lanes = s.lanes := rfl
@[simp] theorem State.wythes_addrFaultF (s : State) (f : Nat) : (s.addrFaultF f).wythes = s.wythes := rfl
@[simp] theorem State.journal_addrFaultF (s : State) (f : Nat) : (s.addrFaultF f).journal = s.journal := rfl
@[simp] theorem State.time_addrFaultF (s : State) (f : Nat) : (s.addrFaultF f).time = s.time := rfl
@[simp] theorem State.dict_addrFaultF (s : State) (f : Nat) : (s.addrFaultF f).dict = s.dict := rfl
@[simp] theorem State.iface_addrFaultF (s : State) (f : Nat) : (s.addrFaultF f).iface = s.iface := rfl
@[simp] theorem State.ladder_addrFaultF (s : State) (f : Nat) : (s.addrFaultF f).ladder = s.ladder := rfl
@[simp] theorem State.power_addrFaultF (s : State) (f : Nat) : (s.addrFaultF f).power = s.power := rfl
@[simp] theorem State.aon_addrFaultF (s : State) (f : Nat) : (s.addrFaultF f).aon = s.aon := rfl
@[simp] theorem State.courses_addrFaultF (s : State) (f : Nat) : (s.addrFaultF f).courses = s.courses := rfl
@[simp] theorem State.raws_addrFaultF (s : State) (f : Nat) : (s.addrFaultF f).raws = s.raws := rfl
@[simp] theorem State.nvme_addrFaultF (s : State) (f : Nat) : (s.addrFaultF f).nvme = s.nvme := rfl
@[simp] theorem State.nextCid_addrFaultF (s : State) (f : Nat) : (s.addrFaultF f).nextCid = s.nextCid := rfl

/-! ### addrFault -/

@[simp] theorem State.pending_addrFault (s : State) (m : Nat) : (s.addrFault m).pending = s.pending := rfl
@[simp] theorem State.draws_addrFault (s : State) (m : Nat) : (s.addrFault m).draws = s.draws := rfl
@[simp] theorem State.tnow_addrFault (s : State) (m : Nat) : (s.addrFault m).tnow = s.tnow := rfl
@[simp] theorem State.mem_addrFault (s : State) (m : Nat) : (s.addrFault m).mem = s.mem := rfl
@[simp] theorem State.hostMem_addrFault (s : State) (m : Nat) : (s.addrFault m).hostMem = s.hostMem := rfl
@[simp] theorem State.tiles_addrFault (s : State) (m : Nat) : (s.addrFault m).tiles = s.tiles := rfl
@[simp] theorem State.router_addrFault (s : State) (m : Nat) : (s.addrFault m).router = s.router := rfl
@[simp] theorem State.mbox_addrFault (s : State) (m : Nat) : (s.addrFault m).mbox = s.mbox := rfl
@[simp] theorem State.mortar_addrFault (s : State) (m : Nat) : (s.addrFault m).mortar = s.mortar := rfl
@[simp] theorem State.slots_addrFault (s : State) (m : Nat) : (s.addrFault m).slots = s.slots := rfl
@[simp] theorem State.rings_addrFault (s : State) (m : Nat) : (s.addrFault m).rings = s.rings := rfl
@[simp] theorem State.ctx_addrFault (s : State) (m : Nat) : (s.addrFault m).ctx = s.ctx := rfl
@[simp] theorem State.bind_addrFault (s : State) (m : Nat) : (s.addrFault m).bind = s.bind := rfl
@[simp] theorem State.hods_addrFault (s : State) (m : Nat) : (s.addrFault m).hods = s.hods := rfl
@[simp] theorem State.reply_addrFault (s : State) (m : Nat) : (s.addrFault m).reply = s.reply := rfl
@[simp] theorem State.sec_addrFault (s : State) (m : Nat) : (s.addrFault m).sec = s.sec := rfl
@[simp] theorem State.holdup_addrFault (s : State) (m : Nat) : (s.addrFault m).holdup = s.holdup := rfl
@[simp] theorem State.lanes_addrFault (s : State) (m : Nat) : (s.addrFault m).lanes = s.lanes := rfl
@[simp] theorem State.wythes_addrFault (s : State) (m : Nat) : (s.addrFault m).wythes = s.wythes := rfl
@[simp] theorem State.journal_addrFault (s : State) (m : Nat) : (s.addrFault m).journal = s.journal := rfl
@[simp] theorem State.time_addrFault (s : State) (m : Nat) : (s.addrFault m).time = s.time := rfl
@[simp] theorem State.dict_addrFault (s : State) (m : Nat) : (s.addrFault m).dict = s.dict := rfl
@[simp] theorem State.iface_addrFault (s : State) (m : Nat) : (s.addrFault m).iface = s.iface := rfl
@[simp] theorem State.ladder_addrFault (s : State) (m : Nat) : (s.addrFault m).ladder = s.ladder := rfl
@[simp] theorem State.power_addrFault (s : State) (m : Nat) : (s.addrFault m).power = s.power := rfl
@[simp] theorem State.aon_addrFault (s : State) (m : Nat) : (s.addrFault m).aon = s.aon := rfl
@[simp] theorem State.courses_addrFault (s : State) (m : Nat) : (s.addrFault m).courses = s.courses := rfl
@[simp] theorem State.raws_addrFault (s : State) (m : Nat) : (s.addrFault m).raws = s.raws := rfl
@[simp] theorem State.nvme_addrFault (s : State) (m : Nat) : (s.addrFault m).nvme = s.nvme := rfl
@[simp] theorem State.nextCid_addrFault (s : State) (m : Nat) : (s.addrFault m).nextCid = s.nextCid := rfl

/-! ### drawn -/

@[simp] theorem State.pending_drawn (s : State) : (s.drawn).pending = s.pending := rfl
@[simp] theorem State.tnow_drawn (s : State) : (s.drawn).tnow = s.tnow := rfl
@[simp] theorem State.mem_drawn (s : State) : (s.drawn).mem = s.mem := rfl
@[simp] theorem State.hostMem_drawn (s : State) : (s.drawn).hostMem = s.hostMem := rfl
@[simp] theorem State.addrFaults_drawn (s : State) : (s.drawn).addrFaults = s.addrFaults := rfl
@[simp] theorem State.engines_drawn (s : State) : (s.drawn).engines = s.engines := rfl
@[simp] theorem State.tiles_drawn (s : State) : (s.drawn).tiles = s.tiles := rfl
@[simp] theorem State.vu_drawn (s : State) : (s.drawn).vu = s.vu := rfl
@[simp] theorem State.watcher_drawn (s : State) : (s.drawn).watcher = s.watcher := rfl
@[simp] theorem State.router_drawn (s : State) : (s.drawn).router = s.router := rfl
@[simp] theorem State.mbox_drawn (s : State) : (s.drawn).mbox = s.mbox := rfl
@[simp] theorem State.mortar_drawn (s : State) : (s.drawn).mortar = s.mortar := rfl
@[simp] theorem State.slots_drawn (s : State) : (s.drawn).slots = s.slots := rfl
@[simp] theorem State.rings_drawn (s : State) : (s.drawn).rings = s.rings := rfl
@[simp] theorem State.ctx_drawn (s : State) : (s.drawn).ctx = s.ctx := rfl
@[simp] theorem State.bind_drawn (s : State) : (s.drawn).bind = s.bind := rfl
@[simp] theorem State.hods_drawn (s : State) : (s.drawn).hods = s.hods := rfl
@[simp] theorem State.reply_drawn (s : State) : (s.drawn).reply = s.reply := rfl
@[simp] theorem State.sec_drawn (s : State) : (s.drawn).sec = s.sec := rfl
@[simp] theorem State.holdup_drawn (s : State) : (s.drawn).holdup = s.holdup := rfl
@[simp] theorem State.lanes_drawn (s : State) : (s.drawn).lanes = s.lanes := rfl
@[simp] theorem State.wythes_drawn (s : State) : (s.drawn).wythes = s.wythes := rfl
@[simp] theorem State.journal_drawn (s : State) : (s.drawn).journal = s.journal := rfl
@[simp] theorem State.time_drawn (s : State) : (s.drawn).time = s.time := rfl
@[simp] theorem State.dict_drawn (s : State) : (s.drawn).dict = s.dict := rfl
@[simp] theorem State.iface_drawn (s : State) : (s.drawn).iface = s.iface := rfl
@[simp] theorem State.ladder_drawn (s : State) : (s.drawn).ladder = s.ladder := rfl
@[simp] theorem State.power_drawn (s : State) : (s.drawn).power = s.power := rfl
@[simp] theorem State.aon_drawn (s : State) : (s.drawn).aon = s.aon := rfl
@[simp] theorem State.courses_drawn (s : State) : (s.drawn).courses = s.courses := rfl
@[simp] theorem State.raws_drawn (s : State) : (s.drawn).raws = s.raws := rfl
@[simp] theorem State.nvme_drawn (s : State) : (s.drawn).nvme = s.nvme := rfl
@[simp] theorem State.nextCid_drawn (s : State) : (s.drawn).nextCid = s.nextCid := rfl

/-! ### setByte -/

@[simp] theorem State.pending_setByte (s : State) (a : Nat) (v : Byte) : (s.setByte a v).pending = s.pending := rfl
@[simp] theorem State.draws_setByte (s : State) (a : Nat) (v : Byte) : (s.setByte a v).draws = s.draws := rfl
@[simp] theorem State.tnow_setByte (s : State) (a : Nat) (v : Byte) : (s.setByte a v).tnow = s.tnow := rfl
@[simp] theorem State.hostMem_setByte (s : State) (a : Nat) (v : Byte) : (s.setByte a v).hostMem = s.hostMem := rfl
@[simp] theorem State.addrFaults_setByte (s : State) (a : Nat) (v : Byte) : (s.setByte a v).addrFaults = s.addrFaults := rfl
@[simp] theorem State.engines_setByte (s : State) (a : Nat) (v : Byte) : (s.setByte a v).engines = s.engines := rfl
@[simp] theorem State.tiles_setByte (s : State) (a : Nat) (v : Byte) : (s.setByte a v).tiles = s.tiles := rfl
@[simp] theorem State.vu_setByte (s : State) (a : Nat) (v : Byte) : (s.setByte a v).vu = s.vu := rfl
@[simp] theorem State.watcher_setByte (s : State) (a : Nat) (v : Byte) : (s.setByte a v).watcher = s.watcher := rfl
@[simp] theorem State.router_setByte (s : State) (a : Nat) (v : Byte) : (s.setByte a v).router = s.router := rfl
@[simp] theorem State.mbox_setByte (s : State) (a : Nat) (v : Byte) : (s.setByte a v).mbox = s.mbox := rfl
@[simp] theorem State.mortar_setByte (s : State) (a : Nat) (v : Byte) : (s.setByte a v).mortar = s.mortar := rfl
@[simp] theorem State.slots_setByte (s : State) (a : Nat) (v : Byte) : (s.setByte a v).slots = s.slots := rfl
@[simp] theorem State.rings_setByte (s : State) (a : Nat) (v : Byte) : (s.setByte a v).rings = s.rings := rfl
@[simp] theorem State.ctx_setByte (s : State) (a : Nat) (v : Byte) : (s.setByte a v).ctx = s.ctx := rfl
@[simp] theorem State.bind_setByte (s : State) (a : Nat) (v : Byte) : (s.setByte a v).bind = s.bind := rfl
@[simp] theorem State.hods_setByte (s : State) (a : Nat) (v : Byte) : (s.setByte a v).hods = s.hods := rfl
@[simp] theorem State.reply_setByte (s : State) (a : Nat) (v : Byte) : (s.setByte a v).reply = s.reply := rfl
@[simp] theorem State.sec_setByte (s : State) (a : Nat) (v : Byte) : (s.setByte a v).sec = s.sec := rfl
@[simp] theorem State.holdup_setByte (s : State) (a : Nat) (v : Byte) : (s.setByte a v).holdup = s.holdup := rfl
@[simp] theorem State.lanes_setByte (s : State) (a : Nat) (v : Byte) : (s.setByte a v).lanes = s.lanes := rfl
@[simp] theorem State.wythes_setByte (s : State) (a : Nat) (v : Byte) : (s.setByte a v).wythes = s.wythes := rfl
@[simp] theorem State.journal_setByte (s : State) (a : Nat) (v : Byte) : (s.setByte a v).journal = s.journal := rfl
@[simp] theorem State.time_setByte (s : State) (a : Nat) (v : Byte) : (s.setByte a v).time = s.time := rfl
@[simp] theorem State.dict_setByte (s : State) (a : Nat) (v : Byte) : (s.setByte a v).dict = s.dict := rfl
@[simp] theorem State.iface_setByte (s : State) (a : Nat) (v : Byte) : (s.setByte a v).iface = s.iface := rfl
@[simp] theorem State.ladder_setByte (s : State) (a : Nat) (v : Byte) : (s.setByte a v).ladder = s.ladder := rfl
@[simp] theorem State.power_setByte (s : State) (a : Nat) (v : Byte) : (s.setByte a v).power = s.power := rfl
@[simp] theorem State.aon_setByte (s : State) (a : Nat) (v : Byte) : (s.setByte a v).aon = s.aon := rfl
@[simp] theorem State.courses_setByte (s : State) (a : Nat) (v : Byte) : (s.setByte a v).courses = s.courses := rfl
@[simp] theorem State.raws_setByte (s : State) (a : Nat) (v : Byte) : (s.setByte a v).raws = s.raws := rfl
@[simp] theorem State.nvme_setByte (s : State) (a : Nat) (v : Byte) : (s.setByte a v).nvme = s.nvme := rfl
@[simp] theorem State.nextCid_setByte (s : State) (a : Nat) (v : Byte) : (s.setByte a v).nextCid = s.nextCid := rfl

/-! ### setBytes -/

@[simp] theorem State.pending_setBytes (s : State) (a : Nat) (b : Bytes) : (s.setBytes a b).pending = s.pending := rfl
@[simp] theorem State.draws_setBytes (s : State) (a : Nat) (b : Bytes) : (s.setBytes a b).draws = s.draws := rfl
@[simp] theorem State.tnow_setBytes (s : State) (a : Nat) (b : Bytes) : (s.setBytes a b).tnow = s.tnow := rfl
@[simp] theorem State.hostMem_setBytes (s : State) (a : Nat) (b : Bytes) : (s.setBytes a b).hostMem = s.hostMem := rfl
@[simp] theorem State.addrFaults_setBytes (s : State) (a : Nat) (b : Bytes) : (s.setBytes a b).addrFaults = s.addrFaults := rfl
@[simp] theorem State.engines_setBytes (s : State) (a : Nat) (b : Bytes) : (s.setBytes a b).engines = s.engines := rfl
@[simp] theorem State.tiles_setBytes (s : State) (a : Nat) (b : Bytes) : (s.setBytes a b).tiles = s.tiles := rfl
@[simp] theorem State.vu_setBytes (s : State) (a : Nat) (b : Bytes) : (s.setBytes a b).vu = s.vu := rfl
@[simp] theorem State.watcher_setBytes (s : State) (a : Nat) (b : Bytes) : (s.setBytes a b).watcher = s.watcher := rfl
@[simp] theorem State.router_setBytes (s : State) (a : Nat) (b : Bytes) : (s.setBytes a b).router = s.router := rfl
@[simp] theorem State.mbox_setBytes (s : State) (a : Nat) (b : Bytes) : (s.setBytes a b).mbox = s.mbox := rfl
@[simp] theorem State.mortar_setBytes (s : State) (a : Nat) (b : Bytes) : (s.setBytes a b).mortar = s.mortar := rfl
@[simp] theorem State.slots_setBytes (s : State) (a : Nat) (b : Bytes) : (s.setBytes a b).slots = s.slots := rfl
@[simp] theorem State.rings_setBytes (s : State) (a : Nat) (b : Bytes) : (s.setBytes a b).rings = s.rings := rfl
@[simp] theorem State.ctx_setBytes (s : State) (a : Nat) (b : Bytes) : (s.setBytes a b).ctx = s.ctx := rfl
@[simp] theorem State.bind_setBytes (s : State) (a : Nat) (b : Bytes) : (s.setBytes a b).bind = s.bind := rfl
@[simp] theorem State.hods_setBytes (s : State) (a : Nat) (b : Bytes) : (s.setBytes a b).hods = s.hods := rfl
@[simp] theorem State.reply_setBytes (s : State) (a : Nat) (b : Bytes) : (s.setBytes a b).reply = s.reply := rfl
@[simp] theorem State.sec_setBytes (s : State) (a : Nat) (b : Bytes) : (s.setBytes a b).sec = s.sec := rfl
@[simp] theorem State.holdup_setBytes (s : State) (a : Nat) (b : Bytes) : (s.setBytes a b).holdup = s.holdup := rfl
@[simp] theorem State.lanes_setBytes (s : State) (a : Nat) (b : Bytes) : (s.setBytes a b).lanes = s.lanes := rfl
@[simp] theorem State.wythes_setBytes (s : State) (a : Nat) (b : Bytes) : (s.setBytes a b).wythes = s.wythes := rfl
@[simp] theorem State.journal_setBytes (s : State) (a : Nat) (b : Bytes) : (s.setBytes a b).journal = s.journal := rfl
@[simp] theorem State.time_setBytes (s : State) (a : Nat) (b : Bytes) : (s.setBytes a b).time = s.time := rfl
@[simp] theorem State.dict_setBytes (s : State) (a : Nat) (b : Bytes) : (s.setBytes a b).dict = s.dict := rfl
@[simp] theorem State.iface_setBytes (s : State) (a : Nat) (b : Bytes) : (s.setBytes a b).iface = s.iface := rfl
@[simp] theorem State.ladder_setBytes (s : State) (a : Nat) (b : Bytes) : (s.setBytes a b).ladder = s.ladder := rfl
@[simp] theorem State.power_setBytes (s : State) (a : Nat) (b : Bytes) : (s.setBytes a b).power = s.power := rfl
@[simp] theorem State.aon_setBytes (s : State) (a : Nat) (b : Bytes) : (s.setBytes a b).aon = s.aon := rfl
@[simp] theorem State.courses_setBytes (s : State) (a : Nat) (b : Bytes) : (s.setBytes a b).courses = s.courses := rfl
@[simp] theorem State.raws_setBytes (s : State) (a : Nat) (b : Bytes) : (s.setBytes a b).raws = s.raws := rfl
@[simp] theorem State.nvme_setBytes (s : State) (a : Nat) (b : Bytes) : (s.setBytes a b).nvme = s.nvme := rfl
@[simp] theorem State.nextCid_setBytes (s : State) (a : Nat) (b : Bytes) : (s.setBytes a b).nextCid = s.nextCid := rfl

/-! ### hostWrite -/

@[simp] theorem State.pending_hostWrite (s : State) (a : Nat) (b : Bytes) : (s.hostWrite a b).pending = s.pending := rfl
@[simp] theorem State.draws_hostWrite (s : State) (a : Nat) (b : Bytes) : (s.hostWrite a b).draws = s.draws := rfl
@[simp] theorem State.tnow_hostWrite (s : State) (a : Nat) (b : Bytes) : (s.hostWrite a b).tnow = s.tnow := rfl
@[simp] theorem State.mem_hostWrite (s : State) (a : Nat) (b : Bytes) : (s.hostWrite a b).mem = s.mem := rfl
@[simp] theorem State.addrFaults_hostWrite (s : State) (a : Nat) (b : Bytes) : (s.hostWrite a b).addrFaults = s.addrFaults := rfl
@[simp] theorem State.engines_hostWrite (s : State) (a : Nat) (b : Bytes) : (s.hostWrite a b).engines = s.engines := rfl
@[simp] theorem State.tiles_hostWrite (s : State) (a : Nat) (b : Bytes) : (s.hostWrite a b).tiles = s.tiles := rfl
@[simp] theorem State.vu_hostWrite (s : State) (a : Nat) (b : Bytes) : (s.hostWrite a b).vu = s.vu := rfl
@[simp] theorem State.watcher_hostWrite (s : State) (a : Nat) (b : Bytes) : (s.hostWrite a b).watcher = s.watcher := rfl
@[simp] theorem State.router_hostWrite (s : State) (a : Nat) (b : Bytes) : (s.hostWrite a b).router = s.router := rfl
@[simp] theorem State.mbox_hostWrite (s : State) (a : Nat) (b : Bytes) : (s.hostWrite a b).mbox = s.mbox := rfl
@[simp] theorem State.mortar_hostWrite (s : State) (a : Nat) (b : Bytes) : (s.hostWrite a b).mortar = s.mortar := rfl
@[simp] theorem State.slots_hostWrite (s : State) (a : Nat) (b : Bytes) : (s.hostWrite a b).slots = s.slots := rfl
@[simp] theorem State.rings_hostWrite (s : State) (a : Nat) (b : Bytes) : (s.hostWrite a b).rings = s.rings := rfl
@[simp] theorem State.ctx_hostWrite (s : State) (a : Nat) (b : Bytes) : (s.hostWrite a b).ctx = s.ctx := rfl
@[simp] theorem State.bind_hostWrite (s : State) (a : Nat) (b : Bytes) : (s.hostWrite a b).bind = s.bind := rfl
@[simp] theorem State.hods_hostWrite (s : State) (a : Nat) (b : Bytes) : (s.hostWrite a b).hods = s.hods := rfl
@[simp] theorem State.reply_hostWrite (s : State) (a : Nat) (b : Bytes) : (s.hostWrite a b).reply = s.reply := rfl
@[simp] theorem State.sec_hostWrite (s : State) (a : Nat) (b : Bytes) : (s.hostWrite a b).sec = s.sec := rfl
@[simp] theorem State.holdup_hostWrite (s : State) (a : Nat) (b : Bytes) : (s.hostWrite a b).holdup = s.holdup := rfl
@[simp] theorem State.lanes_hostWrite (s : State) (a : Nat) (b : Bytes) : (s.hostWrite a b).lanes = s.lanes := rfl
@[simp] theorem State.wythes_hostWrite (s : State) (a : Nat) (b : Bytes) : (s.hostWrite a b).wythes = s.wythes := rfl
@[simp] theorem State.journal_hostWrite (s : State) (a : Nat) (b : Bytes) : (s.hostWrite a b).journal = s.journal := rfl
@[simp] theorem State.time_hostWrite (s : State) (a : Nat) (b : Bytes) : (s.hostWrite a b).time = s.time := rfl
@[simp] theorem State.dict_hostWrite (s : State) (a : Nat) (b : Bytes) : (s.hostWrite a b).dict = s.dict := rfl
@[simp] theorem State.iface_hostWrite (s : State) (a : Nat) (b : Bytes) : (s.hostWrite a b).iface = s.iface := rfl
@[simp] theorem State.ladder_hostWrite (s : State) (a : Nat) (b : Bytes) : (s.hostWrite a b).ladder = s.ladder := rfl
@[simp] theorem State.power_hostWrite (s : State) (a : Nat) (b : Bytes) : (s.hostWrite a b).power = s.power := rfl
@[simp] theorem State.aon_hostWrite (s : State) (a : Nat) (b : Bytes) : (s.hostWrite a b).aon = s.aon := rfl
@[simp] theorem State.courses_hostWrite (s : State) (a : Nat) (b : Bytes) : (s.hostWrite a b).courses = s.courses := rfl
@[simp] theorem State.raws_hostWrite (s : State) (a : Nat) (b : Bytes) : (s.hostWrite a b).raws = s.raws := rfl
@[simp] theorem State.nvme_hostWrite (s : State) (a : Nat) (b : Bytes) : (s.hostWrite a b).nvme = s.nvme := rfl
@[simp] theorem State.nextCid_hostWrite (s : State) (a : Nat) (b : Bytes) : (s.hostWrite a b).nextCid = s.nextCid := rfl

/-! ### drbgNext -/

@[simp] theorem State.pending_drbgNext (s : State) : (s.drbgNext).pending = s.pending := rfl
@[simp] theorem State.draws_drbgNext (s : State) : (s.drbgNext).draws = s.draws := rfl
@[simp] theorem State.tnow_drbgNext (s : State) : (s.drbgNext).tnow = s.tnow := rfl
@[simp] theorem State.mem_drbgNext (s : State) : (s.drbgNext).mem = s.mem := rfl
@[simp] theorem State.hostMem_drbgNext (s : State) : (s.drbgNext).hostMem = s.hostMem := rfl
@[simp] theorem State.addrFaults_drbgNext (s : State) : (s.drbgNext).addrFaults = s.addrFaults := rfl
@[simp] theorem State.engines_drbgNext (s : State) : (s.drbgNext).engines = s.engines := rfl
@[simp] theorem State.tiles_drbgNext (s : State) : (s.drbgNext).tiles = s.tiles := rfl
@[simp] theorem State.vu_drbgNext (s : State) : (s.drbgNext).vu = s.vu := rfl
@[simp] theorem State.watcher_drbgNext (s : State) : (s.drbgNext).watcher = s.watcher := rfl
@[simp] theorem State.router_drbgNext (s : State) : (s.drbgNext).router = s.router := rfl
@[simp] theorem State.mbox_drbgNext (s : State) : (s.drbgNext).mbox = s.mbox := rfl
@[simp] theorem State.mortar_drbgNext (s : State) : (s.drbgNext).mortar = s.mortar := rfl
@[simp] theorem State.slots_drbgNext (s : State) : (s.drbgNext).slots = s.slots := rfl
@[simp] theorem State.rings_drbgNext (s : State) : (s.drbgNext).rings = s.rings := rfl
@[simp] theorem State.ctx_drbgNext (s : State) : (s.drbgNext).ctx = s.ctx := rfl
@[simp] theorem State.bind_drbgNext (s : State) : (s.drbgNext).bind = s.bind := rfl
@[simp] theorem State.hods_drbgNext (s : State) : (s.drbgNext).hods = s.hods := rfl
@[simp] theorem State.reply_drbgNext (s : State) : (s.drbgNext).reply = s.reply := rfl
@[simp] theorem State.holdup_drbgNext (s : State) : (s.drbgNext).holdup = s.holdup := rfl
@[simp] theorem State.lanes_drbgNext (s : State) : (s.drbgNext).lanes = s.lanes := rfl
@[simp] theorem State.wythes_drbgNext (s : State) : (s.drbgNext).wythes = s.wythes := rfl
@[simp] theorem State.journal_drbgNext (s : State) : (s.drbgNext).journal = s.journal := rfl
@[simp] theorem State.time_drbgNext (s : State) : (s.drbgNext).time = s.time := rfl
@[simp] theorem State.dict_drbgNext (s : State) : (s.drbgNext).dict = s.dict := rfl
@[simp] theorem State.iface_drbgNext (s : State) : (s.drbgNext).iface = s.iface := rfl
@[simp] theorem State.ladder_drbgNext (s : State) : (s.drbgNext).ladder = s.ladder := rfl
@[simp] theorem State.power_drbgNext (s : State) : (s.drbgNext).power = s.power := rfl
@[simp] theorem State.aon_drbgNext (s : State) : (s.drbgNext).aon = s.aon := rfl
@[simp] theorem State.courses_drbgNext (s : State) : (s.drbgNext).courses = s.courses := rfl
@[simp] theorem State.raws_drbgNext (s : State) : (s.drbgNext).raws = s.raws := rfl
@[simp] theorem State.nvme_drbgNext (s : State) : (s.drbgNext).nvme = s.nvme := rfl
@[simp] theorem State.nextCid_drbgNext (s : State) : (s.drbgNext).nextCid = s.nextCid := rfl

end Sys2Proof.Machine
end

