-- ==== Sys2Proof/Laws/Engine.lean ====
section
/-! SUPPORT. What one engine instruction does, by kind: the state it answers on a free engine (chapters 07 and 08). -/
namespace Sys2Proof.Machine

@[simp] theorem State.setEng_modEng (s : State) (e : Nat) (x : Engine) (f : Engine → Engine) :
    (s.setEng e x).modEng e f = s.setEng e (f x) := by
  simp [State.modEng, State.setEng, State.eng]

@[simp] theorem State.setEng_setEng (s : State) (e : Nat) (x y : Engine) : (s.setEng e x).setEng e y = s.setEng e y := by
  simp [State.setEng]

@[simp] theorem State.begins_eng (s : State) (e : Nat) : (s.begins e).eng e = (s.eng e).begun := by
  simp [State.begins, State.modEng, State.setEng, State.eng]

@[simp] theorem State.begins_setEng (s : State) (e : Nat) (x : Engine) : (s.begins e).setEng e x = s.setEng e x := by
  simp [State.begins, State.modEng]

@[simp] theorem State.begins_modEng (s : State) (e : Nat) (f : Engine → Engine) :
    (s.begins e).modEng e f = s.modEng e fun x => f x.begun := by
  rw [State.modEng, State.begins_eng, State.begins_setEng]; rfl

@[simp] theorem Engine.begun_reg (x : Engine) (r : Reg) : x.begun.reg r = x.reg r := rfl
@[simp] theorem Engine.begun_bank (x : Engine) (b : BankReg) : x.begun.bank b = x.bank b := rfl
@[simp] theorem Engine.begun_pc (x : Engine) : x.begun.pc = x.pc := rfl
@[simp] theorem Engine.begun_dataAddr (x : Engine) (op : EOp) : x.begun.dataAddr op = x.dataAddr op := by cases op <;> rfl

/-- A free engine begins and executes the instruction issued to it. -/
theorem State.issue_free {s : State} {e : Nat} (h : s.engFree e = true) (op : EOp) :
    s.issue e op = .next ((s.begins e).runOp e op) := by
  simp [State.issue, h]

/-- An engine that is not free leaves the state as it is. -/
theorem State.issue_not_free {s : State} {e : Nat} (h : s.engFree e = false) (op : EOp) : s.issue e op = .next s := by
  simp [State.issue, h]

/-- A free engine executes a load whose read meets no error. -/
theorem State.issueRead_good {s : State} {e : Nat} (h : s.engFree e = true) (op : EOp) :
    s.issueRead e 0 op = .next ((s.begins e).runOp e op) := by
  simp [State.issueRead, h, State.eccRead]

theorem State.runOp_alu (s : State) (e : Nat) (o : AluOp) (rd ra rb : Reg) : s.runOp e (.alu o rd ra rb) =
    s.setEng e (((s.eng e).setReg rd (aluEval o ((s.eng e).reg ra) ((s.eng e).reg rb))).past 1) :=
  State.setEng_modEng s e ((s.eng e).setReg rd (aluEval o ((s.eng e).reg ra) ((s.eng e).reg rb))) (·.past 1)

theorem State.runOp_neg (s : State) (e : Nat) (rd ra : Reg) : s.runOp e (.neg rd ra) =
    s.setEng e (((s.eng e).setReg rd (negW ((s.eng e).reg ra))).past 1) :=
  State.setEng_modEng s e ((s.eng e).setReg rd (negW ((s.eng e).reg ra))) (·.past 1)

theorem State.runOp_abs (s : State) (e : Nat) (rd ra : Reg) : s.runOp e (.abs rd ra) =
    s.setEng e (((s.eng e).setReg rd (absW ((s.eng e).reg ra))).past 1) :=
  State.setEng_modEng s e ((s.eng e).setReg rd (absW ((s.eng e).reg ra))) (·.past 1)

theorem State.runOp_imm (s : State) (e : Nat) (o : ImmOp) (rd ra : Reg) (v : BitVec 18) : s.runOp e (.imm o rd ra v) =
    s.setEng e (((s.eng e).setReg rd (immEval o ((s.eng e).reg ra) v)).past 2) :=
  State.setEng_modEng s e ((s.eng e).setReg rd (immEval o ((s.eng e).reg ra) v)) (·.past 2)

theorem State.runOp_li (s : State) (e : Nat) (rd : Reg) (c : W24) : s.runOp e (.li rd c) =
    s.setEng e (((s.eng e).setReg rd c).past 2) := State.setEng_modEng s e ((s.eng e).setReg rd c) (·.past 2)

theorem State.runOp_addi (s : State) (e : Nat) (rd : Reg) (v : BitVec 8) : s.runOp e (.addi rd v) =
    s.setEng e (((s.eng e).setReg rd ((s.eng e).reg rd + v.signExtend 24)).past 1) :=
  State.setEng_modEng s e ((s.eng e).setReg rd ((s.eng e).reg rd + v.signExtend 24)) (·.past 1)

theorem State.runOp_movi (s : State) (e : Nat) (rd : Reg) (v : BitVec 8) : s.runOp e (.movi rd v) =
    s.setEng e (((s.eng e).setReg rd (v.signExtend 24)).past 1) :=
  State.setEng_modEng s e ((s.eng e).setReg rd (v.signExtend 24)) (·.past 1)

theorem State.runOp_mfb (s : State) (e : Nat) (rd : Reg) (b : BankReg) : s.runOp e (.mfb rd b) =
    s.setEng e (((s.eng e).setReg rd (((s.eng e).bank b).setWidth 24)).past 1) :=
  State.setEng_modEng s e ((s.eng e).setReg rd (((s.eng e).bank b).setWidth 24)) (·.past 1)

theorem State.runOp_mtb (s : State) (e : Nat) (b : BankReg) (ra : Reg) : s.runOp e (.mtb b ra) =
    s.setEng e (((s.eng e).setBank b (((s.eng e).reg ra).setWidth 11)).past 1) :=
  State.setEng_modEng s e ((s.eng e).setBank b (((s.eng e).reg ra).setWidth 11)) (·.past 1)

theorem State.runOp_mul (s : State) (e : Nat) (o : MulOp) (ra rb : Reg) : s.runOp e (.mul o ra rb) =
    s.setEng e (((s.eng e).issueMul o ((s.eng e).reg ra) ((s.eng e).reg rb)).past 1) :=
  State.setEng_modEng s e ((s.eng e).issueMul o ((s.eng e).reg ra) ((s.eng e).reg rb)) (·.past 1)

theorem State.runOp_mfsr (s : State) (e : Nat) (rd : Reg) (n : BitVec 4) : s.runOp e (.mfsr rd n) =
    s.setEng e (((s.eng e).moveFrom s.tnow rd n.toNat).past 1) :=
  State.setEng_modEng s e ((s.eng e).moveFrom s.tnow rd n.toNat) (·.past 1)

theorem State.runOp_mtsr (s : State) (e : Nat) (n : BitVec 4) (ra : Reg) : s.runOp e (.mtsr n ra) =
    ((s.setEng e ((s.eng e).srWrite n.toNat ((s.eng e).reg ra))).markIfHeld e).modEng e (·.past 1) := rfl

/-- A word of local memory is read (R157). -/
theorem State.dataRead_local (s : State) (e : Nat) (a : W24) (h : a.toNat < 0x4000) :
    s.dataRead e a = ((s.eng e).loc.look 0 a.toNat, s) := by
  simp [State.dataRead, h]

/-- A word of local memory is written (R157). -/
theorem State.dataWrite_local (s : State) (e : Nat) (a v : W24) (h : a.toNat < 0x4000) :
    s.dataWrite e a v = s.modEng e fun x => { x with loc := x.loc.store 0 a.toNat v } := by
  simp [State.dataWrite, h]

/-- A word of the tile's shared data memory is written (R16, R157). -/
theorem State.dataWrite_shared (s : State) (e : Nat) (a v : W24) (h : 0x40000 ≤ a.toNat) (h2 : a.toNat < 0x80000) :
    s.dataWrite e a v = s.setBytes (sharedAddr e a.toNat) (toLE 3 v.toNat) := by
  simp only [State.dataWrite]
  rw [if_neg (by omega), if_pos ⟨h, h2⟩]

/-- A word of the tile's shared data memory is read (R16, R157). -/
theorem State.dataRead_shared (s : State) (e : Nat) (a : W24) (h : 0x40000 ≤ a.toNat) (h2 : a.toNat < 0x80000) :
    s.dataRead e a = (BitVec.ofNat 24 (leNat (s.bytesAt (sharedAddr e a.toNat) 3)), s) := by
  simp only [State.dataRead]
  rw [if_neg (by omega), if_pos ⟨h, h2⟩]

/-- A load of the data space into rd, with its post-step, on a read that changes nothing. -/
theorem State.loadWord_of_read {s : State} {e : Nat} {a v : W24} (h : s.dataRead e a = (v, s)) (rd : Reg) (p : Option (Reg × W24)) :
    s.loadWord e rd a p = s.modEng e fun x => (match p with | some q => x.setReg q.1 q.2 | none => x).setReg rd v := by
  cases p <;> simp only [State.loadWord, h] <;> rfl

end Sys2Proof.Machine
end

