-- ==== Sys2Proof/Laws/Memory.lean ====
section
/-! SUPPORT. Memory: a read after a write, and the canonical form that every operation keeps (R11, R15, R16; log entry 4). -/
namespace Sys2Proof.Machine

theorem Memory.wf_iff (m : List Host.Cell) : Memory.wf m = true ↔ Tab.Rising m ∧ ∀ c ∈ m, c.2 ≠ 0 := by
  induction m with
  | nil => simp [Memory.wf, Tab.Rising]
  | cons c r ih =>
    simp only [Memory.wf, Bool.and_eq_true, ih, Tab.Rising, List.all_eq_true, decide_eq_true_eq, bne_iff_ne]
    constructor
    · rintro ⟨⟨h1, h2⟩, h3, h4⟩
      exact ⟨⟨h2, h3⟩, by intro d hd; rcases List.mem_cons.mp hd with h | h; (· subst h; exact h1); exact h4 d h⟩
    · rintro ⟨⟨h1, h2⟩, h3⟩
      exact ⟨⟨h3 c (by simp), h1⟩, h2, fun d hd => h3 d (by simp [hd])⟩

theorem Memory.wf_store {m : List Host.Cell} (a : Nat) (v : Byte) (h : Memory.wf m = true) :
    Memory.wf (Tab.store m 0 a v) = true := by
  obtain ⟨h1, h2⟩ := (Memory.wf_iff m).mp h
  refine (Memory.wf_iff _).mpr ⟨Tab.store_rising 0 a v h1, ?_⟩
  intro c hc
  simp only [Tab.store] at hc
  split at hc
  · exact h2 c (List.mem_filter.mp hc).1
  · next hv =>
    rcases Tab.put_mem hc with hc | hc
    · subst hc; exact hv
    · exact h2 c hc

theorem Memory.wf_filter {m : List Host.Cell} (p : Host.Cell → Bool) (h : Memory.wf m = true) : Memory.wf (m.filter p) = true := by
  obtain ⟨h1, h2⟩ := (Memory.wf_iff m).mp h
  exact (Memory.wf_iff _).mpr ⟨Tab.filter_rising p h1, fun c hc => h2 c (List.mem_filter.mp hc).1⟩

theorem Memory.wf_storeBytes {m : List Host.Cell} (a : Nat) (b : Bytes) (h : Memory.wf m = true) :
    Memory.wf (storeBytes m a b) = true := by
  induction b generalizing m a with
  | nil => exact h
  | cons v r ih => exact ih (a + 1) (Memory.wf_store a _ h)

/-- A stored byte keeps memory canonical. -/
theorem State.wf_setByte {s : State} (a : Nat) (v : Byte) (h : Memory.wf s.mem = true) : Memory.wf (s.setByte a v).mem = true :=
  Memory.wf_store a _ h

/-- A stored byte string keeps memory canonical. -/
theorem State.wf_setBytes {s : State} (a : Nat) (b : Bytes) (h : Memory.wf s.mem = true) : Memory.wf (s.setBytes a b).mem = true :=
  Memory.wf_storeBytes a b h

/-- A byte reads back as stored, cut to what its slot holds (R11, R16). -/
@[simp] theorem State.byteAt_setByte_same (s : State) (a : Nat) (v : Byte) : (s.setByte a v).byteAt a = v &&& laneMask a := by
  simp [State.setByte, State.byteAt]

/-- Every other byte stays (R11). -/
theorem State.byteAt_setByte_other (s : State) {a b : Nat} (v : Byte) (h : b ≠ a) : (s.setByte a v).byteAt b = s.byteAt b :=
  Tab.look_store_other s.mem 0 0 _ h

theorem look_storeBytes_other (m : List Host.Cell) (a : Nat) (v : Bytes) (b : Nat) (h : b < a ∨ a + v.length ≤ b) :
    Tab.look (storeBytes m a v) 0 b = Tab.look m 0 b := by
  induction v generalizing m a with
  | nil => rfl
  | cons x r ih =>
    simp only [List.length_cons] at h
    simp only [storeBytes]
    rw [ih _ _ (by omega), Tab.look_store_other _ _ _ _ (by omega)]

theorem look_storeBytes_at (m : List Host.Cell) (a : Nat) (v : Bytes) (i : Nat) (h : i < v.length) :
    Tab.look (storeBytes m a v) 0 (a + i) = v[i] &&& laneMask (a + i) := by
  induction v generalizing m a i with
  | nil => simp at h
  | cons x r ih =>
    simp only [storeBytes]
    cases i with
    | zero => rw [look_storeBytes_other _ _ _ _ (by omega)]; simp
    | succ j =>
      simp only [List.length_cons] at h
      have := ih (Tab.store m 0 a (x &&& laneMask a)) (a + 1) j (by omega)
      rw [show a + (j + 1) = a + 1 + j by omega, this]
      simp

/-- Bytes outside a stored string stay (R11). -/
theorem State.byteAt_setBytes_other (s : State) (a : Nat) (v : Bytes) (b : Nat) (h : b < a ∨ a + v.length ≤ b) :
    (s.setBytes a v).byteAt b = s.byteAt b := look_storeBytes_other s.mem a v b h

/-- Bytes of a stored string read back, cut to what their slots hold (R11, R16). -/
theorem State.byteAt_setBytes_at (s : State) (a : Nat) (v : Bytes) (i : Nat) (h : i < v.length) :
    (s.setBytes a v).byteAt (a + i) = v[i] &&& laneMask (a + i) := look_storeBytes_at s.mem a v i h

end Sys2Proof.Machine
end

