-- ==== Sys2Proof/Laws/Sound.lean ====
section
/-! SUPPORT. Every operation keeps memory sound: from a state whose memory is in its canonical form, with every byte inside its slot (R16;
log entry 4), it gives a state, where it gives one, whose memory is so too. One lemma per operation, in the order of the files of
Machine/; memory itself changes in setByte, setBytes, wipeRange and offCore alone. -/
namespace Sys2Proof.Machine

/-- A memory in its canonical form whose bytes hold only bits of their slots: what `State.memSound` says of a state's. -/
def Cells (m : List Host.Cell) : Prop := Memory.wf m = true ∧ ∀ c ∈ m, c.2 &&& laneMask c.1 = c.2
theorem State.memSound_iff (s : State) : s.memSound ↔ Cells s.mem := Iff.rfl
/-- The same of the state that an operation gives, where it gives one. -/
structure OptCells (o : Option State) : Prop where
  cells : ∀ t, o = some t → Cells t.mem
structure OptCells2 {α : Type} (o : Option (α × State)) : Prop where
  cells : ∀ t, o = some t → Cells t.2.mem
theorem iterate_sound {f : State → State} (hf : ∀ s, Cells s.mem → Cells (f s).mem) (n : Nat) {s : State} (h : Cells s.mem) :
    Cells (iterate f n s).mem := by
  induction n generalizing s with
  | zero => exact h
  | succ n ih => exact ih (hf s h)
theorem foldl_sound {α : Type} {f : State → α → State} (hf : ∀ s a, Cells s.mem → Cells (f s a).mem) (l : List α) {s : State} (h : Cells s.mem) :
    Cells (l.foldl f s).mem := by
  induction l generalizing s with
  | nil => exact h
  | cons a r ih => exact ih (hf s a h)
theorem foldl1_sound {α β : Type} {f : State × β → α → State × β} (hf : ∀ p a, Cells p.1.mem → Cells (f p a).1.mem) (l : List α) {p : State × β}
    (h : Cells p.1.mem) : Cells (l.foldl f p).1.mem := by
  induction l generalizing p with
  | nil => exact h
  | cons a r ih => exact ih (hf p a h)
theorem foldlO_sound {α : Type} {f : Option State → α → Option State} (hf : ∀ o a, OptCells o → OptCells (f o a)) (l : List α) {o : Option State}
    (h : OptCells o) : OptCells (l.foldl f o) := by
  induction l generalizing o with
  | nil => exact h
  | cons a r ih => exact ih (hf o a h)
theorem ite_sound {c : Prop} [Decidable c] {a b : State} (ha : c → Cells a.mem) (hb : ¬c → Cells b.mem) : Cells (if c then a else b).mem := by
  by_cases h : c
  · rw [if_pos h]; exact ha h
  · rw [if_neg h]; exact hb h
theorem iteO_sound {c : Prop} [Decidable c] {a b : Option State} (ha : c → OptCells a) (hb : ¬c → OptCells b) : OptCells (if c then a else b) := by
  by_cases h : c
  · rw [if_pos h]; exact ha h
  · rw [if_neg h]; exact hb h
theorem iteP_sound {α : Type} {c : Prop} [Decidable c] {a b : Option (α × State)} (ha : c → OptCells2 a) (hb : ¬c → OptCells2 b) :
    OptCells2 (if c then a else b) := by
  by_cases h : c
  · rw [if_pos h]; exact ha h
  · rw [if_neg h]; exact hb h
theorem ite1_sound {α : Type} {c : Prop} [Decidable c] {a b : State × α} (ha : c → Cells a.1.mem) (hb : ¬c → Cells b.1.mem) :
    Cells (if c then a else b).1.mem := by
  by_cases h : c
  · rw [if_pos h]; exact ha h
  · rw [if_neg h]; exact hb h
theorem getD_sound {o : Option State} {s : State} (ho : OptCells o) (h : Cells s.mem) : Cells (o.getD s).mem := by
  cases o with
  | none => exact h
  | some t => exact ho.cells t rfl
theorem some_sound {s : State} (h : Cells s.mem) : OptCells (some s) := ⟨fun t e => by cases e; exact h⟩
theorem some2_sound {α : Type} {p : α × State} (h : Cells p.2.mem) : OptCells2 (some p) := ⟨fun t e => by cases e; exact h⟩
theorem none_sound : OptCells none := ⟨fun t e => by cases e⟩
theorem none2_sound {α : Type} : OptCells2 (none : Option (α × State)) := ⟨fun t e => by cases e⟩
theorem map_sound {α : Type} {o : Option α} {f : α → State} (h : ∀ a, Cells (f a).mem) : OptCells (o.map f) :=
  ⟨fun t e => by cases o with | none => cases e | some a => cases e; exact h a⟩
theorem optSome_sound {t : State} (h : OptCells (some t)) : Cells t.mem := h.cells t rfl
theorem use_sound {o : Option State} {t : State} (e : o = some t) (ho : OptCells o) : Cells t.mem := ho.cells t e
theorem use2_sound {α : Type} {o : Option (α × State)} {a : α} {t : State} (e : o = some (a, t)) (ho : OptCells2 o) : Cells t.mem := ho.cells _ e

theorem State.setEng_sound (s : State) (e : Nat) (x : Engine) (h0 : Cells s.mem) :
    Cells (State.setEng s e x).mem := h0

theorem State.modEng_sound (s : State) (e : Nat) (f : Engine → Engine) (h0 : Cells s.mem) :
    Cells (State.modEng s e f).mem := h0

theorem State.modTile_sound (s : State) (t : Nat) (f : TileSt → TileSt) (h0 : Cells s.mem) :
    Cells (State.modTile s t f).mem := h0

theorem State.mark_sound (s : State) (e : Nat) (bit : Nat) (h0 : Cells s.mem) :
    Cells (State.mark s e bit).mem := h0

theorem State.raise_sound (s : State) (n : Nat) (h0 : Cells s.mem) :
    Cells (State.raise s n).mem := h0

theorem State.raiseN_sound (s : State) (src : Nat) (n : Nat) (h0 : Cells s.mem) :
    Cells (State.raiseN s src n).mem := by
  unfold State.raiseN
  repeat' (first | with_reducible (first | assumption | apply State.raise_sound | apply iterate_sound) | (intro _))

theorem State.addrFaultF_sound (s : State) (f : Nat) (h0 : Cells s.mem) :
    Cells (State.addrFaultF s f).mem := h0

theorem State.addrFault_sound (s : State) (m : Nat) (h0 : Cells s.mem) :
    Cells (State.addrFault s m).mem := h0

theorem State.drawn_sound (s : State) (h0 : Cells s.mem) :
    Cells (State.drawn s).mem := h0

theorem State.drbgNext_sound (s : State) (h0 : Cells s.mem) :
    Cells (State.drbgNext s).mem := h0

theorem State.setByte_sound (s : State) (a : Nat) (v : Byte) (h0 : Cells s.mem) : Cells (s.setByte a v).mem := by
  refine ⟨Memory.wf_store a _ h0.1, fun c hc => ?_⟩
  simp only [State.setByte, Tab.store] at hc
  split at hc
  · exact h0.2 c (List.mem_filter.mp hc).1
  · rcases Tab.put_mem hc with hc | hc
    · subst hc
      simp [BitVec.and_assoc]
    · exact h0.2 c hc

theorem storeBytes_sound {m : List Host.Cell} (a : Nat) (b : Bytes) (h : Cells m) : Cells (storeBytes m a b) := by
  induction b generalizing m a with
  | nil => exact h
  | cons v r ih => exact ih (a + 1) (State.setByte_sound { mem := m } a v h)
theorem State.setBytes_sound (s : State) (a : Nat) (b : Bytes) (h0 : Cells s.mem) : Cells (s.setBytes a b).mem := storeBytes_sound a b h0

theorem State.hostWrite_sound (s : State) (a : Nat) (b : Bytes) (h0 : Cells s.mem) :
    Cells (State.hostWrite s a b).mem := h0

theorem State.msixWrite_sound (s : State) (v : Nat) (h0 : Cells s.mem) :
    Cells (State.msixWrite s v).mem := h0

theorem State.takeCount_sound (s : State) (n : Nat) (h0 : Cells s.mem) :
    Cells (State.takeCount s n).2.mem := h0

theorem State.raiseWrite_sound (s : State) (m : Nat) (n : Nat) (h0 : Cells s.mem) :
    Cells (State.raiseWrite s m n).mem := by
  unfold State.raiseWrite
  repeat' (first | with_reducible (first | assumption | apply State.raise_sound | apply State.addrFault_sound) | split)

theorem State.vuRead_sound (s : State) (off : Nat) (h0 : Cells s.mem) :
    OptCells2 (State.vuRead s off) := by
  unfold State.vuRead
  repeat' first
    | with_reducible (first
      | assumption | apply iteP_sound | apply State.takeCount_sound | apply some2_sound | exact none2_sound)
    | (intro _)

theorem State.vuWrite_sound (s : State) (m : Nat) (off : Nat) (v : W32) (be : W32) (h0 : Cells s.mem) :
    OptCells (State.vuWrite s m off v be) := by
  unfold State.vuWrite
  repeat' first
    | with_reducible (first
      | assumption | apply iteO_sound | apply State.raiseWrite_sound | apply some_sound | exact none_sound)
    | (intro _)

theorem State.sliceRead_sound (s : State) (e : Nat) (off : Nat) (h0 : Cells s.mem) :
    OptCells2 (State.sliceRead s e off) := by
  unfold State.sliceRead
  repeat' first
    | with_reducible (first
      | assumption | apply State.takeCount_sound | apply some2_sound | exact none2_sound)
    | split

theorem State.sliceWrite_sound (s : State) (e : Nat) (off : Nat) (v : W24) (h0 : Cells s.mem) :
    OptCells (State.sliceWrite s e off v) := by
  unfold State.sliceWrite
  repeat' first
    | with_reducible (first
      | assumption | apply State.raiseWrite_sound | apply some_sound | exact none_sound)
    | split

theorem State.markWarm_sound (s : State) (e : Nat) (bit : Nat) (h0 : Cells s.mem) :
    Cells (State.markWarm s e bit).mem := by
  unfold State.markWarm
  repeat' (first | with_reducible (first | assumption | apply State.mark_sound) | split)

theorem markSubscribers_sound (s : State) (subs : Tab TaskRow) (h0 : Cells s.mem) :
    Cells (markSubscribers s subs).mem := by
  unfold markSubscribers
  repeat' (first | with_reducible (first | assumption | apply State.markWarm_sound | apply foldl_sound) | (intro _) | split)

theorem State.publishN_sound (s : State) (c : Nat) (k : Nat) (h0 : Cells s.mem) :
    Cells (State.publishN s c k).mem := by
  unfold State.publishN
  repeat' (first | with_reducible (first | assumption | apply State.raiseN_sound | apply markSubscribers_sound) | split)

theorem State.publish_sound (s : State) (c : Nat) (h0 : Cells s.mem) :
    Cells (State.publish s c).mem := by
  unfold State.publish
  repeat' with_reducible (first | assumption | apply State.publishN_sound)

theorem State.publishCore_sound (s : State) (c : Nat) (h0 : Cells s.mem) :
    Cells (State.publishCore s c).mem := by
  unfold State.publishCore
  repeat' (first | with_reducible (first | assumption | apply State.publish_sound) | split)

theorem State.publishRun_sound (s : State) (c : Nat) (n : Nat) (h0 : Cells s.mem) :
    Cells (State.publishRun s c n).mem := by
  unfold State.publishRun
  repeat' (first | with_reducible (first | assumption | apply State.publishN_sound) | split)

theorem State.eventOutput_sound (s : State) (o : Nat) (h0 : Cells s.mem) :
    Cells (State.eventOutput s o).mem := by
  unfold State.eventOutput
  repeat' (first | with_reducible (first | assumption | apply State.publish_sound) | split | dsimp only)

theorem State.publishValue_sound (s : State) (e : Nat) (v : W24) (h0 : Cells s.mem) :
    Cells (State.publishValue s e v).mem := by
  unfold State.publishValue
  repeat' (first | with_reducible (first | assumption | apply State.publishCore_sound | apply State.addrFault_sound) | split)

theorem State.takeTask_sound (s : State) (t : Nat) (h0 : Cells s.mem) :
    Cells (State.takeTask s t).2.mem := h0

theorem State.routerRead_sound (s : State) (off : Nat) (h0 : Cells s.mem) :
    OptCells2 (State.routerRead s off) := by
  unfold State.routerRead
  repeat' first
    | with_reducible (first
      | assumption | apply iteP_sound | apply State.takeTask_sound | apply some2_sound | exact none2_sound)
    | (intro _)

theorem State.routerWrite_sound (s : State) (m : Nat) (off : Nat) (v : W32) (be : W32) (h0 : Cells s.mem) :
    OptCells (State.routerWrite s m off v be) := by
  unfold State.routerWrite
  repeat' (first | with_reducible (first | assumption | apply iteO_sound | apply some_sound | exact none_sound) | (intro _))

theorem State.routerPortRead_sound (s : State) (e : Nat) (off : Nat) (h0 : Cells s.mem) :
    OptCells2 (State.routerPortRead s e off) := by
  unfold State.routerPortRead
  repeat' first
    | with_reducible (first
      | assumption | apply State.takeTask_sound | apply some2_sound | exact none2_sound)
    | split

theorem State.routerPortWrite_sound (s : State) (e : Nat) (off : Nat) (v : W24) (h0 : Cells s.mem) :
    OptCells (State.routerPortWrite s e off v) := by
  unfold State.routerPortWrite
  repeat' first
    | with_reducible (first
      | assumption | apply State.publishValue_sound | apply some_sound | exact none_sound)
    | split

theorem State.setMbox_sound (s : State) (c : Nat) (x : MboxRow) (h0 : Cells s.mem) :
    Cells (State.setMbox s c x).mem := h0

theorem State.violation_sound (s : State) (h0 : Cells s.mem) :
    Cells (State.violation s).mem := h0

theorem State.noticeReceiver_sound (s : State) (x : MboxRow) (h0 : Cells s.mem) :
    Cells (State.noticeReceiver s x).mem := by
  unfold State.noticeReceiver
  repeat' (first | with_reducible (first | assumption | apply State.raise_sound | apply State.markWarm_sound) | split)

theorem State.mailSend_sound (s : State) (m : Nat) (c : Nat) (tag : BitVec 16) (h0 : Cells s.mem) :
    Cells (State.mailSend s m c tag).mem := by
  unfold State.mailSend
  repeat' first
    | with_reducible (first
      | assumption | apply State.violation_sound | apply State.raise_sound | apply State.setMbox_sound | apply State.noticeReceiver_sound)
    | split | dsimp only

theorem State.noticeSender_sound (s : State) (x : MboxRow) (h0 : Cells s.mem) :
    Cells (State.noticeSender s x).mem := by
  unfold State.noticeSender
  repeat' (first | with_reducible (first | assumption | apply State.raise_sound | apply State.markWarm_sound) | split)

theorem State.mailAck_sound (s : State) (m : Nat) (c : Nat) (v : W24) (h0 : Cells s.mem) :
    Cells (State.mailAck s m c v).mem := by
  unfold State.mailAck
  repeat' first
    | with_reducible (first
      | assumption | apply State.violation_sound | apply State.noticeSender_sound | apply State.setMbox_sound)
    | split | dsimp only

theorem State.mailStage_sound (s : State) (m : Nat) (c : Nat) (i : Nat) (v : W24) (h0 : Cells s.mem) :
    Cells (State.mailStage s m c i v).mem := by
  unfold State.mailStage
  repeat' (first | with_reducible (first | assumption | apply State.setMbox_sound | apply State.violation_sound) | split)

theorem State.mailLock_sound (s : State) (m : Nat) (h0 : Cells s.mem) :
    OptCells (State.mailLock s m) := by
  unfold State.mailLock
  repeat' (first | with_reducible (first | assumption | apply some_sound | exact none_sound) | split)

theorem State.mailCtl_sound (s : State) (m : Nat) (v : W32) (be : W32) (h0 : Cells s.mem) :
    OptCells (State.mailCtl s m v be) := by
  unfold State.mailCtl
  repeat' (first | with_reducible (first | assumption | apply some_sound | exact none_sound) | split)

theorem State.mailRead_sound (s : State) (off : Nat) (h0 : Cells s.mem) :
    OptCells2 (State.mailRead s off) := by
  unfold State.mailRead
  repeat' (first | with_reducible (first | assumption | apply some2_sound | exact none2_sound) | split)

theorem State.mailBind_sound (s : State) (m : Nat) (c : Nat) (v : W32) (be : W32) (h0 : Cells s.mem) :
    OptCells (State.mailBind s m c v be) := by
  unfold State.mailBind
  repeat' (first | with_reducible (first | assumption | apply State.setMbox_sound | apply some_sound | exact none_sound) | split)

theorem State.mailWrite_sound (s : State) (m : Nat) (off : Nat) (v : W32) (be : W32) (h0 : Cells s.mem) :
    OptCells (State.mailWrite s m off v be) := by
  unfold State.mailWrite
  repeat' first
    | with_reducible (first
      | assumption | apply State.mailSend_sound | apply State.mailStage_sound | apply State.mailAck_sound | apply State.mailBind_sound
      | apply State.mailCtl_sound | apply some_sound | exact none_sound)
    | split | dsimp only

theorem State.mailPortRead_sound (s : State) (e : Nat) (off : Nat) (h0 : Cells s.mem) :
    OptCells2 (State.mailPortRead s e off) := by
  unfold State.mailPortRead
  repeat' (first | with_reducible (first | assumption | apply some2_sound | exact none2_sound) | split)

theorem State.mailPortWrite_sound (s : State) (e : Nat) (off : Nat) (v : W24) (h0 : Cells s.mem) :
    OptCells (State.mailPortWrite s e off v) := by
  unfold State.mailPortWrite
  repeat' first
    | with_reducible (first
      | assumption | apply State.modEng_sound | apply State.mailStage_sound | apply State.mailSend_sound | apply State.mailAck_sound
      | apply some_sound | exact none_sound)
    | split

theorem State.slotRead_sound (s : State) (off : Nat) (h0 : Cells s.mem) :
    OptCells2 (State.slotRead s off) := by
  unfold State.slotRead
  repeat' (first | with_reducible (first | assumption | apply some2_sound | exact none2_sound) | split)

theorem State.slotWrite_sound (s : State) (m : Nat) (off : Nat) (v : W32) (be : W32) (h0 : Cells s.mem) :
    OptCells (State.slotWrite s m off v be) := by
  unfold State.slotWrite
  repeat' first
    | with_reducible (first
      | assumption | apply some_sound | exact none_sound | apply map_sound)
    | (intro _) | split

theorem State.setDict_sound (s : State) (idx : Nat) (sub : Nat) (v : Bytes) (h0 : Cells s.mem) :
    Cells (State.setDict s idx sub v).mem := h0

theorem State.setCtx_sound (s : State) (c : Nat) (r : CtxRec) (h0 : Cells s.mem) :
    Cells (State.setCtx s c r).mem := h0

theorem State.modCtx_sound (s : State) (c : Nat) (f : CtxRec → CtxRec) (h0 : Cells s.mem) :
    Cells (State.modCtx s c f).mem := h0

theorem State.setCtxByte_sound (s : State) (a : Nat) (v : Byte) (h0 : Cells s.mem) :
    Cells (State.setCtxByte s a v).mem := by
  unfold State.setCtxByte
  repeat' (first | with_reducible (first | assumption | apply ite_sound | apply State.modCtx_sound) | (intro _))

theorem State.staleRef_sound (s : State) (h0 : Cells s.mem) :
    Cells (State.staleRef s).mem := h0

theorem State.claimLost_sound (s : State) (h0 : Cells s.mem) :
    Cells (State.claimLost s).mem := h0

theorem State.tryClaim_sound (s : State) (c : Nat) (m : Nat) (own : Option Nat) (h0 : Cells s.mem) :
    OptCells (State.tryClaim s c m own) := by
  unfold State.tryClaim
  repeat' (first | with_reducible (first | assumption | apply some_sound | exact none_sound) | split)

theorem State.releaseClaim_sound (s : State) (c : Nat) (h0 : Cells s.mem) :
    Cells (State.releaseClaim s c).mem := h0

theorem State.takeFree_sound (s : State) (r : CtxRec) (h0 : Cells s.mem) :
    OptCells2 (State.takeFree s r) := by
  unfold State.takeFree
  repeat' (first | with_reducible (first | assumption | apply some2_sound | exact none2_sound) | split)

theorem State.makeFree_sound (s : State) (c : Nat) (h0 : Cells s.mem) :
    Cells (State.makeFree s c).mem := h0

theorem State.answer_sound (s : State) (dest : Nat) (st : Status) (h0 : Cells s.mem) :
    Cells (State.answer s dest st).mem := h0

theorem State.rekeyStart_sound (s : State) (h0 : Cells s.mem) :
    Cells (State.rekeyStart s).mem := h0

theorem State.rekeyIfFull_sound (s : State) (h0 : Cells s.mem) :
    Cells (State.rekeyIfFull s).mem := by
  unfold State.rekeyIfFull
  repeat' (first | with_reducible (first | assumption | apply State.rekeyStart_sound) | split)

theorem State.countBindings_sound (s : State) (c : Nat) (h0 : Cells s.mem) :
    Cells (State.countBindings s c).mem := by
  unfold State.countBindings
  repeat' (first | with_reducible (first | assumption | apply State.modCtx_sound) | split)

theorem State.retarget_sound (s : State) (l : Nat) (c : Nat) (h0 : Cells s.mem) :
    Cells (State.retarget s l c).mem := by
  unfold State.retarget
  repeat' with_reducible (first | assumption | apply State.countBindings_sound | apply foldl_sound)

theorem State.rekeyCheck_sound (s : State) (h0 : Cells s.mem) :
    Cells (State.rekeyCheck s).mem := by
  unfold State.rekeyCheck
  repeat' (first | with_reducible (first | assumption | apply State.rekeyStart_sound | apply State.rekeyIfFull_sound) | split)

theorem State.bindInsert_sound (s : State) (e : BindEntry) (h0 : Cells s.mem) :
    Cells (State.bindInsert s e).2.mem := by
  unfold State.bindInsert
  repeat' first
    | with_reducible (first
      | assumption | apply State.rekeyCheck_sound | apply State.countBindings_sound)
    | split | dsimp only

theorem State.bindRemove_sound (s : State) (k : BitVec 320) (h0 : Cells s.mem) :
    Cells (State.bindRemove s k).mem := by
  unfold State.bindRemove
  repeat' (first | with_reducible (first | assumption | apply State.countBindings_sound) | split)

theorem State.mortarTurn_sound (s : State) (m : Mortar) (h0 : Cells s.mem) :
    Cells (State.mortarTurn s m).mem := by
  unfold State.mortarTurn
  repeat' (first | with_reducible (first | assumption | apply State.raise_sound | apply foldl_sound) | (intro _) | split)

theorem State.queueJob_sound (s : State) (i : Nat) (j : Job) (h0 : Cells s.mem) :
    Cells (State.queueJob s i j).mem := h0

theorem State.turnNow_sound (s : State) (h0 : Cells s.mem) :
    Cells (State.turnNow s).mem := by
  unfold State.turnNow
  repeat' with_reducible (first | assumption | apply State.mortarTurn_sound)

theorem State.enqueueJob_sound (s : State) (i : Nat) (j : Job) (h0 : Cells s.mem) :
    Cells (State.enqueueJob s i j).mem := by
  unfold State.enqueueJob
  repeat' with_reducible (first | assumption | apply State.turnNow_sound | apply State.queueJob_sound)

theorem State.finishJob_sound (s : State) (i : Nat) (j : Job) (h0 : Cells s.mem) :
    Cells (State.finishJob s i j).mem := h0

theorem State.jobNotice_sound (s : State) (engine : Option Eng) (h0 : Cells s.mem) :
    Cells (State.jobNotice s engine).mem := by
  unfold State.jobNotice
  repeat' (first | with_reducible (first | assumption | apply State.markWarm_sound) | split)

theorem State.jobRejected_sound (s : State) (d : JobDesc) (st : Status) (input : Nat) (engine : Option Eng) (h0 : Cells s.mem) :
    Cells (State.jobRejected s d st input engine).mem := by
  unfold State.jobRejected
  repeat' first
    | with_reducible (first
      | assumption | apply State.setBytes_sound | apply State.jobNotice_sound | apply State.raise_sound)
    | split

theorem State.submitJob_sound (s : State) (i : Nat) (addr : Nat) (sign : Bool) (engine : Option Eng) (host : Option EntryRef) (h0 : Cells s.mem) :
    Cells (State.submitJob s i addr sign engine host).mem := by
  unfold State.submitJob
  repeat' first
    | with_reducible (first
      | assumption | apply State.raise_sound | apply State.jobRejected_sound | apply State.enqueueJob_sound)
    | split | dsimp only

theorem State.submitEngine_sound (s : State) (e : Nat) (hi : BitVec 11) (h0 : Cells s.mem) :
    Cells (State.submitEngine s e hi).mem := by
  unfold State.submitEngine
  repeat' first
    | with_reducible (first
      | assumption | apply State.submitJob_sound | apply State.addrFault_sound)
    | split | dsimp only

theorem State.setHeldHi_sound (s : State) (m : Nat) (v : BitVec 3) (h0 : Cells s.mem) :
    Cells (State.setHeldHi s m v).mem := by
  unfold State.setHeldHi
  repeat' (first | with_reducible (first | assumption | apply State.modEng_sound) | split)

theorem State.submit12_sound (s : State) (m : Nat) (lo : W32) (h0 : Cells s.mem) :
    Cells (State.submit12 s m lo).mem := by
  unfold State.submit12
  repeat' first
    | with_reducible (first
      | assumption | apply State.submitJob_sound | apply State.addrFault_sound)
    | split | dsimp only

theorem State.jobDone_sound (s : State) (i : Nat) (j : Job) (h0 : Cells s.mem) :
    Cells (State.jobDone s i j).1.mem := by
  unfold State.jobDone
  repeat' first
    | with_reducible (first
      | assumption | apply State.setBytes_sound | apply State.jobNotice_sound | apply State.finishJob_sound)
    | split

theorem State.setStarveLimit_sound (s : State) (v : BitVec 16) (h0 : Cells s.mem) :
    Cells (State.setStarveLimit s v).mem := by
  unfold State.setStarveLimit
  repeat' with_reducible (first | assumption | apply State.setDict_sound | apply State.mortarTurn_sound)

theorem State.mortarRead_sound (s : State) (off : Nat) (h0 : Cells s.mem) :
    OptCells2 (State.mortarRead s off) := by
  unfold State.mortarRead
  repeat' (first | with_reducible (first | assumption | apply some2_sound | exact none2_sound) | split | dsimp only)

theorem State.mortarWrite_sound (s : State) (m : Nat) (off : Nat) (v : W32) (be : W32) (h0 : Cells s.mem) :
    OptCells (State.mortarWrite s m off v be) := by
  unfold State.mortarWrite
  repeat' first
    | with_reducible (first
      | assumption | apply State.setStarveLimit_sound | apply State.submit12_sound | apply State.setHeldHi_sound | apply some_sound
      | exact none_sound)
    | split

theorem State.mortarPortRead_sound (s : State) (e : Nat) (off : Nat) (h0 : Cells s.mem) :
    OptCells2 (State.mortarPortRead s e off) := by
  unfold State.mortarPortRead
  repeat' (first | with_reducible (first | assumption | apply some2_sound | exact none2_sound) | split)

theorem State.mortarPortWrite_sound (s : State) (e : Nat) (off : Nat) (v : W24) (h0 : Cells s.mem) :
    OptCells (State.mortarPortWrite s e off v) := by
  unfold State.mortarPortWrite
  repeat' first
    | with_reducible (first
      | assumption | apply State.modEng_sound | apply State.submitEngine_sound | apply some_sound | exact none_sound)
    | split

theorem State.emcy_sound (s : State) (code : BitVec 16) (bit : Nat) (on : Bool) (source : Nat) (status : Status) (h0 : Cells s.mem) :
    Cells (State.emcy s code bit on source status).mem := h0

theorem State.setLane_sound (s : State) (l : Nat) (x : LaneSt) (h0 : Cells s.mem) :
    Cells (State.setLane s l x).mem := h0

theorem State.modLane_sound (s : State) (l : Nat) (f : LaneSt → LaneSt) (h0 : Cells s.mem) :
    Cells (State.modLane s l f).mem := h0

theorem State.reshare_sound (s : State) (h0 : Cells s.mem) :
    Cells (State.reshare s).mem := h0

theorem State.signal211_sound (s : State) (on : Bool) (h0 : Cells s.mem) :
    Cells (State.signal211 s on).mem := by
  unfold State.signal211
  repeat' first
    | with_reducible (first
      | assumption | apply State.emcy_sound | apply State.publish_sound | apply State.raise_sound)

theorem State.judgeInadequate_sound (s : State) (h0 : Cells s.mem) :
    Cells (State.judgeInadequate s).mem := by
  unfold State.judgeInadequate
  repeat' (first | with_reducible (first | assumption | apply State.signal211_sound) | split | dsimp only)

theorem State.horizonUpdate_sound (s : State) (v : Nat) (t : Int) (h0 : Cells s.mem) :
    Cells (State.horizonUpdate s v t).mem := by
  unfold State.horizonUpdate
  repeat' with_reducible (first | assumption | apply State.judgeInadequate_sound | apply State.reshare_sound)

theorem State.headLine_sound (s : State) (f : JHead → JHead) (h0 : Cells s.mem) :
    Cells (State.headLine s f).mem := h0

theorem State.lineOf_sound (s : State) (l : Nat) (h0 : Cells s.mem) :
    Cells (State.lineOf s l).mem := h0

theorem State.charge_sound (s : State) (i : Int) (h0 : Cells s.mem) :
    Cells (State.charge s i).mem := h0

theorem State.leakage_sound (s : State) (v : Nat) (h0 : Cells s.mem) :
    Cells (State.leakage s v).mem := by
  unfold State.leakage
  repeat' first
    | with_reducible (first
      | assumption | apply State.headLine_sound | apply State.raise_sound)
    | split | dsimp only

theorem State.modMember_sound (s : State) (m : Nat) (f : MemberSt → MemberSt) (h0 : Cells s.mem) :
    Cells (State.modMember s m f).mem := h0

theorem State.ssd_sound (s : State) (m : Nat) (c : SsdCmd) (h0 : Cells s.mem) :
    Cells (State.ssd s m c).mem := h0

theorem State.ssdWrite_sound (s : State) (m : Nat) (zone : Nat) (lba : Nat) (b : Bytes) (h0 : Cells s.mem) :
    Cells (State.ssdWrite s m zone lba b).mem := h0

theorem State.resetZone_sound (s : State) (m : Nat) (n : Nat) (h0 : Cells s.mem) :
    Cells (State.resetZone s m n).mem := by
  unfold State.resetZone
  repeat' (first | with_reducible (first | assumption | apply State.ssd_sound) | split)

theorem State.finish_sound (s : State) (m : Nat) (n : Nat) (h0 : Cells s.mem) :
    Cells (State.finish s m n).mem := by
  unfold State.finish
  repeat' (first | with_reducible (first | assumption | apply State.ssd_sound) | split)

theorem State.writeLabel_sound (s : State) (m : Nat) (h0 : Cells s.mem) :
    Cells (State.writeLabel s m).mem := by
  unfold State.writeLabel
  repeat' first
    | with_reducible (first
      | assumption | apply State.modMember_sound | apply State.resetZone_sound | apply State.ssdWrite_sound)
    | split

theorem State.nextCoping_sound (s : State) (m : Nat) (h0 : Cells s.mem) :
    OptCells (State.nextCoping s m) := by
  unfold State.nextCoping
  repeat' first
    | with_reducible (first
      | assumption | apply State.finish_sound | apply State.writeLabel_sound | apply State.modMember_sound | apply some_sound
      | exact none_sound)
    | split | dsimp only

theorem State.copingRoom_sound (s : State) (m : Nat) (h0 : Cells s.mem) :
    OptCells (State.copingRoom s m) := by
  unfold State.copingRoom
  repeat' (first | with_reducible (first | assumption | apply State.nextCoping_sound | apply some_sound) | split | dsimp only)

theorem State.issueRecord_sound (s : State) (m : Nat) (mono : W64) (h0 : Cells s.mem) :
    Cells (State.issueRecord s m mono).mem := h0

theorem State.writeRecord_sound (s : State) (m : Nat) (mono : W64) (bytes : Bytes) (h0 : Cells s.mem) :
    Cells (State.writeRecord s m mono bytes).mem := h0

theorem State.issueRecords_sound (s : State) (seq : Nat) (mono : W64) (bytes : Bytes) (h0 : Cells s.mem) :
    Cells (State.issueRecords s seq mono bytes).1.mem := by
  unfold State.issueRecords
  repeat' first
    | with_reducible (first
      | assumption | apply State.raise_sound | apply State.writeRecord_sound | apply State.copingRoom_sound | apply foldl_sound
      | apply foldl1_sound)
    | (intro _) | split | dsimp only | (with_reducible refine use_sound (by with_reducible assumption) ?_)

theorem State.releaseCoping_sound (s : State) (low : Nat) (m : Nat) (h0 : Cells s.mem) :
    Cells (State.releaseCoping s low m).mem := by
  unfold State.releaseCoping
  repeat' first
    | with_reducible (first
      | assumption | apply State.writeLabel_sound | apply State.modMember_sound | apply State.resetZone_sound | apply foldl_sound)
    | (intro _) | split | dsimp only

theorem State.putLog_sound (s : State) (m : Nat) (img : Bytes) (h0 : Cells s.mem) :
    Cells (State.putLog s m img).mem := h0

theorem State.regionChange_sound (s : State) (m : Nat) (h0 : Cells s.mem) :
    Cells (State.regionChange s m).mem := by
  unfold State.regionChange
  repeat' first
    | with_reducible (first
      | assumption | apply State.modMember_sound | apply State.putLog_sound | apply State.resetZone_sound | apply State.writeLabel_sound
      | apply foldl_sound)
    | (intro _)

theorem State.logImage_sound (img : Bytes) (s : State) (m : Nat) (h1 : Cells s.mem) :
    Cells (State.logImage img s m).mem := by
  unfold State.logImage
  repeat' first
    | with_reducible (first
      | assumption | apply ite_sound | apply State.putLog_sound | apply State.regionChange_sound)
    | (intro _)

theorem State.writeImage_sound (s : State) (seq : Nat) (img : Bytes) (h0 : Cells s.mem) :
    Cells (State.writeImage s seq img).mem := by
  unfold State.writeImage
  repeat' with_reducible (first | assumption | apply State.logImage_sound | apply foldl_sound)

theorem State.image_sound (s : State) (c : Nat) (h0 : Cells s.mem) :
    Cells (State.image s c).mem := by
  unfold State.image
  repeat' (first | with_reducible (first | assumption | apply State.writeImage_sound) | split | dsimp only)

theorem State.flushImages_sound (s : State) (h0 : Cells s.mem) :
    Cells (State.flushImages s).mem := by
  unfold State.flushImages
  repeat' (first | with_reducible (first | assumption | apply State.writeImage_sound | apply foldl_sound) | (intro _))

theorem State.newExt_sound (s : State) (c : Nat) (es : List LocEntry) (h0 : Cells s.mem) :
    OptCells (State.newExt s c es) := by
  unfold State.newExt
  repeat' first
    | with_reducible (first
      | assumption | apply State.image_sound | apply State.modCtx_sound | apply State.takeFree_sound | apply some_sound | exact none_sound)
    | split | (with_reducible refine use2_sound (by with_reducible assumption) ?_)

theorem State.addLoc_sound (s : State) (c : Nat) (e : LocEntry) (keep : Nat) (h0 : Cells s.mem) :
    OptCells (State.addLoc s c e keep) := by
  unfold State.addLoc
  repeat' first
    | with_reducible (first
      | assumption | apply State.image_sound | apply State.modCtx_sound | apply State.newExt_sound | apply some_sound)
    | split

theorem State.reserveLoc_sound (s : State) (c : Nat) (h0 : Cells s.mem) :
    OptCells (State.reserveLoc s c) := by
  unfold State.reserveLoc
  repeat' (first | with_reducible (first | assumption | apply State.newExt_sound | apply some_sound) | split)

theorem State.resetRazed_sound (s : State) (m : Nat) (h0 : Cells s.mem) :
    Cells (State.resetRazed s m).mem := by
  unfold State.resetRazed
  repeat' first
    | with_reducible (first
      | assumption | apply State.modMember_sound | apply State.resetZone_sound | apply foldl_sound)
    | (intro _) | split | dsimp only

theorem State.askSeal_sound (s : State) (l : Nat) (h0 : Cells s.mem) :
    Cells (State.askSeal s l).mem := by
  unfold State.askSeal
  repeat' (first | with_reducible (first | assumption | apply State.queueJob_sound | apply State.modLane_sound) | split)

theorem State.askSign_sound (s : State) (l : Nat) (h0 : Cells s.mem) :
    Cells (State.askSign s l).mem := by
  unfold State.askSign
  repeat' (first | with_reducible (first | assumption | apply State.queueJob_sound | apply State.modLane_sound) | split)

theorem State.requestSeal_sound (s : State) (l : Nat) (h0 : Cells s.mem) :
    Cells (State.requestSeal s l).mem := by
  unfold State.requestSeal
  repeat' with_reducible (first | assumption | apply State.turnNow_sound | apply State.askSeal_sound)

theorem State.requestSign_sound (s : State) (l : Nat) (h0 : Cells s.mem) :
    Cells (State.requestSign s l).mem := by
  unfold State.requestSign
  repeat' with_reducible (first | assumption | apply State.turnNow_sound | apply State.askSign_sound)

theorem State.askVerify_sound (s : State) (c : Nat) (record : Bool) (h0 : Cells s.mem) :
    Cells (State.askVerify s c record).mem := by
  unfold State.askVerify
  repeat' (first | with_reducible (first | assumption | apply State.queueJob_sound) | split)

theorem State.retryVerify_sound (s : State) (h0 : Cells s.mem) :
    Cells (State.retryVerify s).mem := by
  unfold State.retryVerify
  repeat' (first | with_reducible (first | assumption | apply State.askVerify_sound | apply foldl_sound) | (intro _) | split)

theorem State.retryHeld_sound (s : State) (h0 : Cells s.mem) :
    Cells (State.retryHeld s).mem := by
  unfold State.retryHeld
  repeat' first
    | with_reducible (first
      | assumption | apply State.askSeal_sound | apply State.askSign_sound | apply State.turnNow_sound | apply State.retryVerify_sound
      | apply foldl_sound)
    | (intro _) | split | dsimp only

theorem State.seal_sound (s : State) (l : Nat) (b : Brick) (o : ObjChain) (f : Fill) (h0 : Cells s.mem) :
    Cells (State.seal s l b o f).mem := by
  unfold State.seal
  repeat' with_reducible (first | assumption | apply State.requestSeal_sound | apply State.modLane_sound)

theorem State.closeBrick_sound (s : State) (l : Nat) (reason : Nat) (last : Bool) (cut : Nat) (h0 : Cells s.mem) :
    Cells (State.closeBrick s l reason last cut).mem := by
  unfold State.closeBrick
  repeat' (first | with_reducible (first | assumption | apply State.seal_sound) | split | dsimp only)

theorem State.gapBrick_sound (s : State) (l : Nat) (count : Nat) (status : Status) (last : Bool) (h0 : Cells s.mem) :
    Cells (State.gapBrick s l count status last).mem := by
  unfold State.gapBrick
  repeat' (first | with_reducible (first | assumption | apply State.seal_sound) | split | dsimp only)

theorem State.closeCtx_sound (s : State) (c : Nat) (h0 : Cells s.mem) :
    Cells (State.closeCtx s c).mem := h0

theorem State.handOver_sound (s : State) (l : Nat) (next : Option ObjChain) (h0 : Cells s.mem) :
    Cells (State.handOver s l next).mem := by
  unfold State.handOver
  repeat' first
    | with_reducible (first
      | assumption | apply State.modLane_sound | apply State.closeCtx_sound)
    | split | dsimp only

theorem State.actOne_sound (s : State) (l : Nat) (a : CloseAct) (h0 : Cells s.mem) :
    Cells (State.actOne s l a).mem := by
  unfold State.actOne
  repeat' first
    | with_reducible (first
      | assumption | apply State.closeBrick_sound | apply State.gapBrick_sound | apply State.modLane_sound | apply State.handOver_sound)
    | split

theorem State.pumpOne_sound (s : State) (l : Nat) (h0 : Cells s.mem) :
    Cells (State.pumpOne s l).mem := by
  unfold State.pumpOne
  repeat' first
    | with_reducible (first
      | assumption | apply State.closeBrick_sound | apply State.actOne_sound | apply State.modLane_sound)
    | split | dsimp only

theorem State.openStreams_sound (s : State) (l c : Nat) (h0 : Cells s.mem) : OptCells (s.openStreams l c) := by
  unfold State.openStreams
  refine iteO_sound (fun _ => some_sound h0) fun _ => foldlO_sound (fun o m h => ?_) _ (some_sound h0)
  split
  · exact none_sound
  · exact map_sound fun b => State.modMember_sound _ _ _ (optSome_sound h)

theorem State.setTails_sound (s : State) (l : Nat) (c : Nat) (h0 : Cells s.mem) :
    Cells (State.setTails s l c).mem := h0

theorem State.takeObjectAt_sound (s : State) (l : Nat) (time : BitVec 80) (h0 : Cells s.mem) :
    OptCells2 (State.takeObjectAt s l time) := by
  unfold State.takeObjectAt
  repeat' first
    | with_reducible (first
      | assumption | apply State.image_sound | apply State.takeFree_sound | apply some2_sound | exact none2_sound)
    | split | dsimp only | (with_reducible refine use2_sound (by with_reducible assumption) ?_)

theorem State.takeObject_sound (s : State) (l : Nat) (h0 : Cells s.mem) :
    OptCells2 (State.takeObject s l) := by
  unfold State.takeObject
  repeat' with_reducible (first | assumption | apply State.takeObjectAt_sound)

theorem State.opened_sound (s : State) (l : Nat) (o : ObjChain) (h0 : Cells s.mem) :
    Cells (State.opened s l o).mem := by
  unfold State.opened
  repeat' first
    | with_reducible (first
      | assumption | apply State.modLane_sound | apply State.reshare_sound | apply State.retarget_sound)

theorem State.openHeld_sound (s : State) (l : Nat) (h0 : Cells s.mem) :
    Cells (State.openHeld s l).mem := by
  unfold State.openHeld
  repeat' with_reducible (first | assumption | apply State.modLane_sound | apply State.opened_sound)

theorem State.nameObject_sound (s : State) (l : Nat) (h0 : Cells s.mem) :
    Cells (State.nameObject s l).mem := by
  unfold State.nameObject
  repeat' first
    | with_reducible (first
      | assumption | apply State.modLane_sound | apply State.setTails_sound | apply State.lineOf_sound | apply State.retarget_sound
      | apply State.openStreams_sound | apply State.takeObjectAt_sound)
    | split | (with_reducible refine use_sound (by with_reducible assumption) ?_)
    | (with_reducible refine use2_sound (by with_reducible assumption) ?_)

theorem State.openLane_sound (s : State) (l : Nat) (h0 : Cells s.mem) :
    Cells (State.openLane s l).mem := by
  unfold State.openLane
  repeat' first
    | with_reducible (first
      | assumption | apply State.modLane_sound | apply State.nameObject_sound | apply State.openHeld_sound | apply State.opened_sound
      | apply State.setTails_sound | apply State.lineOf_sound | apply State.openStreams_sound | apply State.takeObject_sound)
    | split | (with_reducible refine use_sound (by with_reducible assumption) ?_)
    | (with_reducible refine use2_sound (by with_reducible assumption) ?_)

theorem State.renew_sound (s : State) (l : Nat) (h0 : Cells s.mem) :
    Cells (State.renew s l).mem := by
  unfold State.renew
  repeat' first
    | with_reducible (first
      | assumption | apply State.modLane_sound | apply State.raise_sound | apply State.opened_sound | apply State.openStreams_sound
      | apply State.takeObject_sound)
    | split | (with_reducible refine use_sound (by with_reducible assumption) ?_)
    | (with_reducible refine use2_sound (by with_reducible assumption) ?_)

theorem State.retryOpen_sound (s : State) (l : Nat) (h0 : Cells s.mem) :
    Cells (State.retryOpen s l).mem := by
  unfold State.retryOpen
  repeat' (first | with_reducible (first | assumption | apply State.renew_sound) | split)

theorem State.pump_sound (s : State) (l : Nat) (h0 : Cells s.mem) :
    Cells (State.pump s l).mem := by
  unfold State.pump
  repeat' first
    | with_reducible (first
      | assumption | apply State.pumpOne_sound | apply State.retryOpen_sound | apply iterate_sound)
    | (intro _) | split | dsimp only

theorem State.owe_sound (s : State) (l : Nat) (a : CloseAct) (h0 : Cells s.mem) :
    Cells (State.owe s l a).mem := by
  unfold State.owe
  repeat' with_reducible (first | assumption | apply State.pump_sound | apply State.modLane_sound)

theorem State.addRefused_sound (s : State) (l : Nat) (n : Nat) (h0 : Cells s.mem) :
    Cells (State.addRefused s l n).mem := h0

theorem State.refuse_sound (s : State) (l : Nat) (n : Nat) (h0 : Cells s.mem) :
    Cells (State.refuse s l n).mem := by
  unfold State.refuse
  repeat' (first | with_reducible (first | assumption | apply State.addRefused_sound) | split | dsimp only)

theorem State.outage_sound (s : State) (since : Nat) (external : Bool) (h0 : Cells s.mem) :
    Cells (State.outage s since external).mem := by
  unfold State.outage
  repeat' (first | with_reducible (first | assumption | apply State.raise_sound) | split | dsimp only)

theorem State.outageEnd_sound (s : State) (h0 : Cells s.mem) :
    Cells (State.outageEnd s).mem := by
  unfold State.outageEnd
  repeat' (first | with_reducible (first | assumption | apply State.outage_sound) | split)

theorem State.taken_sound (s : State) (l : Nat) (o : ObjChain) (r : Rec) (hold : Bool) (h0 : Cells s.mem) :
    Cells (State.taken s l o r hold).mem := h0

theorem State.stage_sound (s : State) (l : Nat) (o : ObjChain) (r : Rec) (hold : optParam Bool Bool.false) (h0 : Cells s.mem) :
    Cells (State.stage s l o r hold).mem := by
  unfold State.stage
  repeat' first
    | with_reducible (first
      | assumption | apply State.closeBrick_sound | apply State.taken_sound | apply State.outageEnd_sound
      | apply State.judgeInadequate_sound | apply State.pump_sound | apply State.retryOpen_sound)
    | split

theorem State.offerNext_sound (s : State) (l : Nat) (r : Rec) (hold : Bool) (h0 : Cells s.mem) :
    Cells (State.offerNext s l r hold).1.mem := by
  unfold State.offerNext
  repeat' first
    | with_reducible (first
      | assumption | apply State.refuse_sound | apply State.outageEnd_sound | apply State.judgeInadequate_sound | apply State.taken_sound
      | apply State.modLane_sound)
    | split | dsimp only

theorem State.offer_sound (s : State) (l : Nat) (r : Rec) (hold : optParam Bool Bool.false) (h0 : Cells s.mem) :
    Cells (State.offer s l r hold).1.mem := by
  unfold State.offer
  repeat' first
    | with_reducible (first
      | assumption | apply State.refuse_sound | apply State.offerNext_sound | apply State.retryOpen_sound | apply State.closeBrick_sound
      | apply State.stage_sound)
    | split | dsimp only

theorem State.placeExtent_sound (s : State) (l : Nat) (b : Brick) (h0 : Cells s.mem) :
    Cells (State.placeExtent s l b).1.mem := by
  unfold State.placeExtent
  repeat' first
    | with_reducible (first
      | assumption | apply State.resetRazed_sound | apply State.modMember_sound | apply State.finish_sound | apply foldl1_sound)
    | (intro _) | split | dsimp only

theorem State.addLocs_sound (s : State) (c : Nat) (es : List LocEntry) (h0 : Cells s.mem) : OptCells (s.addLocs c es) := by
  unfold State.addLocs
  refine foldlO_sound (fun o m h => ?_) _ (some_sound h0)
  split
  · exact none_sound
  · exact State.addLoc_sound _ _ _ _ (optSome_sound h)

theorem State.queueTails_sound (s : State) (l : Nat) (k : Nat) (ms : List Nat) (h0 : Cells s.mem) :
    Cells (State.queueTails s l k ms).mem := h0

theorem State.writeBrick_sound (s : State) (l : Nat) (b : Brick) (w : Nat) (h0 : Cells s.mem) :
    Cells (State.writeBrick s l b w).mem := h0

theorem State.issueBrick_sound (s : State) (l : Nat) (h0 : Cells s.mem) :
    Cells (State.issueBrick s l).mem := by
  unfold State.issueBrick
  repeat' first
    | with_reducible (first
      | assumption | apply State.placeExtent_sound | apply State.queueTails_sound | apply State.raise_sound | apply State.writeBrick_sound
      | apply State.modLane_sound | apply State.addLocs_sound | apply foldl_sound)
    | (intro _) | split | dsimp only | (with_reducible refine use_sound (by with_reducible assumption) ?_)

theorem State.toWriting_sound (s : State) (l : Nat) (h0 : Cells s.mem) :
    Cells (State.toWriting s l).mem := by
  unfold State.toWriting
  repeat' first
    | with_reducible (first
      | assumption | apply State.issueBrick_sound | apply State.modLane_sound)
    | split | dsimp only

theorem State.formRecord_sound (s : State) (l : Nat) (q : RecReq) (h0 : Cells s.mem) :
    Cells (State.formRecord s l q).mem := by
  unfold State.formRecord
  repeat' first
    | with_reducible (first
      | assumption | apply State.modLane_sound | apply State.requestSign_sound)
    | split | dsimp only

theorem State.nextRecord_sound (s : State) (l : Nat) (h0 : Cells s.mem) :
    Cells (State.nextRecord s l).mem := by
  unfold State.nextRecord
  repeat' first
    | with_reducible (first
      | assumption | apply State.formRecord_sound | apply State.modLane_sound)
    | split | dsimp only

theorem State.recordDue_sound (s : State) (l : Nat) (q : RecReq) (h0 : Cells s.mem) :
    Cells (State.recordDue s l q).mem := by
  unfold State.recordDue
  repeat' with_reducible (first | assumption | apply State.nextRecord_sound | apply State.modLane_sound)

theorem State.cadence_sound (s : State) (l : Nat) (h0 : Cells s.mem) :
    Cells (State.cadence s l).mem := by
  unfold State.cadence
  repeat' first
    | with_reducible (first
      | assumption | apply State.modLane_sound | apply State.nextRecord_sound)
    | split | dsimp only

theorem State.issueRecordsOf_sound (s : State) (l : Nat) (h0 : Cells s.mem) :
    Cells (State.issueRecordsOf s l).mem := by
  unfold State.issueRecordsOf
  repeat' first
    | with_reducible (first
      | assumption | apply State.issueRecords_sound | apply State.modLane_sound | apply foldl_sound)
    | (intro _) | split | dsimp only

theorem State.signed_sound (s : State) (l : Nat) (w : RecWait) (h0 : Cells s.mem) :
    Cells (State.signed s l w).mem := by
  unfold State.signed
  repeat' first
    | with_reducible (first
      | assumption | apply State.modLane_sound | apply State.nextRecord_sound | apply State.issueRecordsOf_sound)

theorem State.brickDurable_sound (s : State) (l : Nat) (b : Brick) (h0 : Cells s.mem) :
    Cells (State.brickDurable s l b).mem := by
  unfold State.brickDurable
  repeat' first
    | with_reducible (first
      | assumption | apply State.setLane_sound | apply State.modCtx_sound | apply State.lineOf_sound | apply State.recordDue_sound
      | apply State.image_sound | apply State.cadence_sound)
    | split | dsimp only

theorem State.recordDone_sound (s : State) (l : Nat) (w : RecWrite) (h0 : Cells s.mem) :
    Cells (State.recordDone s l w).mem := h0

theorem State.recordsDone_sound (s : State) (l : Nat) (h0 : Cells s.mem) :
    Cells (State.recordsDone s l).mem := by
  unfold State.recordsDone
  repeat' (first | with_reducible (first | assumption | apply State.recordDone_sound | apply foldl_sound) | (intro _) | split)

theorem State.settle_sound (s : State) (l : Nat) (h0 : Cells s.mem) :
    Cells (State.settle s l).mem := by
  unfold State.settle
  repeat' first
    | with_reducible (first
      | assumption | apply State.brickDurable_sound | apply State.pump_sound | apply State.toWriting_sound | apply State.recordsDone_sound)
    | split

theorem State.closeLane_sound (s : State) (l : Nat) (h0 : Cells s.mem) :
    Cells (State.closeLane s l).mem := by
  unfold State.closeLane
  repeat' first
    | with_reducible (first
      | assumption | apply State.modLane_sound | apply State.owe_sound | apply State.reshare_sound)

theorem State.writeAt_sound (s : State) (base : W64) (a : BitVec 40) (b : Bytes) (h0 : Cells s.mem) :
    Cells (State.writeAt s base a b).mem := by
  unfold State.writeAt
  repeat' (first | with_reducible (first | assumption | apply State.hostWrite_sound | apply State.setBytes_sound) | split)

theorem State.scatter_sound (s : State) (base : W64) (l : List (BitVec 40 × Nat)) (b : Bytes) (h0 : Cells s.mem) :
    Cells (s.scatter base l b).mem := by
  induction l generalizing s b with
  | nil => exact h0
  | cons p r ih => exact ite_sound (fun _ => h0) fun _ => ih _ _ (State.writeAt_sound _ _ _ _ h0)

theorem State.setCourse_sound (s : State) (c : Nat) (x : Course) (h0 : Cells s.mem) :
    Cells (State.setCourse s c x).mem := h0

theorem State.modCourse_sound (s : State) (c : Nat) (f : Course → Course) (h0 : Cells s.mem) :
    Cells (State.modCourse s c f).mem := h0

theorem State.entryDone_sound (s : State) (e : EntryRef) (d : RingDone) (h0 : Cells s.mem) :
    Cells (State.entryDone s e d).mem := by
  unfold State.entryDone
  repeat' (first | with_reducible assumption | split | dsimp only)

theorem State.completeStart_sound (s : State) (c : Nat) (st : Status) (detail : W64) (h0 : Cells s.mem) :
    Cells (State.completeStart s c st detail).mem := by
  unfold State.completeStart
  repeat' (first | with_reducible (first | assumption | apply State.modCourse_sound | apply State.entryDone_sound) | split)

theorem State.postStatus_sound (s : State) (c : Nat) (kind : Nat) (addr : BitVec 40) (op : Nat) (v : WordResult) (h0 : Cells s.mem) :
    Cells (State.postStatus s c kind addr op v).mem := by
  unfold State.postStatus
  repeat' first
    | with_reducible (first
      | assumption | apply State.writeAt_sound | apply State.setCtx_sound | apply State.publishCore_sound)
    | split | dsimp only

theorem State.queueReady_sound (s : State) (c : Nat) (h0 : Cells s.mem) :
    Cells (State.queueReady s c).mem := h0

theorem State.unready_sound (s : State) (c : Nat) (h0 : Cells s.mem) :
    Cells (State.unready s c).mem := h0

theorem State.tryResume_sound (s : State) (c : Nat) (h0 : Cells s.mem) :
    Cells (State.tryResume s c).mem := by
  unfold State.tryResume
  repeat' first
    | with_reducible (first
      | assumption | apply State.queueReady_sound | apply State.drawn_sound | apply State.setCourse_sound | apply State.modCtx_sound
      | apply State.tryClaim_sound)
    | split | dsimp only | (with_reducible refine use_sound (by with_reducible assumption) ?_)

theorem State.release_sound (s : State) (c : Nat) (h0 : Cells s.mem) :
    Cells (State.release s c).mem := by
  unfold State.release
  repeat' first
    | with_reducible (first
      | assumption | apply State.tryResume_sound | apply State.releaseClaim_sound | apply foldl_sound)

theorem State.cause_sound (s : State) (c : Nat) (n : Nat) (h0 : Cells s.mem) :
    Cells (State.cause s c n).mem := by
  unfold State.cause
  repeat' first
    | with_reducible (first
      | assumption | apply State.tryResume_sound | apply State.setCtx_sound)
    | split | dsimp only

theorem State.releaseTaken_sound (s : State) (c : Nat) (h0 : Cells s.mem) :
    Cells (State.releaseTaken s c).mem := by
  unfold State.releaseTaken
  repeat' with_reducible (first | assumption | apply State.release_sound | apply foldl_sound)

theorem State.ingestOff_sound (s : State) (c : Nat) (h0 : Cells s.mem) :
    Cells (State.ingestOff s c).mem := h0

theorem State.dropCourse_sound (s : State) (c : Nat) (st : Status) (detail : optParam W64 0) (h0 : Cells s.mem) :
    Cells (State.dropCourse s c st detail).mem := by
  unfold State.dropCourse
  repeat' first
    | with_reducible (first
      | assumption | apply State.completeStart_sound | apply State.releaseTaken_sound | apply State.image_sound | apply State.modCtx_sound
      | apply State.releaseClaim_sound)
    | split | dsimp only

theorem State.endCourse_sound (s : State) (c : Nat) (addr : BitVec 40) (op : Nat) (v : WordResult) (h0 : Cells s.mem) :
    Cells (State.endCourse s c addr op v).mem := by
  unfold State.endCourse
  repeat' with_reducible (first | assumption | apply State.dropCourse_sound | apply State.postStatus_sound)

theorem State.suspend_sound (s : State) (c : Nat) (resume : BitVec 40) (w : BitVec 256) (mask : BitVec 16) (channel : Option (BitVec 9)) (h0 : Cells s.mem) :
    Cells (State.suspend s c resume w mask channel).mem := by
  unfold State.suspend
  repeat' first
    | with_reducible (first
      | assumption | apply State.postStatus_sound | apply State.completeStart_sound | apply State.setCourse_sound
      | apply State.modCtx_sound | apply State.release_sound | apply State.image_sound)
    | split

theorem State.afterWord_sound (s : State) (c : Nat) (w : BitVec 256) (v : WordResult) (h0 : Cells s.mem) :
    Cells (State.afterWord s c w v).mem := by
  unfold State.afterWord
  repeat' first
    | with_reducible (first
      | assumption | apply State.endCourse_sound | apply State.setCourse_sound | apply State.postStatus_sound)
    | split | dsimp only

theorem State.jumpTo_sound (s : State) (c : Nat) (w : BitVec 256) (target : BitVec 40) (h0 : Cells s.mem) :
    Cells (State.jumpTo s c w target).mem := by
  unfold State.jumpTo
  repeat' first
    | with_reducible (first
      | assumption | apply State.endCourse_sound | apply State.setCourse_sound | apply State.postStatus_sound)
    | split | dsimp only

theorem State.spanOn_sound (s : State) (c : Nat) (w : BitVec 256) (f : Course → Course) (v : optParam WordResult { }) (h0 : Cells s.mem) :
    Cells (State.spanOn s c w f v).mem := by
  unfold State.spanOn
  repeat' first
    | with_reducible (first
      | assumption | apply State.endCourse_sound | apply State.setCourse_sound | apply State.postStatus_sound)
    | split | dsimp only

theorem State.finishWord_sound (s : State) (c : Nat) (e : WordEnd) (h0 : Cells s.mem) :
    Cells (State.finishWord s c e).mem := by
  unfold State.finishWord
  repeat' first
    | with_reducible (first
      | assumption | apply State.spanOn_sound | apply State.afterWord_sound | apply State.modCtx_sound)
    | split

theorem State.notSwept_sound (s : State) (c : Nat) (h0 : Cells s.mem) :
    Cells (State.notSwept s c).mem := h0

theorem State.begin_sound (s : State) (c : Nat) (addr : BitVec 40) (status : BitVec 40) (notify : Option (BitVec 8)) (base : W64) (entry : Option EntryRef) (hosted : Bool) (h0 : Cells s.mem) :
    Cells (State.begin s c addr status notify base entry hosted).mem := by
  unfold State.begin
  repeat' first
    | with_reducible (first
      | assumption | apply State.image_sound | apply State.queueReady_sound | apply State.drawn_sound | apply State.setCourse_sound
      | apply State.modCtx_sound | apply State.notSwept_sound)

theorem State.startCourse_sound (s : State) (m : Nat) (c : Nat) (gen : BitVec 16) (addr : BitVec 40) (status : BitVec 40) (notify : Option (BitVec 8)) (base : W64) (entry : Option EntryRef) (h0 : Cells s.mem) :
    Cells (State.startCourse s m c gen addr status notify base entry).1.mem := by
  unfold State.startCourse
  repeat' first
    | with_reducible (first
      | assumption | apply State.staleRef_sound | apply State.claimLost_sound | apply State.releaseClaim_sound | apply State.begin_sound
      | apply State.tryClaim_sound)
    | split | dsimp only | (with_reducible refine use_sound (by with_reducible assumption) ?_)

theorem State.stopCourse_sound (s : State) (c : Nat) (h0 : Cells s.mem) :
    Cells (State.stopCourse s c).mem := by
  unfold State.stopCourse
  repeat' first
    | with_reducible (first
      | assumption | apply State.endCourse_sound | apply State.drawn_sound | apply State.modCourse_sound | apply State.finishWord_sound
      | apply State.modLane_sound)
    | split | dsimp only

theorem State.fetchNext_sound (s : State) (c : Nat) (h : Bytes) (h0 : Cells s.mem) :
    Cells (State.fetchNext s c h).mem := by
  unfold State.fetchNext
  repeat' first
    | with_reducible (first
      | assumption | apply State.postStatus_sound | apply State.setCourse_sound | apply State.endCourse_sound | apply State.suspend_sound)
    | split | dsimp only

theorem State.fetchWord_sound (s : State) (c : Nat) (h : Bytes) (h0 : Cells s.mem) :
    Cells (State.fetchWord s c h).mem := by
  unfold State.fetchWord
  repeat' (first | with_reducible (first | assumption | apply State.fetchNext_sound | apply State.unready_sound) | split)

theorem State.checked_sound (s : State) (c : Nat) (q : Claimant) (f : State) (h0 : Cells s.mem) (h3 : Cells f.mem) :
    Cells (State.checked s c q f).mem := by
  unfold State.checked
  repeat' (first | with_reducible (first | assumption | apply State.answer_sound | apply State.staleRef_sound) | split)

theorem State.coursePort_sound (s : State) (ch : Nat) (h0 : Cells s.mem) :
    Cells (State.coursePort s ch).mem := by
  unfold State.coursePort
  repeat' (first | with_reducible (first | assumption | apply State.cause_sound | apply foldl_sound) | (intro _))

theorem State.ingestEnd_sound (s : State) (l : Nat) (st : Status) (long : Bool) (h0 : Cells s.mem) :
    Cells (State.ingestEnd s l st long).mem := by
  unfold State.ingestEnd
  repeat' (first | with_reducible (first | assumption | apply State.finishWord_sound | apply State.modLane_sound) | split)

theorem State.ingestAdd_sound (s : State) (l : Nat) (n : Nat) (h0 : Cells s.mem) :
    Cells (State.ingestAdd s l n).mem := by
  unfold State.ingestAdd
  repeat' first
    | with_reducible (first
      | assumption | apply State.modCourse_sound | apply State.ingestEnd_sound)
    | split | dsimp only

theorem State.countSkipped_sound (s : State) (l : Nat) (n : Nat) (h0 : Cells s.mem) :
    Cells (State.countSkipped s l n).mem := h0

theorem State.skipRecord_sound (s : State) (l : Nat) (until_ : Nat) (r : Rec) (h0 : Cells s.mem) :
    Cells (State.skipRecord s l until_ r).1.mem := by
  unfold State.skipRecord
  repeat' first
    | with_reducible (first
      | assumption | apply State.ingestEnd_sound | apply State.ingestAdd_sound | apply State.countSkipped_sound)
    | split

theorem State.ingestRecord_sound (s : State) (l : Nat) (r : Rec) (hold : optParam Bool Bool.false) (h0 : Cells s.mem) :
    Cells (State.ingestRecord s l r hold).1.mem := by
  unfold State.ingestRecord
  repeat' first
    | with_reducible (first
      | assumption | apply State.skipRecord_sound | apply State.ingestEnd_sound | apply State.offer_sound | apply State.ingestAdd_sound)
    | split | dsimp only

theorem State.modHod_sound (s : State) (h : Nat) (f : HodSt → HodSt) (h0 : Cells s.mem) :
    Cells (State.modHod s h f).mem := h0

theorem State.hodRefused_sound (s : State) (h : Nat) (h0 : Cells s.mem) :
    Cells (State.hodRefused s h).mem := h0

theorem State.hodSubmit_sound (s : State) (m : Nat) (h : Nat) (a : Nat) (h0 : Cells s.mem) :
    Cells (State.hodSubmit s m h a).mem := by
  unfold State.hodSubmit
  repeat' (first | with_reducible (first | assumption | apply State.modHod_sound | apply State.hodRefused_sound) | split)

theorem State.moveFeed_sound (s : State) (c n : Nat) (h0 : Cells s.mem) : Cells (s.moveFeed c n).mem := by
  induction n generalizing s with
  | zero => exact h0
  | succ n ih =>
    unfold State.moveFeed
    dsimp only
    split
    · exact ite_sound (fun _ => h0) fun _ =>
        ite_sound (fun _ => ih _ (State.setCourse_sound _ _ _ (State.modHod_sound _ _ _ h0))) fun _ => State.modHod_sound _ _ _ h0
    · exact h0

theorem State.moveForget_sound (s : State) (c : Nat) (h0 : Cells s.mem) :
    Cells (State.moveForget s c).mem := h0

theorem State.moveDone_sound (s : State) (c : Nat) (st : Status) (h0 : Cells s.mem) :
    Cells (State.moveDone s c st).mem := by
  unfold State.moveDone
  repeat' first
    | with_reducible (first
      | assumption | apply State.setCourse_sound | apply State.finishWord_sound | apply State.moveFeed_sound)
    | split | dsimp only

theorem State.laneHod_sound (s : State) (l : Nat) (h0 : Cells s.mem) :
    Cells (State.laneHod s l).mem := by
  unfold State.laneHod
  repeat' first
    | with_reducible (first
      | assumption | apply State.ingestEnd_sound | apply State.modHod_sound | apply State.modLane_sound)
    | split | dsimp only

theorem State.laneRetry_sound (s : State) (h0 : Cells s.mem) :
    Cells (State.laneRetry s).mem := by
  unfold State.laneRetry
  repeat' with_reducible (first | assumption | apply State.laneHod_sound | apply foldl_sound)

theorem State.hodServe_sound (s : State) (h : Nat) (h0 : Cells s.mem) :
    Cells (State.hodServe s h).mem := by
  unfold State.hodServe
  repeat' first
    | with_reducible (first
      | assumption | apply State.modHod_sound | apply State.moveFeed_sound | apply State.laneHod_sound)
    | split

theorem State.descNotify_sound (s : State) (h : Nat) (addr : Nat) (issuer : HodIssuer) (irq : Bool) (st : Status) (h0 : Cells s.mem) :
    Cells (State.descNotify s h addr issuer irq st).mem := by
  unfold State.descNotify
  repeat' first
    | with_reducible (first
      | assumption | apply State.setBytes_sound | apply State.addrFaultF_sound | apply State.raise_sound | apply State.markWarm_sound
      | apply State.moveDone_sound | apply State.laneHod_sound)
    | split

theorem State.hodRoom_sound (s : State) (h : Nat) (h0 : Cells s.mem) :
    Cells (State.hodRoom s h).mem := by
  unfold State.hodRoom
  repeat' (first | with_reducible (first | assumption | apply State.hodServe_sound | apply iterate_sound) | (intro _))

theorem State.evidStart_sound (s : State) (l : Nat) (d : BitVec 256) (b : BitVec 128) (u : RingUnit) (h0 : Cells s.mem) :
    Cells (State.evidStart s l d b u).1.mem := by
  unfold State.evidStart
  repeat' first
    | with_reducible (first
      | assumption | apply State.offer_sound | apply State.skipRecord_sound | apply State.modLane_sound | apply State.ingestAdd_sound)
    | split | dsimp only

theorem State.descStart_sound (s : State) (h : Nat) (h0 : Cells s.mem) :
    Cells (State.descStart s h).mem := by
  unfold State.descStart
  repeat' first
    | with_reducible (first
      | assumption | apply State.modHod_sound | apply State.raise_sound | apply State.refuse_sound | apply State.hodRoom_sound
      | apply State.descNotify_sound | apply State.evidStart_sound)
    | split | dsimp only

theorem State.hodWrite_sound (s : State) (ps : List (Nat × Byte)) (h0 : Cells s.mem) :
    Cells (State.hodWrite s ps).mem := by
  unfold State.hodWrite
  repeat' (first | with_reducible (first | assumption | apply State.setByte_sound | apply foldl_sound) | (intro _) | split)

theorem State.moveBytes_sound (s : State) (h : Nat) (w : HodWork) (h0 : Cells s.mem) :
    Cells (State.moveBytes s h w).mem := by
  unfold State.moveBytes
  repeat' first
    | with_reducible (first
      | assumption | apply State.hodWrite_sound | apply State.addrFaultF_sound | apply iterate_sound)
    | (intro _)

theorem State.descComplete_sound (s : State) (h : Nat) (h0 : Cells s.mem) :
    Cells (State.descComplete s h).mem := by
  unfold State.descComplete
  repeat' first
    | with_reducible (first
      | assumption | apply State.modHod_sound | apply State.descNotify_sound | apply State.judgeInadequate_sound | apply State.pump_sound
      | apply State.modLane_sound | apply State.moveBytes_sound)
    | split

theorem State.dropEvidence_sound (s : State) (l : Nat) (n : Nat) (h0 : Cells s.mem) :
    Cells (State.dropEvidence s l n).mem := by
  unfold State.dropEvidence
  repeat' with_reducible (first | assumption | apply State.pump_sound | apply State.modLane_sound)

theorem State.wipeHod_sound (s : State) (h : Nat) (h0 : Cells s.mem) :
    Cells (State.wipeHod s h).mem := by
  unfold State.wipeHod
  repeat' (first | with_reducible (first | assumption | apply State.modLane_sound | apply State.modHod_sound) | split)

theorem State.dropWork_sound (s : State) (w : HodWork) (h0 : Cells s.mem) :
    Cells (State.dropWork s w).mem := by
  unfold State.dropWork
  repeat' (first | with_reducible (first | assumption | apply State.dropEvidence_sound | apply State.hodWrite_sound) | split)

theorem State.dropQueued_sound (s : State) (h : Nat) (e : HodEntry) (h0 : Cells s.mem) :
    Cells (State.dropQueued s h e).mem := by
  unfold State.dropQueued
  repeat' (first | with_reducible (first | assumption | apply State.refuse_sound) | split)

theorem State.hodDisable_sound (s : State) (h : Nat) (h0 : Cells s.mem) :
    Cells (State.hodDisable s h).mem := by
  unfold State.hodDisable
  repeat' first
    | with_reducible (first
      | assumption | apply State.modHod_sound | apply State.dropWork_sound | apply State.dropQueued_sound | apply State.drawn_sound
      | apply foldl_sound)
    | (intro _) | split | dsimp only

theorem State.hodEnableAgain_sound (s : State) (h : Nat) (h0 : Cells s.mem) :
    Cells (State.hodEnableAgain s h).mem := by
  unfold State.hodEnableAgain
  repeat' (first | with_reducible (first | assumption | apply State.modHod_sound | apply State.hodRoom_sound) | split)

theorem State.droppingClear_sound (s : State) (h : Nat) (h0 : Cells s.mem) :
    Cells (State.droppingClear s h).mem := by
  unfold State.droppingClear
  repeat' first
    | with_reducible (first
      | assumption | apply State.modHod_sound | apply State.descNotify_sound | apply State.hodRoom_sound | apply State.raise_sound
      | apply foldl_sound)
    | (intro _) | split | dsimp only

theorem State.hodRead_sound (s : State) (h : Nat) (o : Nat) (h0 : Cells s.mem) :
    OptCells2 (State.hodRead s h o) := by
  unfold State.hodRead
  repeat' (first | with_reducible (first | assumption | apply some2_sound | exact none2_sound) | split)

theorem State.hodCtl_sound (s : State) (h : Nat) (v : W32) (be : W32) (h0 : Cells s.mem) :
    Cells (State.hodCtl s h v be).mem := by
  unfold State.hodCtl
  repeat' first
    | with_reducible (first
      | assumption | apply State.modHod_sound | apply State.hodDisable_sound | apply State.hodEnableAgain_sound)
    | split | dsimp only

theorem State.hodWriteReg_sound (s : State) (m : Nat) (h : Nat) (o : Nat) (v : W32) (be : W32) (h0 : Cells s.mem) :
    OptCells (State.hodWriteReg s m h o v be) := by
  unfold State.hodWriteReg
  repeat' first
    | with_reducible (first
      | assumption | apply State.hodCtl_sound | apply State.modHod_sound | apply State.hodSubmit_sound | apply some_sound
      | exact none_sound)
    | split

theorem State.releaseReady_sound (s : State) (l : Nat) (closing : Bool) (n : Nat) (h0 : Cells s.mem) : Cells (s.releaseReady l closing n).mem := by
  induction n generalizing s with
  | zero => exact h0
  | succ n ih =>
    unfold State.releaseReady
    dsimp only
    split
    · exact h0
    · have hi := State.ingestRecord_sound s l ‹_› false h0
      refine ite_sound (fun _ => ite_sound (fun _ => ih _ (State.modLane_sound _ _ _ hi)) fun _ => ite_sound (fun _ => ih _ hi) fun _ => hi)
        fun _ => ite_sound (fun _ => ih _ (State.modLane_sound _ _ _ (State.offer_sound _ _ _ _ h0))) fun _ => h0

theorem State.putReady_sound (s : State) (l : Nat) (rs : List Rec) (h0 : Cells s.mem) :
    Cells (State.putReady s l rs).mem := by
  unfold State.putReady
  repeat' with_reducible (first | assumption | apply State.modLane_sound | apply State.releaseReady_sound)

theorem State.rtpTake_sound (s : State) (l : Nat) (u : RingUnit) (h0 : Cells s.mem) :
    Cells (State.rtpTake s l u).mem := by
  unfold State.rtpTake
  repeat' with_reducible (first | assumption | apply State.modLane_sound | apply State.putReady_sound)

theorem State.refuseHeld_sound (s : State) (l : Nat) (h0 : Cells s.mem) :
    Cells (State.refuseHeld s l).mem := by
  unfold State.refuseHeld
  repeat' first
    | with_reducible (first
      | assumption | apply State.addRefused_sound | apply State.modLane_sound)
    | split | dsimp only

theorem State.learn_sound (s : State) (l : Nat) (k : BitVec 320) (h0 : Cells s.mem) :
    Cells (State.learn s l k).1.mem := by
  unfold State.learn
  repeat' (first | with_reducible (first | assumption | apply State.bindInsert_sound) | split | dsimp only)

theorem State.forgetLearned_sound (s : State) (l : Nat) (h0 : Cells s.mem) :
    Cells (State.forgetLearned s l).mem := by
  unfold State.forgetLearned
  repeat' with_reducible (first | assumption | apply State.bindRemove_sound | apply foldl_sound)

theorem State.discard_sound (s : State) (f : Nat) (n : Nat) (h0 : Cells s.mem) :
    Cells (State.discard s f n).mem := h0

theorem State.unitArrives_sound (s : State) (k : BitVec 320) (b : Bytes) (ringFull : Bool) (h0 : Cells s.mem) :
    Cells (State.unitArrives s k b ringFull).mem := by
  unfold State.unitArrives
  repeat' first
    | with_reducible (first
      | assumption | apply State.discard_sound | apply State.addRefused_sound | apply State.laneHod_sound | apply State.modLane_sound)
    | split

theorem State.takeUnit_sound (s : State) (l : Nat) (h0 : Cells s.mem) :
    Cells (State.takeUnit s l).mem := by
  unfold State.takeUnit
  repeat' first
    | with_reducible (first
      | assumption | apply State.releaseReady_sound | apply State.modLane_sound | apply State.addRefused_sound | apply State.rtpTake_sound
      | apply State.discard_sound | apply State.learn_sound | apply State.ingestRecord_sound | apply State.laneHod_sound)
    | split | dsimp only

theorem State.ingestGo_sound (s : State) (l : Nat) (h0 : Cells s.mem) :
    Cells (State.ingestGo s l).mem := by
  unfold State.ingestGo
  repeat' with_reducible (first | assumption | apply State.laneHod_sound | apply State.releaseReady_sound)

theorem State.laneClose_sound (s : State) (l : Nat) (h0 : Cells s.mem) :
    Cells (State.laneClose s l).mem := by
  unfold State.laneClose
  repeat' first
    | with_reducible (first
      | assumption | apply State.modLane_sound | apply State.releaseReady_sound | apply State.ingestEnd_sound | apply State.discard_sound
      | apply State.closeLane_sound | apply State.forgetLearned_sound | apply foldl_sound)
    | (intro _)

theorem State.branchWord_sound (s : State) (c : Nat) (w : BitVec 256) (h0 : Cells s.mem) :
    Cells (State.branchWord s c w).mem := by
  unfold State.branchWord
  repeat' first
    | with_reducible (first
      | assumption | apply State.afterWord_sound | apply State.jumpTo_sound)
    | split | dsimp only

theorem State.waitWord_sound (s : State) (c : Nat) (w : BitVec 256) (h0 : Cells s.mem) :
    Cells (State.waitWord s c w).mem := by
  unfold State.waitWord
  repeat' first
    | with_reducible (first
      | assumption | apply State.endCourse_sound | apply State.suspend_sound)
    | split | dsimp only

theorem State.postWord_sound (s : State) (c : Nat) (w : BitVec 256) (h0 : Cells s.mem) :
    Cells (State.postWord s c w).mem := by
  unfold State.postWord
  repeat' (first | with_reducible (first | assumption | apply State.afterWord_sound | apply State.postStatus_sound) | split)

theorem State.offerUnits_sound (s : State) (l : Nat) (us : List Bytes) (h0 : Cells s.mem) : Cells (s.offerUnits l us).1.mem := by
  induction us generalizing s with
  | nil => exact h0
  | cons u r ih =>
    unfold State.offerUnits
    dsimp only
    exact ite1_sound (fun _ => State.offer_sound _ _ _ _ h0) fun _ => ih _ (State.offer_sound _ _ _ _ h0)

theorem State.ingestHost_sound (s : State) (c : Nat) (l : Nat) (w : BitVec 256) (h : HostRead) (h0 : Cells s.mem) :
    Cells (State.ingestHost s c l w h).mem := by
  unfold State.ingestHost
  repeat' first
    | with_reducible (first
      | assumption | apply State.offerUnits_sound | apply State.spanOn_sound | apply State.modLane_sound | apply State.finishWord_sound
      | apply State.ingestOff_sound)
    | split | dsimp only

theorem State.ingestWord_sound (s : State) (c : Nat) (w : BitVec 256) (h : HostRead) (h0 : Cells s.mem) :
    Cells (State.ingestWord s c w h).mem := by
  unfold State.ingestWord
  repeat' first
    | with_reducible (first
      | assumption | apply State.finishWord_sound | apply State.ingestHost_sound | apply State.ingestGo_sound
      | apply State.modCourse_sound | apply State.modLane_sound)
    | split | dsimp only

theorem State.sealEnd_sound (s : State) (c : Nat) (h0 : Cells s.mem) :
    Cells (State.sealEnd s c).mem := by
  unfold State.sealEnd
  repeat' (first | with_reducible (first | assumption | apply State.finishWord_sound) | split)

theorem State.sealWord_sound (s : State) (c : Nat) (w : BitVec 256) (h0 : Cells s.mem) :
    Cells (State.sealWord s c w).mem := by
  unfold State.sealWord
  repeat' first
    | with_reducible (first
      | assumption | apply State.finishWord_sound | apply State.modCourse_sound | apply State.pump_sound | apply State.renew_sound
      | apply State.owe_sound | apply State.sealEnd_sound)
    | split | dsimp only

theorem State.copeEnd_sound (s : State) (c : Nat) (h0 : Cells s.mem) :
    Cells (State.copeEnd s c).mem := by
  unfold State.copeEnd
  repeat' (first | with_reducible (first | assumption | apply State.finishWord_sound | apply State.writeAt_sound) | split)

theorem State.razeEnd_sound (s : State) (c : Nat) (h0 : Cells s.mem) :
    Cells (State.razeEnd s c).mem := by
  unfold State.razeEnd
  repeat' first
    | with_reducible (first
      | assumption | apply State.finishWord_sound | apply State.release_sound)
    | split | dsimp only

theorem State.copeWord_sound (s : State) (c : Nat) (w : BitVec 256) (h0 : Cells s.mem) :
    Cells (State.copeWord s c w).mem := by
  unfold State.copeWord
  repeat' first
    | with_reducible (first
      | assumption | apply State.finishWord_sound | apply State.modCourse_sound | apply State.recordDue_sound | apply State.modLane_sound
      | apply State.cadence_sound)
    | split | dsimp only

theorem State.wake_sound (s : State) (l : Nat) (h0 : Cells s.mem) :
    Cells (State.wake s l).mem := by
  unfold State.wake
  repeat' first
    | with_reducible (first
      | assumption | apply State.razeEnd_sound | apply State.copeEnd_sound | apply State.sealEnd_sound | apply State.laneHod_sound
      | apply State.modLane_sound | apply foldl_sound)
    | (intro _)

theorem State.nvmeIssue_sound (s : State) (port : Nat) (use : NvmeUse) (h0 : Cells s.mem) :
    Cells (State.nvmeIssue s port use).mem := h0

theorem State.copyZone_sound (s : State) (m : Nat) (k : Nat) (n : Nat) (h0 : Cells s.mem) :
    OptCells (State.copyZone s m k n) := by
  unfold State.copyZone
  repeat' first
    | with_reducible (first
      | assumption | apply State.resetRazed_sound | apply State.modMember_sound | apply State.finish_sound | apply some_sound
      | apply map_sound)
    | (intro _) | split | dsimp only

theorem State.appendNvme_sound (s : State) (c : Nat) (m : Nat) (o : Nat) (seq : Option W64) (lba : Nat) (h0 : Cells s.mem) :
    Cells (State.appendNvme s c m o seq lba).mem := h0

theorem State.copyIssue_sound (s : State) (c : Nat) (m : Nat) (o : Nat) (seq : W64) (n : Nat) (h0 : Cells s.mem) :
    Cells (State.copyIssue s c m o seq n).mem := by
  unfold State.copyIssue
  repeat' first
    | with_reducible (first
      | assumption | apply State.finishWord_sound | apply State.modLane_sound | apply State.queueTails_sound
      | apply State.appendNvme_sound | apply State.modMember_sound | apply State.copyZone_sound)
    | split | dsimp only | (with_reducible refine use_sound (by with_reducible assumption) ?_)

theorem State.retryCopies_sound (s : State) (l : Nat) (h0 : Cells s.mem) :
    Cells (State.retryCopies s l).mem := by
  unfold State.retryCopies
  repeat' first
    | with_reducible (first
      | assumption | apply State.copyIssue_sound | apply State.modLane_sound | apply foldl_sound)
    | (intro _) | split

theorem State.recordIssue_sound (s : State) (c : Nat) (m : Nat) (o : Nat) (n : Nat) (h0 : Cells s.mem) :
    Cells (State.recordIssue s c m o n).mem := by
  unfold State.recordIssue
  repeat' first
    | with_reducible (first
      | assumption | apply State.finishWord_sound | apply State.appendNvme_sound | apply State.issueRecord_sound
      | apply State.copingRoom_sound)
    | split | (with_reducible refine use_sound (by with_reducible assumption) ?_)

theorem State.copyStart_sound (s : State) (c : Nat) (m : Nat) (o : Nat) (seq : W64) (n : Nat) (h0 : Cells s.mem) :
    Cells (State.copyStart s c m o seq n).mem := by
  unfold State.copyStart
  repeat' first
    | with_reducible (first
      | assumption | apply State.copyIssue_sound | apply State.raise_sound | apply State.reserveLoc_sound)
    | split | (with_reducible refine use_sound (by with_reducible assumption) ?_)

theorem State.appendWord_sound (s : State) (c : Nat) (w : BitVec 256) (h : HostRead) (md : Medium) (h0 : Cells s.mem) :
    Cells (State.appendWord s c w h md).mem := by
  unfold State.appendWord
  repeat' first
    | with_reducible (first
      | assumption | apply State.finishWord_sound | apply State.spanOn_sound | apply State.modCourse_sound | apply State.recordIssue_sound
      | apply State.copyStart_sound)
    | split | dsimp only

theorem State.appendPlaced_sound (s : State) (c : Nat) (o : Nat) (e : LocEntry) (h0 : Cells s.mem) :
    Cells (State.appendPlaced s c o e).mem := by
  unfold State.appendPlaced
  repeat' first
    | with_reducible (first
      | assumption | apply State.finishWord_sound | apply State.raise_sound | apply State.addLoc_sound)
    | split | (with_reducible refine use_sound (by with_reducible assumption) ?_)

theorem State.appendDone_sound (s : State) (c : Nat) (m : Nat) (o : Nat) (seq : Option W64) (lba : Nat) (ok : Bool) (h0 : Cells s.mem) :
    Cells (State.appendDone s c m o seq lba ok).mem := by
  unfold State.appendDone
  repeat' (first | with_reducible (first | assumption | apply State.finishWord_sound | apply State.appendPlaced_sound) | split)

theorem State.readWord_sound (s : State) (c : Nat) (w : BitVec 256) (h : HostRead) (md : Medium) (h0 : Cells s.mem) :
    Cells (State.readWord s c w h md).mem := by
  unfold State.readWord
  repeat' first
    | with_reducible (first
      | assumption | apply State.finishWord_sound | apply State.scatter_sound | apply State.spanOn_sound)
    | split | dsimp only

theorem State.verifyOver_sound (s : State) (c : Nat) (w : BitVec 256) (good : Nat) (st : Status) (aux : Option Status) (h0 : Cells s.mem) :
    Cells (State.verifyOver s c w good st aux).mem := by
  unfold State.verifyOver
  repeat' with_reducible (first | assumption | apply State.finishWord_sound)

theorem State.verifyAsk_sound (s : State) (c : Nat) (w : BitVec 256) (md : Medium) (n : Nat) (left : Nat) (first : Option Status) (h0 : Cells s.mem) :
    Cells (State.verifyAsk s c w md n left first).mem := by
  unfold State.verifyAsk
  repeat' first
    | with_reducible (first
      | assumption | apply State.turnNow_sound | apply State.askVerify_sound | apply State.modCourse_sound)

theorem State.verifyUnit_sound (s : State) (c : Nat) (w : BitVec 256) (md : Medium) (n : Nat) (left : Nat) (h0 : Cells s.mem) :
    Cells (State.verifyUnit s c w md n left).mem := by
  unfold State.verifyUnit
  repeat' first
    | with_reducible (first
      | assumption | apply State.verifyAsk_sound | apply State.verifyOver_sound)
    | split | dsimp only

theorem State.verifyNext_sound (s : State) (c : Nat) (w : BitVec 256) (md : Medium) (n : Nat) (left : Nat) (st : Status) (aux : Option Status) (h0 : Cells s.mem) :
    Cells (State.verifyNext s c w md n left st aux).mem := by
  unfold State.verifyNext
  repeat' first
    | with_reducible (first
      | assumption | apply State.verifyOver_sound | apply State.verifyUnit_sound)
    | split | dsimp only

theorem State.verifyDone_sound (s : State) (c : Nat) (h0 : Cells s.mem) :
    Cells (State.verifyDone s c).mem := by
  unfold State.verifyDone
  repeat' first
    | with_reducible (first
      | assumption | apply State.verifyNext_sound | apply State.verifyAsk_sound)
    | split | dsimp only

theorem State.verifyWord_sound (s : State) (c : Nat) (w : BitVec 256) (md : Medium) (h0 : Cells s.mem) :
    Cells (State.verifyWord s c w md).mem := by
  unfold State.verifyWord
  repeat' first
    | with_reducible (first
      | assumption | apply State.finishWord_sound | apply State.verifyUnit_sound)
    | split | dsimp only

theorem State.razeWord_sound (s : State) (c : Nat) (w : BitVec 256) (md : Medium) (h0 : Cells s.mem) :
    Cells (State.razeWord s c w md).mem := by
  unfold State.razeWord
  repeat' first
    | with_reducible (first
      | assumption | apply State.finishWord_sound | apply State.claimLost_sound | apply State.release_sound | apply State.recordDue_sound
      | apply State.modCourse_sound | apply State.tryClaim_sound | apply some_sound)
    | split | dsimp only | (with_reducible refine use_sound (by with_reducible assumption) ?_)

theorem State.razed_sound (s : State) (o : Nat) (seq : W64) (h0 : Cells s.mem) :
    Cells (State.razed s o seq).mem := by
  unfold State.razed
  repeat' first
    | with_reducible (first
      | assumption | apply State.image_sound | apply State.modCtx_sound | apply State.resetRazed_sound | apply State.finishWord_sound
      | apply State.release_sound | apply foldl_sound)
    | split | dsimp only

theorem State.moveWord_sound (s : State) (c : Nat) (w : BitVec 256) (h0 : Cells s.mem) :
    Cells (State.moveWord s c w).mem := by
  unfold State.moveWord
  repeat' first
    | with_reducible (first
      | assumption | apply State.moveFeed_sound | apply State.modCourse_sound | apply State.moveForget_sound)

theorem State.ledgerWord_sound (s : State) (c : Nat) (w : BitVec 256) (h0 : Cells s.mem) :
    Cells (State.ledgerWord s c w).mem := by
  unfold State.ledgerWord
  repeat' with_reducible (first | assumption | apply State.finishWord_sound | apply State.writeAt_sound)

theorem State.claimAnswered_sound (s : State) (m : Nat) (h0 : Cells s.mem) :
    Cells (State.claimAnswered s m).mem := by
  unfold State.claimAnswered
  repeat' (first | with_reducible (first | assumption | apply State.mark_sound) | split)

theorem State.claimAll_sound (s : State) (c : Nat) (qs : List Claimant) (h0 : Cells s.mem) :
    Cells (State.claimAll s c qs).mem := by
  unfold State.claimAll
  repeat' first
    | with_reducible (first
      | assumption | apply State.staleRef_sound | apply State.claimAnswered_sound | apply State.claimLost_sound
      | apply State.tryClaim_sound | apply foldl_sound | apply iterate_sound | apply getD_sound | exact none_sound)
    | split

theorem State.allocate_sound (s : State) (m : Nat) (h0 : Cells s.mem) :
    Cells (State.allocate s m).mem := by
  unfold State.allocate
  repeat' first
    | with_reducible (first
      | assumption | apply State.answer_sound | apply State.image_sound | apply State.takeFree_sound)
    | split | (with_reducible refine use2_sound (by with_reducible assumption) ?_)

theorem State.freeContext_sound (s : State) (m : Nat) (c : Nat) (gen : BitVec 16) (h0 : Cells s.mem) :
    Cells (State.freeContext s m c gen).mem := by
  unfold State.freeContext
  repeat' first
    | with_reducible (first
      | assumption | apply State.answer_sound | apply State.staleRef_sound | apply State.image_sound | apply State.makeFree_sound
      | apply foldl_sound)
    | (intro _) | split

theorem State.locRetry_sound (s : State) (o : Nat) (h0 : Cells s.mem) :
    Cells (State.locRetry s o).mem := by
  unfold State.locRetry
  repeat' first
    | with_reducible (first
      | assumption | apply State.issueBrick_sound | apply State.copyStart_sound | apply State.appendPlaced_sound | apply foldl_sound)
    | (intro _) | split

theorem State.finalRecords_sound (s : State) (h0 : Cells s.mem) :
    Cells (State.finalRecords s).mem := by
  unfold State.finalRecords
  repeat' first
    | with_reducible (first
      | assumption | apply State.recordDue_sound | apply State.modLane_sound | apply foldl_sound)
    | (intro _) | split

theorem State.lcDone_sound (s : State) (h0 : Cells s.mem) :
    Cells (State.lcDone s).mem := by
  unfold State.lcDone
  repeat' first
    | with_reducible (first
      | assumption | apply State.publish_sound | apply State.raise_sound | apply State.headLine_sound)

theorem State.lcFlush_sound (s : State) (h0 : Cells s.mem) :
    Cells (State.lcFlush s).mem := by
  unfold State.lcFlush
  repeat' first
    | with_reducible (first
      | assumption | apply State.flushImages_sound | apply State.nvmeIssue_sound | apply State.ssd_sound | apply State.lcDone_sound
      | apply State.publish_sound | apply foldl_sound)
    | (intro _) | split | dsimp only

theorem State.lcStep_sound (s : State) (h0 : Cells s.mem) :
    Cells (State.lcStep s).mem := by
  unfold State.lcStep
  repeat' first
    | with_reducible (first
      | assumption | apply State.finalRecords_sound | apply State.publish_sound | apply State.lcFlush_sound)
    | split | dsimp only

theorem State.laneMoved_sound (s : State) (l : Nat) (h0 : Cells s.mem) :
    Cells (State.laneMoved s l).mem := by
  unfold State.laneMoved
  repeat' with_reducible (first | assumption | apply State.wake_sound | apply State.lcStep_sound)

theorem State.gapSealed_sound (s : State) (l : Nat) (b : Brick) (h0 : Cells s.mem) :
    Cells (State.gapSealed s l b).mem := by
  unfold State.gapSealed
  repeat' first
    | with_reducible (first
      | assumption | apply State.emcy_sound | apply State.lineOf_sound | apply State.modLane_sound)
    | split

theorem State.sealDone_sound (s : State) (l : Nat) (i : Nat) (j : Job) (b : Brick) (h0 : Cells s.mem) :
    Cells (State.sealDone s l i j b).mem := by
  unfold State.sealDone
  repeat' first
    | with_reducible (first
      | assumption | apply State.modLane_sound | apply State.finishJob_sound | apply State.retryHeld_sound | apply State.gapSealed_sound
      | apply State.laneMoved_sound | apply State.judgeInadequate_sound | apply State.pump_sound | apply State.toWriting_sound)

theorem State.brickWritten_sound (s : State) (l : Nat) (w : Nat) (lba : Nat) (h0 : Cells s.mem) :
    Cells (State.brickWritten s l w lba).mem := h0

theorem State.recordWritten_sound (s : State) (l : Nat) (w : Nat) (lba : Nat) (h0 : Cells s.mem) :
    Cells (State.recordWritten s l w lba).mem := by
  unfold State.recordWritten
  repeat' (first | with_reducible (first | assumption | apply State.modLane_sound | apply State.headLine_sound) | split)

theorem State.sweepOne_sound (s : State) (c : Nat) (h0 : Cells s.mem) :
    Cells (State.sweepOne s c).mem := by
  unfold State.sweepOne
  repeat' with_reducible (first | assumption | apply State.cause_sound)

theorem State.sweep_sound (s : State) (h0 : Cells s.mem) :
    Cells (State.sweep s).mem := by
  unfold State.sweep
  repeat' first
    | with_reducible (first
      | assumption | apply State.sweepOne_sound | apply State.releaseCoping_sound | apply foldl_sound)
    | (intro _)

theorem State.setPair_sound (s : State) (q : Nat) (p : Pair) (h0 : Cells s.mem) :
    Cells (State.setPair s q p).mem := h0

theorem State.modPair_sound (s : State) (q : Nat) (f : Pair → Pair) (h0 : Cells s.mem) :
    Cells (State.modPair s q f).mem := h0

theorem State.writeShadow_sound (s : State) (q : Nat) (taken : W32) (h0 : Cells s.mem) :
    Cells (State.writeShadow s q taken).mem := by
  unfold State.writeShadow
  repeat' with_reducible (first | assumption | apply State.hostWrite_sound)

theorem State.postDone_sound (s : State) (q : Nat) (pos : W32) (cid : Nat) (d : RingDone) (h0 : Cells s.mem) :
    Cells (State.postDone s q pos cid d).mem := by
  unfold State.postDone
  repeat' first
    | with_reducible (first
      | assumption | apply State.hostWrite_sound | apply State.raise_sound)
    | split | dsimp only

theorem State.postNext_sound (s : State) (q : Nat) (h0 : Cells s.mem) :
    Cells (State.postNext s q).mem := by
  unfold State.postNext
  repeat' (first | with_reducible (first | assumption | apply State.modPair_sound | apply State.postDone_sound) | split)

theorem State.scanPost_sound (s : State) (h : HostRead) (q : Nat) (held : List TakenEntry) (pos : W32) (h0 : Cells s.mem) :
    Cells (State.scanPost s h q held pos).mem := by
  unfold State.scanPost
  repeat' (first | with_reducible (first | assumption | apply State.postDone_sound) | split)

theorem State.recoverScan_sound (s : State) (q : Nat) (h : HostRead) (t : W32) (head : Nat) (held : List TakenEntry) (h0 : Cells s.mem) :
    Cells (State.recoverScan s q h t head held).mem := by
  unfold State.recoverScan
  repeat' first
    | with_reducible (first
      | assumption | apply State.scanPost_sound | apply State.modPair_sound | apply foldl_sound)
    | (intro _)

theorem State.recoverAll_sound (s : State) (h : HostRead) (h0 : Cells s.mem) :
    Cells (State.recoverAll s h).mem := by
  unfold State.recoverAll
  repeat' (first | with_reducible (first | assumption | apply State.recoverScan_sound | apply foldl_sound) | (intro _))

theorem State.enablePair_sound (s : State) (q : Nat) (h : HostRead) (h0 : Cells s.mem) :
    Cells (State.enablePair s q h).mem := by
  unfold State.enablePair
  repeat' first
    | with_reducible (first
      | assumption | apply State.setPair_sound | apply State.modPair_sound | apply State.recoverScan_sound)
    | split | dsimp only

theorem State.forgetRetries_sound (s : State) (p : RawOwner → Bool) (h0 : Cells s.mem) :
    Cells (State.forgetRetries s p).mem := h0

theorem State.dropRaws_sound (s : State) (q : Nat) (h0 : Cells s.mem) :
    Cells (State.dropRaws s q).mem := h0

theorem State.disablePair_sound (s : State) (q : Nat) (h0 : Cells s.mem) :
    Cells (State.disablePair s q).mem := h0

theorem State.pairCtl_sound (s : State) (q : Nat) (v be : W32) (h : HostRead) (h0 : Cells s.mem) : Cells (s.pairCtl q v be h).mem := by
  obtain ⟨p, hp⟩ : ∃ p, s.pair q = p := ⟨_, rfl⟩
  obtain ⟨x, hx⟩ : ∃ x, merge p.ctlWord v be = x := ⟨_, rfl⟩
  unfold State.pairCtl
  simp only [hp, hx]
  exact ite_sound (fun _ => ite_sound (fun _ => State.setPair_sound _ _ _ h0) fun _ => State.disablePair_sound _ _ (State.setPair_sound _ _ _ h0))
    fun _ => ite_sound (fun _ => State.enablePair_sound _ _ _ (State.setPair_sound _ _ _ h0)) fun _ => State.setPair_sound _ _ _ h0

theorem State.ringRead_sound (s : State) (off : Nat) (h0 : Cells s.mem) :
    OptCells2 (State.ringRead s off) := by
  unfold State.ringRead
  repeat' (first | with_reducible (first | assumption | apply some2_sound | exact none2_sound) | split)

theorem State.ringWrite_sound (s : State) (m : Nat) (off : Nat) (v : W32) (be : W32) (h : HostRead) (h0 : Cells s.mem) :
    OptCells (State.ringWrite s m off v be h) := by
  unfold State.ringWrite
  repeat' first
    | with_reducible (first
      | assumption | apply State.modPair_sound | apply State.pairCtl_sound | apply some_sound | exact none_sound)
    | split

theorem State.takeEntries_sound (s : State) (h : HostRead) (q : Nat) (n : Nat) (h0 : Cells s.mem) :
    Cells (State.takeEntries s h q n).mem := by
  unfold State.takeEntries
  repeat' with_reducible (first | assumption | apply State.writeShadow_sound | apply State.setPair_sound)

theorem State.entryTake_sound (s : State) (h : HostRead) (h0 : Cells s.mem) :
    Cells (State.entryTake s h).mem := by
  unfold State.entryTake
  repeat' (first | with_reducible (first | assumption | apply State.takeEntries_sound) | split | dsimp only)

theorem State.handEntry_sound (s : State) (q : Nat) (e : TakenEntry) (h0 : Cells s.mem) :
    Cells (State.handEntry s q e).mem := h0

theorem State.startEntry_sound (s : State) (q : Nat) (e : TakenEntry) (h0 : Cells s.mem) :
    Cells (State.startEntry s q e).mem := by
  unfold State.startEntry
  repeat' first
    | with_reducible (first
      | assumption | apply State.handEntry_sound | apply State.startCourse_sound | apply State.entryDone_sound)
    | split | dsimp only

theorem State.handleEntry_sound (s : State) (q : Nat) (e : TakenEntry) (f : State → State × Status) (h0 : Cells s.mem)
    (hf : ∀ t, Cells t.mem → Cells (f t).1.mem) : Cells (s.handleEntry q e f).mem := by
  unfold State.handleEntry
  exact ite_sound (fun _ => State.entryDone_sound _ _ _ (State.staleRef_sound _ h0)) fun _ => State.entryDone_sound _ _ _ (hf _ h0)

theorem State.signalReq_sound (s : State) (c : Nat) (k : Nat) (h0 : Cells s.mem) :
    Cells (State.signalReq s c k).1.mem := by
  unfold State.signalReq
  repeat' (first | with_reducible (first | assumption | apply State.cause_sound) | split)

theorem State.stopReq_sound (s : State) (c : Nat) (h0 : Cells s.mem) :
    Cells (State.stopReq s c).1.mem := by
  unfold State.stopReq
  repeat' (first | with_reducible (first | assumption | apply State.stopCourse_sound) | split)

theorem State.holdReq_sound (s : State) (m : Nat) (c : Nat) (on : Bool) (h0 : Cells s.mem) :
    Cells (State.holdReq s m c on).1.mem := by
  unfold State.holdReq
  repeat' first
    | with_reducible (first
      | assumption | apply State.claimLost_sound | apply State.release_sound | apply State.image_sound | apply State.modCtx_sound
      | apply State.cause_sound | apply State.tryClaim_sound)
    | split | dsimp only | (with_reducible refine use_sound (by with_reducible assumption) ?_)

theorem State.writeEntry_sound (s : State) (q : Nat) (e : TakenEntry) (h : HostRead) (cut : Option Nat) (h0 : Cells s.mem) :
    Cells (State.writeEntry s q e h cut).mem := by
  unfold State.writeEntry
  repeat' first
    | with_reducible (first
      | assumption | apply State.handEntry_sound | apply State.entryDone_sound | apply State.offerUnits_sound | apply State.wake_sound
      | apply State.addRefused_sound)
    | split | dsimp only

theorem State.mortarEntry_sound (s : State) (q : Nat) (e : TakenEntry) (h0 : Cells s.mem) :
    Cells (State.mortarEntry s q e).mem := by
  unfold State.mortarEntry
  repeat' first
    | with_reducible (first
      | assumption | apply State.handEntry_sound | apply State.entryDone_sound | apply State.submitJob_sound)
    | split | dsimp only

theorem State.unitDone_sound (s : State) (u : Fin 10) (h0 : Cells s.mem) :
    Cells (State.unitDone s u).mem := by
  unfold State.unitDone
  repeat' first
    | with_reducible (first
      | assumption | apply State.sealDone_sound | apply State.laneMoved_sound | apply State.settle_sound | apply State.retryHeld_sound
      | apply State.signed_sound | apply State.finishJob_sound | apply State.jobDone_sound | apply State.entryDone_sound
      | apply State.verifyDone_sound)
    | split

theorem State.epochPair_sound (s : State) (q : Nat) (h0 : Cells s.mem) :
    Cells (State.epochPair s q).mem := by
  unfold State.epochPair
  repeat' first
    | with_reducible (first
      | assumption | apply State.dropRaws_sound | apply State.modPair_sound | apply State.writeShadow_sound)
    | split | dsimp only

theorem State.epochAdvance_sound (s : State) (t : Nat) (h0 : Cells s.mem) :
    Cells (State.epochAdvance s t).mem := by
  unfold State.epochAdvance
  repeat' with_reducible (first | assumption | apply State.epochPair_sound | apply foldl_sound)

theorem State.loadRec_sound (s : State) (tiles : List Nat) (r : LoadRec) (h0 : Cells s.mem) :
    Cells (State.loadRec s tiles r).mem := by
  unfold State.loadRec
  repeat' (first | with_reducible (first | assumption | apply State.setBytes_sound | apply foldl_sound) | (intro _) | split)

theorem State.loadImage_sound (s : State) (f : ImageBytes) (h0 : Cells s.mem) :
    Cells (State.loadImage s f).mem := by
  unfold State.loadImage
  repeat' (first | with_reducible (first | assumption | apply State.loadRec_sound | apply foldl_sound) | (intro _))

theorem State.reloadTile_sound (s : State) (t : Nat) (h0 : Cells s.mem) :
    Cells (State.reloadTile s t).mem := by
  unfold State.reloadTile
  repeat' (first | with_reducible (first | assumption | apply State.loadRec_sound | apply foldl_sound) | (intro _))

theorem State.loadDecode_sound (s : State) (f : ImageBytes) (minVer : Nat) (h0 : Cells s.mem) :
    Cells (State.loadDecode s f minVer).mem := by
  unfold State.loadDecode
  repeat' first
    | with_reducible (first
      | assumption | apply State.modTile_sound | apply foldl_sound)
    | (intro _) | split | dsimp only

theorem State.wipeEngines_sound (s : State) (t : Nat) (h0 : Cells s.mem) :
    Cells (State.wipeEngines s t).mem := by
  unfold State.wipeEngines
  repeat' (first | with_reducible (first | assumption | apply State.modEng_sound | apply foldl_sound) | (intro _))

theorem State.wipeRange_sound (s : State) (a n : Nat) (h0 : Cells s.mem) : Cells (s.wipeRange a n).mem :=
  ⟨Memory.wf_filter _ h0.1, fun c hc => h0.2 c (List.mem_filter.mp hc).1⟩

theorem State.wipeShared_sound (s : State) (t : Nat) (h0 : Cells s.mem) :
    Cells (State.wipeShared s t).mem := by
  unfold State.wipeShared
  repeat' with_reducible (first | assumption | apply State.wipeRange_sound)

theorem State.wipeProgram_sound (s : State) (t : Nat) (h0 : Cells s.mem) :
    Cells (State.wipeProgram s t).mem := by
  unfold State.wipeProgram
  repeat' with_reducible (first | assumption | apply State.wipeRange_sound)

theorem State.dropVerify_sound (s : State) (c : Nat) (h0 : Cells s.mem) :
    Cells (State.dropVerify s c).mem := by
  unfold State.dropVerify
  repeat' (first | with_reducible (first | assumption | apply State.mortarTurn_sound) | split | dsimp only)

theorem State.forgetWord_sound (s0 : State) (c : Nat) (h0 : Cells s0.mem) :
    Cells (State.forgetWord s0 c).mem := by
  unfold State.forgetWord
  repeat' with_reducible (first | assumption | apply State.dropVerify_sound | apply State.forgetRetries_sound)

theorem State.breakWord_sound (s : State) (c : Nat) (st : Status) (detail : optParam W64 0) (h0 : Cells s.mem) :
    Cells (State.breakWord s c st detail).mem := by
  unfold State.breakWord
  repeat' first
    | with_reducible (first
      | assumption | apply State.forgetWord_sound | apply State.modCourse_sound | apply State.release_sound | apply State.finishWord_sound)
    | split | dsimp only

theorem State.breakTile_sound (s : State) (t : Nat) (h0 : Cells s.mem) :
    Cells (State.breakTile s t).mem := by
  unfold State.breakTile
  repeat' (first | with_reducible (first | assumption | apply State.breakWord_sound | apply foldl_sound) | (intro _))

theorem State.refuseTile_sound (s : State) (t : Nat) (h0 : Cells s.mem) :
    Cells (State.refuseTile s t).mem := by
  unfold State.refuseTile
  repeat' with_reducible (first | assumption | apply State.refuseHeld_sound | apply foldl_sound)

theorem State.setTilePower_sound (s : State) (t : Nat) (p : TilePower) (h0 : Cells s.mem) :
    Cells (State.setTilePower s t p).mem := h0

theorem State.tileOff_sound (s : State) (t : Nat) (h0 : Cells s.mem) :
    Cells (State.tileOff s t).mem := by
  unfold State.tileOff
  repeat' first
    | with_reducible (first
      | assumption | apply State.setTilePower_sound | apply State.wipeProgram_sound | apply State.wipeShared_sound
      | apply State.wipeEngines_sound)

theorem State.tileCold_sound (s : State) (t : Nat) (h0 : Cells s.mem) :
    Cells (State.tileCold s t).mem := by
  unfold State.tileCold
  repeat' first
    | with_reducible (first
      | assumption | apply State.tileOff_sound | apply State.refuseTile_sound | apply State.breakTile_sound)

theorem State.dropLines_sound (s : State) (t : Nat) (h0 : Cells s.mem) :
    Cells (State.dropLines s t).mem := h0

theorem State.dropClaims_sound (s0 : State) (t : Nat) (h0 : Cells s0.mem) :
    Cells (State.dropClaims s0 t).mem := by
  unfold State.dropClaims
  repeat' first
    | with_reducible (first
      | assumption | apply State.dropLines_sound | apply State.release_sound | apply foldl_sound)

theorem State.sliceReset_sound (s : State) (t : Nat) (h0 : Cells s.mem) :
    Cells (State.sliceReset s t).mem := h0

theorem State.tileReturn_sound (s : State) (t : Nat) (h0 : Cells s.mem) :
    Cells (State.tileReturn s t).mem := by
  unfold State.tileReturn
  repeat' first
    | with_reducible (first
      | assumption | apply State.modTile_sound | apply State.reloadTile_sound | apply State.epochAdvance_sound
      | apply State.sliceReset_sound | apply State.dropClaims_sound | apply State.modEng_sound | apply State.laneRetry_sound
      | apply State.setTilePower_sound | apply foldl_sound)
    | (intro _)

theorem State.repairBegin_sound (s : State) (t : Nat) (h0 : Cells s.mem) :
    Cells (State.repairBegin s t).mem := by
  unfold State.repairBegin
  repeat' first
    | with_reducible (first
      | assumption | apply State.setTilePower_sound | apply State.wipeShared_sound | apply State.wipeEngines_sound
      | apply State.refuseTile_sound | apply State.breakTile_sound)

theorem State.tileBank_sound (s : State) (t : Nat) (h0 : Cells s.mem) :
    Cells (State.tileBank s t).mem := by
  unfold State.tileBank
  repeat' first
    | with_reducible (first
      | assumption | apply State.setTilePower_sound | apply State.modEng_sound | apply foldl_sound)
    | (intro _)

theorem State.tileUnbank_sound (s : State) (t : Nat) (h0 : Cells s.mem) :
    Cells (State.tileUnbank s t).mem := by
  unfold State.tileUnbank
  repeat' first
    | with_reducible (first
      | assumption | apply State.setTilePower_sound | apply State.dropClaims_sound | apply State.modTile_sound)

theorem State.applyTilePwr_sound (s : State) (t : Nat) (h0 : Cells s.mem) :
    Cells (State.applyTilePwr s t).mem := by
  unfold State.applyTilePwr
  repeat' first
    | with_reducible (first
      | assumption | apply State.tileReturn_sound | apply State.tileUnbank_sound | apply State.tileBank_sound
      | apply State.setTilePower_sound | apply State.tileCold_sound)
    | split | dsimp only

theorem State.writeTilePwr_sound (s : State) (t : Nat) (v : BitVec 2) (h0 : Cells s.mem) :
    Cells (State.writeTilePwr s t v).mem := by
  unfold State.writeTilePwr
  repeat' (first | with_reducible (first | assumption | apply State.modTile_sound | apply State.applyTilePwr_sound) | split)

theorem State.repairEnd_sound (s : State) (t : Nat) (h0 : Cells s.mem) :
    Cells (State.repairEnd s t).mem := by
  unfold State.repairEnd
  repeat' with_reducible (first | assumption | apply State.applyTilePwr_sound | apply State.tileReturn_sound)

theorem State.releaseEngine_sound (s : State) (e : Nat) (h0 : Cells s.mem) :
    Cells (State.releaseEngine s e).mem := by
  unfold State.releaseEngine
  repeat' (first | with_reducible (first | assumption | apply State.modEng_sound) | split)

theorem reset_sound : Cells State.reset.mem := ⟨rfl, fun c hc => by cases hc⟩
theorem State.offCore_sound (s : State) (deep : Bool) : Cells (s.offCore deep).mem := reset_sound

theorem State.deepEntry_sound (s : State) (absent : Bool) (groups : Bool) (h0 : Cells s.mem) :
    Cells (State.deepEntry s absent groups).mem := by
  unfold State.deepEntry
  repeat' with_reducible apply State.offCore_sound

theorem State.refuseRing_sound (s : State) (l : Nat) (h0 : Cells s.mem) :
    Cells (State.refuseRing s l).mem := by
  unfold State.refuseRing
  repeat' first
    | with_reducible (first
      | assumption | apply State.modLane_sound | apply State.addRefused_sound)
    | split | dsimp only

theorem State.refuseLane_sound (s : State) (l : Nat) (h0 : Cells s.mem) :
    Cells (State.refuseLane s l).mem := by
  unfold State.refuseLane
  repeat' with_reducible (first | assumption | apply State.refuseHeld_sound | apply State.refuseRing_sound)

theorem State.refuseAll_sound (s : State) (h0 : Cells s.mem) :
    Cells (State.refuseAll s).mem := by
  unfold State.refuseAll
  repeat' with_reducible (first | assumption | apply State.refuseLane_sound | apply foldl_sound)

theorem State.hodLost_sound (s : State) (h : Nat) (e : HodEntry) (h0 : Cells s.mem) :
    Cells (State.hodLost s h e).mem := by
  unfold State.hodLost
  repeat' (first | with_reducible (first | assumption | apply State.dropQueued_sound | apply State.descNotify_sound) | split)

theorem State.hodDeclared_sound (s : State) (h : Nat) (h0 : Cells s.mem) :
    Cells (State.hodDeclared s h).mem := by
  unfold State.hodDeclared
  repeat' first
    | with_reducible (first
      | assumption | apply State.descComplete_sound | apply State.modHod_sound | apply State.hodLost_sound | apply foldl_sound)
    | (intro _)

theorem State.hodsDeclared_sound (s : State) (h0 : Cells s.mem) :
    Cells (State.hodsDeclared s).mem := by
  unfold State.hodsDeclared
  repeat' with_reducible (first | assumption | apply State.hodDeclared_sound | apply foldl_sound)

theorem State.jobsToLast_sound (s : State) (h0 : Cells s.mem) :
    Cells (State.jobsToLast s).mem := by
  unfold State.jobsToLast
  repeat' first
    | with_reducible (first
      | assumption | apply State.mortarTurn_sound | apply State.requestSeal_sound | apply State.requestSign_sound | apply foldl_sound)
    | (intro _) | split

theorem State.tilesOff_sound (s : State) (h0 : Cells s.mem) :
    Cells (State.tilesOff s).mem := by
  unfold State.tilesOff
  repeat' (first | with_reducible (first | assumption | apply State.tileOff_sound | apply foldl_sound) | (intro _))

theorem State.shed_sound (s : State) (h0 : Cells s.mem) :
    Cells (State.shed s).mem := by
  unfold State.shed
  repeat' with_reducible (first | assumption | apply State.tilesOff_sound)

theorem State.rawEntryEnds_sound (s : State) (q : Nat) (pos : W32) (d : RingDone) (h0 : Cells s.mem) :
    Cells (State.rawEntryEnds s q pos d).mem := h0

theorem State.endOp_sound (s : State) (o : RawOwner) (st : Status) (h0 : Cells s.mem) :
    Cells (State.endOp s o st).mem := by
  unfold State.endOp
  repeat' (first | with_reducible (first | assumption | apply State.breakWord_sound | apply State.rawEntryEnds_sound) | split)

theorem State.keyBinds_sound (s : State) (k : BitVec 320) (h0 : Cells s.mem) :
    Cells (State.keyBinds s k).mem := by
  unfold State.keyBinds
  repeat' first
    | with_reducible (first
      | assumption | apply State.endOp_sound | apply foldl_sound)
    | (intro _) | split | dsimp only

theorem State.abortRaws_sound (s : State) (h0 : Cells s.mem) :
    Cells (State.abortRaws s).mem := by
  unfold State.abortRaws
  repeat' (first | with_reducible (first | assumption | apply State.rawEntryEnds_sound | apply foldl_sound) | (intro _))

theorem State.closeLast_sound (s : State) (h0 : Cells s.mem) :
    Cells (State.closeLast s).mem := by
  unfold State.closeLast
  repeat' first
    | with_reducible (first
      | assumption | apply State.lcStep_sound | apply State.owe_sound | apply foldl_sound)
    | (intro _)

theorem State.lcStart_sound (s : State) (cause : Nat) (h0 : Cells s.mem) :
    Cells (State.lcStart s cause).mem := by
  unfold State.lcStart
  repeat' first
    | with_reducible (first
      | assumption | apply State.headLine_sound | apply State.jobsToLast_sound | apply State.cause_sound | apply State.closeLast_sound
      | apply State.publish_sound)
    | split

theorem State.lcPower_sound (s : State) (h0 : Cells s.mem) :
    Cells (State.lcPower s).mem := by
  unfold State.lcPower
  repeat' (first | with_reducible (first | assumption | apply State.ssd_sound | apply foldl_sound) | (intro _))

theorem State.declareFirst_sound (s : State) (cause : BitVec 3) (h0 : Cells s.mem) :
    Cells (State.declareFirst s cause).mem := by
  unfold State.declareFirst
  repeat' first
    | with_reducible (first
      | assumption | apply State.raise_sound | apply State.publish_sound | apply State.emcy_sound | apply State.headLine_sound)

theorem State.declare_sound (s : State) (cause : BitVec 3) (h0 : Cells s.mem) :
    Cells (State.declare s cause).mem := by
  unfold State.declare
  repeat' first
    | with_reducible (first
      | assumption | apply State.publish_sound | apply State.refuseAll_sound | apply State.declareFirst_sound
      | apply State.abortRaws_sound | apply State.shed_sound | apply State.hodsDeclared_sound | apply State.lcStart_sound
      | apply State.lcPower_sound)
    | split | dsimp only

theorem State.bankTested_sound (s : State) (c : Nat) (esr : Nat) (h0 : Cells s.mem) :
    Cells (State.bankTested s c esr).mem := by
  unfold State.bankTested
  repeat' first
    | with_reducible (first
      | assumption | apply State.raise_sound | apply State.judgeInadequate_sound | apply State.publish_sound)
    | split

theorem State.drillMember_sound (s : State) (m : Nat) (h0 : Cells s.mem) :
    Cells (State.drillMember s m).mem := h0

theorem State.drillBegin_sound (s : State) (h0 : Cells s.mem) :
    Cells (State.drillBegin s).mem := by
  unfold State.drillBegin
  repeat' first
    | with_reducible (first
      | assumption | apply State.lcPower_sound | apply State.shed_sound | apply State.drillMember_sound | apply foldl_sound)

theorem State.setEb_sound (s : State) (eb : Nat) (h0 : Cells s.mem) :
    Cells (State.setEb s eb).mem := by
  unfold State.setEb
  repeat' first
    | with_reducible (first
      | assumption | apply State.setDict_sound | apply foldl_sound)
    | (intro _) | split | dsimp only

theorem State.drillLeave_sound (s : State) (h0 : Cells s.mem) :
    Cells (State.drillLeave s).mem := by
  unfold State.drillLeave
  repeat' (first | with_reducible (first | assumption | apply State.applyTilePwr_sound | apply foldl_sound) | (intro _))

theorem State.drilled_sound (s : State) (nanoJ : Nat) (h0 : Cells s.mem) :
    Cells (State.drilled s nanoJ).mem := by
  unfold State.drilled
  repeat' first
    | with_reducible (first
      | assumption | apply State.modMember_sound | apply State.resetZone_sound | apply State.drillLeave_sound | apply State.raise_sound
      | apply State.setEb_sound | apply foldl_sound)
    | (intro _)

theorem State.skipRec_sound (s : State) (h0 : Cells s.mem) :
    Cells (State.skipRec s).mem := h0

theorem State.toDefault_sound (s : State) (idx : Nat) (sub : Nat) (h0 : Cells s.mem) :
    Cells (State.toDefault s idx sub).mem := h0

theorem State.applyRec_sound (s : State) (r : StoredRec) (h0 : Cells s.mem) :
    Cells (State.applyRec s r).mem := by
  unfold State.applyRec
  repeat' (first | with_reducible (first | assumption | apply State.setDict_sound | apply State.skipRec_sound) | split)

theorem State.checkGroup_sound (t : State) (rs : List StoredRec) (h0 : Cells t.mem) :
    Cells (State.checkGroup t rs).mem := by
  unfold State.checkGroup
  repeat' (first | with_reducible (first | assumption | apply State.toDefault_sound) | split)

theorem State.checkTdm_sound (s : State) (t : Nat) (h0 : Cells s.mem) :
    Cells (State.checkTdm s t).mem := by
  unfold State.checkTdm
  repeat' first
    | with_reducible (first
      | assumption | apply State.toDefault_sound | apply foldl_sound)
    | (intro _) | split | dsimp only

theorem State.checkLane_sound (s : State) (l : Nat) (h0 : Cells s.mem) :
    Cells (State.checkLane s l).mem := by
  unfold State.checkLane
  repeat' first
    | with_reducible (first
      | assumption | apply State.toDefault_sound | apply foldl_sound)
    | (intro _) | split | dsimp only

theorem State.checkEntries_sound (s : State) (h0 : Cells s.mem) : Cells (s.checkEntries).mem := by
  have hf : ∀ (l k : List Nat), Cells ((k.foldl State.checkLane (l.foldl State.checkTdm s))).mem := fun l k =>
    foldl_sound (fun t n h => State.checkLane_sound t n h) k (foldl_sound (fun t n h => State.checkTdm_sound t n h) l h0)
  have hb := hf (List.range 4) (List.range 256)
  unfold State.checkEntries
  generalize List.range 4 = l at hb ⊢
  generalize List.range 256 = k at hb ⊢
  exact ite_sound (fun _ => State.toDefault_sound _ _ _ hb) fun _ => hb

theorem State.usedDefaults_sound (s : State) (h0 : Cells s.mem) :
    Cells (State.usedDefaults s).mem := h0

theorem State.restoreDict_sound (s : State) (h0 : Cells s.mem) :
    Cells (State.restoreDict s).mem := by
  unfold State.restoreDict
  repeat' first
    | with_reducible (first
      | assumption | apply State.usedDefaults_sound | apply State.applyRec_sound | apply State.checkEntries_sound
      | apply State.checkGroup_sound | apply foldl_sound)
    | split | dsimp only

theorem State.orderAdd_sound (s : State) (l : Nat) (k : BitVec 320) (h0 : Cells s.mem) :
    Cells (State.orderAdd s l k).mem := h0

theorem State.orderDel_sound (s : State) (l : Nat) (k : BitVec 320) (h0 : Cells s.mem) :
    Cells (State.orderDel s l k).mem := h0

theorem State.rebind_sound (s : State) (l : Nat) (n : Nat) (h0 : Cells s.mem) :
    Cells (State.rebind s l n).mem := by
  unfold State.rebind
  repeat' first
    | with_reducible (first
      | assumption | apply State.toDefault_sound | apply State.bindInsert_sound | apply State.orderAdd_sound)
    | split | dsimp only

theorem State.rebindAll_sound (s : State) (h0 : Cells s.mem) :
    Cells (State.rebindAll s).mem := by
  unfold State.rebindAll
  repeat' (first | with_reducible (first | assumption | apply State.rebind_sound | apply foldl_sound) | (intro _))

theorem State.keepAlways_sound (s : State) (cause : Nat) (h0 : Cells s.mem) :
    Cells (State.keepAlways s cause).mem := by
  unfold State.keepAlways
  repeat' (first | with_reducible assumption | split)

theorem State.startWipe_sound (s : State) (cause : Nat) (h0 : Cells s.mem) :
    Cells (State.startWipe s cause).mem := by
  unfold State.startWipe
  repeat' with_reducible (first | apply State.keepAlways_sound | apply State.offCore_sound | apply State.drawn_sound)

theorem State.drawKeys_sound (s : State) (h0 : Cells s.mem) :
    Cells (State.drawKeys s).mem := h0

theorem State.bootSlot_sound (s : State) (b : Bool) (h0 : Cells s.mem) :
    Cells (State.bootSlot s b).mem := by
  unfold State.bootSlot
  repeat' first
    | with_reducible (first
      | assumption | apply State.loadImage_sound | apply State.setBytes_sound | apply State.modEng_sound | apply State.loadDecode_sound)

theorem State.boot_sound (s : State) (h0 : Cells s.mem) :
    OptCells (State.boot s) := by
  unfold State.boot
  repeat' first
    | with_reducible (first
      | assumption | apply State.bootSlot_sound | apply State.raise_sound | apply some_sound | exact none_sound)
    | split | dsimp only

theorem State.bootStop_sound (s : State) (h0 : Cells s.mem) :
    Cells (State.bootStop s).mem := h0

theorem State.tdmInit_sound (s : State) (t : Nat) (h0 : Cells s.mem) :
    Cells (State.tdmInit s t).mem := h0

theorem State.canInit_sound (s : State) (c : Nat) (h0 : Cells s.mem) :
    Cells (State.canInit s c).mem := h0

theorem State.ethInit_sound (s : State) (p : Nat) (h0 : Cells s.mem) :
    Cells (State.ethInit s p).mem := h0

theorem State.wytheInit_sound (s : State) (h0 : Cells s.mem) :
    Cells (State.wytheInit s).mem := h0

theorem State.boardInit_sound (s : State) (h0 : Cells s.mem) :
    Cells (State.boardInit s).mem := h0

theorem State.firmwareInit_sound (s : State) (h0 : Cells s.mem) :
    Cells (State.firmwareInit s).mem := by
  unfold State.firmwareInit
  repeat' with_reducible assumption

theorem State.bootCourse_sound (s : State) (h0 : Cells s.mem) :
    Cells (State.bootCourse s).mem := h0

theorem State.applyDict_sound (s : State) (h0 : Cells s.mem) :
    Cells (State.applyDict s).mem := by
  unfold State.applyDict
  repeat' first
    | with_reducible (first
      | assumption | apply State.ethInit_sound | apply State.canInit_sound | apply State.tdmInit_sound | apply State.bootCourse_sound
      | apply State.firmwareInit_sound | apply State.boardInit_sound | apply State.wytheInit_sound | apply foldl_sound)

theorem State.startLane_sound (s : State) (l : Nat) (h0 : Cells s.mem) :
    Cells (State.startLane s l).mem := by
  unfold State.startLane
  repeat' (first | with_reducible (first | assumption | apply State.setLane_sound) | split | dsimp only)

theorem State.startLanes_sound (s : State) (h0 : Cells s.mem) :
    Cells (State.startLanes s).mem := by
  unfold State.startLanes
  repeat' first
    | with_reducible (first
      | assumption | apply State.rebindAll_sound | apply State.startLane_sound | apply State.openLane_sound | apply foldl_sound)

theorem State.wakeCounts_sound (s : State) (h0 : Cells s.mem) :
    Cells (State.wakeCounts s).mem := by
  unfold State.wakeCounts
  repeat' (first | with_reducible (first | assumption | apply State.raiseN_sound | apply foldl_sound) | (intro _))

theorem State.dictReady_sound (s : State) (h0 : Cells s.mem) :
    Cells (State.dictReady s).mem := h0

theorem State.afterRung_sound (s : State) (cause : Nat) (h0 : Cells s.mem) :
    Cells (State.afterRung s cause).mem := by
  unfold State.afterRung
  repeat' (first | with_reducible (first | assumption | apply State.emcy_sound | apply State.raise_sound) | split)

theorem State.trngFails_sound (s : State) (h0 : Cells s.mem) :
    Cells (State.trngFails s).mem := h0

theorem State.start_sound (s : State) (cause : Nat) (h0 : Cells s.mem) :
    Cells (State.start s cause).mem := by
  unfold State.start
  repeat' first
    | with_reducible (first
      | assumption | apply State.startWipe_sound | apply State.trngFails_sound | apply State.drawKeys_sound | apply State.bootStop_sound
      | apply State.raise_sound | apply State.wakeCounts_sound | apply State.dictReady_sound | apply State.applyDict_sound
      | apply State.restoreDict_sound | apply State.afterRung_sound | apply State.startLanes_sound | apply State.boot_sound)
    | split | dsimp only | (with_reducible refine use_sound (by with_reducible assumption) ?_)

theorem State.memberFails_sound (s : State) (m : Nat) (h0 : Cells s.mem) :
    Cells (State.memberFails s m).mem := h0

theorem State.takeMember_sound (s : State) (found : List MemberScan) (m : Nat) (h0 : Cells s.mem) :
    Cells (State.takeMember s found m).mem := by
  unfold State.takeMember
  repeat' first
    | with_reducible (first
      | assumption | apply State.memberFails_sound | apply State.modMember_sound)
    | split | dsimp only

theorem State.putImage_sound (s : State) (e : Nat × Nat × Bytes) (h0 : Cells s.mem) :
    Cells (State.putImage s e).mem := h0

theorem State.journalFields_sound (s : State) (l : Nat) (h0 : Cells s.mem) :
    Cells (State.journalFields s l).mem := by
  unfold State.journalFields
  repeat' (first | with_reducible (first | assumption | apply State.modCtx_sound) | split | dsimp only)

theorem State.courseLost_sound (s : State) (c : Nat) (h0 : Cells s.mem) :
    Cells (State.courseLost s c).mem := by
  unfold State.courseLost
  repeat' first
    | with_reducible (first
      | assumption | apply State.setCourse_sound | apply State.endCourse_sound | apply State.drawn_sound | apply State.dropCourse_sound)
    | split | dsimp only

theorem State.restoreCourse_sound (kept : BitVec 16) (s : State) (c : Nat) (h1 : Cells s.mem) :
    Cells (State.restoreCourse kept s c).mem := by
  unfold State.restoreCourse
  repeat' first
    | with_reducible (first
      | assumption | apply State.tryResume_sound | apply State.setCourse_sound | apply State.modCtx_sound | apply State.courseLost_sound)
    | split | dsimp only

theorem State.restoreTable_sound (s : State) (found : List MemberScan) (h0 : Cells s.mem) :
    Cells (State.restoreTable s found).mem := by
  unfold State.restoreTable
  repeat' (first | with_reducible (first | assumption | apply State.putImage_sound | apply foldl_sound) | split)

theorem State.placeMember_sound (s : State) (f : MemberScan) (h0 : Cells s.mem) :
    Cells (State.placeMember s f).mem := h0

theorem State.seedMono_sound (s : State) (found : List MemberScan) (h0 : Cells s.mem) :
    Cells (State.seedMono s found).mem := by
  unfold State.seedMono
  repeat' (first | with_reducible assumption | split)

theorem State.scanFinish_sound (s : State) (h0 : Cells s.mem) :
    Cells (State.scanFinish s).mem := by
  unfold State.scanFinish
  repeat' (first | with_reducible (first | assumption | apply State.raise_sound | apply State.headLine_sound) | split)

theorem State.nameLane_sound (s : State) (l : Nat) (h0 : Cells s.mem) :
    Cells (State.nameLane s l).mem := by
  unfold State.nameLane
  repeat' (first | with_reducible (first | assumption | apply State.nameObject_sound | apply State.modLane_sound) | split)

theorem State.oweScan_sound (s : State) (h0 : Cells s.mem) :
    Cells (State.oweScan s).mem := by
  unfold State.oweScan
  repeat' (first | with_reducible (first | assumption | apply State.modLane_sound | apply foldl_sound) | (intro _) | split)

theorem State.lanesGo_sound (s : State) (h0 : Cells s.mem) :
    Cells (State.lanesGo s).mem := by
  unfold State.lanesGo
  repeat' first
    | with_reducible (first
      | assumption | apply State.judgeInadequate_sound | apply State.issueRecordsOf_sound | apply State.issueBrick_sound
      | apply State.pump_sound | apply State.nameLane_sound | apply foldl_sound)
    | (intro _)

theorem State.restoreContexts_sound (s : State) (found : List MemberScan) (h0 : Cells s.mem) :
    Cells (State.restoreContexts s found).mem := by
  unfold State.restoreContexts
  repeat' first
    | with_reducible (first
      | assumption | apply State.takeMember_sound | apply State.journalFields_sound | apply State.seedMono_sound
      | apply State.restoreTable_sound | apply State.placeMember_sound | apply State.raise_sound | apply State.restoreCourse_sound
      | apply State.scanFinish_sound | apply State.lanesGo_sound | apply State.oweScan_sound | apply State.flushImages_sound
      | apply foldl_sound)
    | (intro _)

theorem State.stoodCtx_sound (s : State) (md : Medium) (l : Nat) (e : JEntry) (b : Bytes) (h0 : Cells s.mem) :
    Cells (State.stoodCtx s md l e b).mem := h0

theorem State.scanChain_sound (s : State) (md : Medium) (l : Nat) (x : Scan) (n : Nat) (h0 : Cells s.mem) : Cells (s.scanChain md l x n).1.mem := by
  induction n generalizing s x with
  | zero => exact h0
  | succ n ih =>
    unfold State.scanChain
    refine ite1_sound (fun _ => h0) fun _ => ?_
    split
    · exact h0
    · have ht := State.stoodCtx_sound s md l x.led ‹_› h0
      refine ite1_sound (fun _ => ih _ _ ht) fun _ => ?_
      have hu := fun c => State.image_sound _ c (State.closeCtx_sound _ c ht)
      split
      · exact hu _
      · exact ih _ _ (hu _)

theorem State.scanRecords_sound (s : State) (md : Medium) (l : Nat) (e : JEntry) (n : Nat) (h0 : Cells s.mem) :
    Cells (s.scanRecords md l e n).1.mem := by
  induction n generalizing s e with
  | zero => exact h0
  | succ n ih =>
    unfold State.scanRecords
    split
    · exact h0
    · exact ih _ _ (State.headLine_sound _ _ h0)

theorem State.scanTarget_sound (s : State) (l : Nat) (cur : Option ObjChain) (rest : List ObjChain) (n : Nat) (h0 : Cells s.mem) :
    Cells (State.scanTarget s l cur rest n).2.mem := by
  unfold State.scanTarget
  repeat' first
    | with_reducible (first
      | assumption | apply State.raise_sound | apply State.openStreams_sound | apply State.takeObjectAt_sound)
    | split | dsimp only | (with_reducible refine use_sound (by with_reducible assumption) ?_)
    | (with_reducible refine use2_sound (by with_reducible assumption) ?_)

theorem State.closeEmpty_sound (s : State) (l : Nat) (next : Option ObjChain) (h0 : Cells s.mem) :
    Cells (State.closeEmpty s l next).mem := by
  unfold State.closeEmpty
  repeat' first
    | with_reducible (first
      | assumption | apply State.closeBrick_sound | apply State.modLane_sound | apply State.handOver_sound)

theorem State.scanSettle_sound (s : State) (l : Nat) (x : Scan) (n : Nat) (h0 : Cells s.mem) :
    Cells (State.scanSettle s l x n).mem := by
  unfold State.scanSettle
  repeat' first
    | with_reducible (first
      | assumption | apply State.scanTarget_sound | apply State.image_sound | apply State.closeCtx_sound | apply State.modLane_sound
      | apply State.closeEmpty_sound | apply foldl_sound)
    | (intro _) | split | dsimp only

theorem State.scanEnded_sound (s : State) (l : Nat) (os : List ObjChain) (h0 : Cells s.mem) :
    Cells (State.scanEnded s l os).mem := by
  unfold State.scanEnded
  repeat' (first | with_reducible (first | assumption | apply State.recordDue_sound | apply foldl_sound) | (intro _))

theorem State.scanOpened_sound (s : State) (l : Nat) (h0 : Cells s.mem) :
    Cells (State.scanOpened s l).mem := by
  unfold State.scanOpened
  repeat' (first | with_reducible (first | assumption | apply State.retarget_sound) | split)

theorem State.lastPlaces_sound (s : State) (md : Medium) (e : JEntry) (h0 : Cells s.mem) :
    Cells (State.lastPlaces s md e).mem := by
  unfold State.lastPlaces
  repeat' (first | with_reducible (first | assumption | apply State.modCtx_sound) | split | dsimp only)

theorem State.scanJobs_sound (s : State) (n : Nat) (h0 : Cells s.mem) :
    Cells (State.scanJobs s n).mem := h0

theorem State.scanLane_sound (s : State) (l : Nat) (md : Medium) (h0 : Cells s.mem) :
    Cells (State.scanLane s l md).mem := by
  unfold State.scanLane
  repeat' first
    | with_reducible (first
      | assumption | apply State.scanChain_sound | apply State.scanRecords_sound | apply State.modLane_sound | apply State.scanJobs_sound
      | apply State.scanSettle_sound | apply State.lastPlaces_sound | apply State.judgeInadequate_sound | apply State.scanFinish_sound
      | apply State.pump_sound | apply State.lineOf_sound | apply State.scanOpened_sound | apply State.scanEnded_sound)

theorem State.ok_sound (s : State) (h0 : Cells s.mem) :
    Cells (State.ok s).1.mem := h0

theorem State.no_sound (s : State) (a : Answer) (h0 : Cells s.mem) :
    Cells (State.no s a).1.mem := h0

theorem State.askStore_sound (s : State) (p : Path) (load : Bool) (h0 : Cells s.mem) :
    Cells (State.askStore s p load).1.mem := by
  unfold State.askStore
  repeat' (first | with_reducible (first | assumption | apply State.no_sound) | split)

theorem State.endSession_sound (s : State) (n : Nat) (h0 : Cells s.mem) :
    Cells (State.endSession s n).mem := h0

theorem State.responseRefused_sound (s : State) (a : Answer) (h0 : Cells s.mem) :
    Cells (State.responseRefused s a).1.mem := h0

theorem State.response_sound (s : State) (p : Path) (v : Bytes) (h0 : Cells s.mem) :
    Cells (State.response s p v).1.mem := by
  unfold State.response
  repeat' first
    | with_reducible (first
      | assumption | apply State.responseRefused_sound | apply State.ok_sound)
    | split | dsimp only

theorem State.revoke_sound (s : State) (v : Bytes) (h0 : Cells s.mem) :
    Cells (State.revoke s v).mem := h0

theorem State.serviceKey_sound (s : State) (p : Path) (n : Nat) (v : Bytes) (h0 : Cells s.mem) :
    Cells (State.serviceKey s p n v).1.mem := by
  unfold State.serviceKey
  repeat' first
    | with_reducible (first
      | assumption | apply State.ok_sound | apply State.setDict_sound | apply State.no_sound | apply State.askStore_sound)
    | split

theorem State.tryOpen_sound (s : State) (l : Nat) (h0 : Cells s.mem) :
    Cells (State.tryOpen s l).mem := by
  unfold State.tryOpen
  repeat' (first | with_reducible (first | assumption | apply State.openLane_sound) | split)

theorem State.unbind_sound (s : State) (l : Nat) (k : BitVec 320) (h0 : Cells s.mem) :
    Cells (State.unbind s l k).mem := by
  unfold State.unbind
  repeat' with_reducible (first | assumption | apply State.orderDel_sound | apply State.bindRemove_sound)

theorem State.dropKey_sound (s : State) (l : Nat) (n : Nat) (h0 : Cells s.mem) :
    Cells (State.dropKey s l n).mem := by
  unfold State.dropKey
  repeat' first
    | with_reducible (first
      | assumption | apply State.setDict_sound | apply State.unbind_sound)
    | split | dsimp only

theorem State.oneKey_sound (s : State) (l : Nat) (h0 : Cells s.mem) :
    Cells (State.oneKey s l).mem := by
  unfold State.oneKey
  repeat' first
    | with_reducible (first
      | assumption | apply State.forgetLearned_sound | apply State.dropKey_sound | apply foldl_sound)
    | (intro _) | split | dsimp only

theorem State.shutLane_sound (s : State) (l : Nat) (h0 : Cells s.mem) :
    Cells (State.shutLane s l).mem := by
  unfold State.shutLane
  repeat' (first | with_reducible (first | assumption | apply State.laneClose_sound | apply State.modLane_sound) | split)

theorem State.sourceType_sound (s : State) (l : Nat) (v : Bytes) (h0 : Cells s.mem) :
    Cells (State.sourceType s l v).mem := by
  unfold State.sourceType
  repeat' first
    | with_reducible (first
      | assumption | apply State.laneMoved_sound | apply State.setDict_sound | apply State.shutLane_sound | apply State.oneKey_sound
      | apply State.pump_sound | apply State.renew_sound | apply State.openLane_sound)
    | split | dsimp only

theorem State.laneWrite_sound (s : State) (l : Nat) (sub : Nat) (v : Bytes) (h0 : Cells s.mem) :
    Cells (State.laneWrite s l sub v).1.mem := by
  unfold State.laneWrite
  repeat' first
    | with_reducible (first
      | assumption | apply State.ok_sound | apply State.sourceType_sound | apply State.no_sound | apply State.setDict_sound
      | apply State.tryOpen_sound)
    | split

theorem State.keepLearned_sound (s : State) (k : BitVec 320) (h0 : Cells s.mem) :
    Cells (State.keepLearned s k).mem := h0

theorem State.keyClear_sound (s : State) (l : Nat) (n : Nat) (h0 : Cells s.mem) :
    Cells (State.keyClear s l n).mem := by
  unfold State.keyClear
  repeat' first
    | with_reducible (first
      | assumption | apply State.dropKey_sound | apply State.laneMoved_sound | apply State.shutLane_sound | apply State.modLane_sound)
    | split | dsimp only

theorem State.keyInsert_sound (s : State) (l : Nat) (n : Nat) (v : Bytes) (h0 : Cells s.mem) :
    Cells (State.keyInsert s l n v).1.mem := by
  unfold State.keyInsert
  repeat' first
    | with_reducible (first
      | assumption | apply State.unbind_sound | apply State.bindInsert_sound | apply State.no_sound | apply State.ok_sound
      | apply State.tryOpen_sound | apply State.keyBinds_sound | apply State.setDict_sound | apply State.orderAdd_sound)
    | split | dsimp only

theorem State.keyWrite_sound (s : State) (l : Nat) (n : Nat) (v : Bytes) (h0 : Cells s.mem) :
    Cells (State.keyWrite s l n v).1.mem := by
  unfold State.keyWrite
  repeat' first
    | with_reducible (first
      | assumption | apply State.ok_sound | apply State.keyClear_sound | apply State.keyInsert_sound | apply State.unbind_sound
      | apply State.tryOpen_sound | apply State.setDict_sound | apply State.keepLearned_sound | apply State.no_sound)
    | split

theorem State.epochWrite_sound (s : State) (n : Nat) (v : Bytes) (h0 : Cells s.mem) :
    Cells (State.epochWrite s n v).mem := by
  unfold State.epochWrite
  repeat' first
    | with_reducible (first
      | assumption | apply State.tryOpen_sound | apply State.setDict_sound | apply foldl_sound)

theorem State.wytheSettle_sound (s : State) (h0 : Cells s.mem) :
    Cells (State.wytheSettle s).mem := by
  unfold State.wytheSettle
  repeat' first
    | with_reducible (first
      | assumption | apply State.laneMoved_sound | apply State.settle_sound | apply State.issueRecordsOf_sound
      | apply State.issueBrick_sound | apply State.judgeInadequate_sound | apply State.tryOpen_sound | apply foldl_sound)
    | (intro _)

theorem State.wytheWrite_sound (s : State) (idx : Nat) (sub : Nat) (v : Bytes) (h0 : Cells s.mem) :
    Cells (State.wytheWrite s idx sub v).1.mem := by
  unfold State.wytheWrite
  repeat' first
    | with_reducible (first
      | assumption | apply State.no_sound | apply State.setDict_sound | apply State.ok_sound | apply State.wytheSettle_sound)
    | split

theorem State.burn_sound (s : State) (f : Fuses → Fuses) (h0 : Cells s.mem) :
    Cells (State.burn s f).mem := h0

theorem State.digestWrite_sound (s : State) (n : Nat) (v : Bytes) (h0 : Cells s.mem) :
    Cells (State.digestWrite s n v).1.mem := by
  unfold State.digestWrite
  repeat' first
    | with_reducible (first
      | assumption | apply State.no_sound | apply State.ok_sound | apply State.burn_sound)
    | split

theorem State.bootRevoke_sound (s : State) (v : Bytes) (h0 : Cells s.mem) :
    Cells (State.bootRevoke s v).1.mem := by
  unfold State.bootRevoke
  repeat' first
    | with_reducible (first
      | assumption | apply ite1_sound | apply State.no_sound | apply State.ok_sound | apply State.burn_sound)
    | (intro _)

theorem State.floorWrite_sound (s : State) (v : Bytes) (h0 : Cells s.mem) :
    Cells (State.floorWrite s v).1.mem := by
  unfold State.floorWrite
  repeat' first
    | with_reducible (first
      | assumption | apply State.no_sound | apply State.ok_sound | apply State.burn_sound)
    | split | dsimp only

theorem State.imageWrite_sound (s : State) (v : Bytes) (h0 : Cells s.mem) :
    Cells (State.imageWrite s v).1.mem := by
  unfold State.imageWrite
  repeat' (first | with_reducible (first | assumption | apply State.no_sound | apply State.ok_sound) | split)

theorem State.activate_sound (s : State) (h0 : Cells s.mem) :
    Cells (State.activate s).1.mem := by
  unfold State.activate
  repeat' first
    | with_reducible (first
      | assumption | apply State.ok_sound | apply State.no_sound | apply State.raise_sound)
    | split | dsimp only

theorem State.provision_sound (s : State) (h0 : Cells s.mem) :
    Cells (State.provision s).mem := by
  unfold State.provision
  repeat' with_reducible (first | assumption | apply State.drbgNext_sound | apply State.burn_sound)

theorem State.lcBurn_sound (s : State) (target : Nat) (h0 : Cells s.mem) :
    Cells (State.lcBurn s target).mem := by
  unfold State.lcBurn
  repeat' first
    | with_reducible (first
      | assumption | apply State.raise_sound | apply State.provision_sound | apply State.burn_sound)
    | split

theorem State.lcRequest_sound (s : State) (v : Bytes) (h0 : Cells s.mem) :
    Cells (State.lcRequest s v).1.mem := by
  unfold State.lcRequest
  repeat' first
    | with_reducible (first
      | assumption | apply State.no_sound | apply State.ok_sound | apply State.lcBurn_sound)
    | split | dsimp only

theorem State.objectAct_sound (s : State) (c : Nat) (action : Nat) (h0 : Cells s.mem) :
    Cells (State.objectAct s c action).1.mem := by
  unfold State.objectAct
  repeat' first
    | with_reducible (first
      | assumption | apply State.holdReq_sound | apply State.signalReq_sound | apply State.stopReq_sound)
    | split

theorem State.objectRequest_sound (s : State) (v : Bytes) (h0 : Cells s.mem) :
    Cells (State.objectRequest s v).1.mem := by
  unfold State.objectRequest
  repeat' first
    | with_reducible (first
      | assumption | apply State.no_sound | apply State.staleRef_sound | apply State.objectAct_sound | apply State.ok_sound)
    | split | dsimp only

theorem State.deviceWrite_sound (s : State) (p : Path) (idx : Nat) (sub : Nat) (v : Bytes) (h0 : Cells s.mem) :
    Cells (State.deviceWrite s p idx sub v).1.mem := by
  unfold State.deviceWrite
  repeat' first
    | with_reducible (first
      | assumption | apply State.askStore_sound | apply State.ok_sound | apply State.rekeyStart_sound | apply State.setStarveLimit_sound
      | apply State.setDict_sound)
    | split

theorem State.holdupWrite_sound (s : State) (idx : Nat) (sub : Nat) (v : Bytes) (h0 : Cells s.mem) :
    Cells (State.holdupWrite s idx sub v).1.mem := by
  unfold State.holdupWrite
  repeat' first
    | with_reducible (first
      | assumption | apply State.ok_sound | apply State.judgeInadequate_sound | apply State.reshare_sound | apply State.setDict_sound)
    | split

theorem State.securityWrite_sound (s : State) (p : Path) (idx : Nat) (sub : Nat) (v : Bytes) (h0 : Cells s.mem) :
    Cells (State.securityWrite s p idx sub v).1.mem := by
  unfold State.securityWrite
  repeat' first
    | with_reducible (first
      | assumption | apply State.ok_sound | apply State.epochWrite_sound | apply State.response_sound | apply State.endSession_sound
      | apply State.revoke_sound | apply State.serviceKey_sound | apply State.lcRequest_sound | apply State.bootRevoke_sound
      | apply State.floorWrite_sound | apply State.digestWrite_sound | apply State.setDict_sound)
    | split

theorem State.outsideWrite_sound (s : State) (idx : Nat) (sub : Nat) (v : Bytes) (h0 : Cells s.mem) :
    Cells (State.outsideWrite s idx sub v).1.mem := by
  unfold State.outsideWrite
  repeat' first
    | with_reducible (first
      | assumption | apply State.wytheWrite_sound | apply State.ok_sound | apply State.setDict_sound)
    | split

theorem State.writeEntryOf_sound (s : State) (p : Path) (idx : Nat) (sub : Nat) (v : Bytes) (h0 : Cells s.mem) :
    Cells (State.writeEntryOf s p idx sub v).1.mem := by
  unfold State.writeEntryOf
  repeat' first
    | with_reducible (first
      | assumption | apply State.deviceWrite_sound | apply State.laneWrite_sound | apply State.keyWrite_sound
      | apply State.holdupWrite_sound | apply State.securityWrite_sound | apply State.outsideWrite_sound | apply State.objectRequest_sound
      | apply State.imageWrite_sound | apply State.activate_sound | apply State.ok_sound | apply State.setDict_sound)
    | split

theorem State.dictWrite_sound (s : State) (p : Path) (idx : Nat) (sub : Nat) (v : Bytes) (h0 : Cells s.mem) :
    Cells (State.dictWrite s p idx sub v).1.mem := by
  unfold State.dictWrite
  repeat' first
    | with_reducible (first
      | assumption | apply State.writeEntryOf_sound | apply State.no_sound)
    | split | dsimp only

theorem State.challenge_sound (s : State) (p : Path) (h0 : Cells s.mem) :
    Cells (State.challenge s p).1.mem := by
  unfold State.challenge
  repeat' (first | with_reducible (first | assumption | apply State.no_sound | apply State.drbgNext_sound) | split)

theorem State.dictRead_sound (s : State) (p : Path) (idx : Nat) (sub : Nat) (h0 : Cells s.mem) :
    Cells (State.dictRead s p idx sub).1.mem := by
  unfold State.dictRead
  repeat' (first | with_reducible (first | assumption | apply State.no_sound | apply State.challenge_sound) | split)

theorem State.perform_sound (s : State) (p : Path) (idx : Nat) (sub : Nat) (v : Option Bytes) (h0 : Cells s.mem) :
    Cells (State.perform s p idx sub v).1.mem := by
  unfold State.perform
  repeat' (first | with_reducible (first | assumption | apply State.dictRead_sound | apply State.dictWrite_sound) | split)

theorem State.noteStatus_sound (s : State) (n : Nat) (st : Status) (h0 : Cells s.mem) :
    Cells (State.noteStatus s n st).mem := by
  unfold State.noteStatus
  repeat' (first | with_reducible assumption | split)

theorem State.sendAnswer_sound (s : State) (p : Path) (a : Answer) (h0 : Cells s.mem) :
    Cells (State.sendAnswer s p a).mem := by
  unfold State.sendAnswer
  repeat' with_reducible (first | assumption | apply State.noteStatus_sound)

theorem State.serveCall_sound (s : State) (q : DictReq) (h0 : Cells s.mem) :
    Cells (State.serveCall s q).mem := by
  unfold State.serveCall
  repeat' first
    | with_reducible (first
      | assumption | apply State.perform_sound | apply State.sendAnswer_sound)
    | split | dsimp only

theorem State.setUsdo_sound (s : State) (n : Nat) (x : Option UsdoXfer) (h0 : Cells s.mem) :
    Cells (State.setUsdo s n x).mem := h0

theorem State.usdoBegin_sound (s : State) (n : Nat) (x : UsdoXfer) (a : Answer) (h0 : Cells s.mem) :
    Cells (State.usdoBegin s n x a).mem := h0

theorem State.usdoSegment_sound (s : State) (n : Nat) (idx : BitVec 16) (sub : BitVec 8) (total : Nat) (b : Bytes) (h0 : Cells s.mem) :
    Cells (State.usdoSegment s n idx sub total b).mem := by
  unfold State.usdoSegment
  repeat' first
    | with_reducible (first
      | assumption | apply State.sendAnswer_sound | apply State.setUsdo_sound | apply State.serveCall_sound)
    | split

theorem State.usdo_sound (s : State) (node : BitVec 8) (op : UsdoOp) (h0 : Cells s.mem) :
    Cells (State.usdo s node op).mem := by
  unfold State.usdo
  repeat' first
    | with_reducible (first
      | assumption | apply State.sendAnswer_sound | apply State.perform_sound | apply State.usdoBegin_sound | apply State.serveCall_sound
      | apply State.usdoSegment_sound | apply State.setUsdo_sound)
    | split | dsimp only

theorem State.setPeer_sound (s : State) (x : Peer) (h0 : Cells s.mem) :
    Cells (State.setPeer s x).mem := h0

theorem State.datagramOut_sound (s : State) (peer : Nat) (a : Answer) (d : Bytes) (h0 : Cells s.mem) :
    Cells (State.datagramOut s peer a d).mem := h0

theorem State.sendDatagram_sound (s : State) (peer : Nat) (b : Bytes) (a : Answer) (total : Nat) (h0 : Cells s.mem) :
    Cells (State.sendDatagram s peer b a total).mem := h0

theorem State.bumundRead_sound (s : State) (peer : Nat) (b : Bytes) (h0 : Cells s.mem) :
    Cells (State.bumundRead s peer b).mem := by
  unfold State.bumundRead
  repeat' first
    | with_reducible (first
      | assumption | apply State.perform_sound | apply State.setPeer_sound | apply State.sendDatagram_sound)
    | split | dsimp only

theorem State.bumundWrite_sound (s : State) (peer : Nat) (b : Bytes) (h0 : Cells s.mem) :
    Cells (State.bumundWrite s peer b).mem := by
  unfold State.bumundWrite
  repeat' first
    | with_reducible (first
      | assumption | apply State.sendDatagram_sound | apply State.setPeer_sound | apply State.perform_sound)
    | split | dsimp only

theorem State.freshDatagram_sound (t : State) (peer : Nat) (b : Bytes) (h0 : Cells t.mem) :
    Cells (State.freshDatagram t peer b).mem := by
  unfold State.freshDatagram
  repeat' first
    | with_reducible (first
      | assumption | apply State.bumundRead_sound | apply State.bumundWrite_sound | apply State.sendDatagram_sound)
    | split

theorem State.datagram_sound (s : State) (peer : Nat) (b : Bytes) (h0 : Cells s.mem) :
    Cells (State.datagram s peer b).mem := by
  unfold State.datagram
  repeat' first
    | with_reducible (first
      | assumption | apply State.setPeer_sound | apply State.datagramOut_sound | apply State.freshDatagram_sound)
    | split | dsimp only

theorem State.mailAnswer_sound (s : State) (q : MailReq) (a : Answer) (h0 : Cells s.mem) :
    Cells (State.mailAnswer s q a).mem := by
  unfold State.mailAnswer
  repeat' first
    | with_reducible (first
      | assumption | apply State.mailSend_sound | apply State.mailStage_sound | apply State.noteStatus_sound | apply foldl_sound)
    | (intro _)

theorem State.mailDone_sound (s : State) (q : MailReq) (a : Answer) (h0 : Cells s.mem) :
    Cells (State.mailDone s q a).mem := by
  unfold State.mailDone
  repeat' (first | with_reducible (first | assumption | apply State.mailAnswer_sound | apply State.setBytes_sound) | split)

theorem State.serveMail_sound (s : State) (h0 : Cells s.mem) :
    Cells (State.serveMail s).mem := by
  unfold State.serveMail
  repeat' first
    | with_reducible (first
      | assumption | apply State.mailAck_sound | apply State.mailDone_sound | apply State.perform_sound)
    | split | dsimp only

theorem State.lcRestart_sound (s : State) (h0 : Cells s.mem) :
    Cells (State.lcRestart s).mem := by
  unfold State.lcRestart
  repeat' (first | with_reducible (first | assumption | apply State.start_sound) | split)

theorem State.serveOne_sound (s : State) (q : HeldReq) (h0 : Cells s.mem) :
    Cells (State.serveOne s q).mem := by
  unfold State.serveOne
  repeat' first
    | with_reducible (first
      | assumption | apply State.lcRestart_sound | apply State.serveCall_sound | apply State.usdo_sound | apply State.datagram_sound)
    | split

theorem State.serveHeld_sound (s : State) (n : Nat) (h0 : Cells s.mem) : Cells (s.serveHeld n).mem := by
  induction n generalizing s with
  | zero => exact h0
  | succ n ih =>
    unfold State.serveHeld
    refine ite_sound (fun _ => h0) fun _ => ?_
    split
    · exact h0
    · exact ih _ (State.serveOne_sound _ _ h0)

theorem State.serveAll_sound (s : State) (h0 : Cells s.mem) :
    Cells (State.serveAll s).mem := by
  unfold State.serveAll
  repeat' with_reducible (first | assumption | apply State.serveHeld_sound)

theorem State.hold_sound (s : State) (q : HeldReq) (h0 : Cells s.mem) :
    Cells (State.hold s q).mem := by
  unfold State.hold
  repeat' (first | with_reducible assumption | split)

theorem State.arrive_sound (s : State) (q : HeldReq) (h0 : Cells s.mem) :
    Cells (State.arrive s q).mem := by
  unfold State.arrive
  repeat' first
    | with_reducible (first
      | assumption | apply State.serveOne_sound | apply State.hold_sound)
    | split | dsimp only

theorem State.request_sound (s : State) (p : Path) (idx : Nat) (sub : Nat) (v : Option Bytes) (h0 : Cells s.mem) :
    Cells (State.request s p idx sub v).mem := by
  unfold State.request
  repeat' (first | with_reducible (first | assumption | apply State.arrive_sound) | split)

theorem State.objectRow_sound (s : State) (p : Path) (c : CtxId) (gen : BitVec 16) (action : Nat) (h0 : Cells s.mem) :
    Cells (State.objectRow s p c gen action).mem := by
  unfold State.objectRow
  repeat' with_reducible (first | assumption | apply State.request_sound)

theorem State.storeAnswer_sound (s : State) (p : Path) (a : Answer) (h0 : Cells s.mem) :
    Cells (State.storeAnswer s p a).mem := by
  unfold State.storeAnswer
  repeat' first
    | with_reducible (first
      | assumption | apply State.mailDone_sound | apply State.sendAnswer_sound | apply State.sendDatagram_sound
      | apply State.noteStatus_sound)
    | split

theorem State.keyStored_sound (s : State) (ok : Bool) (h0 : Cells s.mem) :
    Cells (State.keyStored s ok).mem := by
  unfold State.keyStored
  repeat' (first | with_reducible (first | assumption | apply State.setDict_sound) | split)

theorem State.setNmt_sound (s : State) (n : Nmt) (h0 : Cells s.mem) :
    Cells (State.setNmt s n).mem := h0

theorem State.nmtReset_sound (s : State) (h0 : Cells s.mem) :
    Cells (State.nmtReset s).mem := by
  unfold State.nmtReset
  repeat' (first | with_reducible (first | assumption | apply State.endSession_sound | apply State.canInit_sound) | split)

theorem State.bumundArrives_sound (s : State) (peer : Nat) (port : Nat) (b : Bytes) (zeroSum : Bool) (h0 : Cells s.mem) :
    Cells (State.bumundArrives s peer port b zeroSum).mem := by
  unfold State.bumundArrives
  repeat' (first | with_reducible (first | assumption | apply State.arrive_sound) | split)

theorem State.modFunc_sound (s : State) (f : Nat) (g : FuncSt → FuncSt) (h0 : Cells s.mem) :
    Cells (State.modFunc s f g).mem := h0

theorem State.countRung_sound (s : State) (f : Nat) (rung : Nat) (h0 : Cells s.mem) :
    Cells (State.countRung s f rung).mem := h0

theorem State.noteFault_sound (s : State) (f : Nat) (rung : Nat) (external : Bool) (st : Status) (h0 : Cells s.mem) :
    Cells (State.noteFault s f rung external st).mem := h0

theorem State.joinFault_sound (s : State) (h0 : Cells s.mem) :
    Cells (State.joinFault s).mem := h0

theorem State.breakUsers_sound (s : State) (f : Nat) (st : Status) (h0 : Cells s.mem) :
    Cells (State.breakUsers s f st).mem := by
  unfold State.breakUsers
  repeat' first
    | with_reducible (first
      | assumption | apply State.endOp_sound | apply State.modFunc_sound | apply State.breakWord_sound | apply foldl_sound)
    | (intro _) | split

theorem State.resetBegin_sound (s : State) (f : Nat) (h0 : Cells s.mem) :
    Cells (State.resetBegin s f).mem := by
  unfold State.resetBegin
  repeat' (first | with_reducible (first | assumption | apply State.repairBegin_sound | apply State.reshare_sound) | split)

theorem State.reissue_sound (s : State) (port : Nat) (h0 : Cells s.mem) :
    Cells (State.reissue s port).mem := by
  unfold State.reissue
  repeat' (first | with_reducible (first | assumption | apply State.nvmeIssue_sound | apply foldl_sound) | (intro _))

theorem State.recoverOwed_sound (s : State) (h : HostRead) (h0 : Cells s.mem) :
    Cells (State.recoverOwed s h).mem := by
  unfold State.recoverOwed
  repeat' (first | with_reducible (first | assumption | apply State.recoverAll_sound) | split)

theorem State.resetEnd_sound (s : State) (f : Nat) (h : HostRead) (h0 : Cells s.mem) :
    Cells (State.resetEnd s f h).mem := by
  unfold State.resetEnd
  repeat' first
    | with_reducible (first
      | assumption | apply State.repairEnd_sound | apply State.ethInit_sound | apply State.reissue_sound | apply State.recoverOwed_sound
      | apply State.tdmInit_sound | apply State.nmtReset_sound | apply State.canInit_sound | apply State.mortarTurn_sound)
    | split

theorem State.rung2_sound (s : State) (f : Nat) (st : Status) (external : Bool) (window : Nat) (h0 : Cells s.mem) :
    Cells (State.rung2 s f st external window).mem := by
  unfold State.rung2
  repeat' first
    | with_reducible (first
      | assumption | apply State.raise_sound | apply State.noteFault_sound | apply State.countRung_sound | apply State.modFunc_sound
      | apply State.breakUsers_sound | apply State.resetBegin_sound)

theorem State.cutPower_sound (s : State) (hold : Bool) (h0 : Cells s.mem) :
    Cells (State.cutPower s hold).mem := by
  unfold State.cutPower
  repeat' with_reducible apply State.offCore_sound

theorem State.coolDown_sound (s : State) (h0 : Cells s.mem) :
    Cells (State.coolDown s).mem := by
  unfold State.coolDown
  repeat' with_reducible apply State.offCore_sound

theorem State.warmReset_sound (s : State) (h0 : Cells s.mem) :
    Cells (State.warmReset s).mem := by
  unfold State.warmReset
  repeat' first
    | with_reducible (first
      | assumption | apply State.cutPower_sound | apply State.coolDown_sound | apply State.start_sound)
    | split

theorem State.decided_sound (s : State) (f : Nat) (st : Status) (external : Bool) (four : Bool) (hot : Bool) (h0 : Cells s.mem) :
    Cells (State.decided s f st external four hot).mem := by
  unfold State.decided
  repeat' first
    | with_reducible (first
      | assumption | apply State.outageEnd_sound | apply State.noteFault_sound | apply State.countRung_sound)

theorem State.decideNow_sound (s : State) (d : Deferred) (h0 : Cells s.mem) :
    Cells (State.decideNow s d).mem := by
  unfold State.decideNow
  repeat' with_reducible (first | assumption | apply State.decided_sound)

theorem State.afterLc_sound (s : State) (h0 : Cells s.mem) :
    Cells (State.afterLc s).mem := by
  unfold State.afterLc
  repeat' first
    | with_reducible (first
      | assumption | apply State.warmReset_sound | apply State.decideNow_sound | apply State.deepEntry_sound)
    | split

theorem State.defer_sound (s : State) (d : Deferred) (h0 : Cells s.mem) :
    Cells (State.defer s d).mem := h0

theorem State.deviceRung_sound (s : State) (f : Nat) (st : Status) (external : Bool) (four : Bool) (watchdog : Bool) (hot : Bool) (h0 : Cells s.mem) :
    Cells (State.deviceRung s f st external four watchdog hot).mem := by
  unfold State.deviceRung
  repeat' first
    | with_reducible (first
      | assumption | apply State.defer_sound | apply State.raise_sound | apply State.headLine_sound | apply State.decided_sound
      | apply State.tilesOff_sound | apply State.refuseAll_sound | apply State.wipeHod_sound | apply State.afterLc_sound
      | apply State.lcStart_sound | apply State.warmReset_sound | apply foldl_sound)
    | (intro _) | split

theorem State.climb_sound (s : State) (f : Nat) (st : Status) (external : Bool) (watchdog : Bool) (hot : Bool) (h0 : Cells s.mem) :
    Cells (State.climb s f st external watchdog hot).mem := by
  unfold State.climb
  repeat' with_reducible (first | assumption | apply State.deviceRung_sound)

theorem State.escalate_sound (s : State) (f : Nat) (st : Status) (external : Bool) (window : Nat) (h0 : Cells s.mem) :
    Cells (State.escalate s f st external window).mem := by
  unfold State.escalate
  repeat' (first | with_reducible (first | assumption | apply State.rung2_sound | apply State.climb_sound) | split | dsimp only)

theorem State.uncorrectable_sound (s : State) (dram : Bool) (h0 : Cells s.mem) :
    Cells (State.uncorrectable s dram).mem := h0

theorem State.correctable_sound (s : State) (dram : Bool) (h0 : Cells s.mem) :
    Cells (State.correctable s dram).mem := by
  unfold State.correctable
  repeat' (first | with_reducible (first | assumption | apply State.raise_sound) | split | dsimp only)

theorem State.fault_sound (s : State) (f : Nat) (op : FaultOp) (st : Status) (external : Bool) (h0 : Cells s.mem) :
    Cells (State.fault s f op st external).mem := by
  unfold State.fault
  repeat' first
    | with_reducible (first
      | assumption | apply State.joinFault_sound | apply State.escalate_sound | apply State.modFunc_sound | apply State.countRung_sound)
    | split

theorem State.busBack_sound (s : State) (f : Nat) (op : FaultOp) (h0 : Cells s.mem) :
    Cells (State.busBack s f op).mem := by
  unfold State.busBack
  repeat' (first | with_reducible assumption | split)

theorem State.writeDwd_sound (s : State) (v : BitVec 16) (h0 : Cells s.mem) :
    Cells (State.writeDwd s v).mem := h0

theorem State.kickDwd_sound (s : State) (h0 : Cells s.mem) :
    Cells (State.kickDwd s).mem := h0

theorem State.confirmImage_sound (s : State) (h0 : Cells s.mem) :
    Cells (State.confirmImage s).mem := by
  unfold State.confirmImage
  repeat' (first | with_reducible assumption | split)

theorem State.kickAwd_sound (s : State) (h0 : Cells s.mem) :
    Cells (State.kickAwd s).mem := by
  unfold State.kickAwd
  repeat' (first | with_reducible (first | assumption | apply State.confirmImage_sound) | split)

theorem State.kickEwd_sound (s : State) (e : Nat) (h0 : Cells s.mem) :
    Cells (State.kickEwd s e).mem := h0

theorem State.writeEwd_sound (s : State) (e : Nat) (v : BitVec 16) (h0 : Cells s.mem) :
    Cells (State.writeEwd s e v).mem := h0

theorem State.ladderRead_sound (s : State) (off : Nat) (h0 : Cells s.mem) :
    OptCells2 (State.ladderRead s off) := by
  unfold State.ladderRead
  repeat' (first | with_reducible (first | assumption | apply some2_sound | exact none2_sound) | split)

theorem State.ladderWrite_sound (s : State) (m : Nat) (off : Nat) (v : W32) (be : W32) (h0 : Cells s.mem) :
    OptCells (State.ladderWrite s m off v be) := by
  unfold State.ladderWrite
  repeat' first
    | with_reducible (first
      | assumption | apply State.kickEwd_sound | apply State.writeDwd_sound | apply State.kickDwd_sound | apply State.kickAwd_sound
      | apply State.writeEwd_sound | apply some_sound | exact none_sound)
    | split | dsimp only

theorem State.beginRails_sound (s : State) (cause : Nat) (h0 : Cells s.mem) :
    Cells (State.beginRails s cause).mem := h0

theorem State.startNow_sound (s : State) (cause : Nat) (h0 : Cells s.mem) :
    Cells (State.startNow s cause).mem := by
  unfold State.startNow
  repeat' with_reducible (first | assumption | apply State.serveAll_sound | apply State.start_sound)

theorem State.railsAgain_sound (s : State) (h0 : Cells s.mem) :
    Cells (State.railsAgain s).mem := h0

theorem State.cutNow_sound (s : State) (h0 : Cells s.mem) :
    Cells (State.cutNow s).mem := by
  unfold State.cutNow
  repeat' first
    | with_reducible (first
      | assumption | apply State.defer_sound | apply State.warmReset_sound | apply State.decided_sound)
    | split

theorem State.sleepEntry_sound (s : State) (h0 : Cells s.mem) :
    Cells (State.sleepEntry s).mem := by
  unfold State.sleepEntry
  repeat' first
    | with_reducible (first
      | assumption | apply State.tileCold_sound | apply State.ssd_sound | apply foldl_sound)
    | (intro _) | split

theorem State.enterPark_sound (s : State) (h0 : Cells s.mem) :
    Cells (State.enterPark s).mem := h0

theorem State.leavePark_sound (s : State) (cause : Nat) (h0 : Cells s.mem) :
    Cells (State.leavePark s cause).mem := by
  unfold State.leavePark
  repeat' first
    | with_reducible (first
      | assumption | apply State.tileReturn_sound | apply State.tileUnbank_sound | apply State.raise_sound | apply State.wakeCounts_sound
      | apply State.serveAll_sound | apply foldl_sound)
    | (intro _)

theorem State.wakeUp_sound (s : State) (cause : Nat) (h0 : Cells s.mem) :
    Cells (State.wakeUp s cause).mem := by
  unfold State.wakeUp
  repeat' first
    | with_reducible (first
      | assumption | apply State.leavePark_sound | apply State.beginRails_sound | apply State.railsAgain_sound)
    | split

theorem State.trigger_sound (s : State) (cause : BitVec 3) (h0 : Cells s.mem) :
    Cells (State.trigger s cause).mem := by
  unfold State.trigger
  repeat' first
    | with_reducible (first
      | assumption | apply State.afterLc_sound | apply State.declare_sound | apply State.deepEntry_sound)
    | split

theorem State.bankOut_sound (s : State) (h0 : Cells s.mem) :
    Cells (State.bankOut s).mem := by
  unfold State.bankOut
  repeat' with_reducible (first | assumption | apply State.deepEntry_sound | apply State.publish_sound)

theorem State.rideStep_sound (s : State) (h0 : Cells s.mem) :
    Cells (State.rideStep s).mem := by
  unfold State.rideStep
  repeat' first
    | with_reducible (first
      | assumption | apply State.publish_sound | apply State.raise_sound)
    | split | dsimp only

theorem State.overcharge_sound (s : State) (h0 : Cells s.mem) :
    Cells (State.overcharge s).mem := h0

theorem State.sampled_sound (s : State) (h0 : Cells s.mem) :
    Cells (State.sampled s).mem := by
  unfold State.sampled
  repeat' first
    | with_reducible (first
      | assumption | apply State.afterLc_sound | apply State.bankOut_sound | apply State.deepEntry_sound | apply State.trigger_sound)
    | split | dsimp only

theorem State.trip_sound (s : State) (h0 : Cells s.mem) :
    Cells (State.trip s).mem := by
  unfold State.trip
  repeat' (first | with_reducible (first | assumption | apply State.climb_sound) | split)

theorem State.timeHolds_sound (s : State) (pps : Bool) (h0 : Cells s.mem) :
    Cells (State.timeHolds s pps).mem := by
  unfold State.timeHolds
  repeat' first
    | with_reducible (first
      | assumption | apply State.raise_sound | apply State.publish_sound)
    | split | dsimp only

theorem State.timeLost_sound (s : State) (pps : Bool) (h0 : Cells s.mem) :
    Cells (State.timeLost s pps).mem := by
  unfold State.timeLost
  repeat' first
    | with_reducible (first
      | assumption | apply State.raise_sound | apply State.publish_sound)
    | split | dsimp only

theorem State.measured_sound (s : State) (pps : Bool) (off : Int) (h0 : Cells s.mem) :
    Cells (State.measured s pps off).mem := by
  unfold State.measured
  repeat' (first | with_reducible assumption | split)

theorem State.showOffset_sound (s : State) (pps : Bool) (off : Int) (h0 : Cells s.mem) :
    Cells (State.showOffset s pps off).mem := by
  unfold State.showOffset
  repeat' (first | with_reducible assumption | split)

theorem State.ptpSync_sound (s : State) (off : Int) (h0 : Cells s.mem) :
    Cells (State.ptpSync s off).mem := by
  unfold State.ptpSync
  repeat' first
    | with_reducible (first
      | assumption | apply State.measured_sound | apply State.timeHolds_sound | apply State.timeLost_sound | apply State.showOffset_sound)
    | split

theorem State.ppsAccepted_sound (s : State) (off : Int) (h0 : Cells s.mem) :
    Cells (State.ppsAccepted s off).mem := by
  unfold State.ppsAccepted
  repeat' first
    | with_reducible (first
      | assumption | apply State.measured_sound | apply State.showOffset_sound | apply State.timeHolds_sound)
    | split

theorem State.ppsEdge_sound (s : State) (h0 : Cells s.mem) :
    Cells (State.ppsEdge s).mem := by
  unfold State.ppsEdge
  repeat' first
    | with_reducible (first
      | assumption | apply State.raise_sound | apply State.ppsAccepted_sound)
    | split | dsimp only

theorem State.ppsTaken_sound (s : State) (h0 : Cells s.mem) :
    Cells (State.ppsTaken s).mem := by
  unfold State.ppsTaken
  repeat' (first | with_reducible (first | assumption | apply State.ppsAccepted_sound | apply State.ppsEdge_sound) | split)

theorem State.tick_sound (s : State) (h0 : Cells s.mem) :
    Cells (State.tick s).mem := by
  unfold State.tick
  repeat' (first | with_reducible (first | assumption | apply State.drawn_sound) | split)

theorem State.hostMail_sound (s : State) (h0 : Cells s.mem) :
    Cells (State.hostMail s).mem := by
  unfold State.hostMail
  repeat' (first | with_reducible (first | assumption | apply State.lcRestart_sound | apply State.serveMail_sound) | split)

theorem State.idle_sound (s : State) (h0 : Cells s.mem) :
    Cells (State.idle s).mem := by
  unfold State.idle
  repeat' with_reducible (first | assumption | apply State.tick_sound | apply State.hostMail_sound)

theorem State.rawOver_sound (s : State) (r : RawOp) (st : Status) (moved : Bytes) (done : Nat) (long : Bool) (h0 : Cells s.mem) :
    Cells (State.rawOver s r st moved done long).mem := by
  unfold State.rawOver
  repeat' first
    | with_reducible (first
      | assumption | apply State.scatter_sound | apply State.finishWord_sound | apply State.rawEntryEnds_sound)
    | split | dsimp only

theorem State.retryOver_sound (s : State) (f : Nat) (o : RawOwner) (h0 : Cells s.mem) :
    Cells (State.retryOver s f o).mem := h0

theorem State.rawStart_sound (s : State) (r : RawOp) (h0 : Cells s.mem) :
    Cells (State.rawStart s r).mem := by
  unfold State.rawStart
  repeat' (first | with_reducible (first | assumption | apply State.nvmeIssue_sound) | split)

theorem State.rawWord_sound (s : State) (c : CtxId) (w : BitVec 256) (h : HostRead) (h0 : Cells s.mem) :
    Cells (State.rawWord s c w h).mem := by
  unfold State.rawWord
  repeat' first
    | with_reducible (first
      | assumption | apply State.finishWord_sound | apply State.spanOn_sound | apply State.rawStart_sound | apply State.modCourse_sound)
    | split | dsimp only

theorem State.kxStart_sound (s : State) (q : QueueId) (op : Nat) (h : HostRead) (h0 : Cells s.mem) :
    Cells (State.kxStart s q op h).mem := by
  unfold State.kxStart
  repeat' first
    | with_reducible (first
      | assumption | apply State.entryDone_sound | apply State.rawStart_sound | apply State.modPair_sound)
    | split | dsimp only

theorem State.blockArrives_sound (s : State) (ks : List (BitVec 320)) (b : Bytes) (ringFull : Bool) (out : Option Nat) (h0 : Cells s.mem) :
    Cells (State.blockArrives s ks b ringFull out).mem := by
  unfold State.blockArrives
  repeat' first
    | with_reducible (first
      | assumption | apply State.unitArrives_sound | apply State.eventOutput_sound | apply foldl_sound)
    | (intro _) | split

theorem State.rawCollect_sound (s : State) (r : RawOp) (b : Bytes) (h0 : Cells s.mem) :
    Cells (State.rawCollect s r b).mem := by
  unfold State.rawCollect
  repeat' (first | with_reducible (first | assumption | apply State.rawOver_sound) | split | dsimp only)

theorem State.toTile0_sound (s : State) (p : Nat) (b : Bytes) (h0 : Cells s.mem) :
    Cells (State.toTile0 s p b).mem := h0

theorem State.frameLeft_sound (s : State) (p : Nat) (bare : Bytes) (size : Nat) (h0 : Cells s.mem) :
    Cells (State.frameLeft s p bare size).mem := by
  unfold State.frameLeft
  repeat' (first | with_reducible (first | assumption | apply State.rawOver_sound | apply State.discard_sound) | split)

theorem State.rtcpTaken_sound (s : State) (p : Nat) (l : Nat) (bare : Bytes) (h0 : Cells s.mem) :
    Cells (State.rtcpTaken s p l bare).mem := h0

theorem State.udpArrives_sound (s : State) (p : Nat) (e : Ether) (k : BitVec 320) (peer : Nat) (src : Nat) (dst : Nat) (b : Bytes) (zero : Bool) (ringFull : Bool) (size : Nat) (h0 : Cells s.mem) :
    Cells (State.udpArrives s p e k peer src dst b zero ringFull size).mem := by
  unfold State.udpArrives
  repeat' first
    | with_reducible (first
      | assumption | apply State.unitArrives_sound | apply State.bumundArrives_sound | apply State.toTile0_sound
      | apply State.rtcpTaken_sound | apply State.frameLeft_sound)
    | split

theorem State.endRaws_sound (s : State) (f : Nat) (st : Status) (h0 : Cells s.mem) :
    Cells (State.endRaws s f st).mem := by
  unfold State.endRaws
  repeat' (first | with_reducible (first | assumption | apply State.endOp_sound | apply foldl_sound) | (intro _))

theorem State.nvmeFails_sound (s : State) (port : Nat) (u : NvmeUse) (st : Status) (h0 : Cells s.mem) :
    Cells (State.nvmeFails s port u st).mem := by
  unfold State.nvmeFails
  repeat' (first | with_reducible (first | assumption | apply State.fault_sound) | split)

theorem State.flushed_sound (s : State) (m : Nat) (h0 : Cells s.mem) :
    Cells (State.flushed s m).mem := by
  unfold State.flushed
  repeat' first
    | with_reducible (first
      | assumption | apply State.afterLc_sound | apply State.lcDone_sound | apply State.publish_sound)
    | split | dsimp only

theorem State.setDetail_sound (s : State) (o : RawOwner) (d : W64) (h0 : Cells s.mem) :
    Cells (State.setDetail s o d).mem := h0

theorem State.nvmeDone_sound (s : State) (port : Nat) (u : NvmeUse) (result : W64) (data : Bytes) (h0 : Cells s.mem) :
    Cells (State.nvmeDone s port u result data).mem := by
  unfold State.nvmeDone
  repeat' first
    | with_reducible (first
      | assumption | apply State.flushed_sound | apply State.appendDone_sound | apply State.retryOver_sound | apply State.setDetail_sound
      | apply State.rawOver_sound)
    | split | dsimp only

theorem State.endAppends_sound (s : State) (port : Nat) (st : Status) (h0 : Cells s.mem) :
    Cells (State.endAppends s port st).mem := by
  unfold State.endAppends
  repeat' (first | with_reducible (first | assumption | apply State.breakWord_sound | apply foldl_sound) | (intro _))

theorem State.endIngests_sound (s : State) (f : Nat) (st : Status) (h0 : Cells s.mem) :
    Cells (State.endIngests s f st).mem := by
  unfold State.endIngests
  repeat' (first | with_reducible (first | assumption | apply State.ingestEnd_sound | apply foldl_sound) | (intro _))

theorem State.cutBlock_sound (s : State) (n : Nat) (k : BitVec 320) (h0 : Cells s.mem) :
    Cells (State.cutBlock s n k).mem := by
  unfold State.cutBlock
  repeat' first
    | with_reducible (first
      | assumption | apply State.modLane_sound | apply State.addRefused_sound | apply State.discard_sound)
    | split

theorem State.runRead_sound (s : State) (off : Nat) (h0 : Cells s.mem) :
    OptCells2 (State.runRead s off) := by
  unfold State.runRead
  repeat' (first | with_reducible (first | assumption | apply some2_sound | exact none2_sound) | split)

theorem State.recordRead_sound (s : State) (off : Nat) (h0 : Cells s.mem) : OptCells2 (s.recordRead off) := by
  refine ⟨fun t e => ?_⟩
  unfold State.recordRead at e
  cases hr : Config.recordAt off with
  | none => rw [hr] at e; cases e
  | some p => rw [hr] at e; cases e; exact h0

theorem State.regRead_sound (s : State) (a : Nat) (h0 : Cells s.mem) :
    OptCells2 (State.regRead s a) := by
  unfold State.regRead
  repeat' first
    | with_reducible (first
      | assumption | apply State.vuRead_sound | apply State.routerRead_sound | apply State.mailRead_sound | apply State.ringRead_sound
      | apply State.hodRead_sound | apply State.mortarRead_sound | apply State.recordRead_sound | apply State.slotRead_sound
      | apply State.runRead_sound | apply State.ladderRead_sound | exact none2_sound)
    | split | dsimp only

theorem State.busRead_sound (s : State) (m : Nat) (as : List Nat) (h0 : Cells s.mem) : Cells (s.busRead m as).2.mem := by
  have hf : ∀ (ws : List Nat) (x : List (Nat × W32) × State × Bool), Cells x.2.1.mem →
      Cells (ws.foldl (fun (x : List (Nat × W32) × State × Bool) w =>
        match x.2.1.regRead w with
        | some v => ((w, v.1) :: x.1, v.2, x.2.2)
        | none => (x.1, x.2.1, true)) x).2.1.mem := by
    intro ws
    induction ws with
    | nil => exact fun _ h => h
    | cons w r ih =>
      intro x h
      refine ih _ ?_
      have hr := State.regRead_sound x.2.1 w h
      dsimp only
      split
      · next v hv => exact hr.cells v hv
      · exact h
  exact ite_sound (fun _ => State.addrFault_sound _ _ (hf _ _ h0)) fun _ => hf _ _ h0

theorem State.engPortRead_sound (s : State) (e : Nat) (off : Nat) (h0 : Cells s.mem) :
    OptCells2 (State.engPortRead s e off) := by
  unfold State.engPortRead
  repeat' (first | with_reducible (first | assumption | apply some2_sound | exact none2_sound) | split)

theorem State.ioRead_sound (s : State) (e : Nat) (off : Nat) (h0 : Cells s.mem) :
    OptCells2 (State.ioRead s e off) := by
  unfold State.ioRead
  repeat' first
    | with_reducible (first
      | assumption | apply State.engPortRead_sound | apply State.sliceRead_sound | apply State.routerPortRead_sound
      | apply State.mailPortRead_sound | apply State.mortarPortRead_sound | exact none2_sound)
    | split

theorem State.dataRead_sound (s : State) (e : Nat) (a : W24) (h0 : Cells s.mem) :
    Cells (State.dataRead s e a).2.mem := by
  unfold State.dataRead
  repeat' first
    | with_reducible (first
      | assumption | apply State.addrFault_sound | apply State.ioRead_sound)
    | split | dsimp only | (with_reducible refine use2_sound (by with_reducible assumption) ?_)

theorem State.readBlock_sound (s : State) (e : Nat) (r : LoadReq) (h0 : Cells s.mem) :
    Cells (State.readBlock s e r).2.mem := by
  unfold State.readBlock
  repeat' (first | with_reducible (first | assumption | apply State.dataRead_sound | apply State.busRead_sound) | split)

theorem State.keepRead_sound (s : State) (e : Nat) (r : LoadReq) (h0 : Cells s.mem) :
    Cells (State.keepRead s e r).mem := by
  unfold State.keepRead
  repeat' (first | with_reducible (first | assumption | apply State.readBlock_sound | apply State.modEng_sound) | split)

theorem State.abandon_sound (s : State) (e : Nat) (h0 : Cells s.mem) :
    Cells (State.abandon s e).mem := by
  unfold State.abandon
  repeat' (first | with_reducible (first | assumption | apply State.keepRead_sound | apply State.modEng_sound) | split)

theorem State.enterLevel_sound (s : State) (e : Nat) (h0 : Cells s.mem) :
    Cells (State.enterLevel s e).mem := by
  unfold State.enterLevel
  repeat' (first | with_reducible (first | assumption | apply State.modEng_sound | apply State.abandon_sound) | split)

theorem State.haltEngine_sound (s : State) (e : Nat) (h0 : Cells s.mem) :
    Cells (State.haltEngine s e).mem := by
  unfold State.haltEngine
  repeat' first
    | with_reducible (first
      | assumption | apply State.modEng_sound | apply State.abandon_sound | apply State.enterLevel_sound)

theorem State.writeEngine_sound (s : State) (e : Nat) (v : W32) (be : W32) (h0 : Cells s.mem) :
    Cells (State.writeEngine s e v be).mem := by
  unfold State.writeEngine
  repeat' first
    | with_reducible (first
      | assumption | apply State.modEng_sound | apply State.haltEngine_sound | apply State.releaseEngine_sound)
    | split | dsimp only

theorem State.runWrite_sound (s : State) (m : Nat) (off : Nat) (v : W32) (be : W32) (h0 : Cells s.mem) :
    OptCells (State.runWrite s m off v be) := by
  unfold State.runWrite
  repeat' first
    | with_reducible (first
      | assumption | apply State.writeTilePwr_sound | apply State.writeEngine_sound | apply some_sound | exact none_sound)
    | split

theorem State.runSet_sound (s : State) (m : Nat) (off : Nat) (v : Nat) (h0 : Cells s.mem) :
    Cells (State.runSet s m off v).mem := by
  unfold State.runSet
  repeat' first
    | with_reducible (first
      | assumption | apply State.addrFault_sound | apply State.runWrite_sound | apply getD_sound)

theorem State.regWrite_sound (s : State) (m : Nat) (a : Nat) (v : W32) (be : W32) (h0 : Cells s.mem) :
    OptCells (State.regWrite s m a v be) := by
  unfold State.regWrite
  repeat' first
    | with_reducible (first
      | assumption | apply State.vuWrite_sound | apply State.routerWrite_sound | apply State.mailWrite_sound | apply State.ringWrite_sound
      | apply State.hodWriteReg_sound | apply State.mortarWrite_sound | apply State.slotWrite_sound | apply State.runWrite_sound
      | apply State.ladderWrite_sound | exact none_sound)
    | split | dsimp only

theorem State.putByte_sound (s : State) (a : Nat) (v : Byte) (h0 : Cells s.mem) :
    Cells (State.putByte s a v).mem := by
  unfold State.putByte
  repeat' first
    | with_reducible (first
      | assumption | apply State.image_sound | apply State.setCtxByte_sound | apply State.setByte_sound)
    | split

theorem State.memWrite_sound (s : State) (m : Nat) (ps : List (Nat × Byte)) (h0 : Cells s.mem) :
    Cells (State.memWrite s m ps).1.mem := by
  unfold State.memWrite
  repeat' (first | with_reducible (first | assumption | apply State.putByte_sound | apply foldl1_sound) | (intro _) | split)

theorem State.ctlWrite_sound (s : State) (m : Nat) (ps : List (Nat × Byte)) (h0 : Cells s.mem) :
    Cells (State.ctlWrite s m ps).1.mem := by
  unfold State.ctlWrite
  repeat' first
    | with_reducible (first
      | assumption | apply State.regWrite_sound | apply foldl1_sound)
    | (intro _) | split | dsimp only | (with_reducible refine use_sound (by with_reducible assumption) ?_)

theorem State.busWrite_sound (s : State) (m : Nat) (ps : List (Nat × Byte)) (h0 : Cells s.mem) :
    Cells (State.busWrite s m ps).mem := by
  unfold State.busWrite
  repeat' first
    | with_reducible (first
      | assumption | apply State.memWrite_sound | apply State.ctlWrite_sound | apply State.addrFault_sound)
    | split | dsimp only

theorem State.drainAll_sound (s : State) (e : Nat) (h0 : Cells s.mem) :
    Cells (State.drainAll s e).mem := by
  unfold State.drainAll
  repeat' first
    | with_reducible (first
      | assumption | apply State.busWrite_sound | apply State.modEng_sound | apply foldl_sound)
    | (intro _)

theorem State.settleRead_sound (s : State) (e : Nat) (h0 : Cells s.mem) :
    Cells (State.settleRead s e).mem := by
  unfold State.settleRead
  repeat' (first | with_reducible (first | assumption | apply State.drainAll_sound) | split)

theorem State.markIfHeld_sound (s : State) (e : Nat) (h0 : Cells s.mem) :
    Cells (State.markIfHeld s e).mem := by
  unfold State.markIfHeld
  repeat' (first | with_reducible (first | assumption | apply State.mark_sound) | split)

theorem State.engPortWrite_sound (s : State) (e : Nat) (off : Nat) (v : W24) (h0 : Cells s.mem) :
    OptCells (State.engPortWrite s e off v) := by
  unfold State.engPortWrite
  repeat' first
    | with_reducible (first
      | assumption | apply State.markIfHeld_sound | apply State.modEng_sound | apply some_sound | exact none_sound)
    | split

theorem State.ioWrite_sound (s : State) (e : Nat) (off : Nat) (v : W24) (h0 : Cells s.mem) :
    OptCells (State.ioWrite s e off v) := by
  unfold State.ioWrite
  repeat' first
    | with_reducible (first
      | assumption | apply State.drainAll_sound | apply State.engPortWrite_sound | apply State.sliceWrite_sound
      | apply State.routerPortWrite_sound | apply State.mailPortWrite_sound | apply State.mortarPortWrite_sound | exact none_sound)
    | split

theorem State.dataWrite_sound (s : State) (e : Nat) (a : W24) (v : W24) (h0 : Cells s.mem) :
    Cells (State.dataWrite s e a v).mem := by
  unfold State.dataWrite
  repeat' first
    | with_reducible (first
      | assumption | apply State.modEng_sound | apply State.setBytes_sound | apply State.addrFault_sound | apply State.ioWrite_sound
      | apply getD_sound)
    | split | dsimp only

theorem State.barWrite_sound (s : State) (off : Nat) (v : W32) (h0 : Cells s.mem) :
    OptCells (State.barWrite s off v) := by
  unfold State.barWrite
  repeat' first
    | with_reducible (first
      | assumption | apply State.raiseWrite_sound | apply State.ringWrite_sound | apply State.mailWrite_sound | apply some_sound
      | exact none_sound)
    | split

theorem State.beforeHalt_sound (s : State) (a : Nat) (v : W32) (h0 : Cells s.mem) :
    Cells (State.beforeHalt s a v).mem := by
  unfold State.beforeHalt
  repeat' (first | with_reducible (first | assumption | apply State.settleRead_sound) | split)

theorem State.write64_sound (s : State) (m : Nat) (a : DevAddr) (lo : W32) (hi : W32) (h0 : Cells s.mem) :
    Cells (State.write64 s m a lo hi).mem := by
  unfold State.write64
  repeat' (first | with_reducible (first | assumption | apply State.busWrite_sound | apply State.beforeHalt_sound) | split)

theorem State.begins_sound (s : State) (e : Nat) (h0 : Cells s.mem) :
    Cells (State.begins s e).mem := h0

theorem State.engineFault_sound (s : State) (e : Nat) (k : Nat) (h0 : Cells s.mem) :
    Cells (State.engineFault s e k).mem := by
  unfold State.engineFault
  repeat' first
    | with_reducible (first
      | assumption | apply State.modEng_sound | apply State.fault_sound | apply State.raise_sound)

theorem State.loadWord_sound (s : State) (e : Nat) (rd : Reg) (a : W24) (step : Option (Reg × W24)) (h0 : Cells s.mem) :
    Cells (State.loadWord s e rd a step).mem := by
  unfold State.loadWord
  repeat' with_reducible (first | assumption | apply State.dataRead_sound | apply State.modEng_sound)

theorem State.storeWord_sound (s : State) (e : Nat) (a : W24) (v : W24) (step : Option (Reg × W24)) (h0 : Cells s.mem) :
    Cells (State.storeWord s e a v step).mem := by
  unfold State.storeWord
  repeat' with_reducible (first | assumption | apply State.modEng_sound | apply State.dataWrite_sound)

theorem State.opBody_sound (s : State) (e : Nat) (op : EOp) (h0 : Cells s.mem) :
    Cells (State.opBody s e op).mem := by
  unfold State.opBody
  repeat' first
    | with_reducible (first
      | assumption | apply State.setEng_sound | apply State.markIfHeld_sound | apply State.loadWord_sound | apply State.storeWord_sound
      | apply State.publishValue_sound | apply State.publishCore_sound)
    | split

theorem State.issueLoad_sound (s : State) (e : Nat) (o : LdOp) (rd : Reg) (b : BankReg) (ra : Reg) (v : BitVec 18) (h0 : Cells s.mem) :
    Cells (State.issueLoad s e o rd b ra v).mem := h0

theorem State.returnFrom_sound (s : State) (e : Nat) (h0 : Cells s.mem) :
    Cells (State.returnFrom s e).mem := by
  unfold State.returnFrom
  repeat' first
    | with_reducible (first
      | assumption | apply State.engineFault_sound | apply State.markIfHeld_sound | apply State.setEng_sound)
    | split | dsimp only

theorem State.runOp_sound (s : State) (e : Nat) (op : EOp) (h0 : Cells s.mem) : Cells (s.runOp e op).mem := by
  have hs := fun x => State.setEng_sound s e x h0
  have hb := State.modEng_sound _ e (fun x => x.past (opLen op)) (State.opBody_sound s e op h0)
  have hl : Cells (match (s.eng e).stalledLoad op with
      | some r => s.setEng e { s.eng e with run := .stallLoad r }
      | none => (s.opBody e op).modEng e (·.past (opLen op))).mem := by
    split
    · exact hs _
    · exact hb
  cases op <;> first
    | exact hs _
    | exact h0
    | exact hl
    | exact State.markIfHeld_sound _ _ (hs _)
    | exact State.returnFrom_sound _ _ h0
    | exact State.issueLoad_sound _ _ _ _ _ _ _ h0

theorem State.eccRead_sound (s : State) (e : Nat) (a : W24) (ecc : Fin 3) (good : State → State) (h0 : Cells s.mem)
    (hg : ∀ t, Cells t.mem → Cells (good t).mem) : Cells (s.eccRead e a ecc good).mem := by
  unfold State.eccRead
  exact ite_sound (fun _ => hg _ h0) fun _ => ite_sound (fun _ => hg _ (State.correctable_sound _ _ h0)) fun _ =>
    ite_sound (fun _ => State.engineFault_sound _ _ _ (State.uncorrectable_sound _ _ h0))
      fun _ => State.fault_sound _ _ _ _ _ (State.uncorrectable_sound _ _ h0)

theorem State.loadMem_sound (s : State) (e : Nat) (a : DevAddr) (n : Nat) (h0 : Cells s.mem) :
    Cells (State.loadMem s e a n).2.mem := by
  unfold State.loadMem
  repeat' with_reducible (first | assumption | apply State.busRead_sound)

/-- The state that an abandoned or ended sequence of micro-words leaves. -/
def MicroEnd.state : MicroEnd → State
  | .stop _ s => s
  | .again s => s
  | .commit _ _ s => s
/-- What a load of a sequence leaves. -/
def microState : (W24 × State) ⊕ MicroEnd → State
  | .inl r => r.2
  | .inr m => m.state
theorem iteM_sound {c : Prop} [Decidable c] {a b : (W24 × State) ⊕ MicroEnd} (ha : Cells (microState a).mem) (hb : Cells (microState b).mem) :
    Cells (microState (if c then a else b)).mem := by
  by_cases h : c
  · rw [if_pos h]; exact ha
  · rw [if_neg h]; exact hb
theorem State.microLoad_sound (s : State) (e f : Nat) (a : W24) (bank : BitVec 11) (bad : Bool) (h0 : Cells s.mem) :
    Cells (microState (s.microLoad e f a bank bad)).mem := by
  have hu := fun b => State.uncorrectable_sound s b h0
  unfold State.microLoad
  refine iteM_sound (iteM_sound h0 (iteM_sound (hu _) (iteM_sound (State.fault_sound _ _ _ _ _ (hu _)) (State.dataRead_sound _ _ _ h0)))) ?_
  refine iteM_sound h0 ?_
  split
  · exact State.fault_sound _ _ _ _ _ (hu _)
  · exact State.fault_sound _ _ _ _ _ (hu _)
  · exact State.fault_sound _ _ _ _ _ (hu _)
  · exact hu _
  · exact State.loadMem_sound _ _ _ _ h0
theorem State.microRun_sound (s : State) (e : Nat) (c : CustArgs) (cut micro data : Option Nat) (l : List (Nat × BitVec 72)) (n : Nat) (t : Tab W24)
    (h0 : Cells s.mem) : Cells (s.microRun e c cut micro data l n t).state.mem := by
  induction l generalizing s n t with
  | nil => exact h0
  | cons p r ih =>
    obtain ⟨i, w⟩ := p
    unfold State.microRun
    have step : ∀ {c : Prop} [Decidable c] {a b : MicroEnd}, Cells a.state.mem → Cells b.state.mem → Cells (if c then a else b).state.mem := by
      intro c _ a b ha hb
      by_cases h : c
      · rw [if_pos h]; exact ha
      · rw [if_neg h]; exact hb
    refine step (ih _ _ _ h0) (step h0 (step (State.uncorrectable_sound _ _ h0) (step h0 (step (ih _ _ _ h0) (step (ih _ _ _ h0) (step ?_ (ih _ _ _ ?_)))))))
    · have hl := State.microLoad_sound s e (mFunc w) (mOperand (s.eng e) c w t (mSrcA w) + mOperand (s.eng e) c w t (mSrcB w)) ((s.eng e).bank c.x)
        (data.any fun k => decide (k ≤ i)) h0
      split
      · next hr => rw [hr] at hl; exact ih _ _ _ hl
      · next hr => rw [hr] at hl; exact hl
    · exact ite_sound (fun _ => State.drawn_sound _ h0) fun _ => h0

theorem State.commit_sound (s : State) (e : Nat) (c : CustArgs) (t : Tab W24) (w : BitVec 72) (h0 : Cells s.mem) :
    Cells (State.commit s e c t w).mem := by
  unfold State.commit
  repeat' (first | with_reducible (first | assumption | apply State.modEng_sound | apply State.dataWrite_sound) | split)

theorem State.custFault_sound (s : State) (e : Nat) (k : Nat) (h0 : Cells s.mem) :
    Cells (State.custFault s e k).mem := by
  unfold State.custFault
  repeat' (first | with_reducible (first | assumption | apply State.engineFault_sound) | split)

theorem State.custom_sound (s : State) (e : Nat) (n : Reg) (c : CustArgs) (cut micro data : Option Nat) (h0 : Cells s.mem) :
    Cells (s.custom e n c cut micro data).1.mem := by
  unfold State.custom
  split
  · exact State.custFault_sound _ _ _ h0
  · have hr := State.microRun_sound s e c cut micro data ((s.tile (tileOf e)).sequence ((s.tile (tileOf e)).entries.look {} n)) 0 [] h0
    dsimp only
    split
    · next h => rw [h] at hr; exact State.custFault_sound _ _ _ hr
    · next h => rw [h] at hr; exact hr
    · next h => rw [h] at hr; exact State.commit_sound _ _ _ _ _ hr

theorem State.rptLoop_sound (s : State) (e : Nat) (op : EOp) (bad : Option Nat) (n i : Nat) (h0 : Cells s.mem) :
    Cells (s.rptLoop e op bad n i).mem := by
  induction n generalizing s i with
  | zero => exact State.modEng_sound _ _ _ h0
  | succ n ih =>
    unfold State.rptLoop
    exact ite_sound (fun _ => State.engineFault_sound _ _ _ h0) fun _ =>
      ite_sound (fun _ => State.engineFault_sound _ _ _ (State.uncorrectable_sound _ _ h0)) fun _ => ih _ _ (State.opBody_sound _ _ _ h0)

theorem State.publishTimes_sound (s : State) (e : Nat) (n : Nat) (a : EOp) (h0 : Cells s.mem) :
    OptCells (State.publishTimes s e n a) := by
  unfold State.publishTimes
  repeat' first
    | with_reducible (first
      | assumption | apply State.publishRun_sound | apply State.addrFault_sound | apply iterate_sound | apply some_sound
      | exact none_sound)
    | (intro _) | split

theorem State.repetition_sound (s : State) (e : Nat) (bad : Bool) (micro : Option Nat) (op : EOp) (h0 : Cells s.mem) :
    Cells (s.repetition e bad micro op).1.mem := by
  unfold State.repetition
  split
  · exact State.issueLoad_sound _ _ _ _ _ _ _ h0
  · exact State.setEng_sound _ _ _ h0
  · exact State.custom_sound _ _ _ _ _ _ _ h0
  · dsimp only
    split
    · exact State.setEng_sound _ _ _ h0
    · exact ite1_sound (fun _ => State.eccRead_sound _ _ _ _ _ h0 fun _ h => h) fun _ => State.opBody_sound _ _ _ h0

theorem State.rptiLoop_sound (s : State) (e : Nat) (op : EOp) (bad : Option Nat) (micro : Option (Nat × Nat)) (n i left : Nat)
    (h0 : Cells s.mem) : Cells (s.rptiLoop e op bad micro n i left).mem := by
  induction n generalizing s i left with
  | zero =>
    unfold State.rptiLoop
    exact ite_sound (fun _ => State.modEng_sound _ _ _ h0) fun _ => State.modEng_sound _ _ _ h0
  | succ n ih =>
    unfold State.rptiLoop
    have hr := State.repetition_sound s e (bad == some i) ((micro.filter fun m => m.1 == i).map (·.2)) op h0
    exact ite_sound (fun _ => ih _ _ _ hr) fun _ => ite_sound (fun _ => hr) fun _ => State.modEng_sound _ _ _ hr

theorem State.endWait_sound (s : State) (e : Nat) (timed : Bool) (h0 : Cells s.mem) :
    Cells (State.endWait s e timed).mem := by
  unfold State.endWait
  repeat' (first | with_reducible (first | assumption | apply State.setEng_sound) | split | dsimp only)

theorem State.loaded_sound (s : State) (e : Nat) (r : LoadReq) (v : W24) (h0 : Cells s.mem) :
    Cells (State.loaded s e r v).mem := h0

theorem State.spaceReturn_sound (s : State) (e : Nat) (r : LoadReq) (a : W24) (ecc : Fin 3) (h0 : Cells s.mem) :
    Cells (State.spaceReturn s e r a ecc).mem := by
  unfold State.spaceReturn
  repeat' first
    | with_reducible (first
      | assumption | apply State.eccRead_sound | apply State.dataRead_sound | apply State.loaded_sound)
    | (intro _)

theorem State.loadReturn_sound (s : State) (e : Nat) (r : LoadReq) (ecc : Fin 3) (h0 : Cells s.mem) :
    Cells (State.loadReturn s e r ecc).mem := by
  unfold State.loadReturn
  repeat' first
    | with_reducible (first
      | assumption | apply State.loaded_sound | apply State.modEng_sound | apply State.spaceReturn_sound | apply State.loadMem_sound
      | apply State.readBlock_sound | apply State.drainAll_sound | apply State.correctable_sound | apply State.engineFault_sound
      | apply State.uncorrectable_sound | apply State.fault_sound)
    | split

theorem State.drainOne_sound (s : State) (e : Nat) (h0 : Cells s.mem) :
    Cells (State.drainOne s e).mem := by
  unfold State.drainOne
  repeat' (first | with_reducible (first | assumption | apply State.busWrite_sound | apply State.modEng_sound) | split)

theorem State.bankWaits_sound (s : State) (t : Nat) (h0 : Cells s.mem) :
    Cells (State.bankWaits s t).mem := by
  unfold State.bankWaits
  repeat' (first | with_reducible (first | assumption | apply State.applyTilePwr_sound) | split)

theorem State.tile0Settled_sound (s : State) (h0 : Cells s.mem) :
    Cells (State.tile0Settled s).mem := by
  unfold State.tile0Settled
  repeat' first
    | with_reducible (first
      | assumption | apply State.modEng_sound | apply State.drainAll_sound | apply foldl_sound)
    | (intro _)

theorem State.withFetchWord_sound (s : State) (nbits : Nat) (w : Nat) (h0 : Cells s.mem) :
    Cells (State.withFetchWord s nbits w).mem := h0

theorem State.withFirst_sound (s : State) (q : Nat) (e : TakenEntry) (rest : List TakenEntry) (h0 : Cells s.mem) :
    Cells (State.withFirst s q e rest).mem := h0

theorem State.fresh_sound (s : State) (h0 : Cells s.mem) :
    Cells (State.fresh s).mem := h0

/-! ### Answers: what holds of the next state where there is one -/

/-- Sound memory in the state that an answer goes on with. -/
structure OutCells (o : Out) : Prop where
  cells : ∀ t, o = .next t → Cells t.mem
theorem next_sound {s : State} (h : Cells s.mem) : OutCells (.next s) := ⟨fun t e => by cases e; exact h⟩
theorem iteN_sound {c : Prop} [Decidable c] {a b : Out} (ha : c → OutCells a) (hb : ¬c → OutCells b) : OutCells (if c then a else b) := by
  by_cases h : c
  · rw [if_pos h]; exact ha h
  · rw [if_neg h]; exact hb h
/-- A course word's command. -/
theorem State.onWord_sound (s : State) (c op : Nat) (f : BitVec 256 → State) (h0 : Cells s.mem) (hf : ∀ w, Cells (f w).mem) :
    OutCells (s.onWord c op f) := by
  unfold State.onWord
  split
  · exact next_sound (hf _)
  · exact next_sound (State.finishWord_sound _ _ _ (ite_sound (fun _ => State.ingestOff_sound _ _ h0) fun _ => h0))
  · exact next_sound h0
/-- A ring entry's command. -/
theorem State.onEntry_sound (s : State) (q op : Nat) (f : TakenEntry → State) (h0 : Cells s.mem) (hf : ∀ e, Cells (f e).mem) :
    OutCells (s.onEntry q op f) := by
  unfold State.onEntry
  split
  · exact next_sound (hf _)
  · exact next_sound h0
/-- An engine instruction. -/
theorem State.issue_sound (s : State) (e : Nat) (op : EOp) (h0 : Cells s.mem) : OutCells (s.issue e op) :=
  next_sound (ite_sound (fun _ => State.runOp_sound _ _ _ (State.begins_sound _ _ h0)) fun _ => h0)
/-- An engine instruction that reads the data space. -/
theorem State.issueRead_sound (s : State) (e : Nat) (ecc : Fin 3) (op : EOp) (h0 : Cells s.mem) : OutCells (s.issueRead e ecc op) :=
  next_sound (ite_sound (fun _ => ite_sound (fun _ => State.runOp_sound _ _ _ (State.begins_sound _ _ h0)) fun _ =>
    State.eccRead_sound _ _ _ _ _ (State.begins_sound _ _ h0) fun t h => State.runOp_sound t _ _ h) fun _ => h0)

end Sys2Proof.Machine
end

