-- ==== Sys2Proof/Tests/Slice0.lean ====
section
/-! SUPPORT. Tests: terms that the well-formedness checks refuse, parcels written out from the encoding tables, single steps
taken from the spec's own examples, and for every obligation with premises the states and operands that meet them. -/
namespace Sys2Proof.Tests
open Sys2Proof Sys2Proof.Machine
set_option Elab.async false

/-- A device in RUN whose dictionary answers. -/
def onS : State :=
  { power := { phase := .run, refclkOk := true, pllLock := true }, dict := { ready := true, nmt := .operational }, tnow := 0x800000123456#48 }
/-- That device with engine e RUNNING and otherwise as given. -/
def engS (e : Nat) (x : Engine) : State := onS.setEng e { x with run := .running }
/-- A course word with NEXT: opcode, COUNT, ADDRESS, SELECT with the context above it, PARAM. -/
def cw (op count addr sel param : Nat) : BitVec 256 :=
  BitVec.ofNat 256 (op + 0x100 + count * 2 ^ 32 + addr * 2 ^ 64 + sel * 2 ^ 128 + param * 2 ^ 192)
/-- A running course of context c, its record otherwise r, that stands as x. -/
def courseS (c : Nat) (r : CtxRec) (x : Course) : State :=
  { onS with ctx := { restoreDone := true, table := [(c, { r with course := true })] }, courses := { held := [(c, x)] } }
/-- Queue pair q enabled, with these entries. -/
def entryS (q : Nat) (txn : Bool) (es : List TakenEntry) : State :=
  { onS with rings := { pair := [(q, { en := true, txn := txn, size := 16#17, serviceTile := some 11#4, entries := es })] }, iface := { linkDown := 0#5 } }
/-- An entry with number 7 at position 3. -/
def entryE (raw : Nat) : TakenEntry := { pos := 3#32, no := 7, raw := BitVec.ofNat 512 raw }
/-- An open object of context c and source type t. -/
def chainS (c t : Nat) : ObjChain := { ctx := c, sourceType := t, openTime := 0, genesis := 0, prevDigest := 0, lastDigest := 0 }
/-- The bytes of a brick with an extent of 1024 bytes: context, BRICK_SEQ, the payload, behind it 64 bytes of a trailer with a digest. -/
def brickB (c n : Nat) (payload : Bytes) (digest : Digest) (prev : Digest) : Bytes :=
  toLE 16 (0x424E5953 + 0x0100 * 2 ^ 32 + 0x0200 * 2 ^ 48) ++ toLE 8 c ++ toLE 8 n ++ toLE 4 payload.length ++ toLE 4 1024 ++ toLE 104 0 ++
    toBE 48 prev.toNat ++ toLE 320 0 ++ payload ++ toBE 48 digest.toNat ++
    toLE 16 (0x544E5953 + payload.length * 2 ^ 32 + n * 2 ^ 64) ++ toLE (448 - payload.length) 0
/-- A machine with one wythe of one member, whose SSD is ready. -/
def wytheS (s : State) : State :=
  { s with wythes := { configured := 1#2, ssdsReady := true, member := [(0, { ready := true, zoned := true, zoneLbas := 100, zones := 8, copeNext := 98, entry := 0x80000000#64 })] } }
/-- A binding of a flow key to a lane. -/
def bindS (key : BitVec 320) (l : BitVec 8) : BindEntry := { key := key, target := 0, lane := l, learned := false, laneBound := true, targetGen := 0 }
/-- A unit of a flow key in a port ring. -/
def unitS (key : BitVec 320) (b : Bytes) : RingUnit := { bytes := b, key := key, time := 0 }
/-- An RTP packet with a sequence number and four payload bytes. -/
def rtpB (seq : Nat) : Bytes := [0x80, 96, BitVec.ofNat 8 (seq / 256), BitVec.ofNat 8 seq, 0, 0, 0, 1, 0, 0, 0, 9, 1, 2, 3, 4]
/-- A brick of context c with payload bytes. -/
def brickS (c : Nat) (n : W64) (p : Bytes) : Brick :=
  { header := toLE 512 0, payload := p, ctx := c, seq := n, streamEnd := BitVec.ofNat 64 p.length, last := false, lost := 0, extent := 1024 }
/-- The Ethernet frame read, and the parts of its datagram. -/
def etherE (f : Bytes) : Ether := (readEther f).getD { type := 0, vlan := none, body := [], bare := [] }
def keyE (p : Nat) (f : Bytes) : BitVec 320 := match classify p 0 false (etherE f) with | .udp k _ _ _ _ _ => k | _ => 0
def peerE (p : Nat) (f : Bytes) : Nat := match classify p 0 false (etherE f) with | .udp _ k _ _ _ _ => k | _ => 0
def dataE (p : Nat) (f : Bytes) : Bytes := match classify p 0 false (etherE f) with | .udp _ _ _ _ k _ => k | _ => []
/-- Frames: an ARP packet, a Sync of IEEE 1588, and others. -/
def frame_disc : Bytes :=
  [1, 2, 3, 4, 5, 6, 7, 8, 9, 10, 11, 12, 8, 0, 85] ++ toLE 45 0 ++ [171, 151, 107, 243]
def frame_ptp : Bytes :=
  [1, 2, 3, 4, 5, 6, 7, 8, 9, 10, 11, 12, 136, 247] ++ toLE 46 0 ++ [120, 111, 243, 56]
def frame_arp : Bytes :=
  [1, 2, 3, 4, 5, 6, 7, 8, 9, 10, 11, 12, 8, 6] ++ toLE 46 0 ++ [13, 115, 42, 189]
def frame_oth : Bytes :=
  [1, 2, 3, 4, 5, 6, 7, 8, 9, 10, 11, 12, 18, 52] ++ toLE 46 0 ++ [163, 230, 215, 44]
def frame_udpl : Bytes :=
  [1, 2, 3, 4, 5, 6, 7, 8, 9, 10, 11, 12, 8, 0, 69, 0, 0, 40, 0, 0, 0, 0, 64, 17, 102, 195, 10, 0, 0, 1, 10, 0, 0, 2, 19, 136, 3, 232, 0, 20, 0, 0, 128, 96, 0, 1, 0, 0, 0, 1, 0, 0, 0, 9, 0, 0, 0, 0, 0, 0, 218, 81, 90, 190]
def frame_udpb : Bytes :=
  [1, 2, 3, 4, 5, 6, 7, 8, 9, 10, 11, 12, 8, 0, 69, 0, 0, 30, 0, 0, 0, 0, 64, 17, 102, 205, 10, 0, 0, 1, 10, 0, 0, 2, 19, 136, 184, 6, 0, 10, 0, 0, 104, 105] ++ toLE 16 0 ++ [100, 158, 213, 57]
def frame_udp68 : Bytes :=
  [1, 2, 3, 4, 5, 6, 7, 8, 9, 10, 11, 12, 8, 0, 69, 0, 0, 30, 0, 0, 0, 0, 64, 17, 102, 205, 10, 0, 0, 1, 10, 0, 0, 2, 19, 136, 0, 68, 0, 10, 0, 0, 104, 105] ++ toLE 16 0 ++ [46, 28, 128, 207]

/-- The premises of `Obligations.StepRunsFront` hold together: clause by clause, of these states and operands. -/
theorem witness_StepRunsFront :
  (
    let s : State := State.reset
    (s.pending = []) ∧
        (s.mailWaits = false)) ∧
  (
    let s : State := onS
    (s.pending = []) ∧
        (s.mailWaits = false)) ∧
  (
    let s : State := { onS with mbox := { ch := [(1020, { full := true, valid := true, sender := 96#7, receiver := 0#7, slot := [(0, 0x000760#24), (1, 7#24)] }), (1021, { valid := true, sender := 0#7, receiver := 96#7 })] } }
    (s.pending = []) ∧
        (s.power.phase = .run) ∧
        (s.serving = true) ∧
        (s.mailWaits = true)) := by
  refine ⟨?_, ?_, ?_⟩ <;> (decide +kernel)



/-- A drained store reaches the last byte of DRAM beside a byte of tile memory. -/
theorem witness_EveryStepKeepsMemorySound :
    let s : State := { engS 0 { posted := [{ addr := 0x36FFFFFFF#35, size := 1, data := 0x5A#24 }] } with
      pending := [.storeBufferDrain 0], mem := [(0x780000000, 0xFF#8)] }
    s.memSound ∧
    step s = .next { s with pending := [], mem := [(0x36FFFFFFF, 0x5A#8), (0x780000000, 0xFF#8)], engines := [(0, { run := .running })] } := by
  exact ⟨⟨by decide +kernel, by decide +kernel⟩, rfl⟩


/-- The premises of `Obligations.PlainWrites` hold together: clause by clause, of these states and operands. -/
theorem witness_PlainWrites :
  (
    let s : State := onS
    let b : Bytes := []
    let off : BitVec 24 := 0x880000#24
    let w : BitVec 35 := 0
    let v : W32 := 0x12345678#32
    let a : DevAddr := 0x36FFFFFFC#35
    let base := s.rings.winBase.toNat * 0x100000000 + w.toNat % 0x100000000
    (a.toNat % 4 = 0) ∧
        (a.toNat < 0x370000000) ∧
        (96 ≤ bits v 0 8) ∧
        (0x880000 ≤ off.toNat) ∧
        (off.toNat ≠ 0x900000) ∧
        (base + b.length ≤ 0x370000000)) ∧
  (
    let a : DevAddr := 0
    (a.toNat % 4 = 0) ∧
        (a.toNat < 0x370000000)) ∧
  (
    let a : DevAddr := 0x780000000#35
    (a.toNat % 4 = 0) ∧
        (0x780000000 ≤ a.toNat) ∧
        (a.toNat < 0x780C00000)) ∧
  (
    let a : DevAddr := 0x780BFFFFC#35
    (a.toNat % 4 = 0) ∧
        (0x780000000 ≤ a.toNat) ∧
        (a.toNat < 0x780C00000)) ∧
  (
    let a : DevAddr := 0x380000000#35
    (a.toNat % 4 = 0) ∧
        (0x380000000 ≤ a.toNat) ∧
        (a.toNat < 0x780000000)) ∧
  (
    let a : DevAddr := 0x77FFFFFFC#35
    (a.toNat % 4 = 0) ∧
        (0x380000000 ≤ a.toNat) ∧
        (a.toNat < 0x780000000)) ∧
  (
    let a : DevAddr := 0x370000000#35
    let m : Master := 8
    (a.toNat % 4 = 0) ∧
        (0x370000000 ≤ a.toNat) ∧
        (a.toNat < 0x380000000) ∧
        (8 ≤ m.val)) ∧
  (
    let a : DevAddr := 0x37FFFFFFC#35
    let m : Master := 99
    (a.toNat % 4 = 0) ∧
        (0x370000000 ≤ a.toNat) ∧
        (a.toNat < 0x380000000) ∧
        (8 ≤ m.val)) ∧
  (
    let s : State := onS
    let a : DevAddr := 0x790000000#35
    let m : Master := 8
    (a.toNat % 4 = 0) ∧
        (0x790000000 ≤ a.toNat) ∧
        (a.toNat < 0x790C00000) ∧
        (s.fw m = false) ∧
        (m.val ≠ 98)) ∧
  (
    let s : State := onS
    let a : DevAddr := 0x790BFFFFC#35
    let m : Master := 95
    (a.toNat % 4 = 0) ∧
        (0x790000000 ≤ a.toNat) ∧
        (a.toNat < 0x790C00000) ∧
        (s.fw m = false) ∧
        (m.val ≠ 98)) ∧
  (
    let v : W32 := 95
    (bits v 0 8 < 96)) ∧
  (
    let a : DevAddr := 0
    (a.toNat % 4 = 0) ∧
        (a.toNat < 0x370000000)) ∧
  (
    let a : DevAddr := 0
    (a.toNat % 4 = 0) ∧
        (a.toNat < 0x370000000)) ∧
  (
    let a : DevAddr := 0
    (a.toNat % 4 = 0) ∧
        (a.toNat < 0x370000000)) ∧
  (
    let a : DevAddr := 0
    (a.toNat % 4 = 0) ∧
        (a.toNat < 0x370000000)) ∧
  (
    let a : DevAddr := 0
    (a.toNat % 4 = 0) ∧
        (a.toNat < 0x370000000)) ∧
  (
    let s : State := { onS with rings := { winBase := 3#2 } }
    let w : BitVec 35 := 0x70000000#35
    let b : Bytes := [1]
    let base := s.rings.winBase.toNat * 0x100000000 + w.toNat % 0x100000000
    (0x370000000 ≤ base) ∧
        (b ≠ [])) ∧
  (
    let s : State := { onS with rings := { winBase := 3#2 } }
    let w : BitVec 35 := 0xFFFFFFFF#35
    let b : Bytes := [1]
    let base := s.rings.winBase.toNat * 0x100000000 + w.toNat % 0x100000000
    (0x370000000 ≤ base) ∧
        (b ≠ [])) := by
  refine ⟨?_, ?_, ?_, ?_, ?_, ?_, ?_, ?_, ?_, ?_, ?_, ?_, ?_, ?_, ?_, ?_, ?_, ?_⟩ <;> (decide +kernel)

/-- The premises of `Obligations.ShortAluAndConditions` hold together: clause by clause, of these states and operands. -/
theorem witness_ShortAluAndConditions :
  (
    let e : Eng := 95
    let s : State := engS 95 { g := [(2, 0x800000#24), (3, 23#24)] }
    (s.engFree e = true)) ∧
  (
    let e : Eng := 0
    let s : State := engS 0 { g := [(2, 24#24)] }
    (s.engFree e = true)) ∧
  (
    let e : Eng := 1
    let s : State := engS 1 { g := [(15, 0xFFFFFF#24)] , pc := 0x3FFFF#18}
    (s.engFree e = true)) ∧
  (
    let e : Eng := 1
    let s : State := engS 1 { g := [(2, 0xFFFFFF#24), (15, 0x7FFFFF#24)] , pc := 0x3FFFF#18}
    (s.engFree e = true)) := by
  refine ⟨?_, ?_, ?_, ?_⟩ <;> (decide +kernel)

/-- The premises of `Obligations.LongImmediateResults` hold together: clause by clause, of these states and operands. -/
theorem witness_LongImmediateResults :
  (
    let e : Eng := 95
    let s : State := engS 95 { g := [(2, 0x800000#24)] }
    (s.engFree e = true)) ∧
  (
    let e : Eng := 0
    let s : State := engS 0 { g := [(2, 0x7FFFFF#24)], pc := 0x3FFFF#18 }
    (s.engFree e = true)) ∧
  (
    let e : Eng := 1
    let s : State := engS 1 {}
    (s.engFree e = true)) ∧
  (
    let e : Eng := 1
    let s : State := engS 1 { g := [(3, 0x01FFFF#24)] }
    (s.engFree e = true)) := by
  refine ⟨?_, ?_, ?_, ?_⟩ <;> (decide +kernel)

/-- The premises of `Obligations.MovesAndBanks` hold together: clause by clause, of these states and operands. -/
theorem witness_MovesAndBanks :
  (
    let e : Eng := 95
    let b : BankReg := 3
    let s : State := engS 95 { g := [(2, 0xFFFFFF#24)], b := [(3, 0x7FF#11)] }
    (s.engFree e = true)) ∧
  (
    let e : Eng := 0
    let s : State := engS 0 {}
    (s.engFree e = true)) := by
  refine ⟨?_, ?_⟩ <;> (decide +kernel)

/-- The premises of `Obligations.SpecialRegisterMoves` hold together: clause by clause, of these states and operands. -/
theorem witness_SpecialRegisterMoves :
  (
    let e : Eng := 95
    let s : State := engS 95 { g := [(15, 0xFFFFFF#24)], mlo := 1#24, mhi := 2#24, rc := 3#24, ie := true, act := 5#4, dov := true, tnowh := 4#24, evm := 5#24, vbase := 0x81#8, ipc := [(0, 6#18), (3, 0x3FFFF#18)], istat := [(1, true)] }
    (s.engFree e = true)) ∧
  (
    let e : Eng := 0
    let s : State := engS 0 { mlo := 1#24, dz := true, rc := 3#24, ie := true, evm := 5#24, vbase := 0x81#8, ipc := [(0, 6#18)], istat := [(3, true)] }
    (s.engFree e = true)) ∧
  (
    let e : Eng := 7
    let s : State := { engS 7 { g := [(1, 0xC0#24)] } with vu := { src := [(3, { pending := true, en := true, mask := 0x80#160 })] } }
    (s.engFree e = true)) := by
  refine ⟨?_, ?_, ?_⟩ <;> (decide +kernel)

/-- The premises of `Obligations.MultiplyAndDivide` hold together: clause by clause, of these states and operands. -/
theorem witness_MultiplyAndDivide :
  (
    let e : Eng := 95
    let s : State := engS 95 { g := [(1, 0x800000#24), (2, 0xFFFFFF#24)] }
    (s.engFree e = true) ∧
        ((s.eng e).divide = none) ∧
        ((s.eng e).products = [])) ∧
  (
    let e : Eng := 95
    let s : State := engS 95 { g := [(1, 0x800000#24)], mlo := 7#24, mhi := 8#24 }
    (s.engFree e = true) ∧
        ((s.eng e).divide = none) ∧
        ((s.eng e).products = [])) ∧
  (
    let e : Eng := 95
    let s : State := engS 95 { g := [(1, 0xFFFFF9#24), (2, 2#24)], dz := true }
    (s.engFree e = true) ∧
        ((s.eng e).divide = none) ∧
        ((s.eng e).products = [])) ∧
  (
    let e : Eng := 95
    let s : State := engS 95 { g := [(1, 7#24), (2, 0xFFFFFE#24)], dov := true }
    (s.engFree e = true) ∧
        ((s.eng e).divide = none) ∧
        ((s.eng e).products = [])) ∧
  (
    let e : Eng := 95
    let s : State := engS 95 { g := [(2, 0x800000#24)] }
    (s.engFree e = true) ∧
        ((s.eng e).divide = none) ∧
        ((s.eng e).products = [])) := by
  refine ⟨?_, ?_, ?_, ?_, ?_⟩ <;> (decide +kernel)

/-- The premises of `Obligations.LocalMemoryAccesses` hold together: clause by clause, of these states and operands. -/
theorem witness_LocalMemoryAccesses :
  (
    let e : Eng := 95
    let ra : Reg := 2
    let s : State := engS 95 { g := [(1, 0xABCDEF#24), (2, 0x3FF0#24)], loc := [(0x3FFF, 9#24), (0x3FF0, 5#24)] }
    let u : BitVec 4 := 15
    let i : BitVec 18 := 15
    let x := (s.eng e).begun
    let b := x.reg ra
    let short := b + u.setWidth 24
    let long := b + i.signExtend 24
    (s.engFree e = true) ∧
        (short.toNat < 0x4000) ∧
        (long.toNat < 0x4000) ∧
        (b.toNat < 0x4000)) ∧
  (
    let e : Eng := 95
    let ra : Reg := 2
    let s : State := engS 95 { g := [(1, 0xABCDEF#24), (2, 0x3FFF#24)], loc := [(0x3FFF, 9#24)] }
    let u : BitVec 4 := 0
    let x := (s.eng e).begun
    let b := x.reg ra
    let short := b + u.setWidth 24
    (s.engFree e = true) ∧
        (short.toNat < 0x4000)) ∧
  (
    let e : Eng := 95
    let ra : Reg := 2
    let u : BitVec 4 := 8
    let s : State := engS 95 { g := [(2, 1#24)], loc := [(1, 9#24)] }
    let x := (s.eng e).begun
    let b := x.reg ra
    let short := b + u.setWidth 24
    (s.engFree e = true) ∧
        (short.toNat < 0x4000)) ∧
  (
    let e : Eng := 95
    let ra : Reg := 0
    let u : BitVec 4 := 0
    let s : State := engS 95 { loc := [(0, 9#24)] }
    let x := (s.eng e).begun
    let b := x.reg ra
    let short := b + u.setWidth 24
    (s.engFree e = true) ∧
        (short.toNat < 0x4000)) := by
  refine ⟨?_, ?_, ?_, ?_⟩ <;> (decide +kernel)

/-- The premises of `Obligations.SharedMemoryAccesses` hold together: clause by clause, of these states and operands. -/
theorem witness_SharedMemoryAccesses :
  (
    let e : Eng := 95
    let ra : Reg := 2
    let u : BitVec 4 := 0
    let s : State := { engS 95 { g := [(1, 0xABCDEF#24), (2, 0x40000#24)] } with mem := [(0x780B00000, 0x11#8)] }
    let i : BitVec 18 := default
    let x := (s.eng e).begun
    let b := x.reg ra
    let short := b + u.setWidth 24
    let long := b + i.signExtend 24
    let shared := fun (a : W24) => 0x40000 ≤ a.toNat ∧ a.toNat < 0x80000
    (s.engFree e = true) ∧
        ((s.eng e).replay.look none (s.eng e).level = none) ∧
        (shared short) ∧
        (shared long) ∧
        (shared b)) ∧
  (
    let e : Eng := 95
    let ra : Reg := 2
    let u : BitVec 4 := 0
    let s : State := engS 95 { g := [(1, 0xABCDEF#24), (2, 0x7FFFF#24)] }
    let x := (s.eng e).begun
    let b := x.reg ra
    let short := b + u.setWidth 24
    let shared := fun (a : W24) => 0x40000 ≤ a.toNat ∧ a.toNat < 0x80000
    (s.engFree e = true) ∧
        ((s.eng e).replay.look none (s.eng e).level = none) ∧
        (shared short)) ∧
  (
    let ra : Reg := 2
    let u : BitVec 4 := 15
    let e : Eng := 0
    let s : State := engS 0 { g := [(1, 0x1#24), (2, 0x7FFF0#24)] }
    let x := (s.eng e).begun
    let b := x.reg ra
    let short := b + u.setWidth 24
    let shared := fun (a : W24) => 0x40000 ≤ a.toNat ∧ a.toNat < 0x80000
    (s.engFree e = true) ∧
        ((s.eng e).replay.look none (s.eng e).level = none) ∧
        (shared short)) := by
  refine ⟨?_, ?_, ?_⟩ <;> (decide +kernel)

/-- The premises of `Obligations.BranchesAndCalls` hold together: clause by clause, of these states and operands. -/
theorem witness_BranchesAndCalls :
  (
    let e : Eng := 95
    let s : State := engS 95 { g := [(15, 0xFFFFFF#24)], pc := 1#18 }
    (s.engFree e = true)) ∧
  (
    let e : Eng := 0
    let s : State := engS 0 { pc := 0x3FFFF#18 }
    (s.engFree e = true)) := by
  refine ⟨?_, ?_⟩ <;> (decide +kernel)

/-- The premises of `Obligations.HaltAndWaits` hold together: clause by clause, of these states and operands. -/
theorem witness_HaltAndWaits :
  (
    let e : Eng := 95
    let ra : Reg := 1
    let s : State := engS 95 { evl := 5#24, evm := 4#24, g := [(1, 0x123456#24)] }
    let x := (s.eng e).begun
    let target := x.reg ra
    (s.engFree e = true) ∧
        (x.evl &&& x.evm ≠ 0) ∧
        (0 ≤ (s.tnow.extractLsb' 0 24 - target : W24).toInt)) ∧
  (
    let e : Eng := 95
    let ra : Reg := 1
    let s : State := engS 95 { evl := 1#24, evm := 4#24, g := [(1, 0x123457#24)], ie := true }
    let now : BitVec 48 := 0x000000123457#48
    let x := (s.eng e).begun
    let target := x.reg ra
    (s.engFree e = true) ∧
        (x.evl &&& x.evm = 0) ∧
        ((s.tnow.extractLsb' 0 24 - target : W24).toInt < 0) ∧
        (0 ≤ (now.extractLsb' 0 24 - target : W24).toInt)) ∧
  (
    let e : Eng := 95
    let s : State := engS 95 { evl := 1#24, evm := 0#24, g := [(1, 0x923455#24)] }
    let x := (s.eng e).begun
    (s.engFree e = true) ∧
        (x.evl &&& x.evm = 0)) := by
  refine ⟨?_, ?_, ?_⟩ <;> (decide +kernel)

/-- The premises of `Obligations.InterruptEntryAndReturn` hold together: clause by clause, of these states and operands. -/
theorem witness_InterruptEntryAndReturn :
  (
    let e : Eng := 95
    let n : Src := 255
    let l : BitVec 2 := 3
    let v : W18 := 0x3FFFF#18
    let s : State := engS 95 { e1 := some (255, 3, 0x3FFFF#18), ie := true, pc := 7#18, act := 1#4 }
    let x := s.eng e
    (x.run = .running) ∧
        (x.rpti = none) ∧
        (x.e1 = some (n, l, v))) ∧
  (
    let e : Eng := 0
    let n : Src := 0
    let l : BitVec 2 := 0
    let v : W18 := 0
    let s : State := engS 0 { e1 := some (0, 0, 0#18), pc := 7#18 }
    let x := s.eng e
    (x.run = .running) ∧
        (x.rpti = none) ∧
        (x.e1 = some (n, l, v))) ∧
  (
    let e : Eng := 95
    let s : State := engS 95 {}
    let x := s.eng e
    (s.engFree e = true) ∧
        (x.level = 0)) ∧
  (
    let e : Eng := 95
    let s : State := engS 95 { act := 0x8#4, ipc := [(3, 9#18)], istat := [(3, true)] }
    let x := s.eng e
    (s.engFree e = true ∧ x.level = 3 + 1 ∧ s.winner e (some (e.val, { x with act := x.act &&& ~~~(1#4 <<< 3) }.level)) = none)) ∧
  (
    let e : Eng := 95
    let s : State := engS 95 { act := 0x3#4, ipc := [(1, 9#18)] }
    let x := s.eng e
    (s.engFree e = true ∧ x.level = 1 + 1 ∧ s.winner e (some (e.val, { x with act := x.act &&& ~~~(1#4 <<< 1) }.level)) = none)) := by
  refine ⟨?_, ?_, ?_, ?_, ?_⟩ <;> (decide +kernel)

/-- The premises of `Obligations.RptOutsideLocalMemory` hold together: clause by clause, of these states and operands. -/
theorem witness_RptOutsideLocalMemory :
  (
    let e : Eng := 95
    let rs : Reg := 1
    let ra : Reg := 2
    let nm1 : BitVec 6 := 63
    let k : Nat := 63
    let s : State := engS 95 { g := [(1, 5#24), (2, 0x3FC1#24)], pc := 3#18 }
    let x := s.eng e
    let b := (x.reg ra).toNat
    (s.engFree e = true) ∧
        (ra ≠ 0) ∧
        (rs ≠ ra) ∧
        (b < 0x4000) ∧
        (k ≤ nm1.toNat) ∧
        (b + k = 0x4000)) ∧
  (
    let e : Eng := 95
    let rs : Reg := 1
    let ra : Reg := 2
    let nm1 : BitVec 6 := 1
    let k : Nat := 1
    let s : State := engS 95 { g := [(2, 0x3FFF#24)], pc := 3#18 }
    let x := s.eng e
    let b := (x.reg ra).toNat
    (s.engFree e = true) ∧
        (ra ≠ 0) ∧
        (rs ≠ ra) ∧
        (b < 0x4000) ∧
        (k ≤ nm1.toNat) ∧
        (b + k = 0x4000)) ∧
  (
    let e : Eng := 95
    let ra : Reg := 2
    let rs : Reg := 0
    let nm1 : BitVec 6 := 63
    let k : Nat := 3
    let s : State := engS 95 { g := [(2, 0x3FFD#24)], loc := [(0x3FFE, 1#24)] }
    let x := s.eng e
    let b := (x.reg ra).toNat
    (s.engFree e = true) ∧
        (ra ≠ 0) ∧
        (rs ≠ ra) ∧
        (b < 0x4000) ∧
        (k ≤ nm1.toNat) ∧
        (b + k = 0x4000)) := by
  refine ⟨?_, ?_, ?_⟩ <;> (decide +kernel)

/-- The premises of `Obligations.RepeatsAndTheirInterrupt` hold together: clause by clause, of these states and operands. -/
theorem witness_RepeatsAndTheirInterrupt :
  (
    let e : Eng := 95
    let rd : Reg := 15
    let k : Nat := 0
    let s : State := engS 95 { g := [(15, 0xFFFFFF#24)], rc := 3#24, pc := 9#18 }
    let x := s.eng e
    (s.engFree e = true) ∧
        (rd ≠ 0) ∧
        (k < x.rc.toNat)) ∧
  (
    let e : Eng := 95
    let rd : Reg := 15
    let s : State := engS 95 { rc := 0#24 }
    (s.engFree e = true) ∧
        (rd ≠ 0)) ∧
  (
    let e : Eng := 95
    let rd : Reg := 15
    let k : Nat := 2
    let s : State := engS 95 { rc := 3#24, pc := 9#18 }
    let x := s.eng e
    (s.engFree e = true) ∧
        (rd ≠ 0) ∧
        (k < x.rc.toNat)) := by
  refine ⟨?_, ?_, ?_⟩ <;> (decide +kernel)


/-- The premises of `Obligations.LoadsStallAndReturn` hold together: clause by clause, of these states and operands. -/
theorem witness_LoadsStallAndReturn :
  (
    let e : Eng := 95
    let b : BankReg := 3
    let s : State := engS 95 { b := [(3, 0x36F#11)], g := [(1, 0#24)] }
    (s.engFree e = true)) ∧
  (
    let e : Eng := 95
    let r : LoadReq := ({ rd := 15, addr := 0x36EFFFFFF#35, size := 2, sext := true })
    let s : State := { onS.setEng 95 { run := .stallLoad ({ rd := 15, addr := 0x36EFFFFFF#35, size := 2, sext := true }), pc := 0x3FFFE#18 } with mem := [(0x36E000000, 0x80#8)] }
    let x := s.eng e
    (x.run = .stallLoad r) ∧
        (x.e1 = none) ∧
        (x.rpti = none) ∧
        (x.posted = []) ∧
        (x.replay.look none x.level = none) ∧
        (r.space = none) ∧
        (r.step = none) ∧
        (r.len = 2) ∧
        (r.size ≤ 3) ∧
        ((∀ i, i < 3 → (byteAddr r.addr i).toNat < 0x370000000)) ∧
        (r.rd ≠ 0 ∧ r.size = 2)) ∧
  (
    let e : Eng := 95
    let r : LoadReq := ({ rd := 1, addr := 0x36FFFFFFF#35, size := 1, sext := true })
    let s : State := { onS.setEng 95 { run := .stallLoad ({ rd := 1, addr := 0x36FFFFFFF#35, size := 1, sext := true }) } with mem := [(0x36FFFFFFF, 0x80#8)] }
    let x := s.eng e
    (x.run = .stallLoad r) ∧
        (x.e1 = none) ∧
        (x.rpti = none) ∧
        (x.posted = []) ∧
        (x.replay.look none x.level = none) ∧
        (r.space = none) ∧
        (r.step = none) ∧
        (r.len = 2) ∧
        (r.size ≤ 3) ∧
        ((∀ i, i < 3 → (byteAddr r.addr i).toNat < 0x370000000)) ∧
        (r.rd ≠ 0 ∧ r.size = 1)) ∧
  (
    let e : Eng := 95
    let r : LoadReq := ({ rd := 1, addr := 0#35, size := 3, sext := false })
    let s : State := { onS.setEng 95 { run := .stallLoad ({ rd := 1, addr := 0#35, size := 3, sext := false }) } with mem := [(0, 1#8), (2, 0x80#8)] }
    let x := s.eng e
    (x.run = .stallLoad r) ∧
        (x.e1 = none) ∧
        (x.rpti = none) ∧
        (x.posted = []) ∧
        (x.replay.look none x.level = none) ∧
        (r.space = none) ∧
        (r.step = none) ∧
        (r.len = 2) ∧
        (r.size ≤ 3) ∧
        ((∀ i, i < 3 → (byteAddr r.addr i).toNat < 0x370000000)) ∧
        (r.rd ≠ 0 ∧ r.size = 3)) ∧
  (
    let e : Eng := 95
    let r : LoadReq := ({ rd := 0, addr := 0#35, size := 1, sext := false })
    let s : State := { onS.setEng 95 { run := .stallLoad ({ rd := 0, addr := 0#35, size := 1, sext := false }) } with mem := [(0, 1#8), (2, 0x80#8)] }
    let x := s.eng e
    (x.run = .stallLoad r) ∧
        (x.e1 = none) ∧
        (x.rpti = none) ∧
        (x.posted = []) ∧
        (x.replay.look none x.level = none) ∧
        (r.space = none) ∧
        (r.step = none) ∧
        (r.len = 2) ∧
        (r.size ≤ 3) ∧
        ((∀ i, i < 3 → (byteAddr r.addr i).toNat < 0x370000000))) := by
  refine ⟨?_, ?_, ?_, ?_, ?_⟩ <;> (decide +kernel)

/-- The premises of `Obligations.StoresPostAndReachMemory` hold together: clause by clause, of these states and operands. -/
theorem witness_StoresPostAndReachMemory :
  (
    let e : Eng := 95
    let b : BankReg := 3
    let s : State := engS 95 { b := [(3, 0x36F#11)], g := [(15, 7#24)], posted := List.replicate 7 ({ addr := 0x36EFFFFFF#35, size := 3, data := 0x123456#24 }) }
    (s.engFree e = true)) ∧
  (
    let e : Eng := 95
    let s : State := engS 95 { b := [(3, 0x36F#11)], g := [(15, 7#24)], posted := List.replicate 8 ({ addr := 0x36EFFFFFF#35, size := 3, data := 0x123456#24 }) }
    let rest : List Posted := List.replicate 7 ({ addr := 0x36EFFFFFF#35, size := 3, data := 0x123456#24 })
    let p : Posted := ({ addr := 0x36EFFFFFF#35, size := 3, data := 0x123456#24 })
    let x := s.eng e
    let g := s.tile (e.val / 8)
    (x.run = .running) ∧
        (x.posted = p :: rest) ∧
        (p.size ≤ 3) ∧
        ((∀ i, i < p.size → (byteAddr p.addr i).toNat < 0x370000000)) ∧
        (g.pwrReq ≠ 1 ∨ g.power ≠ .run)) ∧
  (
    let e : Eng := 95
    let rest : List Posted := []
    let s : State := { engS 95 { posted := [({ addr := 0x36EFFFFFF#35, size := 3, data := 0x123456#24 })] } with mem := [(0x36EFFFFFF, 1#8)] }
    let p : Posted := ({ addr := 0x36EFFFFFF#35, size := 3, data := 0x123456#24 })
    let x := s.eng e
    let g := s.tile (e.val / 8)
    (x.run = .running) ∧
        (x.posted = p :: rest) ∧
        (p.size ≤ 3) ∧
        ((∀ i, i < p.size → (byteAddr p.addr i).toNat < 0x370000000)) ∧
        (g.pwrReq ≠ 1 ∨ g.power ≠ .run)) ∧
  (
    let e : Eng := 95
    let p : Posted := ({ addr := 0x36FFFFFFF#35, size := 1, data := 0x123456#24 })
    let rest : List Posted := [({ addr := 0x36FFFFFFF#35, size := 1, data := 0x123456#24 })]
    let s : State := { engS 95 { posted := [({ addr := 0x36FFFFFFF#35, size := 1, data := 0x123456#24 }), ({ addr := 0x36FFFFFFF#35, size := 1, data := 0x123456#24 })] } with mem := [(0x36FFFFFFF, 1#8)] }
    let x := s.eng e
    let g := s.tile (e.val / 8)
    (x.run = .running) ∧
        (x.posted = p :: rest) ∧
        (p.size ≤ 3) ∧
        ((∀ i, i < p.size → (byteAddr p.addr i).toNat < 0x370000000)) ∧
        (g.pwrReq ≠ 1 ∨ g.power ≠ .run)) := by
  refine ⟨?_, ?_, ?_, ?_⟩ <;> (decide +kernel)

/-- The premises of `Obligations.CustomerOpcodes` hold together: clause by clause, of these states and operands. -/
theorem witness_CustomerOpcodes :
  (
    let e : Eng := 95
    let n : Reg := 15
    let s : State := { engS 95 { g := [(2, 5#24)], pc := 0x3FFFE#18 } with tiles := [(11, { entries := [(15, { start := 0x1FE#9, lenM1 := 1#5, valid := true, xBank := true })], micro := [(0x1FE, 0x5241#72), (0x1FF, 0x1000000000003F#72)] })] }
    let w := s.tile (e.val / 8)
    let d := w.entries.look {} n
    (s.engFree e = true) ∧
        (d.valid = true) ∧
        (d.xBank = true) ∧
        (d.lenM1 = 1) ∧
        (w.micro.look 0 d.start.toNat = 0x5241#72) ∧
        (w.micro.look 0 (d.start.toNat + 1) = 0x1000000000003F#72)) ∧
  (
    let e : Eng := 95
    let n : Reg := 0
    let s : State := { engS 95 { g := [(2, 5#24)] } with tiles := [(11, { entries := [(0, { start := 0#9, lenM1 := 1#5, valid := true, xBank := true })], micro := [(0, 0x5241#72), (1, 0x1000000000003F#72)] })] }
    let w := s.tile (e.val / 8)
    let d := w.entries.look {} n
    (s.engFree e = true) ∧
        (d.valid = true) ∧
        (d.xBank = true) ∧
        (d.lenM1 = 1) ∧
        (w.micro.look 0 d.start.toNat = 0x5241#72) ∧
        (w.micro.look 0 (d.start.toNat + 1) = 0x1000000000003F#72)) ∧
  (
    let e : Eng := 95
    let n : Reg := 0
    let s : State := { engS 95 {} with sec := { decodeIllegal := 0xFFFFFFFF#32 } }
    let w := s.tile (e.val / 8)
    let d := w.entries.look {} n
    (s.engFree e = true) ∧
        (d.valid = false)) := by
  refine ⟨?_, ?_, ?_⟩ <;> (decide +kernel)

/-- The premises of `Obligations.IllegalEncodings` hold together: clause by clause, of these states and operands. -/
theorem witness_IllegalEncodings :
  (
    let e : Eng := 95
    let s : State := engS 95 { pc := 5#18 }
    let p : W18 := 0x03000#18
    let op := p.extractLsb' 12 6
    (s.engFree e = true) ∧
        (op = 0x03 ∨ op = 0x0F ∨ (0x15 ≤ op ∧ op ≤ 0x17) ∨ op = 0x1E ∨ op = 0x1F ∨ (0x2D ≤ op ∧ op ≤ 0x2F))) ∧
  (
    let e : Eng := 95
    let s : State := engS 95 { pc := 5#18 }
    let p : W18 := 0x2FFFF#18
    let op := p.extractLsb' 12 6
    (s.engFree e = true) ∧
        (op = 0x03 ∨ op = 0x0F ∨ (0x15 ≤ op ∧ op ≤ 0x17) ∨ op = 0x1E ∨ op = 0x1F ∨ (0x2D ≤ op ∧ op ≤ 0x2F))) ∧
  (
    let e : Eng := 95
    let s : State := engS 95 { pc := 5#18 }
    let p : W18 := 0x15000#18
    let op := p.extractLsb' 12 6
    (s.engFree e = true) ∧
        (op = 0x03 ∨ op = 0x0F ∨ (0x15 ≤ op ∧ op ≤ 0x17) ∨ op = 0x1E ∨ op = 0x1F ∨ (0x2D ≤ op ∧ op ≤ 0x2F))) ∧
  (
    let e : Eng := 95
    let s : State := engS 95 { pc := 5#18 }
    let p : W18 := 0x00E00#18
    let op := p.extractLsb' 12 6
    (s.engFree e = true) ∧
        (op = 0) ∧
        (p.extractLsb' 8 4 = 0xE ∨ p.extractLsb' 8 4 = 0xF)) ∧
  (
    let e : Eng := 95
    let s : State := engS 95 { pc := 5#18 }
    let p : W18 := 0x00FFF#18
    let op := p.extractLsb' 12 6
    (s.engFree e = true) ∧
        (op = 0) ∧
        (p.extractLsb' 8 4 = 0xE ∨ p.extractLsb' 8 4 = 0xF)) ∧
  (
    let e : Eng := 95
    let s : State := engS 95 { pc := 5#18 }
    let p : W18 := 0x37C00#18
    let lop := p.extractLsb' 10 6
    (s.engFree e = true) ∧
        (p.extractLsb' 16 2 = 3) ∧
        (0x1F ≤ lop) ∧
        (lop ≤ 0x2F)) ∧
  (
    let e : Eng := 95
    let s : State := engS 95 { pc := 5#18 }
    let p : W18 := 0x3BFFF#18
    let lop := p.extractLsb' 10 6
    (s.engFree e = true) ∧
        (p.extractLsb' 16 2 = 3) ∧
        (0x1F ≤ lop) ∧
        (lop ≤ 0x2F)) ∧
  (
    let e : Eng := 95
    let s : State := engS 95 { pc := 5#18 }
    let p : W18 := 0x20100#18
    let op := p.extractLsb' 12 6
    (s.engFree e = true) ∧
        (0x20 ≤ op) ∧
        (op ≤ 0x23) ∧
        (p.extractLsb' 8 4 ≠ 0)) ∧
  (
    let e : Eng := 95
    let s : State := engS 95 { pc := 5#18 }
    let p : W18 := 0x23F00#18
    let op := p.extractLsb' 12 6
    (s.engFree e = true) ∧
        (0x20 ≤ op) ∧
        (op ≤ 0x23) ∧
        (p.extractLsb' 8 4 ≠ 0)) ∧
  (
    let e : Eng := 95
    let s : State := engS 95 { pc := 5#18 }
    let p : W18 := 0x09001#18
    let op := p.extractLsb' 12 6
    (s.engFree e = true) ∧
        (op = 0x09 ∨ op = 0x0A ∨ op = 0x01 ∨ op = 0x02) ∧
        (p.extractLsb' 0 4 ≠ 0)) ∧
  (
    let e : Eng := 95
    let s : State := engS 95 { pc := 5#18 }
    let p : W18 := 0x0200F#18
    let op := p.extractLsb' 12 6
    (s.engFree e = true) ∧
        (op = 0x09 ∨ op = 0x0A ∨ op = 0x01 ∨ op = 0x02) ∧
        (p.extractLsb' 0 4 ≠ 0)) ∧
  (
    let e : Eng := 95
    let s : State := engS 95 { pc := 5#18 }
    let p : W18 := 0x30001#18
    let lop := p.extractLsb' 10 6
    (s.engFree e = true) ∧
        (p.extractLsb' 16 2 = 3) ∧
        (lop ≤ 0x0E ∨ lop = 0x10 ∨ lop = 0x11) ∧
        (p.extractLsb' 0 2 ≠ 0)) ∧
  (
    let e : Eng := 95
    let s : State := engS 95 { pc := 5#18 }
    let p : W18 := 0x34403#18
    let lop := p.extractLsb' 10 6
    (s.engFree e = true) ∧
        (p.extractLsb' 16 2 = 3) ∧
        (lop ≤ 0x0E ∨ lop = 0x10 ∨ lop = 0x11) ∧
        (p.extractLsb' 0 2 ≠ 0)) ∧
  (
    let e : Eng := 95
    let s : State := engS 95 { pc := 5#18 }
    let p : W18 := 0x34001#18
    let lop := p.extractLsb' 10 6
    (s.engFree e = true) ∧
        (p.extractLsb' 16 2 = 3) ∧
        (lop ≤ 0x0E ∨ lop = 0x10 ∨ lop = 0x11) ∧
        (p.extractLsb' 0 2 ≠ 0)) ∧
  (
    let e : Eng := 95
    let s : State := engS 95 { pc := 5#18 }
    let p : W18 := 0x33802#18
    let lop := p.extractLsb' 10 6
    (s.engFree e = true) ∧
        (p.extractLsb' 16 2 = 3) ∧
        (lop ≤ 0x0E ∨ lop = 0x10 ∨ lop = 0x11) ∧
        (p.extractLsb' 0 2 ≠ 0)) := by
  refine ⟨?_, ?_, ?_, ?_, ?_, ?_, ?_, ?_, ?_, ?_, ?_, ?_, ?_, ?_, ?_⟩ <;> (decide +kernel)


/-- The premises of `Obligations.SourceArrivals` hold together: clause by clause, of these states and operands. -/
theorem witness_SourceArrivals :
  (
    let s : State := onS
    let n : Src := 95
    (s.watcher.asleep = false) ∧
        (n.val < 96) ∧
        (neverRaised n = false)) ∧
  (
    let s : State := onS
    let n : Src := 96
    (s.watcher.asleep = false) ∧
        (96 ≤ n.val)) ∧
  (
    let s : State := onS
    let n : Src := 255
    (s.watcher.asleep = false) ∧
        (neverRaised n = false)) ∧
  (
    let n : Src := 0
    let s : State := { onS with vu := { src := [(0, { count := 255, pending := true })] } }
    let r := s.vu.row n
    (s.watcher.asleep = false) ∧
        (neverRaised n = false) ∧
        (r.count = 255 ∧ n.val ≠ 247)) ∧
  (
    let n : Src := 247
    let s : State := { onS with vu := { src := [(247, { count := 255, pending := true, arrivals := 0xFFFFFFFF#32 })] } }
    let r := s.vu.row n
    (s.watcher.asleep = false) ∧
        (neverRaised n = false) ∧
        (r.count = 255)) ∧
  (
    let n : Src := 247
    let s : State := { onS with vu := { src := [(247, { count := 254, pending := true, arrivals := 0xFFFFFFFF#32 })] } }
    let r := s.vu.row n
    (s.watcher.asleep = false) ∧
        (neverRaised n = false) ∧
        (r.count ≠ 255 ∧ r.pending = true)) ∧
  (
    let n : Src := 255
    let s : State := { onS with vu := { src := [(255, { count := 254, pending := false, coalesced := 0xFFFFFFFF#32 })] } }
    let r := s.vu.row n
    (s.watcher.asleep = false) ∧
        (neverRaised n = false) ∧
        (r.count ≠ 255 ∧ r.pending = false)) ∧
  (
    let n : Src := 5
    let s : State := { onS with vu := { src := [(5, { count := 0, pending := false, en := true, mask := 0xF0000000000000000000000000000001#160 })] } }
    (s.watcher.asleep = false) ∧
        (n.val < 96)) ∧
  (
    let s : State := onS
    let n : Src := 149
    (s.watcher.asleep = false) ∧
        (n.val = 191 ∨ (149 ≤ n.val ∧ n.val ≤ 159))) ∧
  (
    let s : State := onS
    let n : Src := 159
    (s.watcher.asleep = false) ∧
        (n.val = 191 ∨ (149 ≤ n.val ∧ n.val ≤ 159))) ∧
  (
    let s : State := onS
    let n : Src := 191
    (s.watcher.asleep = false) ∧
        (n.val = 191 ∨ (149 ≤ n.val ∧ n.val ≤ 159))) := by
  refine ⟨?_, ?_, ?_, ?_, ?_, ?_, ?_, ?_, ?_, ?_, ?_⟩ <;> (decide +kernel)

/-- The premises of `Obligations.VectorUnitReads` hold together: clause by clause, of these states and operands. -/
theorem witness_VectorUnitReads :
  (
    let s : State := { onS with vu := { src := [(255, { count := 9, arrivals := 4 })], tgt := [(159, { heldMod := true, hold := true })] } }
    let m : Master := 7
    (s.fw m = true)) ∧
  (
    let s : State := { onS with vu := { src := [(255, { count := 9, arrivals := 4 })], tgt := [(159, { heldMod := true, hold := true })] } }
    let m : Master := 8
    (s.fw m = false)) ∧
  (
    let s : State := { onS with vu := { src := [(255, { count := 9, arrivals := 4 })], tgt := [(159, { heldMod := true, hold := true })] } }
    let m : Master := 98
    (s.fw m = false)) ∧
  (
    let m : Master := 99
    let s : State := { onS with sec := { fuse := { lc := 2 } } }
    (s.fw m = false)) := by
  refine ⟨?_, ?_, ?_, ?_⟩ <;> (decide +kernel)

/-- The premises of `Obligations.Deliveries` hold together: clause by clause, of these states and operands. -/
theorem witness_Deliveries :
  (
    let t : Target := 95
    let n : Nat := 255
    let r : SrcRow := ({ pending := true, en := true, mask := 1#160 <<< 95, level := 3#2 })
    let s : State := { engS 95 { ie := true, vbase := 0xFF#8 } with vu := { src := [(255, ({ pending := true, en := true, mask := 1#160 <<< 95, level := 3#2 }))], tgt := [(95, { holdoff := 1 })] } }
    (s.winner t none = some (n, r)) ∧
        (t.val < 96) ∧
        ((s.eng t).run = .running)) ∧
  (
    let t : Target := 96
    let n : Nat := 0
    let r : SrcRow := ({ pending := true, en := true, mask := 1#160 <<< 96, level := 0#2 })
    let s : State := { onS with vu := { src := [(0, ({ pending := true, en := true, mask := 1#160 <<< 96, level := 0#2 }))] }, rings := { msixEn := true, busMaster := true, msix := [(0, 0xFEE00000#32), (2, 5#32), (3, 0)] } }
    (s.winner t none = some (n, r)) ∧
        (96 ≤ t.val)) ∧
  (
    let t : Target := 159
    let n : Nat := 9
    let r : SrcRow := ({ pending := true, en := true, mask := 1#160 <<< 159, level := 0#2 })
    let s : State := { onS with vu := { src := [(9, ({ pending := true, en := true, mask := 1#160 <<< 159, level := 0#2 }))], tgt := [(159, { holdoff := 9 })] }, rings := { msixEn := true, busMaster := true, msix := [(252, 0xFEE00000#32), (254, 5#32), (255, 0)] } }
    (s.winner t none = some (n, r)) ∧
        (96 ≤ t.val)) ∧
  (
    let t : Target := 0
    let n : Nat := 9
    let r : SrcRow := ({ pending := true, en := true, mask := 1#160, level := 1#2 })
    let s : State := { engS 0 { ie := true } with vu := { src := [(9, ({ pending := true, en := true, mask := 1#160, level := 1#2 }))] } }
    (s.winner t none = some (n, r)) ∧
        (t.val < 96) ∧
        ((s.eng t).run = .running)) := by
  refine ⟨?_, ?_, ?_, ?_⟩ <;> (decide +kernel)

/-- A device whose source 0 has one arrival that is pending. -/
def onSource : State := { onS with vu := { src := [(0, { arrivals := 1, pending := true })] } }
theorem onSource_balanced : onSource.vuBalanced := by
  refine ⟨⟨fun d h => (by cases h), trivial⟩, fun n => ?_⟩
  by_cases h : n = 0
  · subst h; rfl
  · simp [onSource, VectorUnit.row, Tab.look, SrcRow.balanced, Ne.symm h]
theorem witness_VectorUnitAccounts :
    onSource.vuBalanced ∧
    exec (.srcCountRead 0 0) onSource = .next onSource ∧
    exec (.raise 0 96) onSource = .next (onSource.addrFault 0) ∧
    exec (.sourceArrival 0) onSource =
      .next { onS with vu := { src := [(0, { arrivals := 2, pending := true, coalesced := 1, count := 1 })] } } :=
  ⟨onSource_balanced, rfl, rfl, rfl⟩

/-- The premises of `Obligations.BlockAndEnginePublications` hold together: clause by clause, of these states and operands. -/
theorem witness_BlockAndEnginePublications :
  (
    let c : Chan := 511
    let k : Nat := 2
    let e : Eng := 95
    let ra : Reg := 1
    let v : W24 := 511
    let s : State := { engS 95 { g := [(1, 511#24)] } with router := { chan := [(511, { en := false })] } }
    (0 < k) ∧
        (s.router.mayFire c = false) ∧
        (v.toNat < 512) ∧
        (s.engFree e = true) ∧
        (((s.eng e).reg ra).toNat < 512)) ∧
  (
    let c : Chan := 511
    let e : Eng := 95
    let ra : Reg := 1
    let k : Nat := 1
    let s : State := { engS 95 { g := [(1, 512#24)] } with router := { groupEn := 0x80000000#32, chan := [(511, { en := true, blocking := true })] } }
    let v : W24 := 512
    let x := s.router.chanAt c
    (0 < k) ∧
        (s.router.mayFire c = true) ∧
        (x.blocking = true) ∧
        (512 ≤ v.toNat) ∧
        (s.engFree e = true) ∧
        (512 ≤ ((s.eng e).reg ra).toNat)) ∧
  (
    let c : Chan := 511
    let k : Nat := 2
    let s : State := { onS with router := { groupEn := 0x80000000#32, task := [(0, { subEn := true, subCh := 511#9, arr := 14#4 }), (5, { subEn := true, subCh := 510#9 }), (2047, { subEn := true, subCh := 511#9, arr := 3#4 })] } }
    let x := s.router.chanAt c
    (0 < k) ∧
        (s.router.mayFire c = true) ∧
        (x.blocking = false) ∧
        ((s.router.taskAt 0).hears c = true ∧ (s.router.taskAt 5).hears c = false)) ∧
  (
    let v : W24 := 0xFFFFFF#24
    (512 ≤ v.toNat)) ∧
  (
    let c : Chan := 256
    let k : Nat := 1
    let s : State := { engS 95 { g := [(1, 0#24)] } with router := { groupEn := 0 } }
    (0 < k) ∧
        (s.router.mayFire c = false)) := by
  refine ⟨?_, ?_, ?_, ?_, ?_⟩ <;> (decide +kernel)

/-- The premises of `Obligations.RouterTakesAndWindows` hold together: clause by clause, of these states and operands. -/
theorem witness_RouterTakesAndWindows :
  (
    let i : TaskInput := 2047
    let c : Chan := 511
    let m : Master := 0
    let s : State := { onS with router := { task := [(2047, { arr := 15, arrivals := 3 })], chan := [(511, { rateMax := 3, waves := 4, blocking := true })], port := [(511, { arr := 1 })] } }
    let r := s.router.taskAt i
    let p := s.router.port.look {} c
    (r.arr ≠ 0) ∧
        (s.fw m = true) ∧
        (p.arr ≠ 0) ∧
        ((∀ e ∈ s.courses.held, e.2.channel.map (·.toNat) ≠ some c.val))) ∧
  (
    let i : TaskInput := 2047
    let s : State := { onS with sec := { fuse := { lc := 2 } }, router := { chan := [(511, { rateMax := 3, waves := 3 })] } }
    let r := s.router.taskAt i
    (r.arr = 0)) ∧
  (
    let i : TaskInput := 0
    let s : State := { onS with router := { task := [(0, { arr := 1, delivered := 0xFFFFFFFF#32 })], chan := [(0, { rateMax := 0, waves := 3, fired := 4 })], port := [(0, { arr := 15 })] } }
    let r := s.router.taskAt i
    (r.arr ≠ 0)) := by
  refine ⟨?_, ?_, ?_⟩ <;> (decide +kernel)

/-- A device whose last task input holds 15 arrivals' flag; its counts have wrapped. -/
def onTask : State := { onS with router := { task := [(2047, { arr := 15, arrivals := 0#32, delivered := 0xFFFFFFFF#32 })] } }
theorem onTask_balanced : onTask.routerBalanced := by
  intro n
  by_cases h : n = 2047
  · subst h; rfl
  · simp [onTask, Router.taskAt, Tab.look, TaskRow.balanced, Ne.symm h]
theorem witness_RouterAccounts :
    onTask.routerBalanced ∧
    exec (.arrTake 2047) onTask =
      .next { onS with router := { task := [(2047, { arr := 0, arrivals := 0#32, delivered := 0#32 })] } } :=
  ⟨onTask_balanced, rfl⟩

/-- The premises of `Obligations.MailboxSendsAndAcks` hold together: clause by clause, of these states and operands. -/
theorem witness_MailboxSendsAndAcks :
  (
    let c : Mbox := 1023
    let m : Master := 99
    let s : State := { onS with mbox := { ch := [(1023, { sent := 0xFFFFFFFF#32, stage := [(1, 1#24), (15, 0xFFFFFF#24)] })] } }
    let x := s.mbox.row c
    (m.val < 99 ∨ m.val = 99 ∧ s.debugOpen = true) ∧
        (s.mbox.maySend m c = true) ∧
        (x.full = false) ∧
        (s.mbox.mayAck m c = true)) ∧
  (
    let c : Mbox := 1023
    let m : Master := 0
    let s : State := { onS with mbox := { locked := true, ch := [(1023, { full := true, valid := true, sender := 0#7, receiver := 0#7, refused := 0xFFFFFFFF#32 })] } }
    let x := s.mbox.row c
    (m.val < 99 ∨ m.val = 99 ∧ s.debugOpen = true) ∧
        (s.mbox.maySend m c = true) ∧
        (x.full = true) ∧
        (s.mbox.mayAck m c = true)) ∧
  (
    let c : Mbox := 1023
    let m : Master := 1
    let s : State := { onS with mbox := { locked := true, ch := [(1023, { full := true, valid := true, sender := 0#7, receiver := 0#7 })] } }
    (m.val < 99 ∨ m.val = 99 ∧ s.debugOpen = true) ∧
        (s.mbox.maySend m c = false) ∧
        (s.mbox.mayAck m c = false)) ∧
  (
    let c : Mbox := 1023
    let m : Master := 95
    let s : State := { onS with mbox := { locked := true, ch := [(1023, { full := false, valid := true, sender := 95#7, receiver := 95#7, stray := 0xFFFFFFFF#32 })] } }
    let x := s.mbox.row c
    (m.val < 99 ∨ m.val = 99 ∧ s.debugOpen = true) ∧
        (s.mbox.maySend m c = true) ∧
        (x.full = false)) ∧
  (
    let c : Mbox := 1023
    let m : Master := 99
    let s : State := onS
    let x := s.mbox.row c
    (m.val < 99 ∨ m.val = 99 ∧ s.debugOpen = true) ∧
        (s.mbox.maySend m c = true) ∧
        (x.full = false)) ∧
  (
    let m : Master := 99
    let s : State := { onS with sec := { fuse := { lc := 2 } } }
    (m.val = 99) ∧
        (s.debugOpen = false)) := by
  refine ⟨?_, ?_, ?_, ?_, ?_, ?_⟩ <;> (decide +kernel)

/-- The premises of `Obligations.MailboxLockAndCrossings` hold together: clause by clause, of these states and operands. -/
theorem witness_MailboxLockAndCrossings :
  (
    let a : Mbox := 0
    let b : Mbox := 1023
    let s : State := onS
    let m : Master := 7
    (m.val < 8 ∨ m = 98) ∧
        (s.crossing a b = false)) ∧
  (
    let m : Master := 0
    (m.val < 8 ∨ m = 98)) ∧
  (
    let m : Master := 98
    (m.val < 8 ∨ m = 98)) ∧
  (
    let m : Master := 8
    (8 ≤ m.val) ∧
        (m ≠ 98)) ∧
  (
    let m : Master := 99
    (8 ≤ m.val) ∧
        (m ≠ 98)) ∧
  (
    let m : Master := 97
    (8 ≤ m.val) ∧
        (m ≠ 98)) ∧
  (
    let m : Master := 97
    (8 ≤ m.val) ∧
        (m ≠ 98)) := by
  refine ⟨?_, ?_, ?_, ?_, ?_, ?_, ?_⟩ <;> (decide +kernel)
/-- Two engines that wait for each other's full mailboxes. -/
def onCrossed : State :=
  { ((onS.setEng 0 { run := .waitE, evm := 0x020000#24 }).setEng 95 { run := .waitE, evm := 0x020000#24 }) with
    mbox := { locked := true, crossLimit := 1,
              ch := [(0, { full := true, valid := true, sender := 0#7, receiver := 95#7 }),
                     (1023, { full := true, valid := true, sender := 95#7, receiver := 0#7 })] } }
theorem witness_MailboxLockAndCrossings_crossing :
    onCrossed.crossing 0 1023 = true ∧ onCrossed.mbox.crossLimit ≠ 0 ∧ ∀ e, (onCrossed.eng e).crossed = [] := by
  refine ⟨by decide +kernel, by decide +kernel, fun e => ?_⟩
  by_cases h0 : e = 0
  · subst h0; rfl
  · by_cases h1 : e = 95
    · subst h1; rfl
    · simp [onCrossed, State.eng, State.setEng, onS, Tab.look, Tab.put, Ne.symm h0, Ne.symm h1]

/-- The premises of `Obligations.MailboxAccounts` hold: with a full last channel, and with every channel empty and the table locked. -/
theorem witness_MailboxAccounts :
    ({ onS with mbox := { ch := [(1023, { full := true, sent := 1 })] } } : State).mailBalanced ∧
    ({ onS with mbox := { locked := true } } : State).mailBalanced := by
  refine ⟨fun n => ?_, fun n => rfl⟩
  by_cases h : n = 1023
  · subst h; rfl
  · simp [Mailboxes.row, Tab.look, Ne.symm h]

/-- The premises of `Obligations.MortarSubmissions` hold together: clause by clause, of these states and operands. -/
theorem witness_MortarSubmissions :
  (
    let e : Eng := 95
    let v : W32 := 0
    let s : State := { engS 95 { submitLo := 0x1000#24 } with mem := ([(0x1000, 1#8), (0x1004, 1#8)]) }
    let m : Master := 8
    let a := (v.extractLsb' 0 11 ++ (s.eng e).submitLo : BitVec 35).toNat
    let t := e.val / 8
    let d := readJobDesc (s.devBytes a 32)
    let q := s.mortar.row t
    (a % 32 = 0) ∧
        (a + 31 < 0x370000000) ∧
        (q.jobs.length < 8) ∧
        (s.jobStatus d (decide (e.val < 8)) = 0) ∧
        (s.fw m = false)) ∧
  (
    let e : Eng := 0
    let v : W32 := 0x36F#32
    let s : State := { (engS 7 { submit12Hi := 3#3 }) with engines := [(0, { submitLo := 0xFFFFE0#24 }), (7, { submit12Hi := 3#3 })], mortar := { input := [(0, { jobs := List.replicate 8 ({ kind := .seal 0 }) })] } }
    let a := (v.extractLsb' 0 11 ++ (s.eng e).submitLo : BitVec 35).toNat
    let t := e.val / 8
    let q := s.mortar.row t
    (a % 32 = 0) ∧
        (a + 31 < 0x370000000) ∧
        (8 ≤ q.jobs.length)) ∧
  (
    let s : State := onS
    let e : Eng := 1
    let v : W32 := 0x370#32
    let a := (v.extractLsb' 0 11 ++ (s.eng e).submitLo : BitVec 35).toNat
    (a % 32 ≠ 0 ∨ 0x370000000 ≤ a + 31)) ∧
  (
    let e : Eng := 1
    let v : W32 := 0
    let s : State := onS.setEng 1 { submitLo := 0x10#24 }
    let a := (v.extractLsb' 0 11 ++ (s.eng e).submitLo : BitVec 35).toNat
    (a % 32 ≠ 0 ∨ 0x370000000 ≤ a + 31)) ∧
  (
    let m : Master := 7
    let v : W32 := 0x1000#32
    let s : State := { onS with mem := ([(0x1000, 1#8), (0x1004, 1#8)]) }
    let b := ((s.eng m).submit12Hi ++ v : BitVec 35).toNat
    let d2 := readJobDesc (s.devBytes b 32)
    let p := s.mortar.row 12
    (m.val < 8) ∧
        (b % 32 = 0) ∧
        (b + 31 < 0x370000000) ∧
        (p.jobs.length < 8) ∧
        (s.jobStatus d2 false = 0)) ∧
  (
    let m : Master := 7
    let v : W32 := 0x6FFFFFE0#32
    let s : State := { onS with mem := [(0x36FFFFFE0, 1#8), (0x36FFFFFE4, 1#8)], engines := [(7, { submit12Hi := 3#3, submitLo := 0xFFFFE0#24 })] }
    let b := ((s.eng m).submit12Hi ++ v : BitVec 35).toNat
    let d2 := readJobDesc (s.devBytes b 32)
    let p := s.mortar.row 12
    (m.val < 8) ∧
        (b % 32 = 0) ∧
        (b + 31 < 0x370000000) ∧
        (p.jobs.length < 8) ∧
        (s.jobStatus d2 false = 0)) := by
  refine ⟨?_, ?_, ?_, ?_, ?_, ?_⟩ <;> (decide +kernel)

/-- The premises of `Obligations.MortarCompletionsAndStarvation` hold together: clause by clause, of these states and operands. -/
theorem witness_MortarCompletionsAndStarvation :
  (
    let u : Fin 10 := 9
    let n : Nat := 14
    let h : Job := ({ kind := .soft 1 0 8 0 0x36FFFFF98#35 0, unit := some 9, tag := 0xFFFF#16 })
    let len : Nat := 8
    let src : DevAddr := 0
    let dst : DevAddr := 0x36FFFFF98#35
    let s : State := { onS with mortar := { input := [(14, { jobs := [({ kind := .soft 1 0 8 0 0x36FFFFF98#35 0, unit := some 9, tag := 0xFFFF#16 })] })] } }
    (s.mortar.holder u = some (n, h)) ∧
        (h.kind = .soft 1 0 len src dst 0) ∧
        (h.engine = none) ∧
        (h.host = none) ∧
        ((∀ l, (s.lane l).sealHeld = false ∧ (s.lane l).signHeld = false)) ∧
        (dst.toNat + 0x68 ≤ 0x370000000)) ∧
  (
    let i : Fin 15 := 0
    let j : Job := (({ kind := .soft 1 0 8 0 0 0 } : Job))
    let rest : List Job := [(({ kind := .soft 1 0 8 0 0 0 } : Job))]
    let s : State := { onS with mortar := { input := [(0, { jobs := [(({ kind := .soft 1 0 8 0 0 0 } : Job)), (({ kind := .soft 1 0 8 0 0 0 } : Job))] })] } }
    ((s.mortar.row i).jobs = j :: rest) ∧
        (j.unit = none) ∧
        ((∀ k ∈ rest, k.unit = none → k.age s.tnow ≤ j.age s.tnow))) ∧
  (
    let i : Fin 15 := 14
    let j : Job := (({ kind := .soft 1 0 8 0 0 0 } : Job))
    let rest : List Job := [(({ kind := .soft 1 0 8 0 0 0 } : Job))]
    let s : State := { onS with mortar := { input := [(14, { jobs := [(({ kind := .soft 1 0 8 0 0 0 } : Job)), (({ kind := .soft 1 0 8 0 0 0 } : Job))] })] } }
    ((s.mortar.row i).jobs = j :: rest) ∧
        (j.unit = none) ∧
        ((∀ k ∈ rest, k.unit = none → k.age s.tnow ≤ j.age s.tnow))) := by
  refine ⟨?_, ?_, ?_⟩
  · and_intros <;> first | decide +kernel | (exact fun l => ⟨rfl, rfl⟩)
  · decide +kernel
  · decide +kernel

/-- The premises of `Obligations.SlotTables` hold together: clause by clause, of these states and operands. -/
theorem witness_SlotTables :
  (
    let m : Master := 0
    let v : W32 := 0
    let s : State := { onS with slots := { a := [(0, 1#3)], cur := 127#7 } }
    (s.fw m = true) ∧
        (s.slots.hasSix (v.getLsbD 0) = true)) ∧
  (
    let r : DramRequest := { access := .hod, lastCourse := true, bytes := 4097, since := 0 }
    let s : State := { onS with slots := { a := [(0, 5#3)], cur := 127#7, swapPending := true, sel := true }, holdup := { declared := true } }
    (r.lastCourse = true) ∧
        (s.holdup.declared = true) ∧
        (s.holdup.lcOver = false)) ∧
  (
    let m : Master := 0
    let v : W32 := 0
    let s : State := { onS with slots := { b := [(127, 1#3)], cur := 126#7, active := true } }
    (s.fw m = true) ∧
        (s.slots.hasSix (v.getLsbD 0) = true)) ∧
  (
    let m : Master := 0
    let v : W32 := 0
    let s : State := { onS with slots := { b := [(127, 2#3)], cur := 126#7, active := true } }
    (s.fw m = true) ∧
        (s.slots.hasSix (v.getLsbD 0) = true)) ∧
  (
    let m : Master := 0
    let v : W32 := 1
    let s : State := { onS with slots := { b := (List.range 128).map fun i => (i, 1#3) } }
    (s.fw m = true) ∧
        (s.slots.hasSix (v.getLsbD 0) = false)) ∧
  (
    let s : State := onS
    let m : Master := 8
    (s.fw m = false)) ∧
  (
    let s : State := onS
    let m : Master := 7
    let v : W32 := 0xFFFFFFFE#32
    (s.fw m = true) ∧
        (s.slots.hasSix (v.getLsbD 0) = true)) := by
  refine ⟨?_, ?_, ?_, ?_, ?_, ?_, ?_⟩ <;> (decide +kernel)

/-- The premises of `Obligations.HostQueues` hold together: clause by clause, of these states and operands. -/
theorem witness_HostQueues :
  (
    let v : W32 := 0
    let q : QueueId := 1023
    let m : Master := 96
    let s : State := { onS with rings := { pair := [(1023, (({ size := 2#17, maxXfer := 0x10000#25 } : Pair)))] } }
    let p := s.pair q
    let n := p.size.toNat
    let i := v.toNat % 65536
    (m.val < 8 ∨ m = 96) ∧
        (p.en = false) ∧
        (p.enableOk = true) ∧
        (p.recover = false) ∧
        (p.en = false ∨ n ≤ i)) ∧
  (
    let q : QueueId := 1023
    let m : Master := 0
    let s : State := { onS with rings := { pair := [(1023, { size := 3#17, maxXfer := 0x10000#25 })] } }
    let p := s.pair q
    (m.val < 8 ∨ m = 96) ∧
        (p.en = false) ∧
        (p.enableOk = false)) ∧
  (
    let q : QueueId := 1023
    let m : Master := 7
    let v : W32 := 0xFFFF#32
    let s : State := { onS with rings := { pair := [(1023, { (({ size := 0x10000#17, maxXfer := 0x1000000#25, en := true } : Pair)) with takenPos := 5#32, covered := 5#32, posted := 4#32, entries := [{ pos := 4#32, raw := 0, handed := true }, { pos := 5#32, raw := 0 }] })] } }
    let p := s.pair q
    let n := p.size.toNat
    let i := v.toNat % 65536
    (m.val < 8 ∨ m = 96) ∧
        (p.en = true) ∧
        (p.enableOk = true) ∧
        (i < n) ∧
        ((p.slot p.takenPos + n - p.slot p.posted) % n ≤ (i + n - p.slot p.posted) % n)) ∧
  (
    let q : QueueId := 1023
    let m : Master := 7
    let v : W32 := 5
    let s : State := { onS with rings := { pair := [(1023, { (({ size := 0x10000#17, maxXfer := 0x1000000#25, en := true } : Pair)) with takenPos := 5#32, covered := 5#32, posted := 5#32, cqHead := 5#32 })] } }
    let p := s.pair q
    let n := p.size.toNat
    let i := v.toNat % 65536
    (m.val < 8 ∨ m = 96) ∧
        (p.en = true) ∧
        (p.enableOk = true) ∧
        (i < n) ∧
        ((i + n - p.slot p.cqHead) % n ≤ (p.posted - p.cqHead).toNat)) ∧
  (
    let q : QueueId := 1023
    let m : Master := 7
    let v : W32 := 4
    let s : State := { onS with rings := { pair := [(1023, { (({ size := 0x10000#17, maxXfer := 0x1000000#25, en := true } : Pair)) with takenPos := 5#32, covered := 5#32, posted := 5#32, cqHead := 4#32 })] } }
    let p := s.pair q
    let n := p.size.toNat
    let i := v.toNat % 65536
    (m.val < 8 ∨ m = 96) ∧
        (p.en = true) ∧
        (p.enableOk = true) ∧
        (i < n) ∧
        ((i + n - p.slot p.cqHead) % n ≤ (p.posted - p.cqHead).toNat)) ∧
  (
    let q : QueueId := 0
    let m : Master := 96
    let v : W32 := 2
    let s : State := { onS with rings := { pair := [(0, { (({ size := 2#17, maxXfer := 0x10000#25 } : Pair)) with en := true })] } }
    let p := s.pair q
    let n := p.size.toNat
    let i := v.toNat % 65536
    (m.val < 8 ∨ m = 96) ∧
        (p.en = false ∨ n ≤ i)) ∧
  (
    let q : QueueId := 0
    let m : Master := 96
    let v : W32 := 1
    let s : State := { onS with rings := { pair := [(0, { (({ size := 2#17, maxXfer := 0x10000#25 } : Pair)) with en := true, posted := 0x80000001#32, takenPos := 0x80000001#32, covered := 0x80000001#32, cqHead := 0x80000000#32 })] } }
    let p := s.pair q
    let n := p.size.toNat
    let i := v.toNat % 65536
    (m.val < 8 ∨ m = 96) ∧
        (p.en = true) ∧
        (p.enableOk = true) ∧
        (i < n) ∧
        ((i + n - p.slot p.cqHead) % n ≤ (p.posted - p.cqHead).toNat)) := by
  refine ⟨?_, ?_, ?_, ?_, ?_, ?_, ?_⟩ <;> (decide +kernel)

/-- The premises of `Obligations.EntriesTakenAndPosted` hold together: clause by clause, of these states and operands. -/
theorem witness_EntriesTakenAndPosted :
  (
    let e : TakenEntry := ({ pos := 4#32, raw := 0, done := some { status := 0 } })
    let d : RingDone := ({ status := 0 })
    let rest : List TakenEntry := []
    let q : QueueId := 1023
    let s : State := { onS with iface := { linkDown := 0 }, rings := { pair := [(1023, { (({ size := 0x10000#17, maxXfer := 0x1000000#25, en := true, credit := 5, burst := 3 } : Pair)) with takenPos := 5#32, covered := 9#32, posted := 4#32, entries := [({ pos := 4#32, raw := 0, done := some { status := 0 } })] })] } }
    let p := s.pair q
    (s.iface.linkDown.getLsbD 4 = false) ∧
        (p.entries = e :: rest) ∧
        (e.done = some d) ∧
        ((p.txn = false → eOp e.raw = 6 → ∀ x ∈ s.journal.line, x.1 ≠ bits e.raw 80 8))) ∧
  (
    let e : TakenEntry := ({ pos := 4#32, raw := 0, done := some { status := 0 } })
    let d : RingDone := ({ status := 0 })
    let rest : List TakenEntry := []
    let q : QueueId := 0
    let s : State := { onS with iface := { linkDown := 0 }, rings := { cursor := 1, pair := [(0, { (({ size := 0x10000#17, maxXfer := 0x1000000#25, en := true, credit := 5, burst := 3 } : Pair)) with takenPos := 5#32, covered := 6#32, irqEn := true, irqGroup := 31, posted := 4#32, entries := [({ pos := 4#32, raw := 0, done := some { status := 0 } })] })] } }
    let p := s.pair q
    (s.iface.linkDown.getLsbD 4 = false) ∧
        (p.entries = e :: rest) ∧
        (e.done = some d) ∧
        ((p.txn = false → eOp e.raw = 6 → ∀ x ∈ s.journal.line, x.1 ≠ bits e.raw 80 8))) ∧
  (
    let d : RingDone := ({ status := 0 })
    let rest : List TakenEntry := []
    let q : QueueId := 1023
    let e : TakenEntry := ({ pos := 4#32, raw := 6 + 255 * 2^80, done := some { status := 0 } })
    let s : State := { onS with iface := { linkDown := 0 }, journal := { line := [(255, {})] }, rings := { pair := [(1023, { (({ size := 0x10000#17, maxXfer := 0x1000000#25, en := true, credit := 5, burst := 3 } : Pair)) with takenPos := 5#32, covered := 9#32, posted := 4#32, entries := [({ pos := 4#32, raw := 6 + 255 * 2^80, done := some { status := 0 } })] })] } }
    let p := s.pair q
    (s.iface.linkDown.getLsbD 4 = false) ∧
        (p.entries = e :: rest) ∧
        (e.done = some d) ∧
        (p.txn = false) ∧
        (eOp e.raw = 6) ∧
        ((∃ x ∈ s.journal.line, x.1 = bits e.raw 80 8))) := by
  refine ⟨?_, ?_, ?_⟩ <;> (decide +kernel)
theorem witness_EntriesTakenAndPosted_turn :
    let q : QueueId := 1023
    let s : State := { onS with
      iface := { linkDown := 0 }
      rings := { pair := [(1023, { size := 0x10000#17, maxXfer := 0x1000000#25, en := true, credit := 5, burst := 3, takenPos := 5#32,
                                   covered := 9#32, posted := 4#32,
                                   entries := [{ pos := 4#32, raw := 0, done := some { status := 0 } }] })] } }
    s.iface.linkDown.getLsbD 4 = false ∧ Tab.Rising s.rings.pair ∧ q.val < s.rings.cursor ∧ 0 < (s.pair q).turn ∧
      ∀ k, q.val < k → k < s.rings.cursor → (s.pair k).turn = 0 := by
  refine ⟨by decide +kernel, ⟨fun d h => (by cases h), trivial⟩, by decide +kernel, by decide +kernel, ?_⟩
  intro k h1 h2
  exact absurd h2 (Nat.not_lt.mpr h1)

/-- The premises of `Obligations.NativeEntries` hold together: clause by clause, of these states and operands. -/
theorem witness_NativeEntries :
  (
    let q : QueueId := 1023
    let rest : List TakenEntry := []
    let e : TakenEntry := (entryE 1)
    let s : State := entryS 1023 false [(entryE 1)]
    (s.firstEntry q 1 e rest)) ∧
  (
    let q : QueueId := 0
    let e : TakenEntry := (entryE 0xFFFF00000001)
    let rest : List TakenEntry := [{ pos := 4#32, no := 8, raw := 0 }]
    let s : State := entryS 0 false [(entryE 0xFFFF00000001), { pos := 4#32, no := 8, raw := 0 }]
    (s.firstEntry q 1 e rest)) ∧
  (
    let q : QueueId := 1023
    let rest : List TakenEntry := []
    let e : TakenEntry := (entryE (2 + 0xFFFFF * 2^32 + 0xFFFF * 2^64 + 1 * 2^96 + 0x1000 * 2^256 + 0x36FFFFFE0 * 2^320 + 0x123456789ABCDEF0 * 2^384))
    let s : State := { entryS 1023 false [(entryE (2 + 0xFFFFF * 2^32 + 0xFFFF * 2^64 + 1 * 2^96 + 0x1000 * 2^256 + 0x36FFFFFE0 * 2^320 + 0x123456789ABCDEF0 * 2^384))] with ctx := { restoreDone := true, table := [(0xFFFFF, { state := 1, gen := 0xFFFF#16 })] } }
    let c := eCtx e.raw
    let r := s.ctxRec c
    (s.firstEntry q 2 e rest) ∧
        (c ≠ 0) ∧
        (r.gen = eGen e.raw) ∧
        (r.course = false) ∧
        (r.state = 1 ∨ r.state = 2 ∨ r.state = 3) ∧
        (s.claimable c = true) ∧
        (bits (e.raw.extractLsb' 320 40) 0 5 = 0) ∧
        (rangeOk true (e.raw.extractLsb' 320 40) 32 true = true)) ∧
  (
    let q : QueueId := 1023
    let rest : List TakenEntry := []
    let e : TakenEntry := (entryE (2 + 1 * 2^32 + 0x8000001000 * 2^256 + 0x8000000020 * 2^320))
    let s : State := { entryS 1023 false [(entryE (2 + 1 * 2^32 + 0x8000001000 * 2^256 + 0x8000000020 * 2^320))] with ctx := { restoreDone := true, table := [(1, { state := 3 })] } }
    let c := eCtx e.raw
    let r := s.ctxRec c
    (s.firstEntry q 2 e rest) ∧
        (c ≠ 0) ∧
        (r.gen = eGen e.raw) ∧
        (r.course = false) ∧
        (r.state = 1 ∨ r.state = 2 ∨ r.state = 3) ∧
        (s.claimable c = true) ∧
        (bits (e.raw.extractLsb' 320 40) 0 5 = 0) ∧
        (rangeOk true (e.raw.extractLsb' 320 40) 32 true = true)) ∧
  (
    let q : QueueId := 1023
    let rest : List TakenEntry := []
    let e : TakenEntry := (entryE (3 + 0xFFFFF * 2^32 + 0xFFFF * 2^64 + 9 * 2^160))
    let s : State := { entryS 1023 false [(entryE (3 + 0xFFFFF * 2^32 + 0xFFFF * 2^64 + 9 * 2^160))] with ctx := { restoreDone := true, table := [(0xFFFFF, { state := 1, course := true, gen := 0xFFFF#16 })] } }
    let c := eCtx e.raw
    let r := s.ctxRec c
    (s.firstEntry q 3 e rest) ∧
        (c ≠ 0) ∧
        (r.gen = eGen e.raw) ∧
        ((bits e.raw 160 4 = 2 → s.razes c = false ∧ r.state ≠ 4)) ∧
        (r.course = true) ∧
        (r.suspended = false)) ∧
  (
    let q : QueueId := 1023
    let rest : List TakenEntry := []
    let e : TakenEntry := (entryE (4 + 1 * 2^32))
    let s : State := { entryS 1023 false [(entryE (4 + 1 * 2^32))] with ctx := { restoreDone := true, table := [(1, { state := 1, course := true })] }, courses := { held := [(1, { word := some 0 })] } }
    let c := eCtx e.raw
    let r := s.ctxRec c
    (s.firstEntry q 4 e rest) ∧
        (c ≠ 0) ∧
        (r.gen = eGen e.raw) ∧
        (r.course = true) ∧
        (r.suspended = false) ∧
        ((s.course c).wait = none) ∧
        ((s.course c).word.isSome = true)) ∧
  (
    let q : QueueId := 1023
    let rest : List TakenEntry := []
    let e : TakenEntry := (entryE (5 + 1 * 2^32 + 1 * 2^160))
    let s : State := { entryS 1023 false [(entryE (5 + 1 * 2^32 + 1 * 2^160))] with ctx := { restoreDone := true, table := [(1, { state := 2 })] } }
    let c := eCtx e.raw
    let r := s.ctxRec c
    (s.firstEntry q 5 e rest) ∧
        (c ≠ 0) ∧
        (r.gen = eGen e.raw) ∧
        (r.course = false) ∧
        (r.state = 2 ∨ r.state = 3) ∧
        (s.claimable c = true) ∧
        ((∀ x ∈ s.courses.held, x.1 ≠ c → s.ctx.setOf x.1 ≠ s.ctx.setOf c))) ∧
  (
    let q : QueueId := 1023
    let rest : List TakenEntry := []
    let e : TakenEntry := (entryE (5 + 1 * 2^32))
    let s : State := { entryS 1023 false [(entryE (5 + 1 * 2^32))] with ctx := { restoreDone := true, table := [(1, { state := 3, hold := true })] } }
    let c := eCtx e.raw
    let r := s.ctxRec c
    (s.firstEntry q 5 e rest) ∧
        (c ≠ 0) ∧
        (r.gen = eGen e.raw) ∧
        (r.course = false) ∧
        (r.state = 2 ∨ r.state = 3) ∧
        (s.claimable c = true) ∧
        ((∀ x ∈ s.courses.held, x.1 ≠ c → s.ctx.setOf x.1 ≠ s.ctx.setOf c))) ∧
  (
    let q : QueueId := 1023
    let rest : List TakenEntry := []
    let e : TakenEntry := (entryE (6 + 255 * 2^80 + 5 * 2^128 + 0x1000 * 2^192))
    let h : HostRead := [(0x1000, [1, 2, 3, 4, 5])]
    let s : State := { entryS 1023 false [(entryE (6 + 255 * 2^80 + 5 * 2^128 + 0x1000 * 2^192))] with lanes := [(255, { active := true, share := 5, obj := some (chainS 5 8) })] }
    let handed := { e with started := true, handed := true }
    let l := bits e.raw 80 8
    let n := bits e.raw 128 32
    let o := (s.withFirst q handed rest).offerUnits l (unitsOfBytes (s.hostBytes h (bits e.raw 192 64) n) (n / 65536 + 1))
    (s.firstEntry q 6 e rest) ∧
        (s.olderWrite l e.no = false) ∧
        (s.laneType l = 8) ∧
        (s.holdup.declared = true ∨ s.tilePowered 8 = true) ∧
        ((s.lane l).active = true) ∧
        ((s.lane l).ingest = none) ∧
        (0 < n) ∧
        (n ≤ (s.pair q).maxXfer.toNat) ∧
        (o.2.2 = 0) ∧
        (o.2.1 = n)) ∧
  (
    let q : QueueId := 1023
    let rest : List TakenEntry := []
    let e : TakenEntry := (entryE (6 + 0 * 2^80 + 1 * 2^128 + 0x1000 * 2^192))
    let h : HostRead := []
    let s : State := { entryS 1023 false [(entryE (6 + 0 * 2^80 + 1 * 2^128 + 0x1000 * 2^192))] with lanes := [(0, { active := true, share := 100000, obj := some (chainS 5 8) })] }
    let handed := { e with started := true, handed := true }
    let l := bits e.raw 80 8
    let n := bits e.raw 128 32
    let o := (s.withFirst q handed rest).offerUnits l (unitsOfBytes (s.hostBytes h (bits e.raw 192 64) n) (n / 65536 + 1))
    (s.firstEntry q 6 e rest) ∧
        (s.olderWrite l e.no = false) ∧
        (s.laneType l = 8) ∧
        (s.holdup.declared = true ∨ s.tilePowered 8 = true) ∧
        ((s.lane l).active = true) ∧
        ((s.lane l).ingest = none) ∧
        (0 < n) ∧
        (n ≤ (s.pair q).maxXfer.toNat) ∧
        (o.2.2 = 0) ∧
        (o.2.1 = n)) ∧
  (
    let q : QueueId := 1023
    let rest : List TakenEntry := []
    let e : TakenEntry := (entryE (7 + 0x36FFFFFE0 * 2^256))
    let s : State := { entryS 1023 false [(entryE (7 + 0x36FFFFFE0 * 2^256))] with mem := [(0x36FFFFFE0, 1#8), (0x36FFFFFE4, 1#8)] }
    let a := bits e.raw 256 40
    let d := readJobDesc (s.devBytes a 32)
    let w := s.mortar.row 13
    (s.firstEntry q 7 e rest) ∧
        (w.jobs.length < 8) ∧
        (a % 32 = 0) ∧
        (a + 31 < 0x370000000) ∧
        (s.jobStatus d false = 0)) ∧
  (
    let q : QueueId := 1023
    let e : TakenEntry := (entryE (3 + 1 * 2^32 + 2 * 2^160))
    let rest : List TakenEntry := []
    let s : State := { entryS 1023 false [(entryE (3 + 1 * 2^32 + 2 * 2^160))] with ctx := { restoreDone := true, table := [(1, { state := 3, course := true })] }, courses := { held := [(1, { wait := some (.raze 1), word := some 0 })] } }
    let c := eCtx e.raw
    let r := s.ctxRec c
    (s.firstEntry q 3 e rest) ∧
        (c ≠ 0) ∧
        (r.gen = eGen e.raw) ∧
        (bits e.raw 160 4 = 2) ∧
        (s.razes c = true)) := by
  refine ⟨?_, ?_, ?_, ?_, ?_, ?_, ?_, ?_, ?_, ?_, ?_, ?_⟩ <;> first | (unfold State.firstEntry; decide +kernel) | (and_intros <;> first | decide +kernel | (unfold State.firstEntry; decide +kernel))

/-- The premises of `Obligations.TransactionWords` hold together: clause by clause, of these states and operands. -/
theorem witness_TransactionWords :
  (
    let q : QueueId := 1023
    let e : TakenEntry := (entryE 0xFFFF00000001)
    let s : State := entryS 1023 true [(entryE 0xFFFF00000001)]
    let w := e.raw
    let n := bits w 64 32
    let arg : W64 := w.extractLsb' 160 64
    (e.done = none) ∧
        (s.kxEntry q 1 = some e) ∧
        (n = 0 ∨ devRangeOk (bits arg 0 35) n true = true)) ∧
  (
    let q : QueueId := 1023
    let h : HostRead := []
    let e : TakenEntry := (entryE (0x10 + 9 * 2^32 + 1 * 2^36 + 60 * 2^64 + 0x1000 * 2^96))
    let s : State := { entryS 1023 true [(entryE (0x10 + 9 * 2^32 + 1 * 2^36 + 60 * 2^64 + 0x1000 * 2^96))] with iface := { linkDown := 0, ethMode := [(9, 1)], ethUp := 0x3FF#10 } }
    let w := e.raw
    let n := bits w 64 32
    let u := bits w 32 4
    let sub := bits w 36 4
    let a : W64 := w.extractLsb' 96 64
    let mk := fun (op sel : Nat) (param : W64) (d : Bytes) (segs : List (BitVec 40 × Nat)) =>
      ({ owner := .entry q e.pos, op := op, sel := BitVec.ofNat 24 sel, param := param, count := n, base := a, segs := segs, data := d } : RawOp)
    (e.done = none) ∧
        (s.kxEntry q 0x10 = some e ∧ s.holdup.declared = false ∧ s.rawCheck (mk 0x20 u (BitVec.ofNat 64 (sub % 2)) (s.hostBytes h a.toNat n) []) = 0)) ∧
  (
    let q : QueueId := 1023
    let e : TakenEntry := (entryE (0x11 + 0 * 2^32 + 0 * 2^36 + 1518 * 2^64 + 0x1000 * 2^96))
    let s : State := { entryS 1023 true [(entryE (0x11 + 0 * 2^32 + 0 * 2^36 + 1518 * 2^64 + 0x1000 * 2^96))] with iface := { linkDown := 0, ethMode := [(0, 1)], ethUp := 0x3FF#10 } }
    let w := e.raw
    let n := bits w 64 32
    let u := bits w 32 4
    let sub := bits w 36 4
    let a : W64 := w.extractLsb' 96 64
    let room : List (BitVec 40 × Nat) := [(0x8000000000, n)]
    let mk := fun (op sel : Nat) (param : W64) (d : Bytes) (segs : List (BitVec 40 × Nat)) =>
      ({ owner := .entry q e.pos, op := op, sel := BitVec.ofNat 24 sel, param := param, count := n, base := a, segs := segs, data := d } : RawOp)
    (e.done = none) ∧
        (s.kxEntry q 0x11 = some e ∧ s.holdup.declared = false ∧ s.rawCheck (mk 0x20 (u + 16) (BitVec.ofNat 64 (sub % 2)) [] room) = 0)) ∧
  (
    let q : QueueId := 1023
    let e : TakenEntry := (entryE (0x20 + 3 * 2^32 + 0 * 2^36 + 512 * 2^64 + 0x1000 * 2^96 + 0x36FFFFE00 * 2^160))
    let h : HostRead := [(0x1000, [2])]
    let s : State := entryS 1023 true [(entryE (0x20 + 3 * 2^32 + 0 * 2^36 + 512 * 2^64 + 0x1000 * 2^96 + 0x36FFFFE00 * 2^160))]
    let w := e.raw
    let n := bits w 64 32
    let u := bits w 32 4
    let sub := bits w 36 4
    let a : W64 := w.extractLsb' 96 64
    let arg : W64 := w.extractLsb' 160 64
    let mk := fun (op sel : Nat) (param : W64) (d : Bytes) (segs : List (BitVec 40 × Nat)) =>
      ({ owner := .entry q e.pos, op := op, sel := BitVec.ofNat 24 sel, param := param, count := n, base := a, segs := segs, data := d } : RawOp)
    (e.done = none) ∧
        (n = 0 ∨ devRangeOk (bits arg 0 35) n true = true) ∧
        (s.kxEntry q 0x20 = some e ∧ s.holdup.declared = false ∧ s.rawCheck (mk 0x21 (u + 4 * (sub % 2)) arg (s.hostBytes h a.toNat 64) [(arg.setWidth 40, n)]) = 0)) ∧
  (
    let q : QueueId := 1023
    let e : TakenEntry := (entryE (0x20 + 0 * 2^32 + 1 * 2^36 + 0 * 2^64 + 0x1000 * 2^96))
    let h : HostRead := [(0x1000, [6])]
    let s : State := entryS 1023 true [(entryE (0x20 + 0 * 2^32 + 1 * 2^36 + 0 * 2^64 + 0x1000 * 2^96))]
    let w := e.raw
    let n := bits w 64 32
    let u := bits w 32 4
    let sub := bits w 36 4
    let a : W64 := w.extractLsb' 96 64
    let arg : W64 := w.extractLsb' 160 64
    let mk := fun (op sel : Nat) (param : W64) (d : Bytes) (segs : List (BitVec 40 × Nat)) =>
      ({ owner := .entry q e.pos, op := op, sel := BitVec.ofNat 24 sel, param := param, count := n, base := a, segs := segs, data := d } : RawOp)
    (e.done = none) ∧
        (n = 0 ∨ devRangeOk (bits arg 0 35) n true = true) ∧
        (s.kxEntry q 0x20 = some e ∧ s.holdup.declared = false ∧ s.rawCheck (mk 0x21 (u + 4 * (sub % 2)) arg (s.hostBytes h a.toNat 64) [(arg.setWidth 40, n)]) = 0)) ∧
  (
    let q : QueueId := 1023
    let e : TakenEntry := (entryE (0x30 + 7 * 2^32 + 7 * 2^36 + 1024 * 2^64 + 0x1000 * 2^96 + 5 * 2^160))
    let s : State := { entryS 1023 true [(entryE (0x30 + 7 * 2^32 + 7 * 2^36 + 1024 * 2^64 + 0x1000 * 2^96 + 5 * 2^160))] with iface := { linkDown := 0, usb := [(7, 0, 512)] } }
    let w := e.raw
    let n := bits w 64 32
    let u := bits w 32 4
    let sub := bits w 36 4
    let a : W64 := w.extractLsb' 96 64
    let arg : W64 := w.extractLsb' 160 64
    let room : List (BitVec 40 × Nat) := [(0x8000000000, n)]
    let mk := fun (op sel : Nat) (param : W64) (d : Bytes) (segs : List (BitVec 40 × Nat)) =>
      ({ owner := .entry q e.pos, op := op, sel := BitVec.ofNat 24 sel, param := param, count := n, base := a, segs := segs, data := d } : RawOp)
    (e.done = none) ∧
        (s.kxEntry q 0x30 = some e ∧ s.holdup.declared = false ∧ s.rawCheck (mk 0x22 (u + 256 * (sub % 8)) arg [] room) = 0)) ∧
  (
    let q : QueueId := 1023
    let e : TakenEntry := (entryE (0x31 + 0 * 2^32 + 0 * 2^36 + 8 * 2^64 + 0x1000 * 2^96))
    let s : State := { entryS 1023 true [(entryE (0x31 + 0 * 2^32 + 0 * 2^36 + 8 * 2^64 + 0x1000 * 2^96))] with iface := { linkDown := 0, usb := [(0, 0, 512)] } }
    let w := e.raw
    let n := bits w 64 32
    let u := bits w 32 4
    let sub := bits w 36 4
    let a : W64 := w.extractLsb' 96 64
    let room : List (BitVec 40 × Nat) := [(0x8000000000, n)]
    let mk := fun (op sel : Nat) (param : W64) (d : Bytes) (segs : List (BitVec 40 × Nat)) =>
      ({ owner := .entry q e.pos, op := op, sel := BitVec.ofNat 24 sel, param := param, count := n, base := a, segs := segs, data := d } : RawOp)
    (e.done = none) ∧
        (s.kxEntry q 0x31 = some e ∧ s.holdup.declared = false ∧ s.rawCheck (mk 0x22 (u + 16 + 256 * (sub % 8)) 0 [] room) = 0)) ∧
  (
    let q : QueueId := 1023
    let e : TakenEntry := (entryE (0x32 + 0 * 2^32 + 0 * 2^36 + 36 * 2^64 + 0x1000 * 2^96))
    let s : State := { entryS 1023 true [(entryE (0x32 + 0 * 2^32 + 0 * 2^36 + 36 * 2^64 + 0x1000 * 2^96))] with iface := { linkDown := 0, usb := [(0, 0, 512)] } }
    let w := e.raw
    let n := bits w 64 32
    let u := bits w 32 4
    let sub := bits w 36 4
    let a : W64 := w.extractLsb' 96 64
    let room : List (BitVec 40 × Nat) := [(0x8000000000, n)]
    let mk := fun (op sel : Nat) (param : W64) (d : Bytes) (segs : List (BitVec 40 × Nat)) =>
      ({ owner := .entry q e.pos, op := op, sel := BitVec.ofNat 24 sel, param := param, count := n, base := a, segs := segs, data := d } : RawOp)
    (e.done = none) ∧
        (s.kxEntry q 0x32 = some e ∧ s.holdup.declared = false ∧ s.rawCheck (mk 0x22 (u + 32 + 256 * (sub % 8)) 0 [] room) = 0)) ∧
  (
    let q : QueueId := 1023
    let e : TakenEntry := (entryE (0x40 + 3 * 2^32 + 0 * 2^36 + 14 * 2^64 + 0x1000 * 2^96))
    let h : HostRead := [(0x1000, [0x01, 2, 0, 0, 0, 1, 0, 0, 7])]
    let s : State := { entryS 1023 true [(entryE (0x40 + 3 * 2^32 + 0 * 2^36 + 14 * 2^64 + 0x1000 * 2^96))] with iface := { linkDown := 0, can := [(3, { mode := 1 })] } }
    let w := e.raw
    let n := bits w 64 32
    let u := bits w 32 4
    let a : W64 := w.extractLsb' 96 64
    let mk := fun (op sel : Nat) (param : W64) (d : Bytes) (segs : List (BitVec 40 × Nat)) =>
      ({ owner := .entry q e.pos, op := op, sel := BitVec.ofNat 24 sel, param := param, count := n, base := a, segs := segs, data := d } : RawOp)
    (e.done = none) ∧
        (s.kxEntry q 0x40 = some e ∧ s.holdup.declared = false ∧ s.rawCheck (mk 0x23 u 0 (s.hostBytes h a.toNat n) []) = 0)) ∧
  (
    let q : QueueId := 1023
    let e : TakenEntry := (entryE (0x41 + 0 * 2^32 + 0 * 2^36 + 14 * 2^64 + 0x1000 * 2^96))
    let s : State := { entryS 1023 true [(entryE (0x41 + 0 * 2^32 + 0 * 2^36 + 14 * 2^64 + 0x1000 * 2^96))] with iface := { linkDown := 0, can := [(0, { mode := 2 })] } }
    let w := e.raw
    let n := bits w 64 32
    let u := bits w 32 4
    let a : W64 := w.extractLsb' 96 64
    let room : List (BitVec 40 × Nat) := [(0x8000000000, n)]
    let mk := fun (op sel : Nat) (param : W64) (d : Bytes) (segs : List (BitVec 40 × Nat)) =>
      ({ owner := .entry q e.pos, op := op, sel := BitVec.ofNat 24 sel, param := param, count := n, base := a, segs := segs, data := d } : RawOp)
    (e.done = none) ∧
        (s.kxEntry q 0x41 = some e ∧ s.holdup.declared = false ∧ s.rawCheck (mk 0x23 (u + 16) 0 [] room) = 0)) ∧
  (
    let q : QueueId := 1023
    let h : HostRead := []
    let e : TakenEntry := (entryE (0x50 + 3 * 2^32 + 0 * 2^36 + 64 * 2^64 + 0x1000 * 2^96))
    let s : State := { entryS 1023 true [(entryE (0x50 + 3 * 2^32 + 0 * 2^36 + 64 * 2^64 + 0x1000 * 2^96))] with iface := { linkDown := 0, tdm := [(3, { role := 1 })] } }
    let w := e.raw
    let n := bits w 64 32
    let u := bits w 32 4
    let a : W64 := w.extractLsb' 96 64
    let mk := fun (op sel : Nat) (param : W64) (d : Bytes) (segs : List (BitVec 40 × Nat)) =>
      ({ owner := .entry q e.pos, op := op, sel := BitVec.ofNat 24 sel, param := param, count := n, base := a, segs := segs, data := d } : RawOp)
    (e.done = none) ∧
        (s.kxEntry q 0x50 = some e ∧ s.holdup.declared = false ∧ s.rawCheck (mk 0x24 u 0 (s.hostBytes h a.toNat n) []) = 0)) ∧
  (
    let q : QueueId := 1023
    let e : TakenEntry := (entryE (0x51 + 0 * 2^32 + 0 * 2^36 + 64 * 2^64 + 0x1000 * 2^96))
    let s : State := { entryS 1023 true [(entryE (0x51 + 0 * 2^32 + 0 * 2^36 + 64 * 2^64 + 0x1000 * 2^96))] with iface := { linkDown := 0, tdm := [(0, { role := 2 })] } }
    let w := e.raw
    let n := bits w 64 32
    let u := bits w 32 4
    let a : W64 := w.extractLsb' 96 64
    let room : List (BitVec 40 × Nat) := [(0x8000000000, n)]
    let mk := fun (op sel : Nat) (param : W64) (d : Bytes) (segs : List (BitVec 40 × Nat)) =>
      ({ owner := .entry q e.pos, op := op, sel := BitVec.ofNat 24 sel, param := param, count := n, base := a, segs := segs, data := d } : RawOp)
    (e.done = none) ∧
        (s.kxEntry q 0x51 = some e ∧ s.holdup.declared = false ∧ s.rawCheck (mk 0x24 (u + 16) 0 [] room) = 0)) := by
  refine ⟨?_, ?_, ?_, ?_, ?_, ?_, ?_, ?_, ?_, ?_, ?_, ?_⟩ <;> (decide +kernel)

/-- The premises of `Obligations.ContextStoreRequests` hold together: clause by clause, of these states and operands. -/
theorem witness_ContextStoreRequests :
  (
    let c : CtxId := 0xFFFFF
    let a : BindArea := { key := 5 }
    let qs : List Claimant := [{ master := 7, tileGen := 0, handle := some 5#16 }, { master := 98, tileGen := 3, handle := none }, { master := 0, tileGen := 0, handle := none }]
    let s : State := { onS with ctx := { restoreDone := true, table := [(0xFFFFF, { state := 2, gen := 5 })] }, bind := { build := some { key := 5 } } }
    (qs ≠ []) ∧
        ((∀ q ∈ qs, s.claimStale c q = false)) ∧
        (s.claimable c = true) ∧
        (s.bind.build = some a) ∧
        (a.stash.length ≤ 48) ∧
        ((∀ e ∈ s.bind.active.all, (a.inBuckets e.key).isSome = true))) ∧
  (
    let c : CtxId := 0xFFFFF
    let x : Claimant := { master := 96, tileGen := 0, handle := none }
    let s : State := { onS with ctx := { restoreDone := true, table := [(0xFFFFF, { state := 2, claimed := true, claimId := 96 })] } }
    let r := s.ctxRec c
    let m := x.master
    (s.claimStale c x = false) ∧
        (r.claimed = true) ∧
        (r.claimId.toNat = m.val) ∧
        (r.suspended = false) ∧
        (s.setWaiters c = []) ∧
        ((∀ e ∈ s.ctx.courseClaim, e.1 ≠ c.val))) ∧
  (
    let c : CtxId := 0xFFFFF
    let x : Claimant := { master := 7, tileGen := 0, handle := none }
    let k : Nat := 5
    let l : List (Nat × Nat) := [(6, 70000)]
    let s : State := { onS with ctx := { restoreDone := true, free := [(5, 70001)] } }
    let m := x.master
    let fresh := s.claimStale c { x with handle := none } = false
    (fresh) ∧
        (s.fw m = true ∨ m = 96) ∧
        (s.ctx.restoreDone = true) ∧
        (s.cfg 0x2100 2 < freeCount s.ctx.free) ∧
        (freeTake s.ctx.free = some (k, l)) ∧
        (k ≠ 0)) ∧
  (
    let c : CtxId := 0xFFFFF
    let x : Claimant := { master := 96, tileGen := 0, handle := none }
    let k : Nat := 5
    let l : List (Nat × Nat) := [(6, 65536)]
    let s : State := { onS with ctx := { restoreDone := true, free := [(5, 65537)] } }
    let m := x.master
    let fresh := s.claimStale c { x with handle := none } = false
    (fresh) ∧
        (s.fw m = true ∨ m = 96) ∧
        (s.ctx.restoreDone = true) ∧
        (s.cfg 0x2100 2 < freeCount s.ctx.free) ∧
        (freeTake s.ctx.free = some (k, l)) ∧
        (k ≠ 0)) ∧
  (
    let c : CtxId := 0xFFFFF
    let x : Claimant := { master := 0, tileGen := 0, handle := none }
    let s : State := { onS with ctx := { restoreDone := true, table := [(0xFFFFF, { state := 4, gen := 0xFFFF })] } }
    let r := s.ctxRec c
    let m := x.master
    let fresh := s.claimStale c { x with handle := none } = false
    (fresh) ∧
        (s.fw m = true ∨ m = 96) ∧
        (c ≠ 0) ∧
        (r.course = false) ∧
        (r.claimed = false) ∧
        (r.state = 1 ∨ r.state = 4) ∧
        (r.extContext = 0)) ∧
  (
    let x : Claimant := { master := 96, tileGen := 0, handle := none }
    let c : CtxId := 1
    let s : State := { onS with ctx := { restoreDone := true, table := [(1, { state := 1, gen := 0 })] } }
    let r := s.ctxRec c
    let m := x.master
    let fresh := s.claimStale c { x with handle := none } = false
    (fresh) ∧
        (s.fw m = true ∨ m = 96) ∧
        (c ≠ 0) ∧
        (r.course = false) ∧
        (r.claimed = false) ∧
        (r.state = 1 ∨ r.state = 4) ∧
        (r.extContext = 0)) ∧
  (
    let c : CtxId := 0xFFFFF
    let w : Nat × Nat × LocEntry := (0, 0xFFFFF, { lba := 5, member := 0, repair := false, brickSeq := 0 })
    let s : State := { onS with ctx := { restoreDone := true, table := [(0xFFFFF, { state := 2 })], locWait := [(0, 0xFFFFF, { lba := 5, member := 0, repair := false, brickSeq := 0 })] } }
    (s.lanes = []) ∧
        (s.ctx.locWait = [w]) ∧
        (w.2.1 = c.val) ∧
        (w.2.2.lba ≠ 0xFFFFFFFFFFFF)) ∧
  (
    let c : CtxId := 0xFFFFF
    let x : Claimant := { master := 7, tileGen := 5, handle := none }
    let s : State := onS
    (s.claimStale c x = true)) := by
  refine ⟨?_, ?_, ?_, ?_, ?_, ?_, ?_, ?_⟩ <;> (decide +kernel)

/-- The premises of `Obligations.HodCommands` hold together: clause by clause, of these states and operands. -/
theorem witness_HodCommands :
  (
    let en : Bool := true
    let a : DevAddr := 0x36FFFFFE0#35
    let m : Master := 95
    let h : Hod := 23
    let s : State := { onS with hods := [(23, { en := true, queue := List.replicate 31 ({ addr := 0x36FFFFFE0, issuer := .submit 95 }) })] }
    let x := s.hod h
    (s.hodIssuer m h = true) ∧
        (x.queue.length < 32) ∧
        (x.dis = false) ∧
        (a.toNat % 32 = 0) ∧
        (a.toNat + 31 < 0x370000000)) ∧
  (
    let en : Bool := true
    let m : Master := 0
    let h : Hod := 23
    let s : State := { onS with hods := [(23, { en := true, queue := List.replicate 32 ({ addr := 0x36FFFFFE0, issuer := .submit 95 }) })] }
    let x := s.hod h
    (s.hodIssuer m h = true) ∧
        (32 ≤ x.queue.length ∨ x.dis = true) ∧
        (s.fw m = true) ∧
        (x.dis = false) ∧
        (x.work = none) ∧
        ((∀ q ∈ x.queue, q.block = none))) ∧
  (
    let m : Master := 7
    let h : Hod := 0
    let s : State := { onS with hods := [(0, { dis := true, dropping := false })] }
    let x := s.hod h
    (s.fw m = true) ∧
        (x.dis = true) ∧
        (x.dropping = false) ∧
        (x.waiting = [])) ∧
  (
    let m : Master := 87
    let h : Hod := 23
    let s : State := onS
    (s.hodIssuer m h = false)) ∧
  (
    let m : Master := 98
    let h : Hod := 0
    let s : State := onS
    (s.hodIssuer m h = false)) ∧
  (
    let m : Master := 0
    let h : Hod := 0
    let s : State := { onS with hods := [(0, { dis := true, dropping := true })] }
    let x := s.hod h
    (s.fw m = true) ∧
        (x.dis = true) ∧
        (x.dropping = true)) ∧
  (
    let m : Master := 0
    let h : Hod := 0
    let s : State := { onS with hods := [(0, { queue := [({ addr := 0x36FFFFFE0, issuer := .submit 95 }), ({ addr := 0x36FFFFFE0, issuer := .submit 95 })] })] }
    let x := s.hod h
    (s.fw m = true) ∧
        (x.dis = false) ∧
        (x.work = none) ∧
        ((∀ q ∈ x.queue, q.block = none))) ∧
  (
    let m : Master := 7
    let h : Hod := 0
    let s : State := onS
    let x := s.hod h
    (s.fw m = true) ∧
        (x.dis = false) ∧
        (x.work = none) ∧
        ((∀ q ∈ x.queue, q.block = none))) ∧
  (
    let en : Bool := true
    let i : Master := 95
    let a : DevAddr := 0x36FFFFFE0#35
    let h : Hod := 23
    let rest : List HodEntry := [({ addr := 0x36FFFFFE0, issuer := .submit 95 })]
    let s : State := { onS with hods := [(23, { en := true, queue := [({ addr := 0x36FFFFFE0, issuer := .submit 95 }), ({ addr := 0x36FFFFFE0, issuer := .submit 95 })] })], mem := [(0x36FFFFFE5, 1#8)] }
    let x := s.hod h
    let first : HodEntry := { addr := a.toNat, issuer := .submit i }
    let w := BitVec.ofNat 256 (leNat (s.devBytes a.toNat 32))
    let bond := x.bonds.look 0 (dBond w)
    (x.en = true) ∧
        (x.dis = false) ∧
        (x.work = none) ∧
        (s.hodPowered h = true) ∧
        (x.queue = first :: rest) ∧
        (x.waiting = []) ∧
        (descStatus w bond false = 0)) ∧
  (
    let en : Bool := true
    let i : Master := 95
    let a : DevAddr := 0x36FFFFFE0#35
    let rest : List HodEntry := []
    let h : Hod := 23
    let s : State := { onS with hods := [(23, { en := true, queue := [({ addr := 0x36FFFFFE0, issuer := .submit 95 })] })] }
    let x := s.hod h
    let first : HodEntry := { addr := a.toNat, issuer := .submit i }
    let w := BitVec.ofNat 256 (leNat (s.devBytes a.toNat 32))
    let bond := x.bonds.look 0 (dBond w)
    (x.en = true) ∧
        (x.dis = false) ∧
        (x.work = none) ∧
        (s.hodPowered h = true) ∧
        (x.queue = first :: rest) ∧
        (x.waiting = []) ∧
        (descStatus w bond false ≠ 0) ∧
        (dEvid w = false) ∧
        (dIrq w = false) ∧
        (a.toNat % 32 = 0) ∧
        (a.toNat + 31 < 0x370000000)) ∧
  (
    let en : Bool := true
    let i : Master := 95
    let a : DevAddr := 0x36FFFFFE0#35
    let h : Hod := 23
    let d : Nat := 0x1000
    let s : State := { onS with hods := [(23, { en := true, work := some { addr := 0x1000, issuer := .submit 95, desc := BitVec.ofNat 256 (16 * 2^32 + 0x36FFFFFF0 * 2^64 + 0x100C * 2^128), bond := 0 } })], mem := [(0x36FFFFFF0, 7#8)] }
    let v : BitVec 256 := BitVec.ofNat 256 (16 * 2^32 + 0x36FFFFFF0 * 2^64 + 0x100C * 2^128)
    let x := s.hod h
    let w := BitVec.ofNat 256 (leNat (s.devBytes a.toNat 32))
    let bond := x.bonds.look 0 (dBond w)
    (s.hodPowered h = true) ∧
        (x.work = some { addr := d, issuer := .submit i, desc := v, bond := 0 }) ∧
        (dBondEn v = false) ∧
        (dIrq v = false) ∧
        (dSrc v + dLen v ≤ 0x370000000) ∧
        (dDst v + dLen v ≤ 0x370000000) ∧
        (d + 0x20 ≤ 0x370000000) ∧
        (dSrc v + dLen v ≤ dDst v ∨ dDst v + dLen v ≤ dSrc v) ∧
        (d + 0x20 ≤ dDst v ∨ dDst v + dLen v ≤ d + 0x1C)) ∧
  (
    let en : Bool := true
    let i : Master := 95
    let a : DevAddr := 0x36FFFFFE0#35
    let h : Hod := 23
    let d : Nat := 0x1000
    let v : BitVec 256 := BitVec.ofNat 256 (16 * 2^32 + 0x36FFFFFE0 * 2^64 + 0x36FFFFFF0 * 2^128)
    let s : State := { onS with hods := [(23, { en := true, work := some { addr := 0x1000, issuer := .submit 95, desc := BitVec.ofNat 256 (16 * 2^32 + 0x36FFFFFE0 * 2^64 + 0x36FFFFFF0 * 2^128), bond := 0 } })], mem := [(0x36FFFFFE0, 7#8)] }
    let x := s.hod h
    let w := BitVec.ofNat 256 (leNat (s.devBytes a.toNat 32))
    let bond := x.bonds.look 0 (dBond w)
    (s.hodPowered h = true) ∧
        (x.work = some { addr := d, issuer := .submit i, desc := v, bond := 0 }) ∧
        (dBondEn v = false) ∧
        (dIrq v = false) ∧
        (dSrc v + dLen v ≤ 0x370000000) ∧
        (dDst v + dLen v ≤ 0x370000000) ∧
        (d + 0x20 ≤ 0x370000000) ∧
        (dSrc v + dLen v ≤ dDst v ∨ dDst v + dLen v ≤ dSrc v) ∧
        (d + 0x20 ≤ dDst v ∨ dDst v + dLen v ≤ d + 0x1C)) ∧
  (
    let b : Nat := 0x36FFFFFE0
    let i : Master := 95
    let e : HodEntry := { addr := 0x36FFFFFE0, issuer := .submit 95 }
    let h : Hod := 23
    let s : State := { onS with hods := [(23, { dis := true, dropping := true, dropped := [({ addr := 0x36FFFFFE0, issuer := .submit 95 })] })] }
    let x := s.hod h
    (x.dropping = true) ∧
        (x.dropped = [e]) ∧
        (e = { addr := b, issuer := .submit i }) ∧
        (b + 0x20 ≤ 0x370000000) ∧
        (x.waiting = [])) := by
  refine ⟨?_, ?_, ?_, ?_, ?_, ?_, ?_, ?_, ?_, ?_, ?_, ?_, ?_⟩ <;> (decide +kernel)

/-- The premises of `Obligations.ControlWords` hold together: clause by clause, of these states and operands. -/
theorem witness_ControlWords :
  (
    let c : CtxId := 0xFFFFF
    let w : BitVec 256 := (cw 1 0 0 0 0)
    let s : State := courseS 0xFFFFF {} { addr := 0x1000#40, word := some (cw 1 0 0 0 0) }
    let x := s.course c
    (wNext w = true) ∧
        (wPost w = false) ∧
        (x.stop = false) ∧
        (x.spanEnd = none) ∧
        (s.heldWord c 1 = some w)) ∧
  (
    let c : CtxId := 0xFFFFF
    let w : BitVec 256 := (cw 2 0 0x36FFFFFE0 0 0)
    let s : State := courseS 0xFFFFF {} { addr := 0x36FFFFFC0#40, word := some (cw 2 0 0x36FFFFFE0 0 0) }
    let x := s.course c
    (wNext w = true) ∧
        (wPost w = false) ∧
        (x.stop = false) ∧
        (x.spanEnd = none) ∧
        (s.heldWord c 2 = some w)) ∧
  (
    let c : CtxId := 1
    let w : BitVec 256 := (cw 3 0 0x2000 0 0)
    let s : State := courseS 1 {} { addr := 0x1000#40, word := some (cw 3 0 0x2000 0 0) }
    let x := s.course c
    (wNext w = true) ∧
        (wPost w = false) ∧
        (x.stop = false) ∧
        (x.spanEnd = none) ∧
        (s.heldWord c 3 = some w ∧ bits (wParam w) 0 4 = 0)) ∧
  (
    let c : CtxId := 0xFFFFF
    let w : BitVec 256 := (cw 3 0 0x2000 0 0x01810011)
    let s : State := courseS 0xFFFFF { lastStatus := 0x0181 } { addr := 0x1000#40, word := some (cw 3 0 0x2000 0 0x01810011) }
    let x := s.course c
    (wNext w = true) ∧
        (wPost w = false) ∧
        (x.stop = false) ∧
        (x.spanEnd = none) ∧
        (s.heldWord c 3 = some w ∧ bits (wParam w) 0 4 = 1)) ∧
  (
    let c : CtxId := 0xFFFFF
    let w : BitVec 256 := (cw 3 0 0x2000 0 0x00010002)
    let s : State := courseS 0xFFFFF { lastStatus := 0x0181 } { addr := 0x1000#40, word := some (cw 3 0 0x2000 0 0x00010002) }
    let x := s.course c
    (wNext w = true) ∧
        (wPost w = false) ∧
        (x.stop = false) ∧
        (x.spanEnd = none) ∧
        (s.heldWord c 3 = some w ∧ bits (wParam w) 0 4 = 2)) ∧
  (
    let c : CtxId := 0xFFFFF
    let w : BitVec 256 := (cw 3 0 0x2000 0 0x00060003)
    let s : State := courseS 0xFFFFF { resumeCause := 6 } { addr := 0x1000#40, word := some (cw 3 0 0x2000 0 0x00060003) }
    let x := s.course c
    (wNext w = true) ∧
        (wPost w = false) ∧
        (x.stop = false) ∧
        (x.spanEnd = none) ∧
        (s.heldWord c 3 = some w ∧ bits (wParam w) 0 4 = 3)) ∧
  (
    let c : CtxId := 0xFFFFF
    let w : BitVec 256 := (cw 3 0 0x2000 0 0x00000014)
    let s : State := courseS 0xFFFFF { lastStatus := 1 } { addr := 0x1000#40, word := some (cw 3 0 0x2000 0 0x00000014) }
    let x := s.course c
    (wNext w = true) ∧
        (wPost w = false) ∧
        (x.stop = false) ∧
        (x.spanEnd = none) ∧
        (s.heldWord c 3 = some w ∧ bits (wParam w) 0 4 = 4)) ∧
  (
    let c : CtxId := 0xFFFFF
    let w : BitVec 256 := (cw 3 0 0x2000 0 0x00000005)
    let s : State := courseS 0xFFFFF { lenMem := true } { addr := 0x1000#40, word := some (cw 3 0 0x2000 0 0x00000005) }
    let x := s.course c
    (wNext w = true) ∧
        (wPost w = false) ∧
        (x.stop = false) ∧
        (x.spanEnd = none) ∧
        (s.heldWord c 3 = some w ∧ bits (wParam w) 0 4 = 5)) ∧
  (
    let c : CtxId := 0xFFFFF
    let w : BitVec 256 := (cw 3 0 0x2000 0 0x00000006)
    let s : State := courseS 0xFFFFF { state := 2, hold := true } { addr := 0x1000#40, word := some (cw 3 0 0x2000 0 0x00000006) }
    let x := s.course c
    let o := s.ctxRec (wObject w c)
    (wNext w = true) ∧
        (wPost w = false) ∧
        (x.stop = false) ∧
        (x.spanEnd = none) ∧
        (o.state = 2 ∨ o.state = 3) ∧
        (s.heldWord c 3 = some w ∧ bits (wParam w) 0 4 = 6)) ∧
  (
    let c : CtxId := 0xFFFFF
    let w : BitVec 256 := (cw 3 0 0x2000 0 0x00000008)
    let s : State := { courseS 0xFFFFF { state := 3, deadline := 5 } { addr := 0x1000#40, word := some (cw 3 0 0x2000 0 0x00000008) } with time := { now := 5 } }
    let x := s.course c
    let o := s.ctxRec (wObject w c)
    (wNext w = true) ∧
        (wPost w = false) ∧
        (x.stop = false) ∧
        (x.spanEnd = none) ∧
        (o.state = 2 ∨ o.state = 3) ∧
        (s.heldWord c 3 = some w ∧ bits (wParam w) 0 4 = 8)) ∧
  (
    let c : CtxId := 0xFFFFF
    let w : BitVec 256 := (cw 3 0 0x2000 0 0x02000007)
    let s : State := courseS 0xFFFFF { pending := 0x200 } { addr := 0x1000#40, word := some (cw 3 0 0x2000 0 0x02000007) }
    let x := s.course c
    (wNext w = true) ∧
        (wPost w = false) ∧
        (x.stop = false) ∧
        (x.spanEnd = none) ∧
        (s.heldWord c 3 = some w ∧ bits (wParam w) 0 4 = 7)) ∧
  (
    let c : CtxId := 0xFFFFF
    let w : BitVec 256 := (cw 4 5 0 0 0x01FF00BE)
    let s : State := courseS 0xFFFFF { pending := 0x0001 } { addr := 0x1000#40, word := some (cw 4 5 0 0 0x01FF00BE) }
    let x := s.course c
    let r := s.ctxRec c
    (wNext w = true) ∧
        (wPost w = false) ∧
        (x.stop = false) ∧
        (x.spanEnd = none) ∧
        (s.heldWord c 4 = some w) ∧
        (x.entry = none) ∧
        (r.pending &&& waitMask w = 0) ∧
        ((∀ z ∈ s.courses.held, z.1 ≠ c → s.ctx.setOf z.1 ≠ s.ctx.setOf c))) ∧
  (
    let c : CtxId := 0xFFFFF
    let w : BitVec 256 := (cw 5 0 0 0 0x123456789ABCDEF0)
    let s : State := courseS 0xFFFFF { statusAddr := 0x36FFFFFE0, postSeq := 0xFFFF } { addr := 0x1000#40, word := some (cw 5 0 0 0 0x123456789ABCDEF0) }
    let x := s.course c
    let r := s.ctxRec c
    (wNext w = true) ∧
        (wPost w = false) ∧
        (x.stop = false) ∧
        (x.spanEnd = none) ∧
        (s.heldWord c 5 = some w) ∧
        (r.notifyEn = false) ∧
        (r.statusAddr.toNat + 32 ≤ 0x370000000)) := by
  refine ⟨?_, ?_, ?_, ?_, ?_, ?_, ?_, ?_, ?_, ?_, ?_, ?_, ?_⟩ <;> (decide +kernel)

/-- The premises of `Obligations.CoursesStartAndStop` hold together: clause by clause, of these states and operands. -/
theorem witness_CoursesStartAndStop :
  (
    let e : Eng := 7
    let c : CtxId := 0xFFFFF
    let q : Claimant := { master := 7, tileGen := 0, handle := none }
    let status : BitVec 40 := 0x36FFFFFE0#40
    let s : State := { onS with ctx := { restoreDone := true, table := [(0xFFFFF, { state := 1, gen := 5 })] } }
    let r := s.ctxRec c
    (c ≠ 0) ∧
        (s.claimStale c q = false) ∧
        (e.val < 8) ∧
        (r.course = false) ∧
        (r.state = 1 ∨ r.state = 2 ∨ r.state = 3) ∧
        (s.claimable c = true) ∧
        (status.toNat % 32 = 0) ∧
        (rangeOk false status 32 true = true)) ∧
  (
    let q : Claimant := { master := 7, tileGen := 0, handle := none }
    let status : BitVec 40 := 0x36FFFFFE0#40
    let c : CtxId := 1
    let e : Eng := 0
    let s : State := { onS with ctx := { restoreDone := true, table := [(1, { state := 3, gen := 5 })] } }
    let r := s.ctxRec c
    (c ≠ 0) ∧
        (s.claimStale c q = false) ∧
        (e.val < 8) ∧
        (r.course = false) ∧
        (r.state = 1 ∨ r.state = 2 ∨ r.state = 3) ∧
        (s.claimable c = true) ∧
        (status.toNat % 32 = 0) ∧
        (rangeOk false status 32 true = true)) ∧
  (
    let c : CtxId := 0xFFFFF
    let q : Claimant := { master := 7, tileGen := 0, handle := none }
    let e : Eng := 8
    let s : State := onS
    (c ≠ 0) ∧
        (s.claimStale c q = false) ∧
        (8 ≤ e.val)) ∧
  (
    let c : CtxId := 0xFFFFF
    let q : Claimant := { master := 7, tileGen := 0, handle := none }
    let addr : BitVec 40 := 0x1000#40
    let k : Fin 16 := 9
    let s : State := { courseS 0xFFFFF {} { addr := 0x36FFFFFE0#40 } with mem := [(0x36FFFFFE0, 1#8)] }
    let r := s.ctxRec c
    let x := s.course c
    let w := BitVec.ofNat 256 (leNat (s.devBytes x.addr.toNat 32))
    let asked := k.val ∈ [1, 2, 3, 4, 5, 6, 7, 9] ∧ (k = 2 → s.razes c = false ∧ r.state ≠ 4)
    let turn := s.courseRuns c = true ∧ s.courseTile c = true ∧ s.myTurn c = true
    (c ≠ 0) ∧
        (s.claimStale c q = false) ∧
        (turn) ∧
        (x.word = none) ∧
        (x.failed = none) ∧
        (x.addr.toNat + 31 < 0x370000000) ∧
        (s.checkWord c x.addr w = 0) ∧
        (wSuspend w = false) ∧
        (asked) ∧
        (r.course = true) ∧
        (r.suspended = false)) ∧
  (
    let e : Eng := 7
    let c : CtxId := 0xFFFFF
    let q : Claimant := { master := 7, tileGen := 0, handle := none }
    let addr : BitVec 40 := 0x1000#40
    let s : State := { courseS 0xFFFFF { statusAddr := 0x1000 } { addr := 0x36FFFFFE0#40 } with mem := [(0x36FFFFFE0, 0x6#8)] }
    let r := s.ctxRec c
    let x := s.course c
    let w := BitVec.ofNat 256 (leNat (s.devBytes x.addr.toNat 32))
    let turn := s.courseRuns c = true ∧ s.courseTile c = true ∧ s.myTurn c = true
    (c ≠ 0) ∧
        (s.claimStale c q = false) ∧
        (turn) ∧
        (x.word = none) ∧
        (x.failed = none) ∧
        (x.addr.toNat + 31 < 0x370000000) ∧
        (s.checkWord c x.addr w ≠ 0) ∧
        (x.entry = none) ∧
        (r.notifyEn = false) ∧
        ((s.ctx.courseClaim.filter fun e => e.2 == c.val && e.1 != c.val) = []) ∧
        (r.statusAddr.getLsbD 39 = false)) ∧
  (
    let e : Eng := 7
    let c : CtxId := 0xFFFFF
    let q : Claimant := { master := 7, tileGen := 0, handle := none }
    let addr : BitVec 40 := 0x1000#40
    let s : State := courseS 0xFFFFF { pending := 0xFFFF } {}
    let r := s.ctxRec c
    let x := s.course c
    let w := BitVec.ofNat 256 (leNat (s.devBytes x.addr.toNat 32))
    let turn := s.courseRuns c = true ∧ s.courseTile c = true ∧ s.myTurn c = true
    (c ≠ 0) ∧
        (s.claimStale c q = false) ∧
        (turn) ∧
        (x.word = none) ∧
        (x.failed = none) ∧
        (x.addr.toNat + 31 < 0x370000000) ∧
        (s.checkWord c x.addr w ≠ 0) ∧
        (x.entry = none) ∧
        (r.notifyEn = false) ∧
        ((s.ctx.courseClaim.filter fun e => e.2 == c.val && e.1 != c.val) = []) ∧
        (r.statusAddr.getLsbD 39 = false)) ∧
  (
    let e : Eng := 7
    let c : CtxId := 0xFFFFF
    let q : Claimant := { master := 7, tileGen := 0, handle := none }
    let k : Fin 16 := 1
    let s : State := courseS 0xFFFFF { suspended := true, resumeAddr := 0x2000 } { mask := 0x0002 }
    let r := s.ctxRec c
    let x := s.course c
    let asked := k.val ∈ [1, 2, 3, 4, 5, 6, 7, 9] ∧ (k = 2 → s.razes c = false ∧ r.state ≠ 4)
    (c ≠ 0) ∧
        (s.claimStale c q = false) ∧
        (asked) ∧
        (r.course = true) ∧
        (r.suspended = true) ∧
        (r.pending = 0) ∧
        (x.mask.getLsbD k.val = true) ∧
        (s.claimable c = true) ∧
        (r.claimed = false) ∧
        (x.entry = none) ∧
        (r.notifyEn = false) ∧
        (r.statusAddr.getLsbD 39 = false) ∧
        ((s.ctx.courseClaim.filter fun e => e.2 == c.val && e.1 != c.val) = [])) ∧
  (
    let c : CtxId := 0xFFFFF
    let q : Claimant := { master := 7, tileGen := 0, handle := none }
    let s : State := courseS 0xFFFFF { suspended := true, resumeAddr := 0x2000 } { mask := 0x0040, channel := some 511#9 }
    let r := s.ctxRec c
    let x := s.course c
    (c ≠ 0) ∧
        (s.claimStale c q = false) ∧
        (r.course = true) ∧
        (r.suspended = true) ∧
        (x.channel.isSome = true) ∧
        (x.mask = 0x0040) ∧
        (r.pending = 0) ∧
        (s.claimable c = true)) ∧
  (
    let c : CtxId := 0xFFFFF
    let q : Claimant := { master := 7, tileGen := 0, handle := none }
    let s : State := courseS 0xFFFFF {} { word := some 0 }
    let r := s.ctxRec c
    let x := s.course c
    (c ≠ 0) ∧
        (s.claimStale c q = false) ∧
        (r.course = true) ∧
        (r.suspended = false) ∧
        (x.wait = none) ∧
        (x.word.isSome = true)) ∧
  (
    let e : Eng := 7
    let c : CtxId := 0xFFFFF
    let q : Claimant := { master := 7, tileGen := 0, handle := none }
    let s : State := courseS 0xFFFFF { suspended := true, resumeAddr := 0x2000, statusAddr := 0x36FFFFFE0 } {}
    let r := s.ctxRec c
    let x := s.course c
    (c ≠ 0) ∧
        (s.claimStale c q = false) ∧
        (r.course = true) ∧
        (r.suspended = true) ∧
        (r.claimed = false) ∧
        (x.entry = none) ∧
        (r.notifyEn = false) ∧
        (r.statusAddr.getLsbD 39 = false) ∧
        ((s.ctx.courseClaim.filter fun e => e.2 == c.val && e.1 != c.val) = [])) ∧
  (
    let c : CtxId := 0xFFFFF
    let k : Fin 16 := 2
    let q : Claimant := { master := 96, tileGen := 5, handle := some 0 }
    let s : State := courseS 0xFFFFF { suspended := true, resumeAddr := 0x2000 } { mask := 0x0004 }
    let r := s.ctxRec c
    let x := s.course c
    let asked := k.val ∈ [1, 2, 3, 4, 5, 6, 7, 9] ∧ (k = 2 → s.razes c = false ∧ r.state ≠ 4)
    (c ≠ 0) ∧
        (s.claimStale c q = false) ∧
        (asked) ∧
        (r.course = true) ∧
        (r.suspended = true) ∧
        (r.pending = 0) ∧
        (x.mask.getLsbD k.val = true) ∧
        (s.claimable c = true)) := by
  refine ⟨?_, ?_, ?_, ?_, ?_, ?_, ?_, ?_, ?_, ?_, ?_⟩ <;> (decide +kernel)

/-- The premises of `Obligations.LaneAndObjectWords` hold together: clause by clause, of these states and operands. -/
theorem witness_LaneAndObjectWords :
  (
    let c : CtxId := 0xFFFFF
    let w : BitVec 256 := (cw 0x10 5 0 255 0)
    let s : State := { courseS 0xFFFFF {} { word := some (cw 0x10 5 0 255 0) } with lanes := [(255, { active := true })] }
    let x := s.course c
    let l := bits (wSel w) 0 8
    let y := s.lane l
    (wNext w = true) ∧
        (wPost w = false) ∧
        (wSpan w = false) ∧
        (wList w = false) ∧
        (wSkip w = false) ∧
        (x.stop = false) ∧
        (x.head = none) ∧
        (x.spanEnd = none) ∧
        (x.total = 0) ∧
        (x.done = 0) ∧
        (x.gather = []) ∧
        (x.segs = []) ∧
        (x.nextSeq = none) ∧
        (s.holdup.declared = false) ∧
        (s.heldWord c 0x10 = some w) ∧
        (y.active = true) ∧
        (y.ingest = none) ∧
        (s.writeWaits l = false) ∧
        (s.laneType l ≠ 8) ∧
        (y.ready = []) ∧
        (y.ring = [])) ∧
  (
    let c : CtxId := 0xFFFFF
    let w : BitVec 256 := (cw 0x11 0 0 255 0)
    let s : State := { courseS 0xFFFFF {} { word := some (cw 0x11 0 0 255 0) } with lanes := [(255, { active := true })] }
    let x := s.course c
    let l := bits (wSel w) 0 8
    let y := s.lane l
    (wNext w = true) ∧
        (wPost w = false) ∧
        (wSpan w = false) ∧
        (wList w = false) ∧
        (wSkip w = false) ∧
        (x.stop = false) ∧
        (x.head = none) ∧
        (x.spanEnd = none) ∧
        (x.total = 0) ∧
        (x.done = 0) ∧
        (x.gather = []) ∧
        (x.segs = []) ∧
        (x.nextSeq = none) ∧
        (s.holdup.declared = false) ∧
        (s.heldWord c 0x11 = some w) ∧
        (bits (wParam w) 0 2 = 0) ∧
        (y.sealing = none)) ∧
  (
    let c : CtxId := 0xFFFFF
    let o : ObjChain := chainS 5 1
    let w : BitVec 256 := (cw 0x12 0 0 255 1)
    let s : State := { courseS 0xFFFFF {} { word := some (cw 0x12 0 0 255 1) } with lanes := [(255, { active := true, obj := some (chainS 5 1) })] }.setDict 0x4840 1 [1]
    let x := s.course c
    let l := bits (wSel w) 0 8
    let y := s.lane l
    (wNext w = true) ∧
        (wPost w = false) ∧
        (wSpan w = false) ∧
        (wList w = false) ∧
        (wSkip w = false) ∧
        (x.stop = false) ∧
        (x.head = none) ∧
        (x.spanEnd = none) ∧
        (x.total = 0) ∧
        (x.done = 0) ∧
        (x.gather = []) ∧
        (x.segs = []) ∧
        (x.nextSeq = none) ∧
        (s.holdup.declared = false) ∧
        (s.heldWord c 0x12 = some w) ∧
        (bits (wParam w) 0 9 = 1) ∧
        (y.obj = some o) ∧
        (s.slotHoldsKey (s.laneCfg l 0xA) = true)) ∧
  (
    let c : CtxId := 0xFFFFF
    let w : BitVec 256 := (cw 0x14 578 0x36FFFFDBE 0 0)
    let b : Bytes := (brickB 0xFFFFF 0 [7, 8] 5 6).take 578
    let md : Medium := [{ member := 0, lba := 40, res := .data (brickB 0xFFFFF 0 [7, 8] 5 6) }]
    let s : State := wytheS (courseS 0xFFFFF { state := 3, lastSeq := 0, firstLba := [(0, 40)] } { word := some (cw 0x14 578 0x36FFFFDBE 0 0) })
    let x := s.course c
    let n := (wParam w).toNat
    (wNext w = true) ∧
        (wPost w = false) ∧
        (wSpan w = false) ∧
        (wList w = false) ∧
        (wSkip w = false) ∧
        (x.stop = false) ∧
        (x.head = none) ∧
        (x.spanEnd = none) ∧
        (x.total = 0) ∧
        (x.done = 0) ∧
        (x.gather = []) ∧
        (x.segs = []) ∧
        (x.nextSeq = none) ∧
        (s.holdup.declared = false) ∧
        (s.heldWord c 0x14 = some w) ∧
        ((wSel w).getLsbD 3 = false) ∧
        (bits (wSel w) 0 2 = 0) ∧
        (s.wytheList.contains 0 = true) ∧
        (s.holdsObject (wObject w c) = true) ∧
        (n ≤ (s.ctxRec (wObject w c)).lastSeq.toNat) ∧
        ((s.ctxRec (wObject w c)).lastSeq ≠ 0xFFFFFFFFFFFFFFFF) ∧
        (s.readUnit md w (wObject w c) n = .bytes b) ∧
        (b.length = wCount w) ∧
        (0 < wCount w) ∧
        ((wAddr w).toNat + wCount w ≤ 0x370000000)) ∧
  (
    let c : CtxId := 0xFFFFF
    let w : BitVec 256 := (cw 0x15 1 0 0 0)
    let md : Medium := [{ member := 0, lba := 40, res := .data (brickB 0xFFFFF 0 [] (Config.sha384 ((brickB 0xFFFFF 0 [] 0 ({ onS with sec := { fuse := { lc := 1 } } }.genesis 0 0xFFFFF 0)).take 512)) ({ onS with sec := { fuse := { lc := 1 } } }.genesis 0 0xFFFFF 0)) }]
    let s : State := wytheS { courseS 0xFFFFF { state := 3, lastSeq := 0, firstLba := [(0, 40)] } { word := some (cw 0x15 1 0 0 0) } with sec := { fuse := { lc := 1 } } }
    let x := s.course c
    let n := (wParam w).toNat
    (wNext w = true) ∧
        (wPost w = false) ∧
        (wSpan w = false) ∧
        (wList w = false) ∧
        (wSkip w = false) ∧
        (x.stop = false) ∧
        (x.head = none) ∧
        (x.spanEnd = none) ∧
        (x.total = 0) ∧
        (x.done = 0) ∧
        (x.gather = []) ∧
        (x.segs = []) ∧
        (x.nextSeq = none) ∧
        (s.holdup.declared = false) ∧
        (s.heldWord c 0x15 = some w) ∧
        ((wSel w).getLsbD 3 = false) ∧
        (bits (wSel w) 0 2 = 0) ∧
        (s.wytheList.contains 0 = true) ∧
        (s.holdsObject (wObject w c) = true) ∧
        (0 < wCount w) ∧
        (n + wCount w ≤ (s.ctxRec (wObject w c)).lastSeq.toNat + 1) ∧
        ((s.ctxRec (wObject w c)).lastSeq ≠ 0xFFFFFFFFFFFFFFFF) ∧
        (s.verifyData md w (wObject w c) n 0 = true)) ∧
  (
    let c : CtxId := 0xFFFFF
    let w : BitVec 256 := (cw 0x16 0 0 0 0)
    let s : State := { courseS 0xFFFFF { state := 3, lane := 255 } { word := some (cw 0x16 0 0 0 0) } with lanes := [(255, { active := true, obj := some (chainS 0xFFFFF 1) })] }.setDict 0x4840 1 [1]
    let o : ObjChain := chainS 0xFFFFF 1
    let x := s.course c
    let r := s.ctxRec c
    (wNext w = true) ∧
        (wPost w = false) ∧
        (wSpan w = false) ∧
        (wList w = false) ∧
        (wSkip w = false) ∧
        (x.stop = false) ∧
        (x.head = none) ∧
        (x.spanEnd = none) ∧
        (x.total = 0) ∧
        (x.done = 0) ∧
        (x.gather = []) ∧
        (x.segs = []) ∧
        (x.nextSeq = none) ∧
        (s.holdup.declared = false) ∧
        (s.heldWord c 0x16 = some w) ∧
        (wObject w c = c.val) ∧
        (r.state = 3) ∧
        (r.hold = false) ∧
        (s.slotHoldsKey (s.laneCfg r.lane.toNat 0xA) = true) ∧
        ((s.lane r.lane.toNat).chainOf c = some o)) ∧
  (
    let c : CtxId := 0xFFFFF
    let w : BitVec 256 := (cw 0x17 1 0x36FFFFFE0 23 0)
    let s : State := courseS 0xFFFFF {} { word := some (cw 0x17 1 0x36FFFFFE0 23 0) }
    let x := s.course c
    let k := bits (wSel w) 0 5
    (wNext w = true) ∧
        (wPost w = false) ∧
        (wSpan w = false) ∧
        (wList w = false) ∧
        (wSkip w = false) ∧
        (x.stop = false) ∧
        (x.head = none) ∧
        (x.spanEnd = none) ∧
        (x.total = 0) ∧
        (x.done = 0) ∧
        (x.gather = []) ∧
        (x.segs = []) ∧
        (x.nextSeq = none) ∧
        (s.holdup.declared = false) ∧
        (s.heldWord c 0x17 = some w) ∧
        (k ≠ 0x1F) ∧
        ((s.hod k).room = true) ∧
        (wCount w = 1)) ∧
  (
    let c : CtxId := 0xFFFFF
    let w : BitVec 256 := (cw 0x18 1 0x36FFFFFD0 255 0)
    let s : State := courseS 0xFFFFF {} { word := some (cw 0x18 1 0x36FFFFFD0 255 0) }
    let x := s.course c
    (wNext w = true) ∧
        (wPost w = false) ∧
        (wSpan w = false) ∧
        (wList w = false) ∧
        (wSkip w = false) ∧
        (x.stop = false) ∧
        (x.head = none) ∧
        (x.spanEnd = none) ∧
        (x.total = 0) ∧
        (x.done = 0) ∧
        (x.gather = []) ∧
        (x.segs = []) ∧
        (x.nextSeq = none) ∧
        (s.holdup.declared = false) ∧
        (s.heldWord c 0x18 = some w) ∧
        (0 < wCount w) ∧
        ((wAddr w).toNat + 48 * wCount w ≤ 0x370000000)) := by
  refine ⟨?_, ?_, ?_, ?_, ?_, ?_, ?_, ?_⟩ <;> (decide +kernel)
/-- The job of a VERIFY of that course, on unit 3. -/
def verifyJob : Job := { kind := .verify 0xFFFFF false, since := 0, unit := some 3 }
/-- The medium's bricks 0 and 1, and a course at the end of context memory, with one wythe, whose VERIFY of brick 1 is on unit 3. -/
def verifyS (w : BitVec 256) (md : Medium) : State :=
  { wytheS (courseS 0xFFFFF { state := 3, lastSeq := 1, firstLba := [(0, 40)] } { word := some w, wait := some (.verify false md 1 1 none) }) with
    mortar := { input := [(14, { jobs := [verifyJob] })] } }
/-- Brick 1 of that object, of no payload. -/
def brick1 : Bytes := brickB 0xFFFFF 1 [] 5 6
/-- The medium with its two bricks. -/
def bricks01 : Medium := [{ member := 0, lba := 40, res := .data (brickB 0xFFFFF 0 [] 6 0) }, { member := 0, lba := 42, res := .data brick1 }]
/-- The checks of a brick end well if the SHA-384 of its bytes is the digest it carries: no number of the model says what that is. -/
theorem verify_brick1 (h : Config.sha384 (brick1.take 512) = 5) :
    (verifyS (cw 0x15 1 0 0 1) bricks01).verifyOn bricks01 (cw 0x15 1 0 0 1) 0xFFFFF 1 0 = 0 := by
  have f : (verifyS (cw 0x15 1 0 0 1) bricks01).findBrick bricks01 0 0xFFFFF 1 = .bytes brick1 := by decide +kernel
  have p : (verifyS (cw 0x15 1 0 0 1) bricks01).prevDigest bricks01 0 0xFFFFF 1 = some (hPrev brick1) := by decide +kernel
  have y : (verifyS (cw 0x15 1 0 0 1) bricks01).wytheList.contains 0 = true ∧ (wSel (cw 0x15 1 0 0 1)).getLsbD 3 = false := by decide +kernel
  have c : headerConst brick1 = true ∧ trailerOk brick1 = true ∧ headerReserved brick1 = true ∧ hLen brick1 = 0 ∧ tDigest brick1 = 5 := by
    decide +kernel
  simp only [State.verifyOn, y.1, y.2]
  simp [State.verifyBrick, f, p, checkBrick, digestOk, c, h]
/-- A course that appends one coping record of 1,024 bytes from 1000h. -/
def recordB : Bytes := toLE 4 0x434E5953 ++ toLE 4 0x04000100 ++ toLE 228 0 ++ toLE 4 1 ++ toLE 784 0
def recordS : State :=
  (wytheS { courseS 0xFFFFF { state := 2 } { word := some (cw 0x13 1024 0x1000 2 0) } with sec := { fuse := { lc := 1 } } }).setBytes 0x1000 recordB
theorem record_checked
    (h : Config.ecdsaVerify (toBE 97 (Config.publicKey (recordS.scalarOf 0 1)).toNat) (slice recordB 0 0x3A0) (slice recordB 0x3A0 96) = true) :
    recordS.checkRecord recordB = 0 := by
  have c : fieldAt recordB 0 4 = 0x434E5953 ∧ fieldAt recordB 4 2 = 0x0100 ∧ fieldAt recordB 6 2 = 0x0400 ∧ rSlot recordB = 0 ∧ rEpoch recordB = 1 ∧
      recordS.sec.fuse.sealDestroyed = false ∧ recordS.sec.fuse.lc = 1 := by decide +kernel
  obtain ⟨c1, c2, c3, c4, c5, c6, c7⟩ := c
  simp only [State.checkRecord, c1, c2, c3, c4, c5, c6, c7, h]
  decide
/-- The premises of the APPEND clause hold of a record whose signature verifies. -/
theorem witness_LaneAndObjectWords_append
    (h : Config.ecdsaVerify (toBE 97 (Config.publicKey (recordS.scalarOf 0 1)).toNat) (slice recordB 0 0x3A0) (slice recordB 0x3A0 96) = true) :
    let c : CtxId := 0xFFFFF
    let w : BitVec 256 := cw 0x13 1024 0x1000 2 0
    let b : Bytes := recordB
    let s : State := recordS
    let x := s.course c
    let m := s.memberFor 0 (rSeq b)
    let d := s.member m
    (wNext w = true) ∧
        (wPost w = false) ∧
        (wSpan w = false) ∧
        (wList w = false) ∧
        (wSkip w = false) ∧
        (x.stop = false) ∧
        (x.head = none) ∧
        (x.spanEnd = none) ∧
        (x.total = 0) ∧
        (x.done = 0) ∧
        (x.gather = []) ∧
        (x.segs = []) ∧
        (x.nextSeq = none) ∧
        (s.holdup.declared = false) ∧
        (s.heldWord c 0x13 = some w) ∧
        (bits (wSel w) 0 2 = 2) ∧
        (b = s.devBytes (bits (wAddr w) 0 35) 1024) ∧
        ((wAddr w).getLsbD 39 = false) ∧
        (wCount w = 1024) ∧
        (s.holdsObject (wObject w c) = true) ∧
        (s.checkRecord b = 0) ∧
        (s.wytheList.contains 0 = true) ∧
        (s.wythes.failed.getLsbD 0 = false) ∧
        (d.copeNext + d.lbas 1024 ≤ d.zoneLbas) ∧
        (d.zoned = true) := by
  and_intros <;> first | decide +kernel | exact record_checked h
/-- The premises of the clause on a VERIFY's job hold of a brick that carries the SHA-384 of its bytes. -/
theorem witness_LaneAndObjectWords_verify (h : Config.sha384 (brick1.take 512) = 5) :
    let c : CtxId := 0xFFFFF
    let w : BitVec 256 := cw 0x15 1 0 0 1
    let md : Medium := bricks01
    let u : Fin 10 := 3
    let j : Job := verifyJob
    let s : State := verifyS w md
    let x := s.course c
    let n := (wParam w).toNat
    (wNext w = true) ∧ (wPost w = false) ∧ (wSpan w = false) ∧ (wList w = false) ∧ (wSkip w = false) ∧ (x.stop = false) ∧ (x.head = none) ∧
      (x.spanEnd = none) ∧ (x.total = 0) ∧ (x.done = 0) ∧ (x.gather = []) ∧ (x.segs = []) ∧ (x.nextSeq = none) ∧ (s.holdup.declared = false) ∧
      (x.wait = some (.verify false md n 1 none)) ∧ (x.word = some w) ∧ (wCount w = 1) ∧ ((wSel w).getLsbD 3 = false) ∧
      (bits (wSel w) 0 2 = 0) ∧ (s.mortar.holder u = some (14, j)) ∧ (j.kind = .verify c false) ∧ (s.lanes = []) ∧
      (s.courses.held = [(c.val, x)]) ∧ (s.verifyOn md w (wObject w c) n 0 = 0) := by
  and_intros <;> first | decide +kernel | exact verify_brick1 h

/-- The premises of `Obligations.RawWords` hold together: clause by clause, of these states and operands. -/
theorem witness_RawWords :
  (
    let c : CtxId := 0xFFFFF
    let data : Bytes := [1, 2, 3, 4]
    let w : BitVec 256 := (cw 0x20 60 0x36FFFFF00 0x09 0)
    let s : State := { courseS 0xFFFFF {} { word := some (cw 0x20 60 0x36FFFFF00 0x09 0) } with iface := { linkDown := 0, ethMode := [(9, 1)], ethUp := 0x3FF#10 } }
    let x := s.course c
    let n := wCount w
    let base := (s.ctxRec c).hostBase
    let recv := (wSel w).getLsbD 4
    let buffer := s.devBytes (bits (wAddr w) 0 35) n
    let tx : RawOp := { owner := .course c, op := wOp w, sel := wSel w, param := wParam w, count := n, data := buffer, base := base, segs := [] }
    (wSpan w = false) ∧
        (wList w = false) ∧
        (wSkip w = false) ∧
        ((wAddr w).getLsbD 39 = false) ∧
        (x.total = 0) ∧
        (x.done = 0) ∧
        (x.gather = []) ∧
        (x.segs = []) ∧
        (x.spanEnd = none) ∧
        (s.heldWord c 0x20 = some w) ∧
        (recv = false) ∧
        (s.rawCheck tx = 0)) ∧
  (
    let c : CtxId := 0xFFFFF
    let data : Bytes := [1, 2, 3, 4]
    let w : BitVec 256 := (cw 0x20 1518 0x1000 0x10 0)
    let s : State := { courseS 0xFFFFF {} { word := some (cw 0x20 1518 0x1000 0x10 0) } with iface := { linkDown := 0, ethMode := [(0, 1)], ethUp := 0x3FF#10 } }
    let x := s.course c
    let n := wCount w
    let base := (s.ctxRec c).hostBase
    let recv := (wSel w).getLsbD 4
    let rx : RawOp := { owner := .course c, op := wOp w, sel := wSel w, param := wParam w, count := n, data := [], base := base, segs := [(wAddr w, n)] }
    (wSpan w = false) ∧
        (wList w = false) ∧
        (wSkip w = false) ∧
        ((wAddr w).getLsbD 39 = false) ∧
        (x.total = 0) ∧
        (x.done = 0) ∧
        (x.gather = []) ∧
        (x.segs = []) ∧
        (x.spanEnd = none) ∧
        (s.heldWord c 0x20 = some w) ∧
        (recv = true) ∧
        (s.rawCheck rx = 0)) ∧
  (
    let c : CtxId := 0xFFFFF
    let data : Bytes := [1, 2, 3, 4]
    let w : BitVec 256 := (cw 0x21 512 0x1000 0x03 0x36FFFFE00)
    let s : State := { courseS 0xFFFFF {} { word := some (cw 0x21 512 0x1000 0x03 0x36FFFFE00) } with iface := { linkDown := 0 }, mem := [(0x1000, 2#8)] }
    let x := s.course c
    let n := wCount w
    let base := (s.ctxRec c).hostBase
    let nv : RawOp := { owner := .course c, op := wOp w, sel := wSel w, param := wParam w, count := n, base := base
                        data := s.devBytes (bits (wAddr w) 0 35) 64, segs := [((wParam w).setWidth 40, n)] }
    (wSpan w = false) ∧
        (wList w = false) ∧
        (wSkip w = false) ∧
        ((wAddr w).getLsbD 39 = false) ∧
        (x.total = 0) ∧
        (x.done = 0) ∧
        (x.gather = []) ∧
        (x.segs = []) ∧
        (x.spanEnd = none) ∧
        (s.heldWord c 0x21 = some w) ∧
        (s.rawCheck nv = 0)) ∧
  (
    let c : CtxId := 0xFFFFF
    let data : Bytes := [1, 2, 3, 4]
    let w : BitVec 256 := (cw 0x22 512 0x1000 0x07 5)
    let s : State := { courseS 0xFFFFF {} { word := some (cw 0x22 512 0x1000 0x07 5) } with iface := { usb := [(7, 0, 512)] } }
    let x := s.course c
    let n := wCount w
    let base := (s.ctxRec c).hostBase
    let rx : RawOp := { owner := .course c, op := wOp w, sel := wSel w, param := wParam w, count := n, data := [], base := base, segs := [(wAddr w, n)] }
    (wSpan w = false) ∧
        (wList w = false) ∧
        (wSkip w = false) ∧
        ((wAddr w).getLsbD 39 = false) ∧
        (x.total = 0) ∧
        (x.done = 0) ∧
        (x.gather = []) ∧
        (x.segs = []) ∧
        (x.spanEnd = none) ∧
        (s.heldWord c 0x22 = some w) ∧
        (s.rawCheck rx = 0)) ∧
  (
    let c : CtxId := 0xFFFFF
    let data : Bytes := [1, 2, 3, 4]
    let w : BitVec 256 := (cw 0x23 14 0x1000 0x03 0)
    let s : State := { courseS 0xFFFFF {} { word := some (cw 0x23 14 0x1000 0x03 0) } with iface := { can := [(3, { mode := 1 })] } }
    let x := s.course c
    let n := wCount w
    let base := (s.ctxRec c).hostBase
    let recv := (wSel w).getLsbD 4
    let buffer := s.devBytes (bits (wAddr w) 0 35) n
    let tx : RawOp := { owner := .course c, op := wOp w, sel := wSel w, param := wParam w, count := n, data := buffer, base := base, segs := [] }
    (wSpan w = false) ∧
        (wList w = false) ∧
        (wSkip w = false) ∧
        ((wAddr w).getLsbD 39 = false) ∧
        (x.total = 0) ∧
        (x.done = 0) ∧
        (x.gather = []) ∧
        (x.segs = []) ∧
        (x.spanEnd = none) ∧
        (s.heldWord c 0x23 = some w) ∧
        (recv = false) ∧
        (s.rawCheck tx = 0)) ∧
  (
    let c : CtxId := 0xFFFFF
    let data : Bytes := [1, 2, 3, 4]
    let w : BitVec 256 := (cw 0x23 14 0x1000 0x10 0)
    let s : State := { courseS 0xFFFFF {} { word := some (cw 0x23 14 0x1000 0x10 0) } with iface := { can := [(0, { mode := 2 })] } }
    let x := s.course c
    let n := wCount w
    let base := (s.ctxRec c).hostBase
    let recv := (wSel w).getLsbD 4
    let rx : RawOp := { owner := .course c, op := wOp w, sel := wSel w, param := wParam w, count := n, data := [], base := base, segs := [(wAddr w, n)] }
    (wSpan w = false) ∧
        (wList w = false) ∧
        (wSkip w = false) ∧
        ((wAddr w).getLsbD 39 = false) ∧
        (x.total = 0) ∧
        (x.done = 0) ∧
        (x.gather = []) ∧
        (x.segs = []) ∧
        (x.spanEnd = none) ∧
        (s.heldWord c 0x23 = some w) ∧
        (recv = true) ∧
        (s.rawCheck rx = 0)) ∧
  (
    let c : CtxId := 0xFFFFF
    let data : Bytes := [1, 2, 3, 4]
    let w : BitVec 256 := (cw 0x24 64 0x1000 0x03 0)
    let s : State := { courseS 0xFFFFF {} { word := some (cw 0x24 64 0x1000 0x03 0) } with iface := { tdm := [(3, { role := 1 })] } }
    let x := s.course c
    let n := wCount w
    let base := (s.ctxRec c).hostBase
    let recv := (wSel w).getLsbD 4
    let buffer := s.devBytes (bits (wAddr w) 0 35) n
    let tx : RawOp := { owner := .course c, op := wOp w, sel := wSel w, param := wParam w, count := n, data := buffer, base := base, segs := [] }
    (wSpan w = false) ∧
        (wList w = false) ∧
        (wSkip w = false) ∧
        ((wAddr w).getLsbD 39 = false) ∧
        (x.total = 0) ∧
        (x.done = 0) ∧
        (x.gather = []) ∧
        (x.segs = []) ∧
        (x.spanEnd = none) ∧
        (s.heldWord c 0x24 = some w) ∧
        (recv = false) ∧
        (s.rawCheck tx = 0)) ∧
  (
    let c : CtxId := 0xFFFFF
    let data : Bytes := [1, 2, 3, 4]
    let w : BitVec 256 := (cw 0x24 64 0x1000 0x10 0)
    let s : State := { courseS 0xFFFFF {} { word := some (cw 0x24 64 0x1000 0x10 0) } with iface := { tdm := [(0, { role := 2 })] } }
    let x := s.course c
    let n := wCount w
    let base := (s.ctxRec c).hostBase
    let recv := (wSel w).getLsbD 4
    let rx : RawOp := { owner := .course c, op := wOp w, sel := wSel w, param := wParam w, count := n, data := [], base := base, segs := [(wAddr w, n)] }
    (wSpan w = false) ∧
        (wList w = false) ∧
        (wSkip w = false) ∧
        ((wAddr w).getLsbD 39 = false) ∧
        (x.total = 0) ∧
        (x.done = 0) ∧
        (x.gather = []) ∧
        (x.segs = []) ∧
        (x.spanEnd = none) ∧
        (s.heldWord c 0x24 = some w) ∧
        (recv = true) ∧
        (s.rawCheck rx = 0)) ∧
  (
    let c : CtxId := 0xFFFFF
    let r : RawOp := { owner := .course 0xFFFFF, op := 0x20, sel := 0x10, param := 0, count := 4, segs := [(0x36FFFFFFC#40, 4)] }
    let data : Bytes := [1, 2, 3, 4]
    let w : BitVec 256 := (cw 0x20 4 0x36FFFFFFC 0x10 0)
    let s : State := { courseS 0xFFFFF {} { word := some (cw 0x20 4 0x36FFFFFFC 0x10 0), wait := some .raw } with raws := [{ owner := .course 0xFFFFF, op := 0x20, sel := 0x10, param := 0, count := 4, segs := [(0x36FFFFFFC#40, 4)] }] }
    let x := s.course c
    (wSpan w = false) ∧
        (wList w = false) ∧
        (wSkip w = false) ∧
        ((wAddr w).getLsbD 39 = false) ∧
        (x.total = 0) ∧
        (x.done = 0) ∧
        (x.gather = []) ∧
        (x.segs = []) ∧
        (x.spanEnd = none) ∧
        (s.raws = [r]) ∧
        (r.owner = .course c) ∧
        (r.op ≠ 0x21) ∧
        (r.receives = true) ∧
        (r.skip = false) ∧
        (r.data = []) ∧
        (r.segs = [(wAddr w, r.count)]) ∧
        (0 < r.count) ∧
        (data.length = r.count) ∧
        ((wAddr w).toNat + r.count ≤ 0x370000000) ∧
        (s.inRung2 (rawFunc r) = false) ∧
        (x.word = some w) ∧
        (x.stop = false) ∧
        (wNext w = true) ∧
        (wPost w = false) ∧
        (s.holdup.declared = false)) := by
  refine ⟨?_, ?_, ?_, ?_, ?_, ?_, ?_, ?_, ?_⟩ <;> (decide +kernel)

/-- The premises of `Obligations.LaneArrivals` hold together: clause by clause, of these states and operands. -/
theorem witness_LaneArrivals :
  (
    let key : BitVec 320 := 0x0901#320
    let s : State := onS
    (s.laneFor key = none)) ∧
  (
    let l : Lane := 255
    let key : BitVec 320 := 0x0901#320
    let s : State := { onS with bind := ({ active := { stash := [bindS 0x0901#320 255#8] } }) }
    let y := s.lane l
    (s.laneFor key = some l.val) ∧
        (y.active = false)) ∧
  (
    let l : Lane := 255
    let key : BitVec 320 := 0x0901#320
    let s : State := { onS with bind := ({ active := { stash := [bindS 0x0901#320 255#8] } }), lanes := [(255, { active := true })] }
    let y := s.lane l
    (s.laneFor key = some l.val) ∧
        (y.active = true) ∧
        (s.holdup.declared = false) ∧
        (y.ingest = none)) ∧
  (
    let l : Lane := 255
    let u : RingUnit := unitS 0x0901#320 [1, 2]
    let c : Nat := 5
    let o : ObjChain := chainS 5 5
    let w : BitVec 256 := cw 0x10 100 0 255 0
    let rest : List RingUnit := [unitS 0x0901#320 [3]]
    let s : State := { courseS 5 {} { word := some (cw 0x10 100 0 255 0), wait := some (.ingest 255) } with bind := ({ active := { stash := [bindS 0x0901#320 255#8] } }), lanes := [(255, { active := true, obj := some (chainS 5 5), ingest := some 5, ring := [unitS 0x0901#320 [1, 2], unitS 0x0901#320 [3]], share := 32 })] }
    let y := s.lane l
    let r := frameRecord u y.gapNext
    let n := r.bytes.length
    let f := y.fill
    (s.laneType l = 5) ∧
        (y.ring = u :: rest) ∧
        (y.ingest = some c) ∧
        ((s.course c).word = some w) ∧
        (wSkip w = false) ∧
        ((s.course c).total = 0) ∧
        (s.holdup.declared = false) ∧
        (s.holdup.closed = false) ∧
        (y.obj = some o) ∧
        (y.acts = []) ∧
        (y.openRec = none) ∧
        (y.nextFill = none) ∧
        (y.inflight.toNat + n ≤ y.share.toNat) ∧
        (f.align = 0) ∧
        (f.due = none) ∧
        (f.payload.length + n < f.capacity)) ∧
  (
    let l : Lane := 255
    let u : RingUnit := unitS 0x0901#320 [1, 2]
    let rest : List RingUnit := []
    let c : Nat := 5
    let o : ObjChain := chainS 5 5
    let w : BitVec 256 := cw 0x10 100 0 255 0
    let s : State := { courseS 5 {} { word := some (cw 0x10 100 0 255 0), wait := some (.ingest 255) } with bind := ({ active := { stash := [bindS 0x0901#320 255#8] } }), lanes := [(255, { active := true, obj := some (chainS 5 5), ingest := some 5, ring := [unitS 0x0901#320 [1, 2]], share := 15 })] }
    let y := s.lane l
    let r := frameRecord u y.gapNext
    let n := r.bytes.length
    let f := y.fill
    (s.laneType l = 5) ∧
        (y.ring = u :: rest) ∧
        (y.ingest = some c) ∧
        ((s.course c).word = some w) ∧
        (wSkip w = false) ∧
        ((s.course c).total = 0) ∧
        (s.holdup.declared = false) ∧
        (s.holdup.closed = false) ∧
        (y.obj = some o) ∧
        (y.acts = []) ∧
        (y.openRec = none) ∧
        (y.nextFill = none) ∧
        (y.share.toNat < y.inflight.toNat + n) ∧
        (f.payload = []) ∧
        (o.sourceType ≠ 7)) ∧
  (
    let l : Lane := 255
    let u : RingUnit := unitS 0x0901#320 [1, 2]
    let rest : List RingUnit := []
    let c : Nat := 5
    let s : State := { (courseS 5 {} { word := some (cw 0x10 100 0 255 0), wait := some (.ingest 255) }) with bind := ({ active := { stash := [bindS 0x0901#320 255#8] } }), lanes := [(255, { active := true, obj := some (chainS 5 1), ingest := some 5, ring := [unitS 0x0901#320 [1, 2]], share := 15 })] }
    let y := s.lane l
    (s.laneType l = 1 ∨ s.laneType l = 2 ∨ s.laneType l = 3) ∧
        (y.ring = u :: rest) ∧
        (y.ingest = some c) ∧
        (y.ready = []) ∧
        (rtpOk u.bytes = false)) ∧
  (
    let l : Lane := 255
    let key : BitVec 320 := 0x0901#320
    let rest : List RingUnit := []
    let c : Nat := 5
    let next : W32 := 0xFFFFFFF0#32
    let u : RingUnit := unitS 0x0901#320 (rtpB 0x0001)
    let s : State := { (courseS 5 {} { word := some (cw 0x10 100 0 255 0), wait := some (.ingest 255) }) with bind := ({ active := { stash := [bindS 0x0901#320 255#8] } }), lanes := [(255, { active := true, obj := some (chainS 5 1), ingest := some 5, ring := [unitS 0x0901#320 (rtpB 0x0001)], share := 15, windows := [(9, { next := some 0xFFFFFFF0#32, held := [{ seq := 0xFFFFFFF1#32, unit := unitS 0 [], since := 0 }] })] })] }
    let y := s.lane l
    let d := (rtpSeq u.bytes - next.setWidth 16).toNat
    let win := y.window (rtpSsrc u.bytes)
    (s.laneType l = 1 ∨ s.laneType l = 2 ∨ s.laneType l = 3) ∧
        (y.ring = u :: rest) ∧
        (y.ingest = some c) ∧
        (y.ready = []) ∧
        (rtpOk u.bytes = true) ∧
        ((s.bind.lookup u.key).isSome = true) ∧
        (win.next = some next) ∧
        (1 ≤ d) ∧
        (d ≤ s.laneCfg l 8) ∧
        (d ≤ 3000) ∧
        ((∀ p ∈ win.held, p.seq ≠ next + BitVec.ofNat 32 d))) ∧
  (
    let l : Lane := 255
    let key : BitVec 320 := 0x0901#320
    let rest : List RingUnit := []
    let c : Nat := 5
    let next : W32 := 0xFFFFFFF0#32
    let u : RingUnit := unitS 0x0901#320 (rtpB 0xFFF1)
    let s : State := { (courseS 5 {} { word := some (cw 0x10 100 0 255 0), wait := some (.ingest 255) }) with bind := ({ active := { stash := [bindS 0x0901#320 255#8] } }), lanes := [(255, { active := true, obj := some (chainS 5 3), ingest := some 5, ring := [unitS 0x0901#320 (rtpB 0xFFF1)], share := 15, windows := [(9, { next := some 0xFFFFFFF0#32, held := [{ seq := 0xFFFFFFF5#32, unit := unitS 0 [], since := 0 }] })] })] }
    let y := s.lane l
    let d := (rtpSeq u.bytes - next.setWidth 16).toNat
    let win := y.window (rtpSsrc u.bytes)
    (s.laneType l = 1 ∨ s.laneType l = 2 ∨ s.laneType l = 3) ∧
        (y.ring = u :: rest) ∧
        (y.ingest = some c) ∧
        (y.ready = []) ∧
        (rtpOk u.bytes = true) ∧
        ((s.bind.lookup u.key).isSome = true) ∧
        (win.next = some next) ∧
        (1 ≤ d) ∧
        (d ≤ s.laneCfg l 8) ∧
        (d ≤ 3000) ∧
        ((∀ p ∈ win.held, p.seq ≠ next + BitVec.ofNat 32 d))) ∧
  (
    let l : Lane := 255
    let key : BitVec 320 := 0x0901#320
    let rest : List RingUnit := []
    let c : Nat := 5
    let next : W32 := 0xFFFFFFF0#32
    let u : RingUnit := unitS 0x0901#320 (rtpB 0xFFEF)
    let s : State := { (courseS 5 {} { word := some (cw 0x10 100 0 255 0), wait := some (.ingest 255) }) with bind := ({ active := { stash := [bindS 0x0901#320 255#8] } }), lanes := [(255, { active := true, obj := some (chainS 5 2), ingest := some 5, ring := [unitS 0x0901#320 (rtpB 0xFFEF)], share := 15, windows := [(9, { next := some 0xFFFFFFF0#32 })] })] }
    let y := s.lane l
    let d := (rtpSeq u.bytes - next.setWidth 16).toNat
    let win := y.window (rtpSsrc u.bytes)
    (s.laneType l = 1 ∨ s.laneType l = 2 ∨ s.laneType l = 3) ∧
        (y.ring = u :: rest) ∧
        (y.ingest = some c) ∧
        (y.ready = []) ∧
        (rtpOk u.bytes = true) ∧
        ((s.bind.lookup u.key).isSome = true) ∧
        (win.next = some next) ∧
        (65436 ≤ d) ∧
        (s.laneCfg l 8 ≠ 0) ∧
        (y.nextFill = none)) ∧
  (
    let l : Lane := 255
    let key : BitVec 320 := 0x0901#320
    let rest : List RingUnit := []
    let c : Nat := 5
    let next : W32 := 0xFFFFFFF0#32
    let u : RingUnit := unitS 0x0901#320 (rtpB 0xFF8C)
    let s : State := { (courseS 5 {} { word := some (cw 0x10 100 0 255 0), wait := some (.ingest 255) }) with bind := ({ active := { stash := [bindS 0x0901#320 255#8] } }), lanes := [(255, { active := true, obj := some (chainS 5 2), ingest := some 5, ring := [unitS 0x0901#320 (rtpB 0xFF8C)], share := 15, windows := [(9, { next := some 0xFFFFFFF0#32 })] })] }
    let y := s.lane l
    let d := (rtpSeq u.bytes - next.setWidth 16).toNat
    let win := y.window (rtpSsrc u.bytes)
    (s.laneType l = 1 ∨ s.laneType l = 2 ∨ s.laneType l = 3) ∧
        (y.ring = u :: rest) ∧
        (y.ingest = some c) ∧
        (y.ready = []) ∧
        (rtpOk u.bytes = true) ∧
        ((s.bind.lookup u.key).isSome = true) ∧
        (win.next = some next) ∧
        (65436 ≤ d) ∧
        (s.laneCfg l 8 ≠ 0) ∧
        (y.nextFill = none)) ∧
  (
    let l : Lane := 255
    let ssrc : W32 := 9
    let next : W32 := 0xFFFFFFF0#32
    let h : HeldPkt := { seq := 0xFFFFFFFF#32, unit := unitS 0x0901#320 (rtpB 0xFFFF), since := 0 }
    let s : State := { onS with bind := ({ active := { stash := [bindS 0x0901#320 255#8] } }), lanes := [(255, { active := true, obj := some (chainS 5 2), windows := [(9, { next := some 0xFFFFFFF0#32, held := [{ seq := 0xFFFFFFFF#32, unit := unitS 0x0901#320 (rtpB 0xFFFF), since := 0 }] })] })] }
    let y := s.lane l
    ((y.window ssrc).held = [h]) ∧
        ((y.window ssrc).next = some next) ∧
        (y.ingest = none)) ∧
  (
    let l : Lane := 255
    let o : ObjChain := chainS 5 5
    let s : State := { onS with time := { mono := some 5 }, lanes := [(255, { active := true, obj := some (chainS 5 5), fill := { payload := [1] } })] }
    let y := s.lane l
    let f := y.fill
    (y.nextFill = none) ∧
        (f.payload ≠ []) ∧
        (f.payload.length < f.capacity) ∧
        (s.canClose l = true) ∧
        (y.obj = some o) ∧
        (y.acts = []) ∧
        (y.openRetry = false) ∧
        (y.ingest = none) ∧
        (s.courses.held = []) ∧
        (s.holdup.lastCourse = false)) := by
  refine ⟨?_, ?_, ?_, ?_, ?_, ?_, ?_, ?_, ?_, ?_, ?_, ?_⟩ <;> (decide +kernel)

/-- The premises of `Obligations.LaneProgress` hold together: clause by clause, of these states and operands. -/
theorem witness_LaneProgress :
  (
    let l : Lane := 255
    let b : Brick := brickS 5 3 [1, 2]
    let i : Nat := 14
    let j : Job := { kind := .seal 255, unit := some 9 }
    let o : ObjChain := chainS 5 2
    let s : State := { onS with mortar := { input := [(14, { jobs := [{ kind := .seal 255, unit := some 9 }] })] }, time := { mono := some 5 }, lanes := [(255, { active := true, obj := some (chainS 5 2), sealing := some (brickS 5 3 [1, 2]) })] }
    let y := s.lane l
    let quiet := s.courses.held = [] ∧ y.acts = [] ∧ y.fill.payload = [] ∧ 576 < y.fill.size ∧ y.openRetry = false ∧ y.ingest = none ∧
      s.holdup.lastCourse = false
    (s.mortar.grantedJob (.seal l) = some (i, j)) ∧
        (y.sealing = some b) ∧
        (b.digest = none) ∧
        (b.gapStatus = 0) ∧
        (y.writing = none) ∧
        (quiet) ∧
        (y.obj = some o) ∧
        (o.ctx = b.ctx) ∧
        (y.tailWait = false)) ∧
  (
    let l : Lane := 255
    let w : Fin 2 := 0
    let b : Brick := { brickS 5 3 [1, 2] with issued := true }
    let s : State := wytheS { onS with time := { mono := some 5 }, lanes := [(255, { active := true, obj := some (chainS 5 2), copeBricks := 0, inflight := 2, led := { accepted := 2 }, writing := some { brickS 5 3 [1, 2] with issued := true } })] }
    let y := s.lane l
    let quiet := s.courses.held = [] ∧ y.acts = [] ∧ y.fill.payload = [] ∧ 576 < y.fill.size ∧ y.openRetry = false ∧ y.ingest = none ∧
      s.holdup.lastCourse = false
    (s.wytheList = [w.val]) ∧
        (y.writing = some b) ∧
        (b.issued = true) ∧
        (b.written = []) ∧
        (b.last = false) ∧
        (y.sealing = none) ∧
        (y.recWrites = []) ∧
        (y.copeBricks = 0) ∧
        (quiet)) ∧
  (
    let l : Lane := 255
    let w : Fin 2 := 0
    let rw : RecWrite := ({ kind := 1, ctx := 5, seq := 3, bytes := [1, 2], mono := 5, issued := true })
    let s : State := wytheS { onS with time := { mono := some 5 }, lanes := [(255, { active := true, obj := some (chainS 5 2), recWrites := [({ kind := 1, ctx := 5, seq := 3, bytes := [1, 2], mono := 5, issued := true })] })] }
    let y := s.lane l
    let quiet := s.courses.held = [] ∧ y.acts = [] ∧ y.fill.payload = [] ∧ 576 < y.fill.size ∧ y.openRetry = false ∧ y.ingest = none ∧
      s.holdup.lastCourse = false
    (s.wytheList = [w.val]) ∧
        (y.writing = none) ∧
        (y.sealing = none) ∧
        (y.recWrites = [rw]) ∧
        (rw.issued = true) ∧
        (rw.written = []) ∧
        (quiet)) ∧
  (
    let l : Lane := 255
    let s : State := onS
    let y := s.lane l
    (y.active = false) ∧
        (s.openCheck l ≠ 0)) ∧
  (
    let l : Lane := 255
    let k : Nat := 1
    let fr : List (Nat × Nat) := [(2, 1048574)]
    let s : State := { (onS.setDict 0x30FF 1 [2]).setDict 0x4840 1 [1] with ctx := { restoreDone := true }, bind := { order := [(255, [5])] }, wythes := { configured := 1 }, time := { mono := some 5 }, sec := { fuse := { lc := 1 } } }
    let y := s.lane l
    (y.active = false) ∧
        (s.openCheck l = 0) ∧
        (s.ctx.restoreDone = true) ∧
        (y.obj = none) ∧
        (y.acts = []) ∧
        (s.wythes.ssdsReady = false) ∧
        (freeTake s.ctx.free = some (k, fr))) ∧
  (
    let l : Lane := 255
    let o : ObjChain := chainS 5 2
    let k : Nat := 1
    let fr : List (Nat × Nat) := [(2, 1048574)]
    let s : State := { (onS.setDict 0x30FF 1 [2]).setDict 0x4840 1 [1] with ctx := { restoreDone := true, table := [(5, { state := 2 })] }, bind := { order := [(255, [5])] }, wythes := { configured := 1 }, time := { mono := some 5 }, sec := { fuse := { lc := 1 } }, lanes := [(255, { active := true, span := 1, obj := some (chainS 5 2), fill := { payload := [1] } })] }
    let y := s.lane l
    (y.active = true) ∧
        (y.span ≠ 0) ∧
        (y.obj = some o) ∧
        (y.nextFill = none) ∧
        (y.fill.payload.length < y.fill.capacity) ∧
        (s.canClose l = true) ∧
        (y.acts = []) ∧
        (y.ingest = none) ∧
        (s.courses.held = []) ∧
        (s.holdup.lastCourse = false) ∧
        (s.ctx.restoreDone = true) ∧
        (s.wythes.ssdsReady = false) ∧
        (freeTake s.ctx.free = some (k, fr)) ∧
        (y.rec1 = none) ∧
        (y.recQueue = []) ∧
        (y.scanned = true) ∧
        (s.time.mono.isSome = true) ∧
        (s.slotHoldsKey (s.laneCfg l 0xA) = true)) ∧
  (
    let l : Lane := 255
    let o : ObjChain := chainS 5 2
    let s : State := { onS.setDict 0x4840 1 [1] with time := { mono := some 5 }, sec := { fuse := { lc := 1 } }, lanes := [(255, { active := true, obj := some (chainS 5 2), signedSeq := 3 })] }
    let y := s.lane l
    (y.obj = some o) ∧
        (y.rec1 = none) ∧
        (y.recQueue = []) ∧
        (y.scanned = true) ∧
        (s.time.mono.isSome = true) ∧
        (s.slotHoldsKey (s.laneCfg l 0xA) = true)) ∧
  (
    let l : Lane := 255
    let o : ObjChain := chainS 5 2
    let r : RecWait := ({ req := { kind := 1, ctx := 5 }, seq := 4, body := [1], slot := 7, epoch := 1 })
    let s : State := { onS with lanes := [(255, { active := true, obj := some (chainS 5 2), rec1 := some ({ req := { kind := 1, ctx := 5 }, seq := 4, body := [1], slot := 7, epoch := 1 }) })] }
    let y := s.lane l
    (y.obj = some o) ∧
        (y.rec1 = some r)) ∧
  (
    let l : Lane := 255
    let r : RecWait := ({ req := { kind := 1, ctx := 5 }, seq := 4, body := [1], slot := 7, epoch := 1 })
    let j : Job := { kind := .cope 255, unit := some 0 }
    let i : Nat := 0
    let s : State := { onS with mortar := { input := [(0, { jobs := [{ kind := .cope 255, unit := some 0 }] })] }, lanes := [(255, { active := true, obj := some (chainS 5 2), rec1 := some ({ req := { kind := 1, ctx := 5 }, seq := 4, body := [1], slot := 7, epoch := 1 }) })] }
    let y := s.lane l
    let quiet := s.courses.held = [] ∧ y.acts = [] ∧ y.fill.payload = [] ∧ 576 < y.fill.size ∧ y.openRetry = false ∧ y.ingest = none ∧
      s.holdup.lastCourse = false
    (s.mortar.grantedJob (.cope l) = some (i, j)) ∧
        (y.rec1 = some r) ∧
        (y.recQueue = []) ∧
        (y.cadenceDue = false) ∧
        (y.sealing = none) ∧
        (y.writing = none) ∧
        (quiet)) ∧
  (
    let c : CtxId := 0xFFFFF
    let s : State := { courseS 0xFFFFF { state := 3, deadline := 5 } {} with time := { now := 5 } }
    (s.ctxList = [c.val]) ∧
        (s.sweepDue c = true) ∧
        (s.memberList = []) ∧
        ((s.ctxRec c).suspended = false)) ∧
  (
    let l : Lane := 255
    let r : RecWait := ({ req := { kind := 1, ctx := 5 }, seq := 4, body := [1], slot := 7, epoch := 1 })
    let c : CtxId := 0xFFFFF
    let word : BitVec 256 := cw 0x16 0 0 0 0
    let s : State := { courseS 0xFFFFF { state := 3, lane := 255 } { word := some (cw 0x16 0 0 0 0), wait := some (.raze 0xFFFFF) } with lanes := [(255, { razeReady := [(0xFFFFF, 4)] })] }
    let y := s.lane l
    (s.lanes = [(l.val, y)]) ∧
        (y.razeReady = [(c.val, r.seq)]) ∧
        (s.memberList = []) ∧
        (s.holdup.declared = false) ∧
        (s.courses.held = [(c.val, { s.course c with word := some word, wait := some (.raze c) })]) ∧
        ((s.course c).stop = false) ∧
        (wNext word = true) ∧
        (wPost word = false) ∧
        (wSpan word = false)) := by
  refine ⟨?_, ?_, ?_, ?_, ?_, ?_, ?_, ?_, ?_, ?_, ?_⟩ <;> (decide +kernel)

/-- The premises of `Obligations.HorizonAndBank` hold together: clause by clause, of these states and operands. -/
theorem witness_HorizonAndBank :
  (
    let v : Nat := 4000
    let why : BankDue := .periodic
    let idle : Nat := 5
    let mA : Nat := 2000
    let s : State := { onS with holdup := { inadequate := 1, horizon := 0 } }
    let due := match why with
      | .ignition => s.holdup.ignition = true ∧ s.holdup.tested = false ∧ s.cfg 0x4000 2 ≤ v + 200
      | .periodic => s.power.phase = Phase.run
      | .thermistor => 15 ≤ (s.holdup.tbank.toInt - s.holdup.tMeas.toInt).natAbs
    (s.holdup.inadequate.getLsbD 0 = true) ∧
        (s.causes = 0) ∧
        (5 * s.brickSum ≤ 4 * s.holdup.horizon.toNat) ∧
        (s.holdup.bankUse = .idle) ∧
        (s.holdup.declared = false) ∧
        (due) ∧
        (4000 ≤ v) ∧
        (2000 ≤ mA)) ∧
  (
    let s : State := { onS with holdup := { inadequate := 0xF#4, horizon := 0x280000 }, lanes := [(255, { active := true })] }
    (s.holdup.inadequate.getLsbD 0 = true) ∧
        (s.causes = 0) ∧
        (5 * s.brickSum ≤ 4 * s.holdup.horizon.toNat)) ∧
  (
    let idle : Nat := 5
    let v : Nat := 3999
    let mA : Nat := 2000
    let why : BankDue := .ignition
    let s : State := { onS with holdup := { drillAsked := true, ignition := true } }.setDict 0x4000 2 (toLE 4 4199)
    let due := match why with
      | .ignition => s.holdup.ignition = true ∧ s.holdup.tested = false ∧ s.cfg 0x4000 2 ≤ v + 200
      | .periodic => s.power.phase = Phase.run
      | .thermistor => 15 ≤ (s.holdup.tbank.toInt - s.holdup.tMeas.toInt).natAbs
    (s.holdup.bankUse = .idle) ∧
        (s.holdup.declared = false) ∧
        (due) ∧
        (v < 4000 ∨ mA < 2000) ∧
        (s.holdup.ride = none) ∧
        (s.holdup.drillAsked = true)) ∧
  (
    let why : BankDue := .periodic
    let idle : Nat := 5
    let v : Nat := 4000
    let mA : Nat := 1999
    let s : State := { wytheS onS with holdup := { drillAsked := true } }
    let due := match why with
      | .ignition => s.holdup.ignition = true ∧ s.holdup.tested = false ∧ s.cfg 0x4000 2 ≤ v + 200
      | .periodic => s.power.phase = Phase.run
      | .thermistor => 15 ≤ (s.holdup.tbank.toInt - s.holdup.tMeas.toInt).natAbs
    (s.holdup.bankUse = .idle) ∧
        (s.holdup.declared = false) ∧
        (due) ∧
        (v < 4000 ∨ mA < 2000)) ∧
  (
    let microC : Nat := 2200
    let milliV : Nat := 1
    let microV : Nat := 1
    let milliA : Nat := 1
    let s : State := { onS with holdup := { bankUse := .test } }.setDict 0x4000 1 (toLE 4 2200)
    let h := s.journal.now
    let c := microC / milliV
    let esr := 1000 * microV / milliA
    (s.holdup.bankUse = .test) ∧
        (0 < milliV) ∧
        (0 < milliA) ∧
        (s.cfg 0x4000 1 ≤ 5 * c) ∧
        (c ≤ 5 * s.cfg 0x4000 1) ∧
        (1000 ≤ esr) ∧
        (esr ≤ 2000000) ∧
        (s.chgEn = false) ∧
        (h.qStored = h.qIn - h.qOut - h.qLeak)) ∧
  (
    let microC : Nat := 2200
    let milliV : Nat := 1
    let microV : Nat := 999
    let milliA : Nat := 1000
    let s : State := { onS with holdup := { bankUse := .test } }.setDict 0x4000 1 (toLE 4 2200)
    let c := microC / milliV
    let esr := 1000 * microV / milliA
    (s.holdup.bankUse = .test) ∧
        (0 < milliV) ∧
        (0 < milliA) ∧
        (5 * c < s.cfg 0x4000 1 ∨ 5 * s.cfg 0x4000 1 < c ∨ esr < 1000 ∨ 2000000 < esr)) ∧
  (
    let milliV : Nat := 1
    let microV : Nat := 2000000
    let milliA : Nat := 1000
    let microC : Nat := 440
    let s : State := { onS with holdup := { bankUse := .test } }.setDict 0x4000 1 (toLE 4 2200)
    let c := microC / milliV
    let esr := 1000 * microV / milliA
    (s.holdup.bankUse = .test) ∧
        (0 < milliV) ∧
        (0 < milliA) ∧
        (s.cfg 0x4000 1 ≤ 5 * c) ∧
        (c ≤ 5 * s.cfg 0x4000 1) ∧
        (1000 ≤ esr) ∧
        (esr ≤ 2000000)) ∧
  (
    let s : State := { onS with holdup := { bankUse := .drill } }
    let h := s.journal.now
    (s.chgEn = false) ∧
        (h.qStored = h.qIn - h.qOut - h.qLeak)) ∧
  (
    let drawn : Nat := 5000
    let idle : Nat := 5
    let s : State := { (wytheS onS) with holdup := { bankUse := .drill }, wythes := { configured := 1, member := [(0, { drillBytes := 7 })] } }
    let n := s.drillWritten
    (s.holdup.bankUse = .drill) ∧
        (0 < n) ∧
        (idle ≤ drawn)) ∧
  (
    let s : State := { onS with holdup := { bankUse := .drill }, journal := { head := { qIn := 10, qOut := 3, qLeak := 0xFFFFFFFFFFFFFFFF#64, qStored := 8 } } }
    let h := s.journal.now
    (s.chgEn = false) ∧
        (h.qStored = h.qIn - h.qOut - h.qLeak)) ∧
  (
    let idle : Nat := 5
    let mA : Nat := 2000
    let why : BankDue := .thermistor
    let v : Nat := 4000
    let s : State := { onS with holdup := { tbank := 40#16, tMeas := 25#16 } }
    let due := match why with
      | .ignition => s.holdup.ignition = true ∧ s.holdup.tested = false ∧ s.cfg 0x4000 2 ≤ v + 200
      | .periodic => s.power.phase = Phase.run
      | .thermistor => 15 ≤ (s.holdup.tbank.toInt - s.holdup.tMeas.toInt).natAbs
    (s.holdup.bankUse = .idle) ∧
        (s.holdup.declared = false) ∧
        (due) ∧
        (4000 ≤ v) ∧
        (2000 ≤ mA)) ∧
  (
    let drawn : Nat := 5000
    let idle : Nat := 5
    let s : State := { (wytheS onS) with holdup := { bankUse := .drill }, wythes := { configured := 1, member := [(0, { drillBytes := 7, ready := true, entry := 0x80000000#64 })] }, power := { phase := .run, refclkOk := true, pllLock := true, railEn := 0x1FF } }
    let n := s.drillWritten
    (s.holdup.bankUse = .drill) ∧
        (0 < n) ∧
        (idle ≤ drawn)) := by
  refine ⟨?_, ?_, ?_, ?_, ?_, ?_, ?_, ?_, ?_, ?_, ?_, ?_⟩ <;> (decide +kernel)

/-- The premises of `Obligations.SupplyAndRestart` hold together: clause by clause, of these states and operands. -/
theorem witness_SupplyAndRestart :
  (
    let v : Nat := 8999
    let b : Nat := 5001
    let s : State := ((onS.setDict 0x4002 1 (toLE 2 9000)).setDict 0x4002 4 (toLE 2 5000))
    let a := { s with holdup := { s.holdup with vsup := BitVec.ofNat 16 v, bankNow := BitVec.ofNat 16 b } }
    (s.power.phase = .run) ∧
        (s.holdup.declared = false) ∧
        (s.holdup.ride = none) ∧
        (v < 65536) ∧
        (v < s.cfg 0x4002 1) ∧
        (0 < s.cfg 0x4002 3) ∧
        (a.triggers = 0) ∧
        (s.wythes.ssdsReady = false) ∧
        (s.memberList = []) ∧
        (s.lanes = []) ∧
        (s.ctx.cache = []) ∧
        (s.ctx.table = []) ∧
        (s.ctx.imageQueue = [])) ∧
  (
    let v : Nat := 8999
    let b : Nat := 20000
    let s : State := ((onS.setDict 0x4002 1 (toLE 2 9000)).setDict 0x4002 4 (toLE 2 5000))
    let a := { s with holdup := { s.holdup with vsup := BitVec.ofNat 16 v, bankNow := BitVec.ofNat 16 b } }
    (s.power.phase = .run) ∧
        (s.holdup.declared = false) ∧
        (s.holdup.ride = none) ∧
        (v < 65536) ∧
        (v < s.cfg 0x4002 1) ∧
        (0 < s.cfg 0x4002 3) ∧
        (a.triggers = 0)) ∧
  (
    let v : Nat := 9000
    let s : State := ((onS.setDict 0x4002 1 (toLE 2 9000)).setDict 0x4002 4 (toLE 2 5000))
    (s.power.phase = .run) ∧
        (s.holdup.declared = false) ∧
        (s.holdup.ride = none) ∧
        (v < 65536) ∧
        (s.cfg 0x4002 1 ≤ v)) ∧
  (
    let v : Nat := 65535
    let s : State := onS
    (s.power.phase = .run) ∧
        (s.holdup.declared = false) ∧
        (s.holdup.ride = none) ∧
        (v < 65536) ∧
        (s.cfg 0x4002 1 ≤ v)) ∧
  (
    let s : State := { onS with holdup := { ride := some 5#48, vsup := 0xFFFF } }
    (s.power.phase = .run) ∧
        (s.holdup.declared = false) ∧
        (s.holdup.ride.isSome = true) ∧
        (s.supplyGood = true) ∧
        (s.ladder.warm = none) ∧
        (s.ladder.deferred = none) ∧
        (s.lanes = []) ∧
        (s.hods = []) ∧
        (s.courses.held = []) ∧
        (s.raws = []) ∧
        (s.memberList = []) ∧
        (s.ctx.imageQueue = []) ∧
        (s.mortar.input = [])) ∧
  (
    let s : State := { onS with holdup := { declared := true, lcOver := true, supplyBack := some 5#48 }, tiles := [(11, { gen := 0xFFFF })], engines := [(5, { run := .running })], mem := [(0, 1#8)] }
    (s.power.phase = .run) ∧
        (s.holdup.declared = true) ∧
        (s.holdup.lcOver = true) ∧
        (s.holdup.supplyBack.isSome = true)) ∧
  (
    let s : State := onS
    (s.power.phase = .run) ∧
        (s.wythes.ssdsReady = false) ∧
        (s.holdup.declared = false) ∧
        (s.memberList = []) ∧
        (s.lanes = []) ∧
        (s.ctx.cache = []) ∧
        (s.ctx.table = []) ∧
        (s.ctx.imageQueue = [])) ∧
  (
    let l : Lane := 255
    let c : Nat := 5
    let s : State := { onS.setDict 0x30FF 1 [2] with wythes := { ssdsReady := true }, lanes := [(255, { scanned := false, led := { isOpen := true, context := 5, accepted := 7, durable := 4, lost := 3, lastSeq := 9, recordSeq := 2 } })], ctx := { restoreDone := true, table := [(5, { state := 2, lane := 255, sourceType := 2 })] } }
    let y := s.lane l
    let r := s.ctxRec c
    (s.wythes.ssdsReady = true) ∧
        (s.holdup.declared = false) ∧
        (s.holdup.lastCourse = false) ∧
        (s.courses.held = []) ∧
        (s.journal.valid = true) ∧
        (y.led.isOpen = true) ∧
        (y.scanned = false) ∧
        (y.acts = []) ∧
        (y.fill.payload = []) ∧
        (576 < y.fill.size) ∧
        (y.ingest = none) ∧
        (y.openRetry = false) ∧
        (y.led.accepted = y.led.durable + y.led.lost) ∧
        (y.led.durable.toNat + y.led.lost.toNat < 2 ^ 64) ∧
        (c = y.led.context.toNat) ∧
        (s.ctxList = [c]) ∧
        (r.state = 2) ∧
        (r.lane = BitVec.ofNat 8 l) ∧
        (r.sourceType.toNat = s.laneCfg l 1) ∧
        (s.laneCfg l 1 ≠ 0)) := by
  refine ⟨?_, ?_, ?_, ?_, ?_, ?_, ?_, ?_⟩ <;> (decide +kernel)

/-- The premises of `Obligations.FaultsAndWatchdogs` hold together: clause by clause, of these states and operands. -/
theorem witness_FaultsAndWatchdogs :
  (
    let op : FaultOp := .own
    let e : Eng := 95
    let t : Tile := 11
    let m : Master := 0
    let f : Func := 0x60
    let s : State := onS
    (s.faultSeen f = true) ∧
        (s.inRung2 f = false) ∧
        (s.ladder.warm = none) ∧
        (op ≠ .none) ∧
        (s.watchdogsRest = false) ∧
        (s.power.phase = .run ∨ s.power.phase = .park) ∧
        (s.ladder.ewdLimit.look 0 e = 0) ∧
        (s.power.phase = .run) ∧
        (s.coursesOn t = []) ∧
        (s.fw m = true ∨ m.val = e.val) ∧
        (s.fw m = true)) ∧
  (
    let f : Func := 0x0C
    let s : State := onS
    (s.faultSeen f = false)) ∧
  (
    let f : Func := 0x10
    let s : State := { onS with ladder := { func := [(0x10, { busy := some (0, false) })] } }
    (s.faultSeen f = true) ∧
        (s.inRung2 f = true ∨ s.ladder.warm.isSome = true)) ∧
  (
    let since : Nat := 0
    let w : Warm := ({ rung4 := true, since := 0, external := false, f := 0x6F })
    let f : Func := 0x10
    let s : State := { onS with ladder := { warm := some ({ rung4 := true, since := 0, external := false, f := 0x6F }) } }
    (s.ladder.warm = some w) ∧
        (w.rung4 = true)) ∧
  (
    let f : Func := 0x6F
    let s : State := State.reset
    (s.faultSeen f = false)) ∧
  (
    let f : Func := 0x0B
    let s : State := { onS with power := { phase := .park } }
    (s.faultSeen f = false)) ∧
  (
    let rest : List Retry := []
    let f : Func := 0x10
    let op : FaultOp := .raw (.course 5)
    let r : Retry := { op := .raw (.course 5), status := 0x0905, external := true, limit := 2, window := 7, backoff := 5 }
    let s : State := { onS with ladder := { func := [(0x10, { retries := [{ op := .raw (.course 5), status := 0x0905, external := true, limit := 2, window := 7, backoff := 5 }] })] } }
    let x := s.func f
    (takeRetry op x.retries = some (r, rest)) ∧
        (op ≠ .own) ∧
        (r.tries + 1 < r.limit)) ∧
  (
    let op : FaultOp := .own
    let rest : List Retry := []
    let r : Retry := ({ op := .own, status := 0x0905, external := true, limit := 2, window := 7, backoff := 5 })
    let f : Func := 0x10
    let s : State := { onS with ladder := { func := [(0x10, { retries := [({ op := .own, status := 0x0905, external := true, limit := 2, window := 7, backoff := 5 })] })] } }.setDict 0x5110 1 [2]
    let x := s.func f
    (takeRetry op x.retries = some (r, rest)) ∧
        (r.tries + 1 < r.limit)) ∧
  (
    let f : Func := 0x2F
    let since : Nat := 5
    let ext : Bool := false
    let s : State := { onS with aon := 80000, ladder := { func := [(0x2F, { busy := some (5, false) })] } }
    let x := s.func f
    (x.busy = some (since, ext)) ∧
        (0x28 ≤ f.val) ∧
        (f.val ≤ 0x2F)) ∧
  (
    let ext : Bool := true
    let f : Func := 0x28
    let since : Nat := 0
    let s : State := { onS with aon := 80000, ladder := { func := [(0x28, { busy := some (0, true) })] } }
    let x := s.func f
    (x.busy = some (since, ext)) ∧
        (0x28 ≤ f.val) ∧
        (f.val ≤ 0x2F)) ∧
  (
    let f : Func := 0x6F
    let since : Nat := 0
    let w : Warm := ({ rung4 := true, since := 0, external := false, f := 0x6F })
    let s : State := { onS with ladder := { warm := some ({ rung4 := true, since := 0, external := false, f := 0x6F }) } }
    (s.ladder.warm = some w) ∧
        (w.rung4 = true)) ∧
  (
    let f : Func := 0x6F
    let since : Nat := 0
    let w : Warm := { rung4 := false, since := 0, external := false, f := 0x6F }
    let s : State := { onS with ladder := { warm := some { rung4 := false, since := 0, external := false, f := 0x6F } } }
    (s.ladder.warm = some w) ∧
        (w.rung4 = false) ∧
        (w.hot = false)) ∧
  (
    let e : Eng := 95
    let t : Tile := 11
    let s : State := { courseS 1 { tile := 11 } {} with ladder := { ewdLimit := [(95, 1#16)], dwdLimit := 1 } }
    (s.watchdogsRest = false) ∧
        (s.power.phase = .run ∨ s.power.phase = .park) ∧
        (s.ladder.ewdLimit.look 0 e ≠ 0) ∧
        (s.power.phase = .run) ∧
        (s.coursesOn t ≠ []) ∧
        (s.ladder.dwdLimit ≠ 0) ∧
        (s.ladder.warm = none) ∧
        (s.holdup.lastCourse = false) ∧
        ((s.within (s.cfg 0x5000 2) s.ladder.rung3At).length < s.cfg 0x5000 3)) ∧
  (
    let s : State := { onS with holdup := { declared := true, lcOver := false } }
    (s.watchdogsRest = true)) ∧
  (
    let m : Master := 95
    let s : State := onS
    (s.fw m = false)) ∧
  (
    let e : Eng := 95
    let m : Master := 99
    let s : State := { onS with sec := { fuse := { lc := 2 } } }
    (s.fw m = false) ∧
        (m.val ≠ e.val)) ∧
  (
    let e : Eng := 95
    let m : Master := 94
    let s : State := onS
    (s.fw m = false) ∧
        (m.val ≠ e.val)) ∧
  (
    let f : Func := 0x10
    let s : State := onS
    let x := s.func f
    (s.faultSeen f = true) ∧
        (s.inRung2 f = false) ∧
        (s.ladder.warm = none) ∧
        (s.holdup.lastCourse = false) ∧
        (hasRung2 f = true) ∧
        (0x0C ≤ f.val) ∧
        ((s.within (s.cfg (0x5100 + f) 2) x.recent).length < s.cfg 0x5000 1) ∧
        (s.raws = []) ∧
        (s.nvme = []) ∧
        (s.lanes = []) ∧
        (x.retries = [])) ∧
  (
    let f : Func := 0x66
    let s : State := { onS with aon := 76800 * 10, ladder := { func := [(0x66, { recent := [0] })] } }
    let x := s.func f
    (s.faultSeen f = true) ∧
        (s.inRung2 f = false) ∧
        (s.ladder.warm = none) ∧
        (s.holdup.lastCourse = false) ∧
        (hasRung2 f = true) ∧
        (0x0C ≤ f.val) ∧
        ((s.within (s.cfg (0x5100 + f) 2) x.recent).length < s.cfg 0x5000 1) ∧
        (s.raws = []) ∧
        (s.nvme = []) ∧
        (s.lanes = []) ∧
        (x.retries = [])) ∧
  (
    let f : Func := 0x40
    let s : State := onS
    let x := s.func f
    (s.faultSeen f = true) ∧
        (s.inRung2 f = false) ∧
        (s.ladder.warm = none) ∧
        (s.holdup.lastCourse = false) ∧
        (hasRung2 f = true) ∧
        (0x0C ≤ f.val) ∧
        ((s.within (s.cfg (0x5100 + f) 2) x.recent).length < s.cfg 0x5000 1) ∧
        (s.raws = []) ∧
        (s.nvme = []) ∧
        (s.lanes = []) ∧
        (x.retries = [])) ∧
  (
    let f : Func := 0x28
    let s : State := onS
    let x := s.func f
    (s.faultSeen f = true) ∧
        (s.inRung2 f = false) ∧
        (s.ladder.warm = none) ∧
        (s.holdup.lastCourse = false) ∧
        (hasRung2 f = true) ∧
        (0x0C ≤ f.val) ∧
        ((s.within (s.cfg (0x5100 + f) 2) x.recent).length < s.cfg 0x5000 1) ∧
        (s.raws = []) ∧
        (s.nvme = []) ∧
        (s.lanes = []) ∧
        (x.retries = [])) := by
  refine ⟨?_, ?_, ?_, ?_, ?_, ?_, ?_, ?_, ?_, ?_, ?_, ?_, ?_, ?_, ?_, ?_, ?_, ?_, ?_, ?_, ?_⟩ <;> (decide +kernel)

/-- The premises of `Obligations.PowerAndRunControl` hold together: clause by clause, of these states and operands. -/
theorem witness_PowerAndRunControl :
  (
    let m : Master := 98
    let t : Tile := 11
    let n : Fin 12 := 7
    let tj : Int := 129
    let s : State := { onS with power := ({ phase := .run, refclkOk := true, pllLock := true, railEn := 0xFFF }), engines := [(95, { run := .halted true, startPc := 5#18 })], router := { declOn := 3 } }
    let p := s.power
    let warn : Int := s.cfg 0x2003 3
    (p.phase = .run) ∧
        (s.holdup.lastCourse = false) ∧
        (n.val < 8) ∧
        (p.railEn.getLsbD n = true) ∧
        (s.runMaster m = true) ∧
        (0 < t.val) ∧
        ((s.tile t).power = .run) ∧
        (s.tileQuiet t = true) ∧
        (s.courses.held = []) ∧
        (s.lanes = []) ∧
        (s.mayCommit = false) ∧
        (p.phase ≠ .off) ∧
        (tj < 130) ∧
        (warn ≤ tj) ∧
        (p.warned = false)) ∧
  (
    let m : Master := 98
    let e : Eng := 95
    let n : Fin 12 := 0
    let tj : Int := -40
    let s : State := { engS 95 {} with power := { phase := .run, refclkOk := true, pllLock := true, railEn := 0xFFE } }
    let p := s.power
    let warn : Int := s.cfg 0x2003 3
    (p.railEn.getLsbD n = false) ∧
        (s.runMaster m = true) ∧
        ((s.eng e).run = .running) ∧
        ((s.eng e).e1 = none) ∧
        ((s.eng e).rpti = none) ∧
        (p.phase = .run) ∧
        (tj < 130) ∧
        (tj < warn)) ∧
  (
    let m : Master := 0
    let t : Tile := 1
    let s : State := { onS with tiles := [(1, { power := .banked })] }
    (s.runMaster m = true) ∧
        (0 < t.val) ∧
        ((s.tile t).power = .banked)) ∧
  (
    let tj : Int := 129
    let s : State := { engS 8 {} with mem := [(0x780100000, 1#8), (0x790100000, 1#8)] }
    let p := s.power
    let warn : Int := s.cfg 0x2003 3
    (p.phase = .run) ∧
        (tj < 130) ∧
        (warn ≤ tj) ∧
        (p.warned = false)) ∧
  (
    let cause : Fin 6 := 3
    let s : State := { onS with power := { phase := .deep, refclkOk := true } }.setDict 0x2002 4 [1]
    let p := s.power
    (p.phase = .deep) ∧
        (p.refclkOk = true) ∧
        (s.wakeHolds cause = true) ∧
        (s.cfg 0x2002 4 ≠ 0)) ∧
  (
    let s : State := { onS with power := { phase := .noClock } }
    let p := s.power
    (s.holdup.lastCourse = false) ∧
        (p.phase = .noClock)) ∧
  (
    let m : Master := 8
    let s : State := onS
    (s.runMaster m = false)) ∧
  (
    let s : State := { onS with power := { phase := .run, reqPending := true, req := 1 } }
    let p := s.power
    (s.mayCommit = true) ∧
        (s.courses.held = []) ∧
        (s.lanes = []) ∧
        (s.holdup.ride = none) ∧
        (p.req = 1)) ∧
  (
    let s : State := { onS with power := { phase := .run, reqPending := true, req := 2 } }
    let p := s.power
    (s.mayCommit = true) ∧
        (p.req = 2)) ∧
  (
    let s : State := { onS with power := { phase := .deep, refclkOk := true, supplyAbsent := true, railEn := 0 }, holdup := { vsup := 0xFFFF } }
    let p := s.power
    (p.phase = .deep)) ∧
  (
    let cause : Fin 6 := 1
    let s : State := { onS with power := { phase := .park, railEn := 0xFF }, watcher := { wakeValid := true, asleep := true }, tiles := [(0, { power := .banked })] }
    let p := s.power
    (p.phase = .park) ∧
        (s.wakeHolds cause = true)) ∧
  (
    let n : Fin 12 := 7
    let k : Nat := 7
    let s : State := { onS with power := { phase := .rails 7, nextCause := 5, railRow := 2 } }
    let p := s.power
    (p.phase = .rails k) ∧
        (n.val = k) ∧
        (k = 7)) ∧
  (
    let n : Fin 12 := 6
    let k : Nat := 6
    let s : State := { onS with power := { phase := .rails 6, railRow := 1 } }
    let p := s.power
    (p.phase = .rails k) ∧
        (n.val = k) ∧
        (k < 7)) ∧
  (
    let n : Fin 12 := 0
    let k : Nat := 0
    let s : State := { onS with power := { phase := .rails 0 } }
    let p := s.power
    (p.phase = .rails k) ∧
        (n.val = k) ∧
        (k < 7)) ∧
  (
    let s : State := { onS with power := { phase := .railRetry } }
    let p := s.power
    (p.phase = .railRetry)) ∧
  (
    let b : Bool := false
    let s : State := { onS with power := { phase := .cycle false } }
    let p := s.power
    (p.phase = .cycle b)) ∧
  (
    let s : State := State.reset
    let p := s.power
    (p.phase = .off) ∧
        (s.holdup.ignition = true)) ∧
  (
    let s : State := { onS with power := { phase := .extest } }
    let p := s.power
    (p.phase = .extest)) ∧
  (
    let tj : Int := 105
    let s : State := onS
    let p := s.power
    let warn : Int := s.cfg 0x2003 3
    (p.phase = .run) ∧
        (tj < 130) ∧
        (tj < warn)) ∧
  (
    let s : State := { onS with power := { phase := .run, warned := true } }
    let p := s.power
    (s.holdup.lastCourse = false) ∧
        (p.phase = .run)) ∧
  (
    let n : Fin 12 := 7
    let s : State := { onS with power := { phase := .run, refclkOk := true, pllLock := true, railEn := 0xFFF }, holdup := { lastCourse := true } }
    let p := s.power
    (s.holdup.lastCourse = true) ∧
        (p.phase = .run) ∧
        (n.val < 8) ∧
        (p.railEn.getLsbD n = true) ∧
        (s.ladder.deferred = none)) ∧
  (
    let m : Master := 0
    let t : Tile := 1
    let s : State := { onS with engines := [(8, { posted := [{ addr := 0, size := 1, data := 0 }] })] }
    (s.runMaster m = true) ∧
        (0 < t.val) ∧
        ((s.tile t).power = .run) ∧
        (s.tileQuiet t = false)) := by
  refine ⟨?_, ?_, ?_, ?_, ?_, ?_, ?_, ?_, ?_, ?_, ?_, ?_, ?_, ?_, ?_, ?_, ?_, ?_, ?_, ?_, ?_, ?_⟩ <;> (decide +kernel)

/-- The premises of `Obligations.EthernetAndLinks` hold together: clause by clause, of these states and operands. -/
theorem witness_EthernetAndLinks :
  (
    let p : Fin 10 := 9
    let k : Fin 5 := 4
    let s : State := State.reset
    let i := s.iface
    let core := s.power.phase = .run ∨ s.power.phase = .park
    let on := s.receiving (0x10 + p) = true ∧ i.ethMode.look 0 p ≠ 0
    (¬ on) ∧
        (¬ core) ∧
        (i.linkDown.getLsbD k = true) ∧
        (s.power.pcieCc = false)) ∧
  (
    let p : Fin 10 := 9
    let k : Fin 5 := 4
    let frame : Bytes := []
    let g : Func := 0x24
    let s : State := { onS with iface := ({ ethMode := [(9, 1)], ethUp := 0x3FF#10, linkDown := 0 }) }
    let i := s.iface
    let core := s.power.phase = .run ∨ s.power.phase = .park
    let run := s.power.phase = .run ∨ (s.power.phase = .park ∧ k.val = 4)
    let on := s.receiving (0x10 + p) = true ∧ i.ethMode.look 0 p ≠ 0
    (on) ∧
        (readEther frame = none) ∧
        (i.ethUp.getLsbD p = true) ∧
        (s.raws = []) ∧
        (core) ∧
        (i.linkDown.getLsbD k = false) ∧
        (run) ∧
        (s.nvme = []) ∧
        (s.lanes = []) ∧
        (g.val = 0x20 + k.val) ∧
        (s.inRung2 g = false) ∧
        (s.ladder.warm = none) ∧
        (s.holdup.lastCourse = false) ∧
        ((s.func g).retries = []) ∧
        ((s.within (s.cfg (0x5100 + g) 2) (s.func g).recent).length < s.cfg 0x5000 1)) ∧
  (
    let p : Fin 10 := 9
    let k : Fin 5 := 0
    let g : Func := 0x20
    let s : State := { onS with iface := { ethMode := [(9, 1)], ethUp := 0, linkDown := 0 }, ladder := { func := [(0x20, { busy := some (0, false) })] } }
    let i := s.iface
    let run := s.power.phase = .run ∨ (s.power.phase = .park ∧ k.val = 4)
    let on := s.receiving (0x10 + p) = true ∧ i.ethMode.look 0 p ≠ 0
    (on) ∧
        (i.ethUp.getLsbD p = false) ∧
        (run) ∧
        (i.linkDown.getLsbD k = false) ∧
        (s.raws = []) ∧
        (s.nvme = []) ∧
        (s.lanes = []) ∧
        (g.val = 0x20 + k.val) ∧
        (s.inRung2 g = true ∨ s.ladder.warm.isSome = true)) ∧
  (
    let p : Fin 10 := 9
    let k : Fin 5 := 4
    let full : Bool := false
    let g : Func := 0x24
    let s : State := { onS with iface := { ethMode := [(0, 1)] }, power := { phase := .run, pcieCc := true } }
    let i := s.iface
    let core := s.power.phase = .run ∨ s.power.phase = .park
    let run := s.power.phase = .run ∨ (s.power.phase = .park ∧ k.val = 4)
    (i.ethUp.getLsbD p = full) ∧
        (run) ∧
        (i.linkDown.getLsbD k = true) ∧
        (k.val ≠ 4 ∨ s.rings.scanOwed = false) ∧
        (core) ∧
        (g.val = 0x24) ∧
        (s.power.pcieCc = true)) ∧
  (
    let k : Fin 5 := 0
    let s : State := { onS with iface := { linkDown := 1 }, rings := { scanOwed := true } }
    let i := s.iface
    let run := s.power.phase = .run ∨ (s.power.phase = .park ∧ k.val = 4)
    (run) ∧
        (i.linkDown.getLsbD k = true) ∧
        (k.val ≠ 4 ∨ s.rings.scanOwed = false)) ∧
  (
    let g : Func := 0x24
    let k : Fin 5 := 4
    let s : State := { onS with iface := { linkDown := 0 }, ladder := { warm := some { rung4 := false, since := 0, external := false, f := 0 } } }
    let i := s.iface
    let run := s.power.phase = .run ∨ (s.power.phase = .park ∧ k.val = 4)
    (run) ∧
        (i.linkDown.getLsbD k = false) ∧
        (s.raws = []) ∧
        (s.nvme = []) ∧
        (s.lanes = []) ∧
        (g.val = 0x20 + k.val) ∧
        (s.inRung2 g = true ∨ s.ladder.warm.isSome = true)) ∧
  (
    let p : Fin 10 := 9
    let rtsp : Bool := false
    let frame : Bytes := frame_disc
    let e : Ether := etherE frame_disc
    let s : State := { onS with iface := ({ ethMode := [(9, 1)], ethUp := 0x3FF#10, linkDown := 0 }) }
    let i := s.iface
    let on := s.receiving (0x10 + p) = true ∧ i.ethMode.look 0 p ≠ 0
    let kind := classify p (if s.ptpOn p then s.time.profile else 0) rtsp e
    (on) ∧
        (readEther frame = some e) ∧
        (kind = .discard)) ∧
  (
    let p : Fin 10 := 9
    let rtsp : Bool := false
    let frame : Bytes := frame_ptp
    let e : Ether := etherE frame_ptp
    let s : State := { onS.setDict 0x5820 2 [0, 2] with iface := ({ ethMode := [(9, 1)], ethUp := 0x3FF#10, linkDown := 0 }), time := { profile := 1 } }
    let i := s.iface
    let on := s.receiving (0x10 + p) = true ∧ i.ethMode.look 0 p ≠ 0
    let kind := classify p (if s.ptpOn p then s.time.profile else 0) rtsp e
    (on) ∧
        (readEther frame = some e) ∧
        (kind = .ptp)) ∧
  (
    let p : Fin 10 := 9
    let rtsp : Bool := false
    let frame : Bytes := frame_arp
    let e : Ether := etherE frame_arp
    let s : State := { onS with iface := ({ ethMode := [(9, 1)], ethUp := 0x3FF#10, linkDown := 0 }) }
    let i := s.iface
    let on := s.receiving (0x10 + p) = true ∧ i.ethMode.look 0 p ≠ 0
    let kind := classify p (if s.ptpOn p then s.time.profile else 0) rtsp e
    (on) ∧
        (readEther frame = some e) ∧
        (kind = .tile0)) ∧
  (
    let p : Fin 10 := 9
    let rtsp : Bool := false
    let frame : Bytes := frame_oth
    let e : Ether := etherE frame_oth
    let s : State := { onS with iface := ({ ethMode := [(9, 1)], ethUp := 0x3FF#10, linkDown := 0 }) }
    let i := s.iface
    let on := s.receiving (0x10 + p) = true ∧ i.ethMode.look 0 p ≠ 0
    let kind := classify p (if s.ptpOn p then s.time.profile else 0) rtsp e
    (on) ∧
        (readEther frame = some e) ∧
        (kind = .other) ∧
        (s.rawWaits 0x20 p = none)) ∧
  (
    let p : Fin 10 := 9
    let rtsp : Bool := false
    let l : Nat := 255
    let frame : Bytes := frame_udpl
    let e : Ether := etherE frame_udpl
    let key : BitVec 320 := keyE 9 frame_udpl
    let peer : Nat := peerE 9 frame_udpl
    let b : Bytes := dataE 9 frame_udpl
    let src : Nat := 5000
    let dst : Nat := 1000
    let zero : Bool := true
    let s : State := { onS with iface := ({ ethMode := [(9, 1)], ethUp := 0x3FF#10, linkDown := 0 }), bind := { active := { stash := [bindS (keyE 9 frame_udpl) 255#8] } }, lanes := [(255, { active := true })] }
    let i := s.iface
    let on := s.receiving (0x10 + p) = true ∧ i.ethMode.look 0 p ≠ 0
    let kind := classify p (if s.ptpOn p then s.time.profile else 0) rtsp e
    (on) ∧
        (readEther frame = some e) ∧
        (kind = .udp key peer src dst b zero) ∧
        (s.laneFor key = some l)) ∧
  (
    let p : Fin 10 := 9
    let rtsp : Bool := false
    let frame : Bytes := frame_udpl
    let e : Ether := etherE frame_udpl
    let key : BitVec 320 := keyE 9 frame_udpl
    let peer : Nat := peerE 9 frame_udpl
    let b : Bytes := dataE 9 frame_udpl
    let src : Nat := 5000
    let dst : Nat := 1000
    let zero : Bool := true
    let s : State := { onS with iface := ({ ethMode := [(9, 1)], ethUp := 0x3FF#10, linkDown := 0 }) }
    let i := s.iface
    let on := s.receiving (0x10 + p) = true ∧ i.ethMode.look 0 p ≠ 0
    let kind := classify p (if s.ptpOn p then s.time.profile else 0) rtsp e
    (on) ∧
        (readEther frame = some e) ∧
        (kind = .udp key peer src dst b zero) ∧
        (s.laneFor key = none) ∧
        (dst ≠ 47110) ∧
        (dst ≠ 68) ∧
        (rtcpKey key src dst b = none) ∧
        (s.rawWaits 0x20 p = none)) ∧
  (
    let p : Fin 10 := 9
    let rtsp : Bool := false
    let frame : Bytes := frame_udpb
    let e : Ether := etherE frame_udpb
    let key : BitVec 320 := keyE 9 frame_udpb
    let peer : Nat := peerE 9 frame_udpb
    let b : Bytes := dataE 9 frame_udpb
    let src : Nat := 5000
    let dst : Nat := 47110
    let zero : Bool := true
    let s : State := { onS.setDict 0x5811 1 [0, 2] with iface := ({ ethMode := [(9, 1)], ethUp := 0x3FF#10, linkDown := 0 }) }
    let i := s.iface
    let on := s.receiving (0x10 + p) = true ∧ i.ethMode.look 0 p ≠ 0
    let kind := classify p (if s.ptpOn p then s.time.profile else 0) rtsp e
    (on) ∧
        (readEther frame = some e) ∧
        (kind = .udp key peer src dst b zero) ∧
        (s.laneFor key = none) ∧
        (dst = 47110) ∧
        (s.cfg 0x5811 1 / 2 ^ p.val % 2 = 1)) ∧
  (
    let p : Fin 10 := 9
    let rtsp : Bool := false
    let frame : Bytes := frame_udp68
    let e : Ether := etherE frame_udp68
    let key : BitVec 320 := keyE 9 frame_udp68
    let peer : Nat := peerE 9 frame_udp68
    let b : Bytes := dataE 9 frame_udp68
    let src : Nat := 5000
    let dst : Nat := 68
    let zero : Bool := true
    let s : State := { onS with iface := ({ ethMode := [(9, 1)], ethUp := 0x3FF#10, linkDown := 0 }) }
    let i := s.iface
    let on := s.receiving (0x10 + p) = true ∧ i.ethMode.look 0 p ≠ 0
    let kind := classify p (if s.ptpOn p then s.time.profile else 0) rtsp e
    (on) ∧
        (readEther frame = some e) ∧
        (kind = .udp key peer src dst b zero) ∧
        (s.laneFor key = none) ∧
        (dst = 68) ∧
        (bits key 0 8 = 1)) := by
  refine ⟨?_, ?_, ?_, ?_, ?_, ?_, ?_, ?_, ?_, ?_, ?_, ?_, ?_, ?_⟩ <;> (decide +kernel)

/-- The premises of `Obligations.OutsideUnits` hold together: clause by clause, of these states and operands. -/
theorem witness_OutsideUnits :
  (
    let r : Fin 4 := 3
    let cid : BitVec 16 := 0xFFFF
    let u : Fin 8 := 7
    let n : Fin 32 := 31
    let s : State := { onS.setDict 0x5840 1 [0] with ladder := { func := [(0x23, { busy := some (0, false) })] } }
    let i := s.iface
    let run := s.power.phase = .run
    let core := s.power.phase = .run ∨ s.power.phase = .park
    let find := s.nvme.find? fun x => x.port == r.val && x.cid == cid
    let f := 0x20 + r.val
    (find = none) ∧
        (s.inRung2 f = true) ∧
        (s.cfg 0x5840 1 / 2 ^ u.val % 2 = 0) ∧
        (s.receiving (0x28 + u) = true) ∧
        (s.raws = []) ∧
        (s.lanes = []) ∧
        ((i.tdm.look {} r).role = 0) ∧
        (s.receiving (0x34 + r) = true) ∧
        ((i.can.look {} r).mode ≠ 0) ∧
        (i.busOff.getLsbD r = false) ∧
        (s.keysOf (0x34 + r) = []) ∧
        (s.rawWaits 0x23 r = none) ∧
        (core) ∧
        (run ∨ ((s.power.phase = .park ∨ s.power.phase = .deep ∧ s.power.refclkOk = true) ∧ s.cfg 0x5870 5 / 2 ^ n.val % 2 = 1)) ∧
        (s.cfg 0x5870 1 / 2 ^ n.val % 2 = 0) ∧
        (s.receiving 0x3A = true) ∧
        (s.keysOf 0x3A = [])) ∧
  (
    let r : Fin 4 := 3
    let cid : BitVec 16 := 0xFFFF
    let st : BitVec 15 := 1
    let o : RawOwner := .course 5
    let u : Fin 8 := 7
    let key : BitVec 320 := 0x0706#320
    let size : Nat := 512
    let s : State := { onS with nvme := [{ port := 3, cid := 0xFFFF, use := .raw (.course 5) }], iface := { linkDown := 0 } }
    let run := s.power.phase = .run
    let find := s.nvme.find? fun x => x.port == r.val && x.cid == cid
    let f := 0x20 + r.val
    (find = some { port := r, cid := cid, use := .raw o }) ∧
        (run) ∧
        (s.inRung2 f = false) ∧
        (s.retrying f o = false) ∧
        (s.ladder.warm = none) ∧
        (st ≠ 0) ∧
        (s.receiving (0x28 + u) = true) ∧
        (s.cfg 0x5840 1 / 2 ^ u.val % 2 = 1) ∧
        (keyFunc key = 0x28 + u.val) ∧
        (size = 512 ∨ size = 4096)) ∧
  (
    let r : Fin 4 := 3
    let cid : BitVec 16 := 0xFFFF
    let m : Nat := 3
    let ms : List Nat := [2, 3]
    let s : State := { onS with nvme := [{ port := 3, cid := 0xFFFF, use := .flush 3 }], holdup := { flushing := some [2, 3] } }
    let find := s.nvme.find? fun x => x.port == r.val && x.cid == cid
    let f := 0x20 + r.val
    (find = some { port := r, cid := cid, use := .flush m }) ∧
        (s.inRung2 f = false) ∧
        (s.holdup.flushing = some ms) ∧
        (ms.filter (· != m) ≠ [])) ∧
  (
    let r : Fin 4 := 3
    let cid : BitVec 16 := 0xFFFF
    let data : Bytes := [1, 2]
    let c : CtxId := 5
    let a : BitVec 40 := 0x36FFFFFFE#40
    let q : RawOp := { owner := .course 5, op := 0x21, sel := 3, param := 0, count := 2, segs := [(0x36FFFFFFE#40, 2)], data := [2] }
    let w : BitVec 256 := (cw 0x21 2 0x1000 3 0x36FFFFFFE)
    let s : State := { courseS 5 {} { word := some (cw 0x21 2 0x1000 3 0x36FFFFFFE), wait := some .raw } with nvme := [{ port := 3, cid := 0xFFFF, use := .raw (.course 5) }], raws := [{ owner := .course 5, op := 0x21, sel := 3, param := 0, count := 2, segs := [(0x36FFFFFFE#40, 2)], data := [2] }] }
    let find := s.nvme.find? fun x => x.port == r.val && x.cid == cid
    let f := 0x20 + r.val
    (find = some { port := r, cid := cid, use := .raw (.course c) }) ∧
        (s.inRung2 f = false) ∧
        (s.raws = [q]) ∧
        (q.owner = .course c) ∧
        (q.op = 0x21) ∧
        (q.skip = false) ∧
        (q.segs = [(a, q.count)]) ∧
        (a.getLsbD 39 = false) ∧
        (0 < q.count) ∧
        (data.length = q.count) ∧
        (a.toNat + q.count ≤ 0x370000000) ∧
        ((s.course c).word = some w) ∧
        ((s.course c).stop = false) ∧
        ((s.course c).total = 0) ∧
        ((s.course c).gather = []) ∧
        ((s.course c).segs = []) ∧
        (wSpan w = false) ∧
        (wList w = false) ∧
        (wSkip w = false) ∧
        (wNext w = true) ∧
        (wPost w = false) ∧
        (s.holdup.declared = false)) ∧
  (
    let u : Fin 8 := 7
    let s : State := onS.setDict 0x5840 1 [0x80]
    (s.receiving (0x28 + u) = true) ∧
        (s.raws = []) ∧
        (s.lanes = [])) ∧
  (
    let u : Fin 8 := 0
    let s : State := onS.setDict 0x5840 1 [0x01]
    (s.receiving (0x28 + u) = true) ∧
        (s.raws = []) ∧
        (s.lanes = [])) ∧
  (
    let r : Fin 4 := 3
    let l : Nat := 255
    let key : BitVec 320 := 0x0303#320
    let s : State := { onS with bind := ({ active := { stash := [bindS 0x0303#320 255#8] } }), lanes := [(255, { active := true })], iface := { tdm := [(3, { role := 1 })] } }
    let i := s.iface
    let taken := s.laneFor key = some l ∧ (s.lane l).active = true ∧ s.holdup.declared = false ∧ (s.lane l).ingest = none
    (s.receiving (0x30 + r) = true) ∧
        ((i.tdm.look {} r).role ≠ 0) ∧
        (s.keysOf (0x30 + r) = [key]) ∧
        (taken)) ∧
  (
    let r : Fin 4 := 3
    let g : Func := 0x33
    let s : State := { onS with iface := { tdm := [(3, { role := 2 })], can := [(3, { mode := 1 })] } }
    let i := s.iface
    (s.receiving (0x30 + r) = true) ∧
        ((i.tdm.look {} r).role ≠ 0) ∧
        (s.keysOf (0x30 + r) = []) ∧
        (s.rawWaits 0x24 r = none) ∧
        ((i.tdm.look {} r).role = 2) ∧
        (g.val = 0x30 + r.val)) ∧
  (
    let r : Fin 4 := 3
    let l : Nat := 255
    let key : BitVec 320 := 0x0304#320
    let g : Func := 0x37
    let s : State := { onS with bind := ({ active := { stash := [bindS 0x0304#320 255#8] } }), lanes := [(255, { active := true })], iface := { can := [(3, { mode := 2 })] } }
    let i := s.iface
    let taken := s.laneFor key = some l ∧ (s.lane l).active = true ∧ s.holdup.declared = false ∧ (s.lane l).ingest = none
    (s.receiving (0x34 + r) = true) ∧
        ((i.can.look {} r).mode ≠ 0) ∧
        (i.busOff.getLsbD r = false) ∧
        (s.keysOf (0x34 + r) = [key]) ∧
        (taken) ∧
        (g.val = 0x34 + r.val)) ∧
  (
    let r : Fin 4 := 3
    let s : State := { onS with iface := { busOff := 8, can := [(3, { mode := 2 })] } }
    let i := s.iface
    let run := s.power.phase = .run
    (i.busOff.getLsbD r = true) ∧
        (run)) ∧
  (
    let g : Func := 0x39
    let s : State := onS
    let run := s.power.phase = .run
    let core := s.power.phase = .run ∨ s.power.phase = .park
    (core) ∧
        (g.val = 0x39)) ∧
  (
    let n : Fin 32 := 31
    let s : State := { onS with power := { phase := .deep } }
    let run := s.power.phase = .run
    let core := s.power.phase = .run ∨ s.power.phase = .park
    (¬ core) ∧
        (s.power.phase = .park ∨ s.power.phase = .deep) ∧
        (s.cfg 0x5870 5 / 2 ^ n.val % 2 = 0)) ∧
  (
    let n : Fin 32 := 0
    let s : State := { onS with power := { phase := .park } }
    (s.power.phase = .park ∨ s.power.phase = .deep) ∧
        (s.cfg 0x5870 5 / 2 ^ n.val % 2 = 0)) ∧
  (
    let l : Nat := 255
    let key : BitVec 320 := 0x0005#320
    let s : State := { onS with bind := ({ active := { stash := [bindS 0x0005#320 255#8] } }), lanes := [(255, { active := true })] }
    let taken := s.laneFor key = some l ∧ (s.lane l).active = true ∧ s.holdup.declared = false ∧ (s.lane l).ingest = none
    (s.receiving 0x3A = true) ∧
        (s.keysOf 0x3A = [key]) ∧
        (taken)) := by
  refine ⟨?_, ?_, ?_, ?_, ?_, ?_, ?_, ?_, ?_, ?_, ?_, ?_, ?_, ?_⟩ <;> (decide +kernel)

/-- The premises of `Obligations.TimeService` hold together: clause by clause, of these states and operands. -/
theorem witness_TimeService :
  (
    let p : Fin 10 := 9
    let path : Path := .firmware
    let b : Bytes := [1, 2, 3, 4, 5, 6, 7, 8, 9, 10]
    let s : State := onS
    let x := s.time
    let core := s.power.phase = .run ∨ s.power.phase = .park
    let e := secondOffset x.now
    (s.ptpOn p = false) ∧
        (x.ptpLocked = false) ∧
        (core) ∧
        (x.todNext = none) ∧
        (e.natAbs ≤ s.cfg 0x5820 6 * 1000) ∧
        (e.natAbs ≤ 1000000) ∧
        (x.selected = none) ∧
        (x.ppsLocked = false) ∧
        (x.ppsRun < 3) ∧
        (x.source ≠ 4) ∧
        (s.asks path = true) ∧
        (s.role path = 3) ∧
        (s.sec.fuse.lc ≠ 4) ∧
        (b.length = 10)) ∧
  (
    let p : Fin 10 := 9
    let g : Option Nat := some 5
    let off : Int := -1000
    let s : State := { (onS.setDict 0x5820 2 [0, 2]) with iface := ({ ethMode := [(9, 1)] }), time := { ptpRun := 6 } }
    let x := s.time
    (s.ptpOn p = true) ∧
        (x.selected = none) ∧
        (x.ptpLocked = false) ∧
        (off.natAbs ≤ 1000) ∧
        (x.ptpRun < 7) ∧
        (g ≠ s.iface.ptpMaster)) ∧
  (
    let p : Fin 10 := 9
    let off : Int := 1000
    let s : State := { (onS.setDict 0x5820 2 [0, 2]) with iface := ({ ethMode := [(9, 1)] }), time := { ptpRun := 7, now := 5 } }
    let x := s.time
    (s.ptpOn p = true) ∧
        (x.selected = none) ∧
        (x.ptpLocked = false) ∧
        (off.natAbs ≤ 1000) ∧
        (x.ptpRun = 7)) ∧
  (
    let p : Fin 10 := 9
    let off : Int := -7
    let s : State := { (onS.setDict 0x5820 2 [0, 2]) with iface := ({ ethMode := [(9, 1)] }), time := { ptpRun := 7, profile := 2 } }
    let x := s.time
    (s.ptpOn p = true) ∧
        (x.selected = none) ∧
        (x.ptpLocked = false) ∧
        (off.natAbs ≤ 1000) ∧
        (x.ptpRun = 7)) ∧
  (
    let p : Fin 10 := 9
    let off : Int := 100001
    let s : State := { (onS.setDict 0x5820 2 [0, 2]) with iface := ({ ethMode := [(9, 1)] }), time := { ptpLocked := true, source := 1, now := 5 } }
    let x := s.time
    (s.ptpOn p = true) ∧
        (x.ptpLocked = true) ∧
        (x.selected = some false) ∧
        (100000 < off.natAbs) ∧
        (off.natAbs ≤ 1000000)) ∧
  (
    let p : Fin 10 := 9
    let off : Int := -1000000
    let s : State := { (onS.setDict 0x5820 2 [0, 2]) with iface := ({ ethMode := [(9, 1)] }), time := { ptpLocked := true, source := 2, profile := 2, now := 5 } }
    let x := s.time
    (s.ptpOn p = true) ∧
        (x.ptpLocked = true) ∧
        (x.selected = some false) ∧
        (100000 < off.natAbs) ∧
        (off.natAbs ≤ 1000000)) ∧
  (
    let s : State := { onS with time := { ptpLocked := true, source := 1, now := 5 } }
    let x := s.time
    (x.ptpLocked = true) ∧
        (x.selected = some false)) ∧
  (
    let s : State := { onS with power := { phase := .park } }
    let x := s.time
    let core := s.power.phase = .run ∨ s.power.phase = .park
    let e := secondOffset x.now
    (core) ∧
        (x.todNext = none) ∧
        (e.natAbs ≤ s.cfg 0x5820 6 * 1000) ∧
        (e.natAbs ≤ 1000000) ∧
        (x.selected = none) ∧
        (x.ppsLocked = false) ∧
        (x.ppsRun < 3)) ∧
  (
    let v : BitVec 80 := 0xFFFFFFFFFFFF#80
    let s : State := { onS with time := { todNext := some 0xFFFFFFFFFFFF#80, now := 0x3B9AC9FF000000000005#80 } }
    let x := s.time
    let core := s.power.phase = .run ∨ s.power.phase = .park
    (core) ∧
        (x.todNext = some v) ∧
        (bits v 48 32 = 0)) ∧
  (
    let s : State := { onS with time := { now := 100001 * 2 ^ 48 + 5, source := 4 } }
    let x := s.time
    let core := s.power.phase = .run ∨ s.power.phase = .park
    let e := secondOffset x.now
    (core) ∧
        (x.todNext = none) ∧
        (s.cfg 0x5820 6 * 1000 < e.natAbs) ∧
        (x.source = 4)) ∧
  (
    let s : State := { onS with time := { now := 100000 * 2 ^ 48 + 5, ppsRun := 2 } }
    let x := s.time
    let core := s.power.phase = .run ∨ s.power.phase = .park
    let e := secondOffset x.now
    (core) ∧
        (x.todNext = none) ∧
        (s.cfg 0x5820 6 * 1000 < e.natAbs)) ∧
  (
    let s : State := { onS with time := { now := 999999999 * 2 ^ 48 + 5, ppsRun := 3, todGiven := true } }
    let x := s.time
    let core := s.power.phase = .run ∨ s.power.phase = .park
    let e := secondOffset x.now
    (core) ∧
        (x.todNext = none) ∧
        (e.natAbs ≤ s.cfg 0x5820 6 * 1000) ∧
        (e.natAbs ≤ 1000000) ∧
        (x.selected = none) ∧
        (x.ppsLocked = false) ∧
        (x.ppsRun = 3) ∧
        (x.todGiven = true)) ∧
  (
    let s : State := { onS with time := { now := 5, ppsLocked := true, source := 3 } }
    let x := s.time
    (x.ppsLocked = true) ∧
        (x.selected = some true)) ∧
  (
    let s : State := { onS with time := { source := 4 } }
    let x := s.time
    (x.source = 4)) ∧
  (
    let s : State := { onS with power := { phase := .deep, refclkOk := true } }
    (s.power.phase = .deep) ∧
        (s.power.refclkOk = true)) ∧
  (
    let s : State := State.reset
    let core := s.power.phase = .run ∨ s.power.phase = .park
    (¬ core) ∧
        (s.power.phase ≠ .deep)) := by
  refine ⟨?_, ?_, ?_, ?_, ?_, ?_, ?_, ?_, ?_, ?_, ?_, ?_, ?_, ?_, ?_, ?_⟩ <;> (decide +kernel)

/-- The premises of `Obligations.DictionaryRequests` hold together: clause by clause, of these states and operands. -/
theorem witness_DictionaryRequests :
  (
    let p : Path := .firmware
    let s : State := { onS with sec := { storing := some ([], 0, .host) } }
    (s.serving = false) ∧
        (p ≠ .canopen) ∧
        (s.power.phase = .run ∨ s.power.phase = .park)) ∧
  (
    let p : Path := .canopen
    let s : State := { onS with dict := { nmt := .stopped, ready := true } }
    (s.usdoServed = false) ∧
        (p = .canopen)) ∧
  (
    let idx : BitVec 16 := 0x2000
    let sub : BitVec 8 := 6
    let v : Bytes := [65]
    let e : DEntry := (dictEntry 0x2000 6).getD (DEntry.const 1 0)
    let p : Path := .canopen
    let s : State := onS
    let i := idx.toNat
    let n := sub.toNat
    let z := s.fresh
    let check := z.writeCheck p i n v
    (s.asks p = true) ∧
        (findEntry i n = .ok e) ∧
        (e.acc ≠ .wo) ∧
        ((dictEntry i n).isSome = true) ∧
        (i ≠ 0x1001) ∧
        (i ≠ 0x4801) ∧
        (i ≠ 0x4820) ∧
        (s.sec.fuse.lc ≠ 4) ∧
        (e.acc = .rw) ∧
        (s.role p < writeRole i n v) ∧
        (writeRole i n v = 3) ∧
        ((∀ q ∈ s.dict.session, q.1 ≠ pathNum p)) ∧
        (check.good = false)) ∧
  (
    let p : Path := .firmware
    let idx : BitVec 16 := 0x4801
    let sub : BitVec 8 := 4
    let e : DEntry := (dictEntry 0x4801 4).getD (DEntry.const 1 0)
    let s : State := onS
    let i := idx.toNat
    let n := sub.toNat
    (s.asks p = true) ∧
        (findEntry i n = .ok e) ∧
        (e.acc = .wo)) ∧
  (
    let p : Path := .firmware
    let s : State := onS
    let idx : BitVec 16 := 0x2000
    let sub : BitVec 8 := 1
    let e : DEntry := (dictEntry 0x2000 1).getD (DEntry.const 1 0)
    let i := idx.toNat
    let n := sub.toNat
    (s.asks p = true) ∧
        (findEntry i n = .ok e) ∧
        (s.sec.fuse.lc ≠ 4) ∧
        (e.acc = .ro ∨ e.acc = .const)) ∧
  (
    let p : Path := .firmware
    let s : State := onS
    let idx : BitVec 16 := 0x2000
    let sub : BitVec 8 := 0
    let e : DEntry := DEntry.const 1 6
    let i := idx.toNat
    let n := sub.toNat
    (s.asks p = true) ∧
        (findEntry i n = .ok e) ∧
        (s.sec.fuse.lc ≠ 4) ∧
        (e.acc = .ro ∨ e.acc = .const)) ∧
  (
    let v : Bytes := [65]
    let s : State := onS
    let p : Path := .canopen
    let idx : BitVec 16 := 0x4000
    let sub : BitVec 8 := 1
    let e : DEntry := (dictEntry 0x4000 1).getD (DEntry.const 1 0)
    let i := idx.toNat
    let n := sub.toNat
    (s.asks p = true) ∧
        (findEntry i n = .ok e) ∧
        (s.sec.fuse.lc ≠ 4) ∧
        (e.acc = .rw) ∧
        (s.role p < writeRole i n v) ∧
        (writeRole i n v = 3) ∧
        ((∀ q ∈ s.dict.session, q.1 ≠ pathNum p))) ∧
  (
    let v : Bytes := [65]
    let s : State := onS
    let p : Path := .canopen
    let sub : BitVec 8 := 1
    let e : DEntry := (dictEntry 0x6800 1).getD (DEntry.const 1 0)
    let idx : BitVec 16 := 0x6800
    let i := idx.toNat
    let n := sub.toNat
    (s.asks p = true) ∧
        (findEntry i n = .ok e) ∧
        (s.sec.fuse.lc ≠ 4) ∧
        (e.acc = .rw) ∧
        (s.role p < writeRole i n v) ∧
        (writeRole i n v = 3) ∧
        ((∀ q ∈ s.dict.session, q.1 ≠ pathNum p))) ∧
  (
    let p : Path := .firmware
    let s : State := onS
    let idx : BitVec 16 := 0x5810
    let sub : BitVec 8 := 1
    let v : Bytes := [1, 2]
    let e : DEntry := (dictEntry 0x5810 1).getD (DEntry.const 1 0)
    let i := idx.toNat
    let n := sub.toNat
    (s.asks p = true) ∧
        (findEntry i n = .ok e) ∧
        (s.sec.fuse.lc ≠ 4) ∧
        (e.acc = .rw) ∧
        (writeRole i n v ≤ s.role p) ∧
        (e.ty.fits v = false)) ∧
  (
    let p : Path := .firmware
    let s : State := onS
    let idx : BitVec 16 := 0x5810
    let sub : BitVec 8 := 1
    let v : Bytes := [127]
    let i := idx.toNat
    let n := sub.toNat
    let z := s.fresh
    let check := z.writeCheck p i n v
    (s.asks p = true) ∧
        (check.good = true) ∧
        (i = 0x2000 ∨ (0x6800 ≤ i ∧ i < 0x6900) ∨ i = 0x5810)) ∧
  (
    let p : Path := .firmware
    let s : State := onS
    let idx : BitVec 16 := 0x6800
    let sub : BitVec 8 := 1
    let v : Bytes := [0]
    let i := idx.toNat
    let n := sub.toNat
    let z := s.fresh
    let check := z.writeCheck p i n v
    (s.asks p = true) ∧
        (check.good = false)) ∧
  (
    let p : Path := .firmware
    let s : State := onS
    let idx : BitVec 16 := 0x68FF
    let sub : BitVec 8 := 1
    let v : Bytes := [0]
    let i := idx.toNat
    let n := sub.toNat
    let z := s.fresh
    let check := z.writeCheck p i n v
    (s.asks p = true) ∧
        (check.good = false)) ∧
  (
    let p : Path := .firmware
    let s : State := onS
    let idx : BitVec 16 := 0x1001
    let sub : BitVec 8 := 0
    let i := idx.toNat
    let n := sub.toNat
    (s.asks p = true) ∧
        (i = 0x1001) ∧
        (n = 0)) ∧
  (
    let p : Path := .firmware
    let s : State := onS
    let idx : BitVec 16 := 0xFFFF
    let sub : BitVec 8 := 0xFF
    let i := idx.toNat
    let n := sub.toNat
    (s.asks p = true) ∧
        (indexExists i = false) ∧
        (dictEntry i n = none) ∧
        (s.sec.fuse.lc ≠ 4)) ∧
  (
    let p : Path := .firmware
    let s : State := onS
    let idx : BitVec 16 := 0x2000
    let sub : BitVec 8 := 0xFF
    let i := idx.toNat
    let n := sub.toNat
    (s.asks p = true) ∧
        (indexExists i = true) ∧
        (n ≠ 0) ∧
        (dictEntry i n = none)) ∧
  (
    let p : Path := .firmware
    let s : State := { onS with sec := { fuse := { lc := 4 } } }
    (s.asks p = true) ∧
        (s.sec.fuse.lc = 4)) ∧
  (
    let s : State := onS
    let p : Path := .host
    let idx : BitVec 16 := 0x5810
    let sub : BitVec 8 := 1
    let v : Bytes := [0]
    let i := idx.toNat
    let n := sub.toNat
    let z := s.fresh
    let check := z.writeCheck p i n v
    (s.asks p = true) ∧
        (check.good = false)) ∧
  (
    let p : Path := .firmware
    let e : DEntry := (dictEntry 0x2000 6).getD (DEntry.const 1 0)
    let c : CtxId := 0xFFFFF
    let gen : BitVec 16 := 7
    let s : State := ({ onS with ctx := { restoreDone := true, table := [(0xFFFFF, { state := 2, gen := 7 })] } })
    let z := s.fresh
    let r := s.ctxRec c
    let ask := fun (k : Nat) => s.asks p = true ∧ (z.writeCheck p 0x6F00 1 (toLE 3 c.val ++ toLE 2 gen.toNat ++ toLE 1 k ++ [0, 0])).good = true
    let served := fun (x : Out) (meets : State → Prop) => ∃ t, x = .next t ∧ meets t ∧ t.dict.requests = s.dict.requests + 1 ∧
      t.reply = [{ dest := pathNum p }] ∧ t.mem = s.mem
    let held := fun (k : Nat) (x : Out) (on : Bool) => ask k → r.gen = gen → c ≠ 0 → r.course = false → r.state = 2 ∨ r.state = 3 →
      s.claimable c = true → (∀ e ∈ s.courses.held, e.1 ≠ c → s.ctx.setOf e.1 ≠ s.ctx.setOf c) →
      served x fun t => (t.ctxRec c).hold = on ∧ (t.ctxRec c).claimed = false ∧ (t.ctxRec c).state = r.state
    (s.asks p = true ∧ (z.writeCheck p 0x6F00 1 (toLE 3 c.val ++ toLE 2 gen.toNat ++ toLE 1 1 ++ [0, 0])).good = true ∧ r.gen = gen ∧ c ≠ 0 ∧ r.course = false ∧ (r.state = 2 ∨ r.state = 3) ∧ s.claimable c = true ∧ (∀ e ∈ s.courses.held, e.1 ≠ c → s.ctx.setOf e.1 ≠ s.ctx.setOf c)) ∧
        (s.asks p = true ∧ (z.writeCheck p 0x6F00 1 (toLE 3 c.val ++ toLE 2 gen.toNat ++ toLE 1 2 ++ [0, 0])).good = true ∧ r.gen = gen ∧ c ≠ 0 ∧ r.course = false ∧ (r.state = 2 ∨ r.state = 3) ∧ s.claimable c = true ∧ (∀ e ∈ s.courses.held, e.1 ≠ c → s.ctx.setOf e.1 ≠ s.ctx.setOf c)) ∧
        (s.asks p = true ∧ (z.writeCheck p 0x6F00 1 (toLE 3 c.val ++ toLE 2 gen.toNat ++ toLE 1 3 ++ [0, 0])).good = true ∧ r.gen = gen ∧ c ≠ 0 ∧ (2 = 2 → s.razes c = false ∧ r.state ≠ 4) ∧ r.course = false) ∧
        (s.asks p = true ∧ (z.writeCheck p 0x6F00 1 (toLE 3 c.val ++ toLE 2 gen.toNat ++ toLE 1 4 ++ [0, 0])).good = true ∧ r.gen = gen ∧ c ≠ 0 ∧ (7 = 2 → s.razes c = false ∧ r.state ≠ 4) ∧ r.course = false) ∧
        (s.asks p = true ∧ (z.writeCheck p 0x6F00 1 (toLE 3 c.val ++ toLE 2 gen.toNat ++ toLE 1 5 ++ [0, 0])).good = true ∧ r.gen = gen ∧ c ≠ 0 ∧ (4 = 2 → s.razes c = false ∧ r.state ≠ 4) ∧ r.course = false)) ∧
  (
    let p : Path := .firmware
    let c : CtxId := 0xFFFFF
    let gen : BitVec 16 := 7
    let s : State := ({ courseS 0xFFFFF { state := 2, gen := 7 } {} with holdup := {} })
    let z := s.fresh
    let r := s.ctxRec c
    (s.asks p = true ∧ (z.writeCheck p 0x6F00 1 (toLE 3 c.val ++ toLE 2 gen.toNat ++ toLE 1 3 ++ [0, 0])).good = true ∧ r.gen = gen ∧ c ≠ 0 ∧ (2 = 2 → s.razes c = false ∧ r.state ≠ 4) ∧ r.course = true ∧ r.suspended = false) ∧
        (s.asks p = true ∧ (z.writeCheck p 0x6F00 1 (toLE 3 c.val ++ toLE 2 gen.toNat ++ toLE 1 4 ++ [0, 0])).good = true ∧ r.gen = gen ∧ c ≠ 0 ∧ (7 = 2 → s.razes c = false ∧ r.state ≠ 4) ∧ r.course = true ∧ r.suspended = false) ∧
        (s.asks p = true ∧ (z.writeCheck p 0x6F00 1 (toLE 3 c.val ++ toLE 2 gen.toNat ++ toLE 1 5 ++ [0, 0])).good = true ∧ r.gen = gen ∧ c ≠ 0 ∧ (4 = 2 → s.razes c = false ∧ r.state ≠ 4) ∧ r.course = true ∧ r.suspended = false)) ∧
  (
    let p : Path := .firmware
    let c : CtxId := 0xFFFFF
    let gen : BitVec 16 := 7
    let s : State := (courseS 0xFFFFF { state := 2, gen := 7 } { word := some 0 })
    let z := s.fresh
    let r := s.ctxRec c
    let ask := fun (k : Nat) => s.asks p = true ∧ (z.writeCheck p 0x6F00 1 (toLE 3 c.val ++ toLE 2 gen.toNat ++ toLE 1 k ++ [0, 0])).good = true
    (ask 6) ∧
        (r.gen = gen) ∧
        (c ≠ 0) ∧
        (r.course = true) ∧
        (r.suspended = false) ∧
        ((s.course c).wait = none) ∧
        ((s.course c).word.isSome = true)) ∧
  (
    let p : Path := .firmware
    let c : CtxId := 0xFFFFF
    let gen : BitVec 16 := 7
    let s : State := onS
    let z := s.fresh
    let r := s.ctxRec c
    (s.asks p = true ∧ (z.writeCheck p 0x6F00 1 (toLE 3 c.val ++ toLE 2 gen.toNat ++ toLE 1 1 ++ [0, 0])).good = true ∧ r.gen ≠ gen) ∧
        (s.asks p = true ∧ (z.writeCheck p 0x6F00 1 (toLE 3 c.val ++ toLE 2 gen.toNat ++ toLE 1 2 ++ [0, 0])).good = true ∧ r.gen ≠ gen) ∧
        (s.asks p = true ∧ (z.writeCheck p 0x6F00 1 (toLE 3 c.val ++ toLE 2 gen.toNat ++ toLE 1 3 ++ [0, 0])).good = true ∧ r.gen ≠ gen) ∧
        (s.asks p = true ∧ (z.writeCheck p 0x6F00 1 (toLE 3 c.val ++ toLE 2 gen.toNat ++ toLE 1 4 ++ [0, 0])).good = true ∧ r.gen ≠ gen) ∧
        (s.asks p = true ∧ (z.writeCheck p 0x6F00 1 (toLE 3 c.val ++ toLE 2 gen.toNat ++ toLE 1 5 ++ [0, 0])).good = true ∧ r.gen ≠ gen) ∧
        (s.asks p = true ∧ (z.writeCheck p 0x6F00 1 (toLE 3 c.val ++ toLE 2 gen.toNat ++ toLE 1 6 ++ [0, 0])).good = true ∧ r.gen ≠ gen)) ∧
  (
    let v : Bytes := [65]
    let p : Path := .canopen
    let idx : BitVec 16 := 0x6800
    let sub : BitVec 8 := 1
    let e : DEntry := (dictEntry 0x6800 1).getD (DEntry.const 1 0)
    let s : State := onS.setDict 0x4810 1 [0]
    let i := idx.toNat
    let n := sub.toNat
    (s.asks p = true) ∧
        (findEntry i n = .ok e) ∧
        (s.sec.fuse.lc ≠ 4) ∧
        (e.acc = .rw) ∧
        (s.role p < writeRole i n v) ∧
        (writeRole i n v = 3) ∧
        ((∀ q ∈ s.dict.session, q.1 ≠ pathNum p))) ∧
  (
    let v : Bytes := [65]
    let p : Path := .canopen
    let idx : BitVec 16 := 0x3000
    let sub : BitVec 8 := 1
    let e : DEntry := (dictEntry 0x3000 1).getD (DEntry.const 1 0)
    let s : State := onS.setDict 0x4810 1 [0]
    let i := idx.toNat
    let n := sub.toNat
    (s.asks p = true) ∧
        (findEntry i n = .ok e) ∧
        (s.sec.fuse.lc ≠ 4) ∧
        (e.acc = .rw) ∧
        (s.role p < writeRole i n v) ∧
        (writeRole i n v ≠ 3 ∨ s.dict.session.any (·.1 == pathNum p) = true)) := by
  refine ⟨?_, ?_, ?_, ?_, ?_, ?_, ?_, ?_, ?_, ?_, ?_, ?_, ?_, ?_, ?_, ?_, ?_, ?_, ?_, ?_, ?_, ?_, ?_⟩ <;> first | decide +kernel | (and_intros <;> first | decide +kernel | rfl)

/-- The premises of `Obligations.StoresKeysAndSessions` hold together: clause by clause, of these states and operands. -/
theorem witness_StoresKeysAndSessions :
  (
    let p : Path := .firmware
    let l : Lane := 255
    let n : Fin 4 := 3
    let slot : Fin 16 := 7
    let v : Bytes := []
    let w : BitVec 8 := 3
    let x : BitVec 32 := 5
    let s : State := { onS with holdup := { declared := true } }
    let i := 0x3200 + l.val
    let ok := fun (i n : Nat) (v : Bytes) => s.asks p = true ∧ (s.fresh.writeCheck p i n v).good = true
    let idle := ∀ l, l < 256 → s.laneCfg l 1 = 0
    (ok 0x5800 1 [w]) ∧
        (s.holdup.declared = true) ∧
        (ok (0x4840 + slot) 1 (toLE 4 x.toNat)) ∧
        (idle) ∧
        (ok 0x4802 5 [w]) ∧
        (s.sec.storing = none) ∧
        (s.asks p = true) ∧
        (s.sec.trngOk = true ∨ s.sec.generated < 2 ^ 20) ∧
        (ok 0x4801 4 [1])) ∧
  (
    let p : Path := .firmware
    let l : Lane := 255
    let n : Fin 4 := 3
    let v : Bytes := []
    let w : BitVec 8 := 1
    let s : State := { onS with wythes := { configured := 3 } }
    let i := 0x3200 + l.val
    let ok := fun (i n : Nat) (v : Bytes) => s.asks p = true ∧ (s.fresh.writeCheck p i n v).good = true
    let idle := ∀ l, l < 256 → s.laneCfg l 1 = 0
    (ok 0x5800 1 [w]) ∧
        (s.holdup.declared = false) ∧
        (idle) ∧
        (s.lanes = [])) ∧
  (
    let p : Path := .firmware
    let l : Lane := 255
    let n : Fin 4 := 3
    let e : BindEntry := bindS 0x0901 255#8
    let v : Bytes := toLE 40 0x0901
    let s : State := { onS with bind := { active := { stash := [bindS 0x0901 255#8] } } }.setDict 0x30FF 1 [1]
    let key := keyOfBytes v
    let i := 0x3200 + l.val
    let ok := fun (i n : Nat) (v : Bytes) => s.asks p = true ∧ (s.fresh.writeCheck p i n v).good = true
    (ok i (n + 1) v) ∧
        (v ≠ []) ∧
        (s.bind.lookup key = some e) ∧
        (e.learned = false) ∧
        (s.dictBytes i (n + 1) ≠ v)) ∧
  (
    let p : Path := .firmware
    let l : Lane := 255
    let v : Bytes := toLE 40 0x0901
    let n : Fin 4 := 0
    let s : State := { onS.setDict 0x30FF 1 [1] with lanes := [(255, { active := true })] }
    let z := s.fresh
    let key := keyOfBytes v
    let i := 0x3200 + l.val
    let bound := s.bind.order.look [] l
    let ok := fun (i n : Nat) (v : Bytes) => s.asks p = true ∧ (s.fresh.writeCheck p i n v).good = true
    (ok i (n + 1) v) ∧
        (v ≠ []) ∧
        (s.bind.lookup key = none) ∧
        (s.dictBytes i (n + 1) = []) ∧
        (bound.length < 8) ∧
        ((s.lane l).active = true) ∧
        (keyFunc key < 0x28) ∧
        ((z.bindInsert (z.laneEntry l key)).1 = true)) ∧
  (
    let p : Path := .firmware
    let l : Lane := 255
    let n : Fin 4 := 3
    let v : Bytes := []
    let w : BitVec 8 := 3
    let s : State := onS
    let i := 0x3200 + l.val
    let ok := fun (i n : Nat) (v : Bytes) => s.asks p = true ∧ (s.fresh.writeCheck p i n v).good = true
    let idle := ∀ l, l < 256 → s.laneCfg l 1 = 0
    (ok 0x5800 1 [w]) ∧
        (s.holdup.declared = false) ∧
        (idle) ∧
        (s.lanes = [])) ∧
  (
    let p : Path := .firmware
    let slot : Fin 16 := 8
    let s : State := onS
    (s.asks p = true) ∧
        (s.sec.fuse.lc ≠ 4) ∧
        (8 ≤ slot.val)) ∧
  (
    let p : Path := .firmware
    let slot : Fin 16 := 15
    let s : State := onS
    (s.asks p = true) ∧
        (s.sec.fuse.lc ≠ 4) ∧
        (8 ≤ slot.val)) ∧
  (
    let p : Path := .firmware
    let l : Lane := 255
    let n : Fin 4 := 3
    let slot : Fin 16 := 7
    let v : Bytes := []
    let x : BitVec 32 := 5
    let s : State := { onS with dict := { ready := true, nmt := .operational, session := [(2, 3, 0)] } }
    let i := 0x3200 + l.val
    let ok := fun (i n : Nat) (v : Bytes) => s.asks p = true ∧ (s.fresh.writeCheck p i n v).good = true
    let idle := ∀ l, l < 256 → s.laneCfg l 1 = 0
    (ok (0x4840 + slot) 1 (toLE 4 x.toNat)) ∧
        (idle)) ∧
  (
    let p : Path := .firmware
    let l : Lane := 255
    let n : Fin 4 := 3
    let v : Bytes := [0x73, 0x61, 0x76, 0x65]
    let s : State := onS
    let i := 0x3200 + l.val
    let ok := fun (i n : Nat) (v : Bytes) => s.asks p = true ∧ (s.fresh.writeCheck p i n v).good = true
    (ok 0x1010 1 v) ∧
        (s.sec.fuse.lc = 0)) ∧
  (
    let p : Path := .firmware
    let l : Lane := 255
    let n : Fin 4 := 3
    let v : Bytes := [0x73, 0x61, 0x76, 0x65]
    let s : State := { onS with sec := { fuse := { lc := 3 } }, holdup := { declared := true } }
    let i := 0x3200 + l.val
    let ok := fun (i n : Nat) (v : Bytes) => s.asks p = true ∧ (s.fresh.writeCheck p i n v).good = true
    (ok 0x1010 1 v) ∧
        (s.sec.fuse.lc ≠ 0) ∧
        (s.holdup.declared = true)) ∧
  (
    let p : Path := .firmware
    let l : Lane := 255
    let n : Fin 4 := 3
    let v : Bytes := [0x73, 0x61, 0x76, 0x65]
    let s : State := { onS with sec := { fuse := { lc := 1 } } }
    let i := 0x3200 + l.val
    let ok := fun (i n : Nat) (v : Bytes) => s.asks p = true ∧ (s.fresh.writeCheck p i n v).good = true
    (ok 0x1010 1 v) ∧
        (s.sec.fuse.lc ≠ 0) ∧
        (s.holdup.declared = false)) ∧
  (
    let p : Path := .firmware
    let l : Lane := 255
    let n : Fin 4 := 3
    let v : Bytes := [0x6C, 0x6F, 0x61, 0x64]
    let s : State := { onS with sec := { fuse := { lc := 2 } } }
    let i := 0x3200 + l.val
    let ok := fun (i n : Nat) (v : Bytes) => s.asks p = true ∧ (s.fresh.writeCheck p i n v).good = true
    (ok 0x1011 1 v) ∧
        (s.sec.fuse.lc ≠ 0) ∧
        (s.holdup.declared = false)) ∧
  (
    let c : Bytes := [9]
    let copy : Nat := 1
    let p : Path := .host
    let s : State := { onS with sec := { storing := some ([9], 1, .host) } }
    let d := s.dict
    let path := pathNum p
    (s.sec.storing = some (c, copy, p)) ∧
        (d.held = []) ∧
        (path ≠ 1) ∧
        (d.keyPending = none) ∧
        (d.mailOwed = none)) ∧
  (
    let p : Path := .firmware
    let l : Lane := 255
    let n : Fin 4 := 3
    let v : Bytes := []
    let w : BitVec 8 := 3
    let s : State := { onS with sec := { trngOk := true } }
    let i := 0x3200 + l.val
    let ok := fun (i n : Nat) (v : Bytes) => s.asks p = true ∧ (s.fresh.writeCheck p i n v).good = true
    let idle := ∀ l, l < 256 → s.laneCfg l 1 = 0
    (ok 0x5800 1 [w]) ∧
        (s.holdup.declared = false) ∧
        (idle) ∧
        (s.lanes = [])) ∧
  (
    let p : Path := .host
    let s : State := { onS with sec := { generated := 2 ^ 20 } }
    (s.asks p = true) ∧
        (s.sec.trngOk = false) ∧
        (2 ^ 20 ≤ s.sec.generated)) ∧
  (
    let p : Path := .firmware
    let l : Lane := 255
    let n : Fin 4 := 3
    let c : Bytes := [9]
    let v : Bytes := [3] ++ toLE 96 5
    let s : State := { onS with dict := { ready := true, nmt := .operational, challenge := [(3, [9])], vals := [(dictKey 0x4802 4, toLE 97 7)] }, sec := { fuse := { lc := 3 } } }
    let d := s.dict
    let path := pathNum p
    let i := 0x3200 + l.val
    let ok := fun (i n : Nat) (v : Bytes) => s.asks p = true ∧ (s.fresh.writeCheck p i n v).good = true
    let r := v.getD 0 0
    let signer := s.dictBytes 0x4802 (r.toNat + 1)
    let opens := ok 0x4801 2 v ∧ (s.sec.fuse.lc = 1 ∨ s.sec.fuse.lc = 2 ∨ s.sec.fuse.lc = 3) ∧ d.challenge.find? (·.1 == path) = some (path, c) ∧
      r.toNat ≤ 3 ∧ signer ≠ [] ∧ s.cfg 0x4802 5 / 2 ^ r.toNat % 2 = 0 ∧ path ≠ 1
    (opens)) ∧
  (
    let l : Lane := 255
    let n : Fin 4 := 3
    let c : Bytes := [9]
    let p : Path := .host
    let v : Bytes := [0] ++ toLE 96 5
    let s : State := { onS with dict := { ready := true, nmt := .operational, challenge := [(2, [9])], vals := [(dictKey 0x4802 1, toLE 97 7)] }, sec := { fuse := { lc := 1 } } }
    let d := s.dict
    let path := pathNum p
    let i := 0x3200 + l.val
    let ok := fun (i n : Nat) (v : Bytes) => s.asks p = true ∧ (s.fresh.writeCheck p i n v).good = true
    let r := v.getD 0 0
    let signer := s.dictBytes 0x4802 (r.toNat + 1)
    let opens := ok 0x4801 2 v ∧ (s.sec.fuse.lc = 1 ∨ s.sec.fuse.lc = 2 ∨ s.sec.fuse.lc = 3) ∧ d.challenge.find? (·.1 == path) = some (path, c) ∧
      r.toNat ≤ 3 ∧ signer ≠ [] ∧ s.cfg 0x4802 5 / 2 ^ r.toNat % 2 = 0 ∧ path ≠ 1
    (opens)) ∧
  (
    let p : Path := .firmware
    let l : Lane := 255
    let n : Fin 4 := 3
    let v : Bytes := [3] ++ toLE 96 5
    let s : State := { onS with sec := { fuse := { lc := 1 } } }
    let d := s.dict
    let path := pathNum p
    let i := 0x3200 + l.val
    let ok := fun (i n : Nat) (v : Bytes) => s.asks p = true ∧ (s.fresh.writeCheck p i n v).good = true
    (ok 0x4801 2 v) ∧
        (s.sec.fuse.lc = 1) ∧
        (d.challenge.find? (·.1 == path) = none)) := by
  refine ⟨?_, ?_, ?_, ?_, ?_, ?_, ?_, ?_, ?_, ?_, ?_, ?_, ?_, ?_, ?_, ?_, ?_, ?_⟩ <;> (decide +kernel)

/-- The premises of `Obligations.CanopenAndBumund` hold together: clause by clause, of these states and operands. -/
theorem witness_CanopenAndBumund :
  (
    let node : BitVec 8 := 127
    let b : Bytes := []
    let op : UsdoOp := .segmentUp 7
    let port : Fin 10 := 9
    let zero : Bool := false
    let s : State := State.reset.setDict 0x5811 1 [0, 2]
    let x := s.dict
    let n := node.toNat
    let usdo := fun (op : UsdoOp) => exec (.usdoRequest node op) s
    let enabled := s.cfg 0x5811 1 / 2 ^ port.val % 2 = 1
    (s.usdoServed = false ∨ x.ready = false) ∧
        (x.usdo.any (·.1 == n) = false) ∧
        (x.ready = false) ∧
        (s.cfg 0x1017 0 = 0 ∨ x.nmt = .initialisation) ∧
        (enabled) ∧
        (bumundOk b zero = false)) ∧
  (
    let node : BitVec 8 := 127
    let idx : BitVec 16 := 0x2000
    let sub : BitVec 8 := 1
    let op : UsdoOp := .segmentUp 7
    let port : Fin 10 := 9
    let cmd : BitVec 8 := 3
    let a : Answer := (onS.fresh.perform .canopen 0x2000 1 none).2.getD {}
    let s : State := onS
    let z := s.fresh
    let x := s.dict
    let n := node.toNat
    let usdo := fun (op : UsdoOp) => exec (.usdoRequest node op) s
    let mine := x.usdo.find? (·.1 == n)
    let enabled := s.cfg 0x5811 1 / 2 ^ port.val % 2 = 1
    (s.asks .canopen = true) ∧
        (mine = none) ∧
        (x.usdo.length < 8) ∧
        ((z.perform .canopen idx.toNat sub.toNat none).2 = some a) ∧
        (a.good = true) ∧
        (a.data.length ≤ 56) ∧
        (x.usdo = []) ∧
        (x.ready = true) ∧
        (cmd ≠ 1) ∧
        (cmd ≠ 2) ∧
        (cmd ≠ 128) ∧
        (s.cfg 0x1017 0 ≠ 0) ∧
        (x.nmt ≠ .initialisation) ∧
        (¬ enabled)) ∧
  (
    let node : BitVec 8 := 127
    let op : UsdoOp := .segmentUp 7
    let idx : BitVec 16 := 0x4801
    let sub : BitVec 8 := 3
    let a : Answer := (onS.fresh.perform .canopen 0x4801 3 none).2.getD {}
    let s : State := onS
    let z := s.fresh
    let x := s.dict
    let n := node.toNat
    let usdo := fun (op : UsdoOp) => exec (.usdoRequest node op) s
    let mine := x.usdo.find? (·.1 == n)
    (s.asks .canopen = true) ∧
        (mine = none) ∧
        (x.usdo.length < 8) ∧
        ((z.perform .canopen idx.toNat sub.toNat none).2 = some a) ∧
        (a.good = true) ∧
        (a.data.length ≤ 56)) ∧
  (
    let node : BitVec 8 := 127
    let op : UsdoOp := .segmentUp 7
    let idx : BitVec 16 := 0x2000
    let sub : BitVec 8 := 6
    let a : Answer := { data := List.replicate 57 7 }
    let s : State := onS.setDict 0x2000 6 (List.replicate 57 7)
    let z := s.fresh
    let x := s.dict
    let n := node.toNat
    let usdo := fun (op : UsdoOp) => exec (.usdoRequest node op) s
    let mine := x.usdo.find? (·.1 == n)
    (s.asks .canopen = true) ∧
        (z.perform .canopen idx.toNat sub.toNat none = (z, some a)) ∧
        (a.good = true) ∧
        (56 < a.data.length) ∧
        (mine = none) ∧
        (x.usdo.length < 8)) ∧
  (
    let node : BitVec 8 := 127
    let d : Bytes := []
    let k : Nat := 3
    let op : UsdoOp := .segmentUp 7
    let s : State := { onS with dict := { ready := true, nmt := .operational, usdo := [(1, .up []), (2, .up []), (3, .up []), (4, .up []), (5, .up []), (6, .up []), (7, .up []), (127, .up [])] } }
    let x := s.dict
    let n := node.toNat
    let usdo := fun (op : UsdoOp) => exec (.usdoRequest node op) s
    let mine := x.usdo.find? (·.1 == n)
    (s.asks .canopen = true) ∧
        (8 ≤ x.usdo.length ∨ x.usdo.any (·.1 == n) = true) ∧
        (mine = some (n, .up d)) ∧
        (d.length ≤ k) ∧
        (x.usdo.any (·.1 == n) = true)) ∧
  (
    let node : BitVec 8 := 127
    let k : Nat := 3
    let op : UsdoOp := .segmentUp 7
    let d : Bytes := [1, 2, 3, 4]
    let s : State := { onS with dict := { ready := true, nmt := .preOperational, usdo := [(127, .up [1, 2, 3, 4])] } }
    let x := s.dict
    let n := node.toNat
    let usdo := fun (op : UsdoOp) => exec (.usdoRequest node op) s
    let mine := x.usdo.find? (·.1 == n)
    (s.asks .canopen = true) ∧
        (mine = some (n, .up d)) ∧
        (k < d.length)) ∧
  (
    let node : BitVec 8 := 127
    let k : Nat := 3
    let op : UsdoOp := .segmentUp 7
    let d : Bytes := [1, 2, 3]
    let s : State := { onS with dict := { ready := true, nmt := .preOperational, usdo := [(127, .up [1, 2, 3])] } }
    let x := s.dict
    let n := node.toNat
    let usdo := fun (op : UsdoOp) => exec (.usdoRequest node op) s
    let mine := x.usdo.find? (·.1 == n)
    (s.asks .canopen = true) ∧
        (mine = some (n, .up d)) ∧
        (d.length ≤ k)) ∧
  (
    let node : BitVec 8 := 127
    let idx : BitVec 16 := 0x2000
    let sub : BitVec 8 := 1
    let total : Nat := 5
    let op : UsdoOp := .segmentUp 7
    let d : Bytes := [7, 8, 9]
    let v : Bytes := [1]
    let s : State := ({ onS with dict := { ready := true, nmt := .preOperational, usdo := [(127, .down 0x2000#16 1#8 5 [7, 8, 9])] } })
    let x := s.dict
    let n := node.toNat
    let usdo := fun (op : UsdoOp) => exec (.usdoRequest node op) s
    let mine := x.usdo.find? (·.1 == n)
    (s.asks .canopen = true) ∧
        (mine = some (n, .down idx sub total d)) ∧
        ((d ++ v).length < total)) ∧
  (
    let node : BitVec 8 := 127
    let idx : BitVec 16 := 0x2000
    let sub : BitVec 8 := 1
    let total : Nat := 5
    let op : UsdoOp := .segmentUp 7
    let d : Bytes := [7, 8, 9]
    let v : Bytes := [1, 2]
    let s : State := ({ onS with dict := { ready := true, nmt := .preOperational, usdo := [(127, .down 0x2000#16 1#8 5 [7, 8, 9])] } })
    let x := s.dict
    let n := node.toNat
    let usdo := fun (op : UsdoOp) => exec (.usdoRequest node op) s
    let mine := x.usdo.find? (·.1 == n)
    (s.asks .canopen = true) ∧
        (mine = some (n, .down idx sub total d)) ∧
        ((d ++ v).length = total)) ∧
  (
    let node : BitVec 8 := 127
    let idx : BitVec 16 := 0x2000
    let sub : BitVec 8 := 1
    let total : Nat := 5
    let op : UsdoOp := .segmentUp 7
    let d : Bytes := [7, 8, 9]
    let v : Bytes := [1, 2, 3]
    let s : State := ({ onS with dict := { ready := true, nmt := .preOperational, usdo := [(127, .down 0x2000#16 1#8 5 [7, 8, 9])] } })
    let x := s.dict
    let n := node.toNat
    let usdo := fun (op : UsdoOp) => exec (.usdoRequest node op) s
    let mine := x.usdo.find? (·.1 == n)
    (s.asks .canopen = true) ∧
        (mine = some (n, .down idx sub total d)) ∧
        (total < (d ++ v).length)) ∧
  (
    let port : Fin 10 := 9
    let s : State := onS.setDict 0x1017 0 [1, 0]
    let enabled := s.cfg 0x5811 1 / 2 ^ port.val % 2 = 1
    (¬ enabled)) ∧
  (
    let s : State := onS.setDict 0x1017 0 [0, 0]
    let x := s.dict
    (s.cfg 0x1017 0 = 0 ∨ x.nmt = .initialisation)) ∧
  (
    let port : Fin 10 := 9
    let s : State := onS.setDict 0x5811 1 [0, 0]
    let enabled := s.cfg 0x5811 1 / 2 ^ port.val % 2 = 1
    (¬ enabled)) ∧
  (
    let b : Bytes := []
    let port : Fin 10 := 9
    let s : State := ((onS.setDict 0x5811 1 [0, 2]))
    let zero : Bool := true
    let enabled := s.cfg 0x5811 1 / 2 ^ port.val % 2 = 1
    (enabled) ∧
        (bumundOk b zero = false)) ∧
  (
    let peer : Nat := 5
    let port : Fin 10 := 9
    let zero : Bool := false
    let b : Bytes := ([0x42, 0x4D, 0x4E, 0x44, 1]) ++ [1, 0, 0] ++ toLE 24 5
    let d : Bytes := [1, 2]
    let s : State := ((onS.setDict 0x5811 1 [0, 2])).setPeer { id := 5, last := some (5, [1, 2]) }
    let x := s.dict
    let q := x.peer peer
    let enabled := s.cfg 0x5811 1 / 2 ^ port.val % 2 = 1
    let served := s.serving = true ∧ s.sec.restarting = false
    (enabled) ∧
        (bumundOk b zero = true) ∧
        (served) ∧
        (q.owed = none) ∧
        (q.last = some (bSeq b, d))) ∧
  (
    let peer : Nat := 5
    let port : Fin 10 := 9
    let zero : Bool := false
    let b : Bytes := ([0x42, 0x4D, 0x4E, 0x44, 1]) ++ [1, 0, 0] ++ toLE 4 5 ++ [0, 0x20, 1, 0] ++ toLE 16 0
    let d : Bytes := ((((onS.setDict 0x5811 1 [0, 2])).setPeer { id := 5 }).perform (.bumund 5) 0x2000 1 none).2.elim [] (·.data)
    let s : State := ((onS.setDict 0x5811 1 [0, 2]))
    let z := s.fresh
    let x := s.dict
    let q := x.peer peer
    let enabled := s.cfg 0x5811 1 / 2 ^ port.val % 2 = 1
    let served := s.serving = true ∧ s.sec.restarting = false
    let y := z.setPeer q
    (enabled) ∧
        (bumundOk b zero = true) ∧
        (served) ∧
        (q.owed = none) ∧
        (q.last = none) ∧
        (bOp b = 1) ∧
        (bOffset b = 0) ∧
        (y.perform (.bumund peer) (bIdx b) (bSub b) none = (y, some { data := d }))) ∧
  (
    let peer : Nat := 5
    let port : Fin 10 := 9
    let zero : Bool := false
    let s : State := ((onS.setDict 0x5811 1 [0, 2]))
    let b : Bytes := ([0x42, 0x4D, 0x4E, 0x44, 1]) ++ [3, 0, 0] ++ toLE 24 5
    let x := s.dict
    let q := x.peer peer
    let enabled := s.cfg 0x5811 1 / 2 ^ port.val % 2 = 1
    let served := s.serving = true ∧ s.sec.restarting = false
    (enabled) ∧
        (bumundOk b zero = true) ∧
        (served) ∧
        (q.owed = none) ∧
        (q.last = none) ∧
        (bOp b ≠ 1) ∧
        (bOp b ≠ 2)) ∧
  (
    let peer : Nat := 5
    let port : Fin 10 := 9
    let zero : Bool := false
    let b : Bytes := [0x42, 0x4D, 0x4E, 0x44, 1, 3, 0, 0] ++ toLE 24 5
    let s : State := ((onS.setDict 0x5811 1 [0, 2]))
    let x := s.dict
    let q := x.peer peer
    let enabled := s.cfg 0x5811 1 / 2 ^ port.val % 2 = 1
    let served := s.serving = true ∧ s.sec.restarting = false
    (enabled) ∧
        (bumundOk b zero = true) ∧
        (served) ∧
        (q.owed = none) ∧
        (q.last = none) ∧
        (bOp b ≠ 1) ∧
        (bOp b ≠ 2)) ∧
  (
    let peer : Nat := 5
    let port : Fin 10 := 9
    let zero : Bool := false
    let b : Bytes := [0x42, 0x4D, 0x4E, 0x44, 1, 1, 0, 0] ++ toLE 4 5 ++ [0, 0x20, 1, 0] ++ toLE 16 0
    let d : Bytes := ((((onS.setDict 0x5811 1 [0, 2])).setPeer { id := 5 }).perform (.bumund 5) 0x2000 1 none).2.elim [] (·.data)
    let s : State := ((onS.setDict 0x5811 1 [0, 2]))
    let z := s.fresh
    let x := s.dict
    let q := x.peer peer
    let enabled := s.cfg 0x5811 1 / 2 ^ port.val % 2 = 1
    let served := s.serving = true ∧ s.sec.restarting = false
    let y := z.setPeer q
    (enabled) ∧
        (bumundOk b zero = true) ∧
        (served) ∧
        (q.owed = none) ∧
        (q.last = none) ∧
        (bOp b = 1) ∧
        (bOffset b = 0) ∧
        (y.perform (.bumund peer) (bIdx b) (bSub b) none = (y, some { data := d }))) ∧
  (
    let peer : Nat := 5
    let port : Fin 10 := 9
    let zero : Bool := false
    let b : Bytes := [0x42, 0x4D, 0x4E, 0x44, 1, 2, 0, 0] ++ toLE 4 5 ++ [0, 0x20, 1, 0] ++ toLE 4 0 ++ [2, 0] ++ toLE 6 0 ++ [5, 0, 0, 0] ++ [9, 9]
    let s : State := ((onS.setDict 0x5811 1 [0, 2]))
    let x := s.dict
    let q := x.peer peer
    let enabled := s.cfg 0x5811 1 / 2 ^ port.val % 2 = 1
    let served := s.serving = true ∧ s.sec.restarting = false
    (enabled) ∧
        (bumundOk b zero = true) ∧
        (served) ∧
        (q.owed = none) ∧
        (q.last = none) ∧
        (bOp b = 2) ∧
        (bOffset b = 0) ∧
        (bLast b = false) ∧
        (bLen b ≤ bTotal b)) ∧
  (
    let peer : Nat := 5
    let port : Fin 10 := 9
    let zero : Bool := false
    let b : Bytes := [0x42, 0x4D, 0x4E, 0x44, 1, 2, 0, 0] ++ toLE 4 5 ++ [0, 0x20, 1, 0] ++ toLE 4 0 ++ [2, 0] ++ toLE 6 0 ++ [2, 0, 0, 0] ++ [9, 9]
    let s : State := ((onS.setDict 0x5811 1 [0, 2]))
    let x := s.dict
    let q := x.peer peer
    let enabled := s.cfg 0x5811 1 / 2 ^ port.val % 2 = 1
    let served := s.serving = true ∧ s.sec.restarting = false
    (enabled) ∧
        (bumundOk b zero = true) ∧
        (served) ∧
        (q.owed = none) ∧
        (q.last = none) ∧
        (bOp b = 2) ∧
        (bOffset b = 0) ∧
        (bLast b = false) ∧
        (bLen b ≤ bTotal b)) ∧
  (
    let peer : Nat := 5
    let port : Fin 10 := 9
    let zero : Bool := false
    let b : Bytes := [0x42, 0x4D, 0x4E, 0x44, 1, 2, 1, 0] ++ toLE 24 5
    let d : Bytes := [1, 2]
    let s : State := ((onS.setDict 0x5811 1 [0, 2])).setPeer { id := 5, last := some (5, [1, 2]) }
    let x := s.dict
    let q := x.peer peer
    let enabled := s.cfg 0x5811 1 / 2 ^ port.val % 2 = 1
    let served := s.serving = true ∧ s.sec.restarting = false
    (enabled) ∧
        (bumundOk b zero = true) ∧
        (served) ∧
        (q.owed = none) ∧
        (q.last = some (bSeq b, d))) := by
  refine ⟨?_, ?_, ?_, ?_, ?_, ?_, ?_, ?_, ?_, ?_, ?_, ?_, ?_, ?_, ?_, ?_, ?_, ?_, ?_, ?_, ?_, ?_⟩ <;> (decide +kernel)

/-- The premises of `Obligations.EntropyImagesAndLifeCycle` hold together: clause by clause, of these states and operands. -/
theorem witness_EntropyImagesAndLifeCycle :
  (
    let p : Path := .firmware
    let n : Fin 4 := 3
    let v : Bytes := []
    let g : Func := 0x65
    let s : State := onS
    let z := s.fresh
    let x := s.sec
    let ok := fun (i n : Nat) (v : Bytes) => s.asks p = true ∧ (s.fresh.writeCheck p i n v).good = true
    let on := s.power.phase.powered = true
    (on) ∧
        (x.trngOk = false) ∧
        (g.val = 0x65) ∧
        (ok 0x7001 2 [1]) ∧
        (s.asks p = true) ∧
        (z.hasIdentity = false)) ∧
  (
    let s : State := { onS with sec := { trngOk := true } }
    let x := s.sec
    (x.trngOk = true)) ∧
  (
    let p : Path := .firmware
    let n : Fin 4 := 3
    let w : BitVec 8 := 0
    let r : Running := ({ slotB := false, ver := 1, digest := 0, key := 3, secEpoch := 5 })
    let v : Bytes := [1, 2, 3]
    let s : State := { onS with sec := { running := some ({ slotB := false, ver := 1, digest := 0, key := 3, secEpoch := 5 }) } }
    let x := s.sec
    let f := x.fuse
    let ok := fun (i n : Nat) (v : Bytes) => s.asks p = true ∧ (s.fresh.writeCheck p i n v).good = true
    let all := f.bootRevoked ||| w.setWidth 4
    (ok 0x7001 1 v) ∧
        (v.length ≤ 0x1F00000) ∧
        (ok 0x4870 5 [w]) ∧
        (w.toNat < 16) ∧
        (x.running = some r) ∧
        ((w.setWidth 4).getLsbD r.key = false) ∧
        (f.bootKeys all = []) ∧
        (ok 0x4870 6 [w]) ∧
        (f.secFloor ≤ w.toNat) ∧
        (w.toNat ≤ r.secEpoch)) ∧
  (
    let p : Path := .firmware
    let n : Fin 4 := 3
    let v : Bytes := []
    let r : Running := ({ slotB := false, ver := 1, digest := 0, key := 3, secEpoch := 5 })
    let w : BitVec 8 := 8
    let s : State := { onS with sec := { running := some ({ slotB := false, ver := 1, digest := 0, key := 3, secEpoch := 5 }) } }
    let x := s.sec
    let f := x.fuse
    let ok := fun (i n : Nat) (v : Bytes) => s.asks p = true ∧ (s.fresh.writeCheck p i n v).good = true
    (ok 0x4870 5 [w]) ∧
        (w.toNat < 16) ∧
        (x.running = some r) ∧
        ((w.setWidth 4).getLsbD r.key = true) ∧
        (ok 0x4870 6 [w]) ∧
        (w.toNat < f.secFloor ∨ r.secEpoch < w.toNat)) ∧
  (
    let p : Path := .firmware
    let n : Fin 4 := 3
    let v : Bytes := []
    let r : Running := ({ slotB := false, ver := 1, digest := 0, key := 3, secEpoch := 5 })
    let w : BitVec 8 := 7
    let s : State := { onS with sec := { running := some ({ slotB := false, ver := 1, digest := 0, key := 3, secEpoch := 5 }) } }
    let x := s.sec
    let f := x.fuse
    let ok := fun (i n : Nat) (v : Bytes) => s.asks p = true ∧ (s.fresh.writeCheck p i n v).good = true
    let all := f.bootRevoked ||| w.setWidth 4
    (ok 0x4870 5 [w]) ∧
        (w.toNat < 16) ∧
        (x.running = some r) ∧
        ((w.setWidth 4).getLsbD r.key = false) ∧
        (f.bootKeys all = [])) ∧
  (
    let p : Path := .firmware
    let n : Fin 4 := 3
    let v : Bytes := []
    let r : Running := ({ slotB := false, ver := 1, digest := 0, key := 3, secEpoch := 5 })
    let w : BitVec 8 := 7
    let s : State := { onS with sec := { running := some ({ slotB := false, ver := 1, digest := 0, key := 3, secEpoch := 5 }), fuse := { bootDigest := [(3, 5)] } } }
    let x := s.sec
    let f := x.fuse
    let ok := fun (i n : Nat) (v : Bytes) => s.asks p = true ∧ (s.fresh.writeCheck p i n v).good = true
    let all := f.bootRevoked ||| w.setWidth 4
    (ok 0x4870 5 [w]) ∧
        (w.toNat < 16) ∧
        (x.running = some r) ∧
        ((w.setWidth 4).getLsbD r.key = false) ∧
        (f.bootKeys all ≠ [])) ∧
  (
    let p : Path := .firmware
    let n : Fin 4 := 3
    let v : Bytes := []
    let r : Running := ({ slotB := false, ver := 1, digest := 0, key := 3, secEpoch := 5 })
    let w : BitVec 8 := 5
    let s : State := { onS with sec := { running := some ({ slotB := false, ver := 1, digest := 0, key := 3, secEpoch := 5 }), fuse := { secFloor := 5 } } }
    let x := s.sec
    let f := x.fuse
    let ok := fun (i n : Nat) (v : Bytes) => s.asks p = true ∧ (s.fresh.writeCheck p i n v).good = true
    (ok 0x4870 6 [w]) ∧
        (x.running = some r) ∧
        (f.secFloor ≤ w.toNat) ∧
        (w.toNat ≤ r.secEpoch)) ∧
  (
    let p : Path := .firmware
    let n : Fin 4 := 3
    let v : Bytes := []
    let r : Running := ({ slotB := false, ver := 1, digest := 0, key := 3, secEpoch := 5 })
    let w : BitVec 8 := 6
    let s : State := { onS with sec := { running := some ({ slotB := false, ver := 1, digest := 0, key := 3, secEpoch := 5 }), fuse := { secFloor := 5 } } }
    let x := s.sec
    let f := x.fuse
    let ok := fun (i n : Nat) (v : Bytes) => s.asks p = true ∧ (s.fresh.writeCheck p i n v).good = true
    let all := f.bootRevoked ||| w.setWidth 4
    (ok 0x4870 5 [w]) ∧
        (w.toNat < 16) ∧
        (x.running = some r) ∧
        ((w.setWidth 4).getLsbD r.key = false) ∧
        (f.bootKeys all = [])) ∧
  (
    let p : Path := .firmware
    let n : Fin 4 := 3
    let v : Bytes := []
    let r : Running := ({ slotB := false, ver := 1, digest := 0, key := 3, secEpoch := 5 })
    let w : BitVec 8 := 4
    let s : State := { onS with sec := { running := some ({ slotB := false, ver := 1, digest := 0, key := 3, secEpoch := 5 }), fuse := { secFloor := 5 } } }
    let x := s.sec
    let f := x.fuse
    let ok := fun (i n : Nat) (v : Bytes) => s.asks p = true ∧ (s.fresh.writeCheck p i n v).good = true
    let all := f.bootRevoked ||| w.setWidth 4
    (ok 0x4870 5 [w]) ∧
        (w.toNat < 16) ∧
        (x.running = some r) ∧
        ((w.setWidth 4).getLsbD r.key = false) ∧
        (f.bootKeys all = [])) ∧
  (
    let p : Path := .firmware
    let n : Fin 4 := 3
    let v : Bytes := toLE 48 5
    let s : State := onS
    let x := s.sec
    let f := x.fuse
    let ok := fun (i n : Nat) (v : Bytes) => s.asks p = true ∧ (s.fresh.writeCheck p i n v).good = true
    (ok 0x4870 (n + 1) v) ∧
        (f.bootDigest.look 0 n = 0)) ∧
  (
    let p : Path := .firmware
    let v : Bytes := toLE 48 5
    let n : Fin 4 := 0
    let s : State := { onS with sec := { fuse := { bootDigest := [(0, 1)] } } }
    let x := s.sec
    let f := x.fuse
    let ok := fun (i n : Nat) (v : Bytes) => s.asks p = true ∧ (s.fresh.writeCheck p i n v).good = true
    (ok 0x4870 (n + 1) v) ∧
        (f.bootDigest.look 0 n ≠ 0)) ∧
  (
    let p : Path := .firmware
    let n : Fin 4 := 3
    let v : Bytes := [2, 0, 0, 0, 0, 0, 0, 0]
    let s : State := onS
    let x := s.sec
    let f := x.fuse
    let ok := fun (i n : Nat) (v : Bytes) => s.asks p = true ∧ (s.fresh.writeCheck p i n v).good = true
    let target := fieldAt v 0 1
    let asked := ok 0x4830 1 v ∧ v.length = 8
    let rightful := fieldAt v 1 3 = 0 ∧ fieldAt v 4 4 = f.serial.toNat ∧ lcTransition f.lc target = true
    (asked) ∧
        (¬ rightful)) ∧
  (
    let p : Path := .firmware
    let n : Fin 4 := 3
    let v : Bytes := [1, 0, 0, 0, 0, 0, 0, 0]
    let s : State := { onS with holdup := { declared := true } }
    let x := s.sec
    let f := x.fuse
    let ok := fun (i n : Nat) (v : Bytes) => s.asks p = true ∧ (s.fresh.writeCheck p i n v).good = true
    let target := fieldAt v 0 1
    let asked := ok 0x4830 1 v ∧ v.length = 8
    let rightful := fieldAt v 1 3 = 0 ∧ fieldAt v 4 4 = f.serial.toNat ∧ lcTransition f.lc target = true
    (asked) ∧
        (rightful) ∧
        (s.holdup.declared = true)) ∧
  (
    let p : Path := .firmware
    let n : Fin 4 := 3
    let v : Bytes := [1, 0, 0, 0, 0, 0, 0, 0]
    let s : State := onS
    let x := s.sec
    let f := x.fuse
    let ok := fun (i n : Nat) (v : Bytes) => s.asks p = true ∧ (s.fresh.writeCheck p i n v).good = true
    let target := fieldAt v 0 1
    let asked := ok 0x4830 1 v ∧ v.length = 8
    let rightful := fieldAt v 1 3 = 0 ∧ fieldAt v 4 4 = f.serial.toNat ∧ lcTransition f.lc target = true
    (asked) ∧
        (rightful) ∧
        (s.holdup.declared = false) ∧
        (target = 1) ∧
        (f.serial = 0)) ∧
  (
    let p : Path := .firmware
    let n : Fin 4 := 3
    let v : Bytes := [1, 0, 0, 0, 5, 0, 0, 0]
    let s : State := { onS with sec := { fuse := { serial := 5, bootDigest := [(3, 5)] } } }
    let x := s.sec
    let f := x.fuse
    let ok := fun (i n : Nat) (v : Bytes) => s.asks p = true ∧ (s.fresh.writeCheck p i n v).good = true
    let target := fieldAt v 0 1
    let asked := ok 0x4830 1 v ∧ v.length = 8
    let rightful := fieldAt v 1 3 = 0 ∧ fieldAt v 4 4 = f.serial.toNat ∧ lcTransition f.lc target = true
    let idle := ∀ l, l < 256 → s.laneCfg l 1 = 0 ∧ (s.lane l).inflight = 0
    (asked) ∧
        (rightful) ∧
        (s.holdup.declared = false) ∧
        (idle) ∧
        (target = 1) ∧
        (f.serial ≠ 0) ∧
        (f.bootKeys f.bootRevoked ≠ [])) ∧
  (
    let p : Path := .firmware
    let n : Fin 4 := 3
    let v : Bytes := [4, 0, 0, 0, 5, 0, 0, 0]
    let s : State := { onS with sec := { fuse := { lc := 3, serial := 5 } } }
    let z := s.fresh
    let x := s.sec
    let f := x.fuse
    let ok := fun (i n : Nat) (v : Bytes) => s.asks p = true ∧ (s.fresh.writeCheck p i n v).good = true
    let target := fieldAt v 0 1
    let asked := ok 0x4830 1 v ∧ v.length = 8
    let rightful := fieldAt v 1 3 = 0 ∧ fieldAt v 4 4 = f.serial.toNat ∧ lcTransition f.lc target = true
    let idle := ∀ l, l < 256 → s.laneCfg l 1 = 0 ∧ (s.lane l).inflight = 0
    (asked) ∧
        (rightful) ∧
        (s.holdup.declared = false) ∧
        (idle) ∧
        (target = 4) ∧
        (s.asks p = true) ∧
        (z.hasIdentity = true)) ∧
  (
    let p : Path := .firmware
    let s : State := { onS with sec := { fuse := { lc := 3, serial := 5 } } }
    let z := s.fresh
    (s.asks p = true) ∧
        (z.hasIdentity = true)) ∧
  (
    let p : Path := .firmware
    let s : State := { onS with sec := { fuse := { lc := 4, serial := 5 } } }
    let z := s.fresh
    (s.asks p = true) ∧
        (z.hasIdentity = false)) ∧
  (
    let s : State := { State.reset with sec := { trngOk := false } }
    let x := s.sec
    let on := s.power.phase.powered = true
    (¬ on) ∧
        (x.trngOk = false)) := by
  refine ⟨?_, ?_, ?_, ?_, ?_, ?_, ?_, ?_, ?_, ?_, ?_, ?_, ?_, ?_, ?_, ?_, ?_, ?_, ?_⟩ <;> (decide +kernel)
theorem string_of_length (n : Nat) : ∃ v : Bytes, v.length = n := ⟨List.replicate n 0, List.length_replicate⟩
/-- The premises of the clause on an image longer than its slot hold together. -/
theorem witness_EntropyImagesAndLifeCycle_long :
    ∃ v : Bytes, (onS.asks .firmware = true ∧ (onS.fresh.writeCheck .firmware 0x7001 1 v).good = true) ∧ 0x1F00000 < v.length := by
  obtain ⟨v, n⟩ := string_of_length 0x1F00001
  have f : findEntry 0x7001 1 = .ok { acc := .wo, ty := .octets 1 0xFFFFFFFF } := rfl
  have l : onS.fresh.sec.fuse.lc = 0 := rfl
  have r : onS.fresh.role .firmware = 3 := rfl
  refine ⟨v, ⟨by decide +kernel, ?_⟩, by omega⟩
  simp [State.writeCheck, f, l, r, State.accessCheck, State.roleCheck, writeRole, DEntry.check, DType.fits, n, DType.contentOk, DRange.check,
    extraCheck, State.presentCheck, State.groupCheck, Answer.andThen, Answer.good, accepted]

/-! ### Commands that the well-formedness checks refuse, one for each check, beside one that they accept -/

theorem test_wf_unit : Instr.wellFormed (.unitReceived 0 [] false) = false ∧ Instr.wellFormed (.unitReceived 0 [1] false) = true := by decide
theorem test_wf_voltages :
    Instr.wellFormed (.horizonUpdate 65536 25) = false ∧ Instr.wellFormed (.bankTestStart .periodic ⟨65536, 0⟩) = false ∧
    Instr.wellFormed (.leakageCheck 65536) = false ∧ Instr.wellFormed (.supplySample 5000 65536) = false ∧
    Instr.wellFormed (.supplySample 65535 65535) = true := by decide
/-- A scan of member m with `zones` zones that gives these write pointers. -/
def scanM (m : Fin 4) (zones : Nat) (pointers : List (Nat × Nat)) : MemberScan :=
  { member := m, model := [], zoned := true, lba := 512, metadata := 0, mdts := 0, zoneLbas := 16, zones := zones, zasl := 0, maxActive := 0,
    labels := [], empty := true, images := [], pointers := pointers, mono := 0 }
theorem test_wf_scan :
    Instr.wellFormed (.contextRestore [scanM 0 2 [], scanM 0 2 []]) = false ∧ Instr.wellFormed (.contextRestore [scanM 0 2 [(2, 0)]]) = false ∧
    Instr.wellFormed (.contextRestore [scanM 3 1 [(0, 0), (0, 1)]]) = false ∧
    Instr.wellFormed (.contextRestore [scanM 0 2 [(1, 0)], scanM 1 0 []]) = true := by decide
theorem test_wf_word :
    Instr.wellFormed (.commandWordFetch 0 (List.replicate 31 0)) = false ∧ Instr.wellFormed (.commandWordFetch 0 (List.replicate 32 0)) = true := by decide
theorem test_wf_host_memory :
    Instr.wellFormed (.ingest 0 [(2 ^ 64, [1])]) = false ∧ Instr.wellFormed (.append 0 [(2 ^ 64 - 1, [1, 2])] []) = false ∧
    Instr.wellFormed (.queueEnable 0 0 [(2 ^ 64, [1])]) = false ∧ Instr.wellFormed (.entryTake [(2 ^ 64, [1])]) = false ∧
    Instr.wellFormed (.entryTake [(2 ^ 64 - 1, [1])]) = true := by decide
theorem test_wf_claim :
    Instr.wellFormed (.contextClaim 0 []) = false ∧
    Instr.wellFormed (.contextClaim 0 [{ master := 1, tileGen := 0, handle := none }, { master := 1, tileGen := 1, handle := none }]) = false ∧
    Instr.wellFormed (.contextClaim 0 [{ master := 1, tileGen := 0, handle := none }]) = true := by decide
theorem test_wf_publication : Instr.wellFormed (.publication 0 0) = false ∧ Instr.wellFormed (.publication 0 1) = true := by decide
theorem test_wf_slot :
    Instr.wellFormed (.slotStart ⟨3, [{ access := .unitRead, lastCourse := false, bytes := 64, since := 4 }]⟩) = false ∧
    Instr.wellFormed (.slotStart ⟨3, [{ access := .unitRead, lastCourse := false, bytes := 0, since := 3 }]⟩) = false ∧
    Instr.wellFormed (.slotStart ⟨3, [{ access := .unitRead, lastCourse := false, bytes := 64, since := 3 }]⟩) = true := by decide
theorem test_wf_source : Instr.wellFormed (.sourceArrival 140) = false ∧ Instr.wellFormed (.sourceArrival 139) = true := by decide
theorem test_wf_frame : Instr.wellFormed (.ethFrameReceived 0 [] false false) = false ∧ Instr.wellFormed (.ethFrameReceived 0 [0] false false) = true := by decide
theorem test_wf_can :
    Instr.wellFormed (.canFrameReceived 0 (List.replicate 7 0) false) = false ∧
    Instr.wellFormed (.canFrameReceived 0 (List.replicate 73 0) false) = false ∧
    Instr.wellFormed (.canFrameReceived 0 (List.replicate 72 0) false) = true := by decide
theorem test_wf_window :
    Instr.wellFormed (.dramWindowWrite 0 []) = false ∧ Instr.wellFormed (.dramWindowWrite 0xFFFFFFFF [1, 2]) = false ∧
    Instr.wellFormed (.dramWindowWrite 0xFFFFFFFF [1]) = true := by decide
theorem test_wf_usb : Instr.wellFormed (.usbAttach 0 true 0 (2 ^ 32)) = false ∧ Instr.wellFormed (.usbAttach 0 true 0 (2 ^ 32 - 1)) = true := by decide

/-- The premises of the clauses about PARK and DEEP in `Obligations.TimeService`, `Obligations.OutsideUnits`,
`Obligations.EthernetAndLinks`, `Obligations.FaultsAndWatchdogs` and `Obligations.BlockAndEnginePublications` hold. -/
theorem witness_ParkAndDeep :
  (
    let s : State := { onS with power := { phase := .deep, refclkOk := true } }
    (s.power.phase = .deep) ∧
        (s.power.refclkOk = true) ∧
        (s.cfg 0x5870 5 / 2 ^ 31 % 2 = 0)) ∧
  (
    let s : State := { (onS.setDict 0x5870 5 [0, 0, 0, 0x80]) with power := { phase := .deep, refclkOk := true } }
    (s.power.phase = .deep ∧ s.power.refclkOk = true ∧ s.cfg 0x5870 5 / 2 ^ 31 % 2 = 1) ∧
        (s.cfg 0x5870 1 / 2 ^ 31 % 2 = 0)) ∧
  (
    let s : State := { (onS.setDict 0x5870 5 [1, 0, 0, 0]) with power := { phase := .park } }
    (s.power.phase = .park ∧ s.cfg 0x5870 5 / 2 ^ 0 % 2 = 1 ∧ s.cfg 0x5870 5 / 2 ^ 31 % 2 = 0) ∧
        (s.cfg 0x5870 1 / 2 ^ 0 % 2 = 0) ∧
        (s.time.todNext = none) ∧
        (s.cfg 0x5820 6 * 1000 ≥ (secondOffset s.time.now).natAbs)) ∧
  (
    let s : State := { onS with power := { phase := .park }, ladder := { ewdLimit := [(0, 1)] }, iface := { linkDown := 0xF } }
    (s.watchdogsRest = false) ∧
        (s.power.phase = .park) ∧
        (s.ladder.ewdLimit.look 0 0 ≠ 0) ∧
        (s.ladder.ewdLimit.look 0 95 = 0) ∧
        (s.iface.linkDown.getLsbD 4 = false)) ∧
  (
    let s : State := { engS 0 { g := [(1, 511#24)] } with power := { phase := .park } }
    (s.power.phase = .park) ∧
        (s.engFree 0 = true)) := by
  refine ⟨?_, ?_, ?_, ?_, ?_⟩ <;> (decide +kernel)

/-- In PARK a line outside GPIO_WAKE publishes nothing (R237). -/
theorem test_gpioEdge_park : exec (.gpioEdge 3 true) { onS with power := { phase := .park } } =
    .next { onS with power := { phase := .park } } := rfl

/-! ### Parcels written out from the encoding tables -/

theorem test_parcel_move_constant : decodeParcels 0b101001010001100100#18 0 = .op (.movi 4 100) := by decide
theorem test_parcel_store_step : decodeParcels 0b100111000000100001#18 0 = .op (.stwi 0 2 1) := by decide
theorem test_parcel_repeat : decodeParcels 0b000000100100000000#18 0 = .op .rpti := by decide
/-- LD.H.S of the multi-parcel table: LOP 15h, RD 1, RA 3, X 2, then the displacement 6 (R183). -/
theorem test_parcel_load : decodeParcels 0b110101010001001110#18 6 = .op (.ld .hs 1 2 3 6) := by decide
/-- C0 g5, b2[g3 + 4] of the example in chapter 09: 3_C14Eh, 0_0004h. -/
theorem test_parcel_customer : decodeParcels 0x3C14E#18 4 = .op (.custom 0 5 3 2 4) := by decide

/-! ### The spec's worked examples -/

/-- Chapter 03, a cold, aged bank: 38 F and 85 mΩ measured at 25 °C, −30 °C now, every entry at its default. -/
def coldBank : State := { onS with holdup := { cMeas := some 38000, esrMeas := 85000, tMeas := 25, tbank := -30 } }
/-- v_floor is 3.433 V. -/
theorem test_cold_bank_floor : coldBank.vFloor.floor = 3433 := by decide +kernel
/-- At 3.75 V, H is about 1,018,800,000 bytes. -/
theorem test_cold_bank_horizon : 1018700000 < coldBank.horizonAt 3750 ∧ coldBank.horizonAt 3750 < 1018900000 := by decide +kernel
/-- At 3.55 V the energy left is below the reserve: H is 0. -/
theorem test_cold_bank_empty : coldBank.horizonAt 3550 = 0 := by decide +kernel

/-- Chapter 02: the open time 1,893,456,000 s as it stands in a header. -/
theorem test_open_time : toLE 10 1893456000 = [0x80, 0xD8, 0xDB, 0x70, 0, 0, 0, 0, 0, 0] := by decide

/-- Chapter 07, an early read, a divide overflow: engine 29 before the example starts. -/
def engine29 : State :=
  { onS with power := { phase := .run, refclkOk := true, pllLock := true } }.setEng 29
    { run := .running, ie := true, mlo := 7, g := [(3, 0x400), (4, 0x1000), (6, 0x800000), (7, 0xFFFFFF)] }
/-- The state that a command leaves. -/
def after (c : Instr) (s : State) : State := match exec c s with | .next t => t | _ => s
/-- Cycle 0: the product is in flight and MLO still reads 7. -/
theorem test_early_read :
    let x := (after (.mulu 29 3 4) engine29).eng 29
    x.mlo = 7 ∧ x.mhi = 0 ∧ x.mdb = true ∧ x.products = [(0, 0x400000)] := by decide +kernel
/-- Cycle 3: the product is written. -/
theorem test_product_lands : ((after (.mulResult 29) (after (.mulu 29 3 4) engine29)).eng 29).mlo = 0x400000 := by decide +kernel
/-- Cycles 2 and 15: the quotient of the divide overflow, with DOV. -/
theorem test_divide_overflow :
    let x := (after (.divResult 29) (after (.divs 29 6 7) engine29)).eng 29
    x.mlo = 0x800000 ∧ x.mhi = 0 ∧ x.dov = true ∧ x.dz = false ∧ x.mdb = false := by decide +kernel
/-- MUL of 80_0000h by 80_0000h, MULU of FF_FFFFh by FF_FFFFh, and DIVS of −7 by 2 (chapter 07). -/
theorem test_exact_products :
    ((after (.mul 29 6 6) engine29).eng 29).products = [(0x400000, 0)] ∧
    ((after (.mulu 29 7 7) engine29).eng 29).products = [(0xFFFFFE, 1)] ∧
    divS 0xFFFFF9 2 = { lo := 0xFFFFFD, hi := 0xFFFFFF, dov := false, dz := false } := by decide +kernel

/-- Chapter 10: with an arrival pending, a second is coalesced; COUNT is then 2, and a read of it clears it. -/
def source179 : State := { onS with vu := { src := [(179, { pending := true, count := 1, arrivals := 1 })] } }
theorem test_second_arrival :
    (after (.sourceArrival 179) source179).vu.row 179 = { pending := true, count := 2, arrivals := 2, coalesced := 1 } ∧
    ((after (.srcCountRead 29 179) (after (.sourceArrival 179) source179)).vu.row 179).count = 0 := by decide +kernel

/-- Chapter 12: engine 17 acknowledges channel 40, which then reads SENT 1, ACKS 1, FULL 0; engine 9 receives its event. -/
def channel40 : State :=
  { onS with mbox := { locked := true, ch := [(40, { full := true, valid := true, sent := 1, slot := [(0, 9)], sender := 9#7, receiver := 17#7 })] } }
theorem test_channel_acknowledged :
    let t := after (.ack 17 40 0) channel40
    (t.mbox.row 40).sent = 1 ∧ (t.mbox.row 40).acks = 1 ∧ (t.mbox.row 40).full = false ∧ (t.eng 9).evl = 0x020000 := by decide +kernel

/-- A command at the front runs and leaves the queue's rest; on an empty queue time advances (log entry 48). -/
theorem test_step_front :
    step { source179 with pending := [.srcCountRead 29 179, .sourceArrival 0] } =
      exec (.srcCountRead 29 179) { source179 with pending := [.sourceArrival 0] } ∧
    step source179 = .next source179.tick := ⟨rfl, rfl⟩

end Sys2Proof.Tests
end

namespace Sys2Proof.Machine

/-! ### Device byte addresses (R20) -/

/-- R20's formula: bank and offset stand side by side, so the address is their sum. -/
theorem devAddr_toNat (b : BitVec 11) (off : W24) : (devAddr b off).toNat = b.toNat * 2 ^ 24 + off.toNat := by
  rw [devAddr, BitVec.toNat_append, ← Nat.shiftLeft_add_eq_or_of_lt off.isLt, Nat.shiftLeft_eq]

/-- The upper eleven bits of a device byte address are its bank. -/
@[simp] theorem devAddr_bank (b : BitVec 11) (off : W24) : (devAddr b off).extractLsb' 24 11 = b :=
  BitVec.extractLsb'_append_eq_left

/-- The lower 24 bits of a device byte address are its offset. -/
@[simp] theorem devAddr_offset (b : BitVec 11) (off : W24) : (devAddr b off).extractLsb' 0 24 = off :=
  BitVec.extractLsb'_append_eq_right

/-- Within an access only the offset moves, modulo 2^24; the bank stays. -/
theorem byteAddr_devAddr (b : BitVec 11) (off : W24) (i : Nat) :
    byteAddr (devAddr b off) i = devAddr b (off + BitVec.ofNat 24 i) := by
  rw [byteAddr, devAddr_bank, devAddr_offset]

/-- Settles O19: the byte of an access is again an address of the same bank, and its 24-bit offset wraps. -/
theorem bankedAddresses : Obligations.BankedAddresses := by
  intro b off i
  refine ⟨devAddr_toNat b off, ?_⟩
  rw [byteAddr_devAddr, devAddr_toNat, BitVec.toNat_add, BitVec.toNat_ofNat, Nat.add_mod_mod]

end Sys2Proof.Machine

namespace Sys2Proof.Machine

/-! ### STWI under RPT (R181, R189)

The engine after k repetitions of STWI with step 1 is a function of the engine before them; as long as its base stays below 0x4000 the loop
of RPT walks through these engines, and at 0x4000 it faults. -/

/-- Only the engine that is replaced differs. -/
theorem onlyEngine_setEng (s : State) (e : Nat) (x : Engine) : OnlyEngine e s (s.setEng e x) :=
  ⟨rfl, fun _ hk => State.eng_setEng_other s x hk⟩

/-- One STWI to local memory with step 1: the word at the base is written, then the base goes up. -/
def Engine.stored (rs ra : Reg) (x : Engine) : Engine :=
  { x with loc := x.loc.store 0 (x.reg ra).toNat (x.reg rs) }.setReg ra (x.reg ra + 1)

/-- k such stores, one behind the other. -/
def Engine.filled (rs ra : Reg) : Nat → Engine → Engine
  | 0, x => x
  | k + 1, x => (Engine.filled rs ra k x).stored rs ra

@[simp] theorem Engine.stored_pc (rs ra : Reg) (x : Engine) : (x.stored rs ra).pc = x.pc :=
  Engine.setReg_pc _ ra _

theorem Engine.stored_loc (rs ra : Reg) (x : Engine) :
    (x.stored rs ra).loc = x.loc.store 0 (x.reg ra).toNat (x.reg rs) :=
  Engine.setReg_loc _ ra _

theorem Engine.stored_base {ra : Reg} (h : ra ≠ 0) (rs : Reg) (x : Engine) : (x.stored rs ra).reg ra = x.reg ra + 1 :=
  Engine.reg_setReg_same _ ra _ h

theorem Engine.stored_value {rs ra : Reg} (h : rs ≠ ra) (x : Engine) : (x.stored rs ra).reg rs = x.reg rs :=
  Engine.reg_setReg_other _ _ h

theorem Engine.filled_zero (rs ra : Reg) (x : Engine) : x.filled rs ra 0 = x := rfl

theorem Engine.filled_succ (rs ra : Reg) (k : Nat) (x : Engine) :
    x.filled rs ra (k + 1) = (x.filled rs ra k).stored rs ra := rfl

@[simp] theorem Engine.filled_pc (rs ra : Reg) (k : Nat) (x : Engine) : (x.filled rs ra k).pc = x.pc := by
  induction k with
  | zero => rfl
  | succ k ih => rw [Engine.filled_succ, Engine.stored_pc, ih]

theorem Engine.filled_base {ra : Reg} (h : ra ≠ 0) (rs : Reg) (k : Nat) (x : Engine) :
    (x.filled rs ra k).reg ra = x.reg ra + BitVec.ofNat 24 k := by
  induction k with
  | zero => exact (BitVec.add_zero _).symm
  | succ k ih =>
    rw [Engine.filled_succ, Engine.stored_base h, ih, BitVec.add_assoc, BitVec.ofNat_add]
    rfl

theorem Engine.filled_value {rs ra : Reg} (h : rs ≠ ra) (k : Nat) (x : Engine) :
    (x.filled rs ra k).reg rs = x.reg rs := by
  induction k with
  | zero => rfl
  | succ k ih => rw [Engine.filled_succ, Engine.stored_value h, ih]

/-- Below 2^24 the base is the sum as a number. -/
theorem Engine.filled_base_toNat {ra : Reg} (h : ra ≠ 0) (rs : Reg) {k : Nat} {x : Engine}
    (hk : (x.reg ra).toNat + k < 2 ^ 24) : ((x.filled rs ra k).reg ra).toNat = (x.reg ra).toNat + k := by
  rw [Engine.filled_base h, BitVec.toNat_add, BitVec.toNat_ofNat, Nat.add_mod_mod, Nat.mod_eq_of_lt hk]

/-- k stores write the k words from the base on with the one value, and no other word. -/
theorem Engine.filled_look {rs ra : Reg} (ha : ra ≠ 0) (hs : rs ≠ ra) {k : Nat} {x : Engine}
    (hk : (x.reg ra).toNat + k ≤ 2 ^ 24) (j : Nat) :
    (x.filled rs ra k).loc.look 0 j =
      if (x.reg ra).toNat ≤ j ∧ j < (x.reg ra).toNat + k then x.reg rs else x.loc.look 0 j := by
  induction k with
  | zero => rw [Engine.filled_zero, if_neg (by omega)]
  | succ k ih =>
    have hbase := Engine.filled_base_toNat ha rs (k := k) (x := x) (by omega)
    rw [Engine.filled_succ, Engine.stored_loc, hbase, Engine.filled_value hs]
    by_cases hj : j = (x.reg ra).toNat + k
    · rw [hj, Tab.look_store_same, if_pos (by omega)]
    · rw [Tab.look_store_other _ _ _ _ hj, ih (by omega)]
      have hin : (x.reg ra).toNat ≤ j ∧ j < (x.reg ra).toNat + k ↔
          (x.reg ra).toNat ≤ j ∧ j < (x.reg ra).toNat + (k + 1) := by omega
      simp only [hin]

/-- What a repetition of STWI does while its address is in local memory (R181). -/
theorem State.opBody_stwi_local {x : Engine} {ra : Reg} (h : (x.reg ra).toNat < 0x4000) (s : State) (e : Nat) (rs : Reg) :
    (s.setEng e x).opBody e (.stwi rs ra 1) = s.setEng e (x.stored rs ra) := by
  have hw : (s.setEng e x).dataWrite e (x.reg ra) (x.reg rs) =
      s.setEng e { x with loc := x.loc.store 0 (x.reg ra).toNat (x.reg rs) } := by
    rw [State.dataWrite_local _ e _ _ h, State.setEng_modEng]
  simp only [State.opBody, State.storeWord, State.eng_setEng_same, hw, State.setEng_modEng]
  rfl

/-- A repetition of STWI stays in local memory as its base does (R189). -/
theorem Engine.inLocal_stwi (x : Engine) (rs ra : Reg) (v : BitVec 4) :
    x.inLocal (.stwi rs ra v) = decide ((x.reg ra).toNat < 0x4000) := rfl

/-- A repetition in local memory is executed, and the loop goes on. -/
theorem State.rptLoop_stwi_local {x : Engine} {ra : Reg} (h : (x.reg ra).toNat < 0x4000) (s : State) (e : Nat) (rs : Reg)
    (bad : Option Nat) (n i : Nat) :
    (s.setEng e x).rptLoop e (.stwi rs ra 1) bad (n + 1) i =
      (s.setEng e (x.stored rs ra)).rptLoop e (.stwi rs ra 1) bad n (i + 1) := by
  have hin : ((s.setEng e x).eng e).inLocal (.stwi rs ra 1) = true := by
    rw [State.eng_setEng_same, Engine.inLocal_stwi, decide_eq_true h]
  rw [← State.opBody_stwi_local h, State.rptLoop, hin]
  rfl

/-- A repetition outside local memory is an engine fault of case 4, and nothing of it is executed (R189). -/
theorem State.rptLoop_outside {s : State} {e : Nat} {op : EOp} (h : (s.eng e).inLocal op = false) (bad : Option Nat)
    (n i : Nat) : s.rptLoop e op bad (n + 1) i = s.engineFault e 4 := by
  rw [State.rptLoop, h]
  rfl

/-- The loop of RPT walks through k repetitions of STWI if they end at or below 0x4000. -/
theorem State.rptLoop_stwi_filled {x : Engine} {ra : Reg} (ha : ra ≠ 0) {k : Nat} (hk : (x.reg ra).toNat + k ≤ 0x4000)
    (s : State) (e : Nat) (rs : Reg) (bad : Option Nat) (n i : Nat) :
    (s.setEng e x).rptLoop e (.stwi rs ra 1) bad (n + k) i =
      (s.setEng e (x.filled rs ra k)).rptLoop e (.stwi rs ra 1) bad n (i + k) := by
  induction k generalizing n with
  | zero => rfl
  | succ k ih =>
    have hbase := Engine.filled_base_toNat ha rs (k := k) (x := x) (by omega)
    rw [← Nat.add_assoc, Nat.add_right_comm, ih (by omega), State.rptLoop_stwi_local (by omega),
      ← Engine.filled_succ, Nat.add_assoc]

/-- RPT n of STWI on a free engine is the loop of n repetitions (R188, R190). -/
theorem execRpt_stwi {s : State} {e : Eng} (h : s.engFree e = true) (nm1 : BitVec 6) (rs ra : Reg) (v : BitVec 4)
    (bad : Option Nat) : execRpt e nm1 (.stwi rs ra v) bad s =
      .next ((s.setEng e (s.eng e).begun).rptLoop e (.stwi rs ra v) bad (nm1.toNat + 1) 0) := by
  simp only [execRpt, if_pos h]
  rfl

/-- RPT of STWI with step 1 whose repetition k stands at 0x4000: the k stores before it, then an engine fault of case 4 (R189). -/
theorem execRpt_stwi_faults {s : State} {e : Eng} (h : s.engFree e = true) {ra : Reg} (ha : ra ≠ 0) {k : Nat}
    (hb : ((s.eng e).reg ra).toNat + k = 0x4000) {nm1 : BitVec 6} (hk : k ≤ nm1.toNat) (rs : Reg) (bad : Option Nat) :
    execRpt e nm1 (.stwi rs ra 1) bad s = .next ((s.setEng e ((s.eng e).begun.filled rs ra k)).engineFault e 4) := by
  rw [← Engine.begun_reg] at hb
  have hbase := Engine.filled_base_toNat ha rs (k := k) (x := (s.eng e).begun) (by omega)
  have hout : ((s.setEng e ((s.eng e).begun.filled rs ra k)).eng e).inLocal (.stwi rs ra 1) = false := by
    rw [State.eng_setEng_same, Engine.inLocal_stwi, hbase, hb]
    rfl
  rw [execRpt_stwi h, show nm1.toNat + 1 = nm1.toNat - k + 1 + k by omega, State.rptLoop_stwi_filled ha (by omega),
    State.rptLoop_outside hout]

/-- Settles O17: the state before the failing repetition is the one in which the k stores before it stand, and the fault is all
that this repetition does. -/
theorem rptOutsideLocalMemory : Obligations.RptOutsideLocalMemory := by
  intro e nm1 rs ra k s hfree ha hs x b _ hk hb
  have hend : (x.begun.reg ra).toNat + k = 0x4000 := hb
  refine ⟨s.setEng e (x.begun.filled rs ra k), ?fault, onlyEngine_setEng s e _, ?base, ?pc, ?inside, ?outside⟩
  case fault =>
    rw [exec_rpt, execRpt_stwi_faults hfree ha hb hk]
    simp only [State.engineFault, State.setEng_modEng, Engine.filled_pc]
    rfl
  case base =>
    apply BitVec.eq_of_toNat_eq
    rw [State.eng_setEng_same, Engine.filled_base_toNat ha rs (by omega), hend]
    rfl
  case pc => rw [State.eng_setEng_same, Engine.filled_pc, Engine.begun_pc]
  case inside =>
    intro j hlo hhi
    rw [State.eng_setEng_same, Engine.filled_look ha hs (by omega), hend]
    exact if_pos ⟨hlo, hhi⟩
  case outside =>
    intro j hj
    rw [State.eng_setEng_same, Engine.filled_look ha hs (by omega), hend]
    exact if_neg fun hin => hj.elim (Nat.not_lt.mpr hin.1) (Nat.not_le.mpr hin.2)

end Sys2Proof.Machine

namespace Sys2Proof.Machine

/-! ### The account of a mailbox channel (R241 to R249) -/

/-- The account of R249 for one channel. -/
def MboxRow.balanced (x : MboxRow) : Prop := x.sent = x.acks + (if x.full then 1 else 0)

theorem State.mailBalanced_iff (s : State) : s.mailBalanced ↔ ∀ c, (s.mbox.row c).balanced := Iff.rfl

/-- The channel after a SEND that its full slot refuses (R245). -/
def MboxRow.sendRefused (x : MboxRow) : MboxRow := { x with refused := x.refused + 1, lastResult := 2 }

/-- The channel after an effective acknowledgement (R246). -/
def MboxRow.ackTaken (x : MboxRow) (v : W24) : MboxRow := { x with ackVal := v, full := false, acked := true, acks := x.acks + 1 }

/-- The channel after a stray acknowledgement (R246). -/
def MboxRow.ackStray (x : MboxRow) : MboxRow := { x with stray := x.stray + 1 }

theorem MboxRow.sendTo_balanced {x : MboxRow} (h : x.balanced) (he : x.full = false) (m : Nat) (tag : BitVec 16) :
    (x.sendTo m tag).balanced := by
  have hsent : x.sent = x.acks := by simpa [MboxRow.balanced, he] using h
  simp [MboxRow.balanced, MboxRow.sendTo, hsent]

theorem MboxRow.ackTaken_balanced {x : MboxRow} (h : x.balanced) (hf : x.full = true) (v : W24) :
    (x.ackTaken v).balanced := by
  have hsent : x.sent = x.acks + 1 := by simpa [MboxRow.balanced, hf] using h
  simp [MboxRow.balanced, MboxRow.ackTaken, hsent]

theorem MboxRow.sendRefused_balanced {x : MboxRow} (h : x.balanced) : x.sendRefused.balanced := h

theorem MboxRow.ackStray_balanced {x : MboxRow} (h : x.balanced) : x.ackStray.balanced := h

theorem word_add_right_comm (a b c : W32) : a + b + c = a + c + b := by
  rw [BitVec.add_assoc, BitVec.add_comm b c, ← BitVec.add_assoc]

theorem MboxRow.sendTo_counts_once (x : MboxRow) (m : Nat) (tag : BitVec 16) :
    (x.sendTo m tag).sent + (x.sendTo m tag).refused = x.sent + x.refused + 1 :=
  word_add_right_comm x.sent 1 x.refused

theorem MboxRow.sendRefused_counts_once (x : MboxRow) :
    x.sendRefused.sent + x.sendRefused.refused = x.sent + x.refused + 1 :=
  (BitVec.add_assoc x.sent x.refused 1).symm

/-! ### The mailboxes after a replaced channel and after a notice -/

@[simp] theorem State.row_setMbox_same (s : State) (c : Nat) (x : MboxRow) : (s.setMbox c x).mbox.row c = x :=
  Tab.look_put_same s.mbox.ch {} c x

theorem State.row_setMbox_other (s : State) {c k : Nat} (x : MboxRow) (h : k ≠ c) :
    (s.setMbox c x).mbox.row k = s.mbox.row k :=
  Tab.look_put_other s.mbox.ch {} x h

@[simp] theorem State.violations_setMbox (s : State) (c : Nat) (x : MboxRow) :
    (s.setMbox c x).mbox.violations = s.mbox.violations := rfl

@[simp] theorem State.row_violation (s : State) (c : Nat) : s.violation.mbox.row c = s.mbox.row c := rfl

@[simp] theorem State.violations_violation (s : State) : s.violation.mbox.violations = s.mbox.violations + 1 := rfl

@[simp] theorem State.mbox_markWarm (s : State) (e bit : Nat) : (s.markWarm e bit).mbox = s.mbox := by
  unfold State.markWarm
  split
  · exact State.mbox_mark s e bit
  · rfl

@[simp] theorem State.mbox_noticeReceiver (s : State) (x : MboxRow) : (s.noticeReceiver x).mbox = s.mbox := by
  unfold State.noticeReceiver
  split
  · exact State.mbox_raise s 231
  · split
    · exact State.mbox_markWarm s _ 16
    · rfl

@[simp] theorem State.mbox_noticeSender (s : State) (x : MboxRow) : (s.noticeSender x).mbox = s.mbox := by
  unfold State.noticeSender
  split
  · exact State.mbox_raise s 232
  · split
    · exact State.mbox_markWarm s _ 17
    · rfl

/-! ### What keeps the account of every channel -/

theorem State.mailBalanced_of_ch_eq {s t : State} (h : s.mailBalanced) (hch : t.mbox.ch = s.mbox.ch) : t.mailBalanced := by
  intro c
  have hrow : t.mbox.row c = s.mbox.row c := congrArg (·.look {} c) hch
  rw [hrow]
  exact h c

theorem State.mailBalanced_violation {s : State} (h : s.mailBalanced) : s.violation.mailBalanced :=
  State.mailBalanced_of_ch_eq h rfl

theorem State.mailBalanced_setMbox {s : State} (h : s.mailBalanced) (c : Nat) {x : MboxRow} (hx : x.balanced) :
    (s.setMbox c x).mailBalanced := by
  rw [State.mailBalanced_iff]
  intro k
  by_cases hk : k = c
  · rw [hk, State.row_setMbox_same]
    exact hx
  · rw [State.row_setMbox_other s x hk]
    exact h k

/-! ### What a SEND and an ACK do to the mailboxes -/

/-- The three outcomes of a SEND write (R245): refused under enforcement, refused by a full slot, delivered. -/
theorem State.mbox_mailSend_cases (s : State) (m c : Nat) (tag : BitVec 16) :
    let x := s.mbox.row c
    (s.mbox.maySend m c = false ∧ (s.mailSend m c tag).mbox = s.violation.mbox) ∨
    (s.mbox.maySend m c = true ∧ x.full = true ∧ (s.mailSend m c tag).mbox = (s.setMbox c x.sendRefused).mbox) ∨
    (s.mbox.maySend m c = true ∧ x.full = false ∧ (s.mailSend m c tag).mbox = (s.setMbox c (x.sendTo m tag)).mbox) := by
  intro x
  cases hm : s.mbox.maySend m c
  · exact .inl ⟨rfl, by simp [State.mailSend, hm]⟩
  · cases hf : x.full
    · exact .inr (.inr ⟨rfl, rfl, by simp [State.mailSend, hm, x, hf]⟩)
    · exact .inr (.inl ⟨rfl, rfl, by simp [State.mailSend, hm, x, hf, MboxRow.sendRefused]⟩)

/-- The three outcomes of an ACK write (R244, R246): refused under enforcement, effective, stray. -/
theorem State.mbox_mailAck_cases (s : State) (m c : Nat) (v : W24) :
    let x := s.mbox.row c
    (s.mbox.mayAck m c = false ∧ (s.mailAck m c v).mbox = s.violation.mbox) ∨
    (s.mbox.mayAck m c = true ∧ x.full = true ∧ (s.mailAck m c v).mbox = (s.setMbox c (x.ackTaken v)).mbox) ∨
    (s.mbox.mayAck m c = true ∧ x.full = false ∧ (s.mailAck m c v).mbox = (s.setMbox c x.ackStray).mbox) := by
  intro x
  cases hm : s.mbox.mayAck m c
  · exact .inl ⟨rfl, by simp [State.mailAck, hm]⟩
  · cases hf : x.full
    · exact .inr (.inr ⟨rfl, rfl, by simp [State.mailAck, hm, x, hf, MboxRow.ackStray]⟩)
    · exact .inr (.inl ⟨rfl, rfl, by simp [State.mailAck, hm, x, hf, MboxRow.ackTaken]⟩)

theorem State.mailSend_mailBalanced {s : State} (h : s.mailBalanced) (m c : Nat) (tag : BitVec 16) :
    (s.mailSend m c tag).mailBalanced := by
  have hc : (s.mbox.row c).balanced := h c
  obtain ⟨-, ht⟩ | ⟨-, -, ht⟩ | ⟨-, he, ht⟩ := s.mbox_mailSend_cases m c tag
  · exact State.mailBalanced_of_ch_eq (State.mailBalanced_violation h) (congrArg Mailboxes.ch ht)
  · exact State.mailBalanced_of_ch_eq (State.mailBalanced_setMbox h c (MboxRow.sendRefused_balanced hc)) (congrArg Mailboxes.ch ht)
  · exact State.mailBalanced_of_ch_eq (State.mailBalanced_setMbox h c (MboxRow.sendTo_balanced hc he m tag)) (congrArg Mailboxes.ch ht)

theorem State.mailAck_mailBalanced {s : State} (h : s.mailBalanced) (m c : Nat) (v : W24) :
    (s.mailAck m c v).mailBalanced := by
  have hc : (s.mbox.row c).balanced := h c
  obtain ⟨-, ht⟩ | ⟨-, hf, ht⟩ | ⟨-, -, ht⟩ := s.mbox_mailAck_cases m c v
  · exact State.mailBalanced_of_ch_eq (State.mailBalanced_violation h) (congrArg Mailboxes.ch ht)
  · exact State.mailBalanced_of_ch_eq (State.mailBalanced_setMbox h c (MboxRow.ackTaken_balanced hc hf v)) (congrArg Mailboxes.ch ht)
  · exact State.mailBalanced_of_ch_eq (State.mailBalanced_setMbox h c (MboxRow.ackStray_balanced hc)) (congrArg Mailboxes.ch ht)

/-- MAILBOX_LOCK, set or refused, leaves the channels as they are (R243). -/
theorem State.ch_mailLock (s : State) (m : Master) : ((s.mailLock m).getD (s.addrFault m)).mbox.ch = s.mbox.ch := by
  unfold State.mailLock
  split
  · rfl
  · exact congrArg Mailboxes.ch (State.mbox_addrFault s m)

/-- R249: a SEND write counts once, in SENT, REFUSED or VIOLATIONS. -/
theorem State.mailSend_counts_once (s : State) (m c : Nat) (tag : BitVec 16) :
    let t := s.mailSend m c tag
    (t.mbox.row c).sent + (t.mbox.row c).refused + t.mbox.violations =
      (s.mbox.row c).sent + (s.mbox.row c).refused + s.mbox.violations + 1 := by
  intro t
  obtain ⟨-, ht⟩ | ⟨-, -, ht⟩ | ⟨-, -, ht⟩ := s.mbox_mailSend_cases m c tag
  · rw [show t.mbox = s.violation.mbox from ht, State.row_violation, State.violations_violation, BitVec.add_assoc _ _ 1]
  · rw [show t.mbox = _ from ht, State.row_setMbox_same, State.violations_setMbox, MboxRow.sendRefused_counts_once,
      word_add_right_comm _ 1]
  · rw [show t.mbox = _ from ht, State.row_setMbox_same, State.violations_setMbox, MboxRow.sendTo_counts_once,
      word_add_right_comm _ 1]

/-! ### The masters that take part (R241, R339) -/

theorem State.mailMaster_iff (s : State) (m : Nat) : s.mailMaster m = true ↔ m < 99 ∨ m = 99 ∧ s.debugOpen = true := by
  simp [State.mailMaster]

theorem exec_send_of_mailMaster {s : State} {m : Master} (h : s.mailMaster m = true) (c : Mbox) (v : W32) :
    exec (.send m c v) s = .next (s.mailSend m c (v.extractLsb' 8 16)) := by
  rw [exec_send, execSend, if_pos h]

theorem exec_ack_of_mailMaster {s : State} {m : Master} (h : s.mailMaster m = true) (c : Mbox) (v : W32) :
    exec (.ack m c v) s = .next (s.mailAck m c (v.setWidth 24)) := by
  rw [exec_ack, execAck, if_pos h]

/-- Settles O34: a delivered message moves SENT and FULL together, an effective acknowledgement FULL and ACKS, and nothing else
that the three commands do touches one of them. -/
theorem mailboxAccounts : Obligations.MailboxAccounts := by
  intro m c v s hbal hm
  have hpart : s.mailMaster m = true := (s.mailMaster_iff m).mpr hm
  refine ⟨⟨_, exec_send_of_mailMaster hpart c v, ?balanced, ?counted⟩, ⟨_, exec_ack_of_mailMaster hpart c v, ?ack⟩, ⟨_, rfl, ?lock⟩⟩
  case balanced => exact State.mailSend_mailBalanced hbal m c _
  case counted => exact s.mailSend_counts_once m c _
  case ack => exact State.mailAck_mailBalanced hbal m c _
  case lock => exact State.mailBalanced_of_ch_eq hbal (s.ch_mailLock m)

end Sys2Proof.Machine

namespace Sys2Proof.Machine

/-! ### Every command keeps memory sound (R16; log entry 4): the commands whose meaning branches -/

theorem execRekeySwitch_sound {s : State} (h : Cells s.mem) : OutCells (execRekeySwitch s) := by
  unfold execRekeySwitch
  split
  · exact next_sound h
  · exact iteN_sound (fun _ => next_sound (State.rekeyStart_sound _ h)) fun _ => next_sound h

theorem execDelivery_sound (t : Target) {s : State} (h : Cells s.mem) : OutCells (execDelivery t s) := by
  unfold execDelivery
  split
  · exact next_sound h
  · exact iteN_sound (fun _ => next_sound h) fun _ => next_sound (State.msixWrite_sound s (t - 96) h)

theorem execCrossingDetected_sound (a b : Mbox) {s : State} (h : Cells s.mem) : OutCells (execCrossingDetected a b s) :=
  iteN_sound (fun _ => next_sound (State.raise_sound _ _ h)) fun _ => next_sound h

theorem execResumeCause_sound (ask : CtxAsk) (k : Fin 16) {s : State} (h : Cells s.mem) : OutCells (execResumeCause ask k s) := by
  refine next_sound (ite_sound (fun _ => State.checked_sound _ _ _ _ h (ite_sound (fun _ => ?_) fun _ => ?_)) fun _ =>
    ite_sound (fun _ => ite_sound (fun _ => ?_) fun _ => h) fun _ => ite_sound (fun _ => h) fun _ => ?_)
  · exact State.answer_sound _ _ _ (State.cause_sound _ _ _ h)
  · exact State.answer_sound _ _ _ h
  · exact State.cause_sound _ _ _ h
  · exact State.cause_sound _ _ _ h

theorem execStopRequest_sound (ask : CtxAsk) {s : State} (h : Cells s.mem) : OutCells (execStopRequest ask s) :=
  next_sound (State.checked_sound _ _ _ _ h (ite_sound (fun _ => State.answer_sound _ _ _ (State.stopCourse_sound _ _ h)) fun _ =>
    State.answer_sound _ _ _ h))

theorem execCourseStart_sound (e : Eng) (gen : BitVec 16) (handle : CtxHandle) (addr status : BitVec 40) (notify : Option (BitVec 8))
    {s : State} (h : Cells s.mem) : OutCells (execCourseStart e gen handle addr status notify s) :=
  next_sound (ite_sound (fun _ => State.checked_sound _ _ _ _ h (State.answer_sound _ _ _ (State.startCourse_sound _ _ _ _ _ _ _ _ _ h)))
    fun _ => State.addrFault_sound _ _ h)

theorem execSealComplete_sound (l : Lane) {s : State} (h : Cells s.mem) : OutCells (execSealComplete l s) := by
  unfold execSealComplete
  split
  · exact next_sound (ite_sound (fun _ => State.sealDone_sound _ _ _ _ _ h) fun _ => h)
  · exact next_sound h

theorem execWytheWriteComplete_sound (l : Lane) (r : Bool) (w : Fin 2) (lba : Nat) {s : State} (h : Cells s.mem) :
    OutCells (execWytheWriteComplete l r w lba s) :=
  next_sound (State.laneMoved_sound _ _ (State.judgeInadequate_sound _ (State.settle_sound _ _
    (ite_sound (fun _ => State.recordWritten_sound _ _ _ _ h) fun _ => State.brickWritten_sound _ _ _ _ h))))

theorem execJournalApply_sound (l : Option Lane) {s : State} (h : Cells s.mem) : OutCells (execJournalApply l s) := by
  refine next_sound ?_
  split
  · exact h
  · exact ite_sound (fun _ => State.retryCopies_sound _ _ (State.issueBrick_sound _ _ (State.modLane_sound _ _ _ h))) fun _ => h

theorem execCopingRecordSigned_sound (l : Lane) {s : State} (h : Cells s.mem) : OutCells (execCopingRecordSigned l s) := by
  unfold execCopingRecordSigned
  split
  · exact next_sound (State.laneMoved_sound _ _ (State.settle_sound _ _ (State.retryHeld_sound _ (State.signed_sound _ _ _
      (State.finishJob_sound _ _ _ h)))))
  · exact next_sound h

theorem execRazeRecordDurable_sound (c : CtxId) {s : State} (h : Cells s.mem) : OutCells (execRazeRecordDurable c s) := by
  unfold execRazeRecordDurable
  split
  · exact next_sound h
  · exact next_sound (State.razed_sound _ _ _ (State.modLane_sound _ _ _ h))

theorem execBankTestStart_sound (why : BankDue) (bank : BankReading) {s : State} (h : Cells s.mem) :
    OutCells (execBankTestStart why bank s) :=
  next_sound (ite_sound (fun _ => h) fun _ => ite_sound (fun _ => State.raise_sound _ _ h) fun _ => h)

theorem execConfigStoreComplete_sound (ok : Bool) {s : State} (h : Cells s.mem) : OutCells (execConfigStoreComplete ok s) := by
  unfold execConfigStoreComplete
  split
  · exact next_sound h
  · next b k p _ =>
    have stored := State.keyStored_sound
      ({ s with reply := [], sec := { s.sec with storing := none, config := s.sec.config.put k (if ok then b else []) } }) ok h
    exact next_sound (State.serveAll_sound _ (ite_sound (fun _ => State.storeAnswer_sound _ _ _ stored) fun _ =>
      State.storeAnswer_sound _ _ _ (State.raise_sound _ _ stored)))

theorem execNmtStateCommand_sound (cmd : BitVec 8) {s : State} (h : Cells s.mem) : OutCells (execNmtStateCommand cmd s) := by
  refine next_sound (ite_sound (fun _ => h) fun _ => ?_)
  split
  · exact State.setNmt_sound _ _ h
  · exact State.setNmt_sound _ _ h
  · exact State.setNmt_sound _ _ h
  · exact h

theorem execTrngRetest_sound (pass : Bool) {s : State} (h : Cells s.mem) : OutCells (execTrngRetest pass s) :=
  next_sound (ite_sound (fun _ => h) fun _ => ite_sound (fun _ => h) fun _ => ite_sound (fun _ => h) fun _ => State.trngFails_sound _ h)

theorem execRung2Complete_sound (f : Func) (r : HostRead) {s : State} (h : Cells s.mem) : OutCells (execRung2Complete f r s) := by
  refine next_sound ?_
  split
  · exact h
  · exact State.outage_sound _ _ _ (State.resetEnd_sound _ _ _ (State.modFunc_sound _ _ _ h))

theorem execFault_sound (f : Func) (op : FaultOp) (st : Status) (external ecc : Bool) {s : State} (h : Cells s.mem) :
    OutCells (execFault f op st external ecc s) :=
  next_sound (State.fault_sound _ _ _ _ _ (ite_sound (fun _ => State.uncorrectable_sound _ _ h) fun _ => h))

theorem execRetryBackoffExpiry_sound (f : Func) (op : FaultOp) (good : Bool) {s : State} (h : Cells s.mem) :
    OutCells (execRetryBackoffExpiry f op good s) := by
  refine next_sound ?_
  split
  · exact h
  · refine ite_sound (fun _ => State.busBack_sound _ _ _ (State.modFunc_sound _ _ _ h)) fun _ =>
      ite_sound (fun _ => State.modFunc_sound _ _ _ h) fun _ => State.escalate_sound _ _ _ _ _ ?_
    split
    · exact State.endOp_sound _ _ _ (State.modFunc_sound _ _ _ h)
    · exact State.modFunc_sound _ _ _ h

theorem execAlwaysOnWatchdogExpiry_sound {s : State} (h : Cells s.mem) : OutCells (execAlwaysOnWatchdogExpiry s) :=
  next_sound (ite_sound (fun _ => h) fun _ => ite_sound (fun _ => State.joinFault_sound _ h) fun _ =>
    State.warmReset_sound _ (State.decided_sound _ _ _ _ _ _ h))

theorem execRailPowerGood_sound (n : Fin 12) {s : State} (h : Cells s.mem) : OutCells (execRailPowerGood n s) := by
  refine next_sound ?_
  split
  · exact ite_sound (fun _ => h) fun _ => ite_sound (fun _ => h) fun _ => State.startNow_sound _ _ h
  · exact h

theorem execRailSequencingFault_sound {s : State} (h : Cells s.mem) : OutCells (execRailSequencingFault s) := by
  refine next_sound ?_
  split <;> exact h

theorem execPowerOnStart_sound {s : State} (h : Cells s.mem) : OutCells (execPowerOnStart s) := by
  refine next_sound (ite_sound (fun _ => h) fun _ => ?_)
  split
  · exact State.beginRails_sound _ _ h
  · exact State.railsAgain_sound _ h
  · exact h

theorem execPwrcycRelease_sound {s : State} (h : Cells s.mem) : OutCells (execPwrcycRelease s) := by
  refine next_sound ?_
  split
  · exact State.beginRails_sound _ _ h
  · exact h

theorem execAonrstAssert_sound (s : State) : OutCells (execAonrstAssert s) :=
  next_sound (State.keepAlways_sound _ _ (State.offCore_sound s false))

theorem execRefclkLoss_sound {s : State} (h : Cells s.mem) : OutCells (execRefclkLoss s) :=
  next_sound (ite_sound (fun _ => State.offCore_sound s false) fun _ => h)

theorem execRefclkReturn_sound {s : State} (h : Cells s.mem) : OutCells (execRefclkReturn s) :=
  next_sound (ite_sound (fun _ => State.cutNow_sound _ h) fun _ => h)

theorem execPgLoss_sound (n : Fin 12) {s : State} (h : Cells s.mem) : OutCells (execPgLoss n s) := by
  refine next_sound (ite_sound (fun _ => h) fun _ => ?_)
  split
  · exact ite_sound (fun _ => State.cutNow_sound _ h) fun _ => h
  · exact ite_sound (fun _ => State.cutNow_sound _ h) fun _ => h

theorem execSupplySample_sound (v b : Nat) {s : State} (h : Cells s.mem) : OutCells (execSupplySample v b s) :=
  next_sound (State.sampled_sound _ (State.rideStep_sound _ (State.overcharge_sound
    ({ s with holdup := { s.holdup with vsup := BitVec.ofNat 16 v, bankNow := BitVec.ofNat 16 b } }) h)))

theorem execThermalSample_sound (tj : Int) {s : State} (h : Cells s.mem) : OutCells (execThermalSample tj s) := by
  have noted : Cells (if decide ((s.cfg 0x2003 3 : Int) ≤ tj) && !s.power.warned then
      { s with power := s.power.sampleTj tj (s.cfg 0x2003 3) }.raise 222 else { s with power := s.power.sampleTj tj (s.cfg 0x2003 3) }).mem :=
    ite_sound (fun _ => State.raise_sound _ _ h) fun _ => h
  refine next_sound ?_
  split
  · exact ite_sound (fun _ => State.trip_sound _ noted) fun _ => noted
  · exact ite_sound (fun _ => State.startNow_sound _ _ h) fun _ => h
  · exact h
  · exact h

theorem execExtest_sound {s : State} (h : Cells s.mem) : OutCells (execExtest s) :=
  next_sound (ite_sound (fun _ => h) fun _ => State.offCore_sound s false)

theorem execPtpMessage_sound (p : Fin 10) (m : PtpMsg) {s : State} (h : Cells s.mem) : OutCells (execPtpMessage p m s) := by
  refine next_sound (ite_sound (fun _ => h) fun _ => ?_)
  split
  · exact State.ptpSync_sound _ _ h
  · exact ite_sound (fun _ => h) fun _ => State.raise_sound _ _ h
  · exact h

theorem execPpsEdge_sound {s : State} (h : Cells s.mem) : OutCells (execPpsEdge s) := by
  refine next_sound ?_
  split
  · exact State.ppsTaken_sound _ (State.eventOutput_sound _ _ h)
  · exact State.ppsTaken_sound _ (State.eventOutput_sound _ _ h)
  · exact ite_sound (fun _ => State.eventOutput_sound _ _ h) fun _ => h
  · exact h

theorem execRawTransferComplete_sound (o : RawOwner) (st : Status) (amount : Nat) (long : Bool) (data : Bytes) {s : State}
    (h : Cells s.mem) : OutCells (execRawTransferComplete o st amount long data s) := by
  refine next_sound ?_
  split
  · split <;> exact h
  · refine ite_sound (fun _ => h) fun _ => ite_sound (fun _ => ite_sound (fun _ => h) fun _ => State.fault_sound _ _ _ _ _
      (ite_sound (fun _ => State.raise_sound _ _ h) fun _ => h)) fun _ => ite_sound (fun _ => ?_) fun _ => ?_
    · exact State.rawOver_sound _ _ _ _ _ _ (State.retryOver_sound _ _ _ h)
    · exact State.rawOver_sound _ _ _ _ _ _ (State.retryOver_sound _ _ _ h)

theorem execEthFrameReceived_sound (p : Fin 10) (frame : Bytes) (ringFull rtsp : Bool) {s : State} (h : Cells s.mem) :
    OutCells (execEthFrameReceived p frame ringFull rtsp s) := by
  refine next_sound (ite_sound (fun _ => h) fun _ => ?_)
  split
  · exact State.discard_sound _ _ _ h
  · split
    · exact State.discard_sound _ _ _ h
    · exact h
    · exact State.udpArrives_sound _ _ _ _ _ _ _ _ _ _ _ h
    · exact State.toTile0_sound _ _ _ h
    · exact State.frameLeft_sound _ _ _ _ h

theorem execEthLinkChange_sound (p : Fin 10) (up : Bool) (cut : Nat) {s : State} (h : Cells s.mem) :
    OutCells (execEthLinkChange p up cut s) :=
  next_sound (ite_sound (fun _ => h) fun _ => ite_sound (fun _ => State.raise_sound s (128 + p) h) fun _ =>
    State.endRaws_sound _ _ _ (State.discard_sound _ _ _ (State.raise_sound s (128 + p) h)))

theorem execNvmeCompletion_sound (r : Fin 4) (cid : BitVec 16) (status : BitVec 15) (result : W64) (data : Bytes) {s : State}
    (h : Cells s.mem) : OutCells (execNvmeCompletion r cid status result data s) := by
  refine next_sound ?_
  split
  · exact h
  · refine ite_sound (fun _ => h) fun _ => ite_sound (fun _ => State.nvmeDone_sound _ _ _ _ _ h) fun _ => State.nvmeFails_sound _ _ _ _ ?_
    split
    · exact State.setDetail_sound _ _ _ h
    · exact h

theorem execNvmeTimeout_sound (r : Fin 4) (cid : BitVec 16) {s : State} (h : Cells s.mem) : OutCells (execNvmeTimeout r cid s) := by
  refine next_sound ?_
  split
  · exact h
  · exact State.nvmeFails_sound _ _ _ _ h

theorem execPcieLinkDown_sound (k : Fin 5) {s : State} (h : Cells s.mem) : OutCells (execPcieLinkDown k s) := by
  refine next_sound (ite_sound (fun _ => h) fun _ => State.fault_sound _ _ _ _ _ (ite_sound (fun _ => ?_) fun _ => ?_))
  · exact State.raise_sound _ _ h
  · exact State.endAppends_sound _ _ _ (State.endRaws_sound _ _ _ (State.raise_sound _ _ h))

theorem execPcieLinkUp_sound (k : Fin 5) (r : HostRead) {s : State} (h : Cells s.mem) : OutCells (execPcieLinkUp k r s) :=
  next_sound (ite_sound (fun _ => h) fun _ => ite_sound (fun _ => State.recoverOwed_sound _ _ (State.raise_sound _ _ h)) fun _ =>
    State.raise_sound _ _ h)

theorem execUsbAttach_sound (u : Fin 8) (good : Bool) (key : BitVec 320) (block : Nat) {s : State} (h : Cells s.mem) :
    OutCells (execUsbAttach u good key block s) :=
  next_sound (ite_sound (fun _ => h) fun _ => ite_sound (fun _ => State.eventOutput_sound _ _ (State.raise_sound _ (160 + u) h)) fun _ =>
    State.raise_sound _ _ h)

theorem execUsbDetach_sound (u : Fin 8) {s : State} (h : Cells s.mem) : OutCells (execUsbDetach u s) :=
  next_sound (ite_sound (fun _ => h) fun _ => State.endRaws_sound _ _ _ (State.endIngests_sound _ _ _ (State.raise_sound _ _ h)))

theorem execTdmBlock_sound (t : Fin 4) (block : Bytes) (ringFull : Bool) {s : State} (h : Cells s.mem) :
    OutCells (execTdmBlock t block ringFull s) := by
  refine next_sound (ite_sound (fun _ => h) fun _ => ite_sound (fun _ => ite_sound (fun _ => ?_) fun _ => ?_) fun _ => ?_)
  · exact State.raise_sound _ _ (State.blockArrives_sound _ _ _ _ _ h)
  · exact State.blockArrives_sound _ _ _ _ _ h
  · split
    · exact State.rawCollect_sound _ _ _ h
    · exact State.discard_sound _ _ _ h

theorem execTdmClockLoss_sound (t : Fin 4) (cut : Nat) {s : State} (h : Cells s.mem) : OutCells (execTdmClockLoss t cut s) :=
  next_sound (ite_sound (fun _ => h) fun _ => State.fault_sound _ _ _ _ _ (State.raise_sound _ _ (ite_sound
    (fun _ => State.discard_sound _ _ _ h) fun _ => foldl_sound (fun _ _ ha => State.cutBlock_sound _ _ _ ha) _ h)))

theorem execCanFrameReceived_sound (c : Fin 4) (frame : Bytes) (ringFull : Bool) {s : State} (h : Cells s.mem) :
    OutCells (execCanFrameReceived c frame ringFull s) := by
  refine next_sound (ite_sound (fun _ => State.wakeUp_sound _ _ h) fun _ => ite_sound (fun _ => h) fun _ =>
    ite_sound (fun _ => State.blockArrives_sound _ _ _ _ _ h) fun _ => ?_)
  split
  · exact State.rawCollect_sound _ _ _ h
  · exact State.discard_sound _ _ _ h

theorem execCanBusOff_sound (c : Fin 4) {s : State} (h : Cells s.mem) : OutCells (execCanBusOff c s) :=
  next_sound (ite_sound (fun _ => h) fun _ => State.fault_sound _ _ _ _ _ (State.raise_sound _ _ h))

theorem execI2cTransactionComplete_sound (ok : Bool) {s : State} (h : Cells s.mem) : OutCells (execI2cTransactionComplete ok s) :=
  next_sound (ite_sound (fun _ => h) fun _ => ite_sound (fun _ => State.raise_sound _ _ h) fun _ =>
    State.fault_sound _ _ _ _ _ (State.raise_sound _ _ h))

theorem execGpioBlock_sound (block : Bytes) (ringFull : Bool) {s : State} (h : Cells s.mem) : OutCells (execGpioBlock block ringFull s) :=
  next_sound (ite_sound (fun _ => h) fun _ => ite_sound (fun _ => State.discard_sound _ _ _ h) fun _ =>
    State.blockArrives_sound _ _ _ _ _ h)

theorem execHaltReq_sound (m : Master) (e : Eng) {s : State} (h : Cells s.mem) : OutCells (execHaltReq m e s) :=
  next_sound (ite_sound (fun _ => getD_sound (State.runWrite_sound _ _ _ _ _ (State.settleRead_sound _ _ h)) (State.addrFault_sound _ _ h))
    fun _ => State.addrFault_sound _ _ h)

theorem execRegisterWrite_sound (m : Master) (t : RegTarget) (v : W32) {s : State} (h : Cells s.mem) :
    OutCells (execRegisterWrite m t v s) := by
  refine next_sound ?_
  split
  · exact State.busWrite_sound _ _ _ (State.beforeHalt_sound _ _ _ h)
  · exact State.write64_sound _ _ _ _ _ h
  · exact getD_sound (State.barWrite_sound _ _ _ h) (State.addrFault_sound _ _ h)
  · exact h
  · exact h
  · exact h

theorem execDramWindowWrite_sound (off : DevAddr) (val : Bytes) {s : State} (h : Cells s.mem) : OutCells (execDramWindowWrite off val s) := by
  have written := fun (ps : List (Nat × Byte)) =>
    foldl_sound (f := fun (t : State) p => t.setByte p.1 p.2) (fun _ _ ha => State.setByte_sound _ _ _ ha) ps h
  exact next_sound (ite_sound (fun _ => written _) fun _ => State.addrFault_sound _ _ (written _))

theorem execCustomerOpcode_sound (e : Eng) (n rd ra : Reg) (x : BitVec 2) (imm : BitVec 18) (events : MicroEvents) (data : Option Nat)
    {s : State} (h : Cells s.mem) : OutCells (execCustomerOpcode e n rd ra x imm events data s) := by
  have ran := State.custom_sound (s.begins e) e n { rd := rd, ra := ra, x := x.toFin, imm := imm } events.cut events.error data
    (State.begins_sound _ _ h)
  exact next_sound (ite_sound (fun _ => ite_sound (fun _ => State.modEng_sound _ _ _ ran) fun _ => ran) fun _ => h)

theorem execRpt_sound (e : Eng) (nm1 : BitVec 6) (body : EOp) (bad : Option Nat) {s : State} (h : Cells s.mem) :
    OutCells (execRpt e nm1 body bad s) := by
  have begun := State.begins_sound s e h
  refine next_sound (ite_sound (fun _ => ite_sound (fun _ => ?_) fun _ => State.engineFault_sound _ _ _ begun) fun _ => h)
  split
  · next t ht => exact State.rptLoop_sound _ _ _ _ _ _ (use_sound ht (State.publishTimes_sound _ _ _ _ begun))
  · exact State.rptLoop_sound _ _ _ _ _ _ begun

theorem execRpti_sound (e : Eng) (body : EOp) (stop : Option Nat) (errors : RptiErrors) {s : State} (h : Cells s.mem) :
    OutCells (execRpti e body stop errors s) := by
  have begun := State.begins_sound s e h
  refine next_sound (ite_sound (fun _ => ?_) fun _ => h)
  cases hk : (s.begins e).rptiCase e body with
  | some k =>
    simp only [hk]
    split
    · exact ite_sound (fun _ => State.engineFault_sound _ _ _ begun) fun _ => State.custFault_sound _ _ _ begun
    · exact State.engineFault_sound _ _ _ begun
  | none =>
    simp only [hk]
    generalize (match stop with | some k => min k _ | none => _) = n
    split
    · next t ht => exact State.rptiLoop_sound _ _ _ _ _ _ _ _ (use_sound ht (State.publishTimes_sound _ _ _ _ begun))
    · exact State.rptiLoop_sound _ _ _ _ _ _ _ _ begun

theorem execLoadDataReturn_sound (e : Eng) (ecc : Fin 3) {s : State} (h : Cells s.mem) : OutCells (execLoadDataReturn e ecc s) := by
  refine next_sound ?_
  split
  · exact ite_sound (fun _ => State.loadReturn_sound _ _ _ _ h) fun _ => h
  · exact h

theorem execPowerStateCommit_sound {s : State} (h : Cells s.mem) : OutCells (execPowerStateCommit s) :=
  next_sound (ite_sound (fun _ => h) fun _ => ite_sound (fun _ => State.deepEntry_sound _ _ _ (State.sleepEntry_sound _ h)) fun _ =>
    State.enterPark_sound _ (State.sleepEntry_sound _ (State.tile0Settled_sound _ h)))

theorem execReservedOpcode_sound (e : Eng) (p q : W18) {s : State} (h : Cells s.mem) : OutCells (execReservedOpcode e p q s) := by
  refine next_sound (ite_sound (fun _ => ?_) fun _ => h)
  split
  · exact State.engineFault_sound _ _ _ h
  · exact h

theorem execIgnitionEdge_sound (rising : Bool) {s : State} (h : Cells s.mem) : OutCells (execIgnitionEdge rising s) :=
  next_sound (State.publish_sound ({ s with holdup := { s.holdup with
    ignition := rising, tested := if rising then false else s.holdup.tested } }) _ h)

/-- Every command keeps memory sound: each by the operation that is its meaning. -/
theorem exec_sound (c : Instr) {s : State} (h : Cells s.mem) : OutCells (exec c s) := by
  cases c
  case eth | nvme | usb | can | tdm => exact State.onWord_sound _ _ _ _ h fun w => State.rawWord_sound _ _ w _ h
  case mfsr | mtsr | add | sub | and | or | xor | neg | abs | min | max | minu | maxu | sll | srl | sra | ror | rol | seq |
    sne | slt | sltu | sle | sleu | mul | mulu | divs | divu | stw | stwi | addi | movi | bz | bnz | bra | nop | halt | di |
    ei | reti | waite | waitt | sende | jmp | callr | mfb | mtb | addiL | andi | ori | xori | slli | srli | srai | rori | roli
    | seqi | snei | slti | sltui | sgti | sgtui | li | stwL | ldB | ldBS | ldH | ldHS | ldT | stB | stH | stT | bzL | bnzL |
    braL | call | sendei =>
    exact State.issue_sound _ _ _ h
  case ldw | ldwi | ldwL => exact State.issueRead_sound _ _ _ _ h
  case kx1200Nop | ethTx | ethRx | nvmCmd | usbRead | usbCapacity | usbInquiry | canTx | canRx | tdmTx | tdmRx =>
    exact next_sound (State.kxStart_sound _ _ _ _ h)
  case dictRead | dictWrite | wytheSetWrite | keyWrite | epochWrite | keysRevoked | storeAll | restoreAll | challenge |
    response | sessionClose | image | activate | bootKeyRevoke | secEpochFloor | bootKeyDigest | lcRequest | attestReport |
    todSet =>
    exact next_sound (State.request_sound _ _ _ _ _ h)
  case objectHoldSet | objectHoldClear | objectOffload | objectRaze | objectResume | objectStop =>
    exact next_sound (State.objectRow_sound _ _ _ _ _ h)
  case pwrReqPark | pwrReqDeep | pwrReqCancel | tilePwrRun | tilePwrBanked | tilePwrCold =>
    exact next_sound (State.runSet_sound _ _ _ _ h)
  case unitReceived => exact next_sound (State.unitArrives_sound _ _ _ _ h)
  case recordOffered => exact next_sound (State.takeUnit_sound _ _ h)
  case brickAgeExpiry =>
    exact next_sound (ite_sound (fun _ => h) fun _ => State.laneMoved_sound _ _ (State.judgeInadequate_sound _ (State.pump_sound
      _ _ (State.modLane_sound _ _ _ h))))
  case sealComplete => exact execSealComplete_sound _ h
  case wytheWriteComplete => exact execWytheWriteComplete_sound _ _ _ _ h
  case journalApply => exact execJournalApply_sound _ h
  case laneOpenRetry => exact next_sound (State.openLane_sound _ _ h)
  case objectSpanExpiry =>
    exact next_sound (ite_sound (fun _ => State.laneMoved_sound _ _ (State.pump_sound _ _ (State.renew_sound _ _ h))) fun _ =>
      h)
  case rtpPacketReceived => exact next_sound (ite_sound (fun _ => State.takeUnit_sound _ _ h) fun _ => h)
  case reorderTimeout =>
    exact next_sound (ite_sound (fun _ => h) fun _ => State.putReady_sound _ _ _ (State.modLane_sound _ _ _ h))
  case copePeriodExpiry => exact next_sound (State.cadence_sound _ _ h)
  case copingRecordSigned => exact execCopingRecordSigned_sound _ h
  case retentionSweep => exact next_sound (State.sweep_sound _ h)
  case razeRecordDurable => exact execRazeRecordDurable_sound _ h
  case horizonUpdate => exact next_sound (State.horizonUpdate_sound _ _ _ h)
  case holdupInadequateClear => exact next_sound (ite_sound (fun _ => State.signal211_sound _ _ h) fun _ => h)
  case bankTestStart => exact execBankTestStart_sound _ _ h
  case bankTestComplete => exact next_sound (ite_sound (fun _ => State.bankTested_sound _ _ _ h) fun _ => h)
  case drillRequest | moderationExpiry | blockTaskStart | rearmBlockEnd | slotStart | frameBoundary | bumundTransferIdle |
    challengeExpiry =>
    exact next_sound h
  case drillStart => exact next_sound (ite_sound (fun _ => State.drillBegin_sound _ h) fun _ => h)
  case drillComplete => exact next_sound (ite_sound (fun _ => State.drilled_sound _ _ h) fun _ => h)
  case drillOverdue => exact next_sound (State.raise_sound _ _ h)
  case currentSample => exact next_sound (State.charge_sound _ _ h)
  case leakageCheck => exact next_sound (ite_sound (fun _ => h) fun _ => State.leakage_sound _ _ h)
  case supplySample => exact execSupplySample_sound _ _ h
  case tDeclareExpiry => exact next_sound (ite_sound (fun _ => State.trigger_sound _ _ h) fun _ => h)
  case supplyReturnRestart => exact next_sound (ite_sound (fun _ => State.startNow_sound _ _ h) fun _ => h)
  case restartScan => exact next_sound (ite_sound (fun _ => State.laneMoved_sound _ _ (State.scanLane_sound _ _ _ h)) fun _ => h)
  case contextRestore => exact next_sound (ite_sound (fun _ => State.restoreContexts_sound _ _ h) fun _ => h)
  case commandWordFetch => exact next_sound (State.fetchWord_sound _ _ _ h)
  case courseStart => exact execCourseStart_sound _ _ _ _ _ _ h
  case resumeCause => exact execResumeCause_sound _ _ h
  case waitTimeout => exact next_sound (ite_sound (fun _ => State.cause_sound _ _ _ h) fun _ => h)
  case stopRequest => exact execStopRequest_sound _ h
  case courseNop => exact State.onWord_sound _ _ _ _ h fun w => State.afterWord_sound _ _ w _ h
  case jump => exact State.onWord_sound _ _ _ _ h fun w => State.jumpTo_sound _ _ w _ h
  case branch => exact State.onWord_sound _ _ _ _ h fun w => State.branchWord_sound _ _ w h
  case wait => exact State.onWord_sound _ _ _ _ h fun w => State.waitWord_sound _ _ w h
  case post => exact State.onWord_sound _ _ _ _ h fun w => State.postWord_sound _ _ w h
  case ingest => exact State.onWord_sound _ _ _ _ h fun w => State.ingestWord_sound _ _ w _ h
  case cope => exact State.onWord_sound _ _ _ _ h fun w => State.copeWord_sound _ _ w h
  case append => exact State.onWord_sound _ _ _ _ h fun w => State.appendWord_sound _ _ w _ _ h
  case read => exact State.onWord_sound _ _ _ _ h fun w => State.readWord_sound _ _ w _ _ h
  case verify => exact State.onWord_sound _ _ _ _ h fun w => State.verifyWord_sound _ _ w _ h
  case raze => exact State.onWord_sound _ _ _ _ h fun w => State.razeWord_sound _ _ w _ h
  case move => exact State.onWord_sound _ _ _ _ h fun w => State.moveWord_sound _ _ w h
  case ledger => exact State.onWord_sound _ _ _ _ h fun w => State.ledgerWord_sound _ _ w h
  case contextClaim => exact next_sound (State.claimAll_sound _ _ _ h)
  case contextRelease =>
    exact next_sound (State.checked_sound _ _ _ _ h (ite_sound (fun _ => State.answer_sound _ _ _ (State.release_sound _ _ h))
      fun _ => State.answer_sound _ _ _ h))
  case contextAllocate =>
    exact next_sound (ite_sound (fun _ => State.checked_sound _ _ _ _ h (State.allocate_sound _ _ h)) fun _ =>
      State.addrFault_sound _ _ h)
  case contextFree =>
    exact next_sound (ite_sound (fun _ => State.checked_sound _ _ _ _ h (State.freeContext_sound _ _ _ _ h)) fun _ =>
      State.addrFault_sound _ _ h)
  case locExtTakeRetry => exact next_sound (State.locRetry_sound _ _ h)
  case rekeyRequest => exact next_sound (State.rekeyStart_sound _ h)
  case rekeySwitch => exact execRekeySwitch_sound h
  case hodSubmit => exact next_sound (ite_sound (fun _ => State.hodSubmit_sound _ _ _ _ h) fun _ => State.addrFault_sound _ _ h)
  case hodEnWrite => exact next_sound (ite_sound (fun _ => State.modHod_sound _ _ _ h) fun _ => State.addrFault_sound _ _ h)
  case hodDisSet => exact next_sound (ite_sound (fun _ => State.hodDisable_sound _ _ h) fun _ => State.addrFault_sound _ _ h)
  case hodDisClear =>
    exact next_sound (ite_sound (fun _ => ite_sound (fun _ => State.hodEnableAgain_sound _ _ h) fun _ => h) fun _ =>
      State.addrFault_sound _ _ h)
  case descriptorStart => exact next_sound (State.descStart_sound _ _ h)
  case descriptorComplete => exact next_sound (ite_sound (fun _ => State.descComplete_sound _ _ h) fun _ => h)
  case droppingClear => exact next_sound (State.droppingClear_sound _ _ h)
  case mulResult => exact next_sound (State.modEng_sound _ _ _ h)
  case divResult => exact next_sound (ite_sound (fun _ => State.modEng_sound _ _ _ h) fun _ => h)
  case waitConditionMet | waittTargetReached => exact next_sound (State.endWait_sound _ _ _ h)
  case rpt => exact execRpt_sound _ _ _ _ h
  case rpti => exact execRpti_sound _ _ _ _ h
  case loadDataReturn => exact execLoadDataReturn_sound _ _ h
  case storeBufferDrain => exact next_sound (State.bankWaits_sound _ _ (State.modEng_sound _ _ _ (State.drainOne_sound _ _ h)))
  case customerOpcode => exact execCustomerOpcode_sound _ _ _ _ _ _ _ _ h
  case interruptEntry =>
    exact next_sound (ite_sound (fun _ => State.enterLevel_sound _ _ (State.settleRead_sound _ _ h)) fun _ => h)
  case sourceArrival => exact next_sound (ite_sound (fun _ => h) fun _ => State.raise_sound _ _ h)
  case srcCountRead => exact next_sound (State.takeCount_sound _ _ h)
  case snapSel | routerSnapSel => exact next_sound (ite_sound (fun _ => h) fun _ => State.addrFault_sound _ _ h)
  case raise => exact next_sound (State.raiseWrite_sound _ _ _ h)
  case delivery => exact execDelivery_sound _ h
  case publication => exact next_sound (ite_sound (fun _ => h) fun _ => State.publishN_sound _ _ _ h)
  case publish => exact next_sound (State.publishValue_sound _ _ _ h)
  case arrTake => exact next_sound (State.takeTask_sound _ _ h)
  case rateWindowEnd => exact next_sound (State.raiseN_sound _ _ _ h)
  case coursePortTake => exact next_sound (ite_sound (fun _ => h) fun _ => State.coursePort_sound _ _ h)
  case send => exact next_sound (ite_sound (fun _ => State.mailSend_sound _ _ _ _ h) fun _ => State.addrFault_sound _ _ h)
  case ack => exact next_sound (ite_sound (fun _ => State.mailAck_sound _ _ _ _ h) fun _ => State.addrFault_sound _ _ h)
  case mailboxLock => exact next_sound (getD_sound (State.mailLock_sound _ _ h) (State.addrFault_sound _ _ h))
  case crossingDetected => exact execCrossingDetected_sound _ _ h
  case submitHi => exact next_sound (State.submitEngine_sound _ _ _ h)
  case submit12Lo => exact next_sound (ite_sound (fun _ => State.submit12_sound _ _ _ h) fun _ => State.addrFault_sound _ _ h)
  case mortarJobComplete => exact next_sound (State.unitDone_sound _ _ h)
  case starvationDetected => exact next_sound (State.mortarTurn_sound _ _ h)
  case slotSel => exact next_sound (getD_sound (State.slotWrite_sound _ _ _ _ _ h) (State.addrFault_sound _ _ h))
  case queueEnable | queueDisable =>
    exact next_sound (ite_sound (fun _ => State.pairCtl_sound _ _ _ _ _ h) fun _ => State.addrFault_sound _ _ h)
  case sqDoorbell | cqDoorbell =>
    exact next_sound (ite_sound (fun _ => State.modPair_sound _ _ _ h) fun _ => State.addrFault_sound _ _ h)
  case entryTake => exact next_sound (State.entryTake_sound _ _ h)
  case nopEntry => exact State.onEntry_sound _ _ _ _ h fun e => State.entryDone_sound _ _ _ h
  case startEntry => exact State.onEntry_sound _ _ _ _ h fun e => State.startEntry_sound _ _ e h
  case signalEntry =>
    exact State.onEntry_sound _ _ _ _ h fun e => State.handleEntry_sound _ _ e _ h fun _ ht => State.signalReq_sound _ _ _ ht
  case stopEntry =>
    exact State.onEntry_sound _ _ _ _ h fun e => State.handleEntry_sound _ _ e _ h fun _ ht => State.stopReq_sound _ _ ht
  case holdEntry =>
    exact State.onEntry_sound _ _ _ _ h fun e => State.handleEntry_sound _ _ e _ h fun _ ht => State.holdReq_sound _ _ _ _ ht
  case writeEntry =>
    exact State.onEntry_sound _ _ _ _ h fun e => ite_sound (fun _ => h) fun _ => State.writeEntry_sound _ _ e _ _ h
  case mortarEntry => exact State.onEntry_sound _ _ _ _ h fun e => State.mortarEntry_sound _ _ e h
  case completionPosted => exact next_sound (ite_sound (fun _ => h) fun _ => State.postNext_sound _ _ h)
  case registerWrite => exact execRegisterWrite_sound _ _ _ h
  case usdoRequest => exact next_sound (ite_sound (fun _ => State.arrive_sound _ _ h) fun _ => h)
  case usdoSegmentTimeout =>
    exact next_sound (ite_sound (fun _ => State.sendAnswer_sound _ _ _ (State.setUsdo_sound _ _ _ h)) fun _ => h)
  case nmtResetApplication | nmtResetCommunication => exact next_sound (State.nmtReset_sound _ h)
  case nmtStateCommand => exact execNmtStateCommand_sound _ h
  case heartbeat | drbgReseed | canErrorFrame => exact next_sound (ite_sound (fun _ => h) fun _ => h)
  case bumundDatagram => exact next_sound (State.bumundArrives_sound _ _ _ _ _ h)
  case configStoreComplete => exact execConfigStoreComplete_sound _ h
  case sessionIdleExpiry => exact next_sound (State.endSession_sound _ _ h)
  case trngTestFailure => exact next_sound (ite_sound (fun _ => State.trngFails_sound _ h) fun _ => h)
  case trngRetest => exact execTrngRetest_sound _ h
  case trngFailTimeout => exact next_sound (ite_sound (fun _ => h) fun _ => State.fault_sound _ _ _ _ _ h)
  case extest => exact execExtest_sound h
  case extestExit | railSequenceRetry => exact next_sound (ite_sound (fun _ => State.beginRails_sound _ _ h) fun _ => h)
  case fault => exact execFault_sound _ _ _ _ _ h
  case retryBackoffExpiry => exact execRetryBackoffExpiry_sound _ _ _ h
  case rung2Complete => exact execRung2Complete_sound _ _ h
  case lcRung3LimitExpiry => exact next_sound (ite_sound (fun _ => State.warmReset_sound _ h) fun _ => h)
  case pwrcycRelease => exact execPwrcycRelease_sound h
  case engineWatchdogExpiry | tileWatchdogExpiry =>
    exact next_sound (ite_sound (fun _ => h) fun _ => State.fault_sound _ _ _ _ _ (State.raise_sound _ _ h))
  case deviceWatchdogExpiry => exact next_sound (ite_sound (fun _ => h) fun _ => State.climb_sound _ _ _ _ _ _ h)
  case alwaysOnWatchdogExpiry => exact execAlwaysOnWatchdogExpiry_sound h
  case ewdKick | dwdKick | awdKick =>
    exact next_sound (getD_sound (State.ladderWrite_sound _ _ _ _ _ h) (State.addrFault_sound _ _ h))
  case refclkLoss => exact execRefclkLoss_sound h
  case refclkReturn => exact execRefclkReturn_sound h
  case pllLockLoss => exact next_sound (ite_sound (fun _ => State.cutNow_sound _ h) fun _ => h)
  case powerStateCommit => exact execPowerStateCommit_sound h
  case wake | wakeTimerExpiry => exact next_sound (ite_sound (fun _ => State.wakeUp_sound _ _ h) fun _ => h)
  case railPowerGood => exact execRailPowerGood_sound _ h
  case railSequencingFault => exact execRailSequencingFault_sound h
  case pgLoss => exact execPgLoss_sound _ h
  case powerOnStart => exact execPowerOnStart_sound h
  case aonrstAssert => exact execAonrstAssert_sound _
  case release => exact next_sound (getD_sound (State.runWrite_sound _ _ _ _ _ h) (State.addrFault_sound _ _ h))
  case haltReq => exact execHaltReq_sound _ _ h
  case thermalSample => exact execThermalSample_sound _ h
  case ignitionEdge => exact execIgnitionEdge_sound _ h
  case ethFrameReceived => exact execEthFrameReceived_sound _ _ _ _ h
  case ethLinkChange => exact execEthLinkChange_sound _ _ _ h
  case ptpMessage => exact execPtpMessage_sound _ _ h
  case ptpSyncTimeout | ppsLoss => exact next_sound (ite_sound (fun _ => State.timeLost_sound _ _ h) fun _ => h)
  case ppsEdge => exact execPpsEdge_sound h
  case holdoverExpiry | smbalert | mdioTransactionComplete =>
    exact next_sound (ite_sound (fun _ => State.raise_sound _ _ h) fun _ => h)
  case nvmeCompletion => exact execNvmeCompletion_sound _ _ _ _ _ h
  case nvmeTimeout => exact execNvmeTimeout_sound _ _ h
  case pcieLinkDown => exact execPcieLinkDown_sound _ h
  case usbAttach => exact execUsbAttach_sound _ _ _ _ h
  case usbDetach => exact execUsbDetach_sound _ h
  case tdmBlock => exact execTdmBlock_sound _ _ _ h
  case tdmClockLoss => exact execTdmClockLoss_sound _ _ h
  case canFrameReceived => exact execCanFrameReceived_sound _ _ _ h
  case canBusOff => exact execCanBusOff_sound _ h
  case i2cTransactionComplete => exact execI2cTransactionComplete_sound _ h
  case gpioEdge => exact next_sound (ite_sound (fun _ => h) fun _ => State.eventOutput_sound _ _ h)
  case gpioBlock => exact execGpioBlock_sound _ _ h
  case pcieLinkUp => exact execPcieLinkUp_sound _ _ h
  case pcieRefclkLoss => exact next_sound (ite_sound (fun _ => State.fault_sound _ _ _ _ _ h) fun _ => h)
  case rawTransferComplete => exact execRawTransferComplete_sound _ _ _ _ _ h
  case reservedOpcode => exact execReservedOpcode_sound _ _ _ h
  case dramWindowWrite => exact execDramWindowWrite_sound _ _ h
  -- The word SEAL, whose name is a keyword.
  · exact State.onWord_sound _ _ _ _ h fun w => State.sealWord_sound _ _ w h

/-- Settles O4: a step is the execution of the front command, or the idle step. -/
theorem everyStepKeepsMemorySound : Obligations.EveryStepKeepsMemorySound := by
  intro s t hs ht
  have hcells : Cells s.mem := s.memSound_iff.mp hs
  refine t.memSound_iff.mpr ?_
  unfold step at ht
  split at ht
  · exact (next_sound (State.idle_sound s hcells)).cells t ht
  · next c rest _ => exact (exec_sound c (s := { s with pending := rest }) hcells).cells t ht

end Sys2Proof.Machine

namespace Sys2Proof.Machine

/-! ### The fields of encoded parcels (R180, R183) -/

section
variable (op : BitVec 6) (d a b : BitVec 4) (x : BitVec 2) (i : BitVec 18)

@[simp] theorem shortP_op : (shortP op d a b).extractLsb' 12 6 = op := by
  ext k hk
  simp [shortP]
  grind

@[simp] theorem shortP_d : (shortP op d a b).extractLsb' 8 4 = d := by
  ext k hk
  simp [shortP]
  grind

@[simp] theorem shortP_a : (shortP op d a b).extractLsb' 4 4 = a := by
  ext k hk
  simp [shortP]
  grind

@[simp] theorem shortP_b : (shortP op d a b).extractLsb' 0 4 = b := by
  ext k hk
  simp [shortP]
  grind

theorem shortP_form : (shortP op d a b).extractLsb' 16 2 = op.extractLsb' 4 2 := by
  ext k hk
  simp [shortP]
  grind

@[simp] theorem longP_form : (longP op d a x i).1.extractLsb' 16 2 = 3#2 := by
  ext k hk
  simp [longP]
  grind

@[simp] theorem longP_op : (longP op d a x i).1.extractLsb' 10 6 = op := by
  ext k hk
  simp [longP]
  grind

@[simp] theorem longP_custom (n : BitVec 4) : (longP (3#2 ++ n) d a x i).1.extractLsb' 10 4 = n := by
  ext k hk
  simp [longP]
  grind

@[simp] theorem longP_d : (longP op d a x i).1.extractLsb' 6 4 = d := by
  ext k hk
  simp [longP]
  grind

@[simp] theorem longP_a : (longP op d a x i).1.extractLsb' 2 4 = a := by
  ext k hk
  simp [longP]
  grind

@[simp] theorem longP_x : (longP op d a x i).1.extractLsb' 0 2 = x := by
  ext k hk
  simp [longP]
  grind

@[simp] theorem longP_imm : (longP op d a x i).2 = i := rfl

end

@[simp] theorem fr_rf (r : Reg) : fr (rf r) = r := rfl
@[simp] theorem toFin_bf (b : BankReg) : (bf b).toFin = b := rfl

/-! ### Fields cut into parcels read back joined (R180, R184) -/

@[simp] theorem byte_of_fields (v : BitVec 8) : v.extractLsb' 4 4 ++ v.extractLsb' 0 4 = v := by
  ext k hk
  simp
  grind

@[simp] theorem offset_of_fields (v : BitVec 12) : v.extractLsb' 8 4 ++ v.extractLsb' 4 4 ++ v.extractLsb' 0 4 = v := by
  ext k hk
  simp
  grind

@[simp] theorem constant_of_fields (c : W24) : c.extractLsb' 20 4 ++ c.extractLsb' 18 2 ++ c.extractLsb' 0 18 = c := by
  ext k hk
  simp
  grind

/-! ### Decoding goes by the form, then by the fields -/

/-- A parcel whose form is not long is a short one. -/
theorem decodeParcels_shortP {op : BitVec 6} (h : op.extractLsb' 4 2 ≠ 3#2) (d a b : BitVec 4) (q : W18) :
    decodeParcels (shortP op d a b) q = decodeShort (shortP op d a b) := by
  simp [decodeParcels, shortP_form, h]

theorem decodeParcels_longP (op : BitVec 6) (d a : BitVec 4) (x : BitVec 2) (i : BitVec 18) :
    decodeParcels (longP op d a x i).1 (longP op d a x i).2 = decodeLong (longP op d a x i).1 i := by
  simp [decodeParcels]

theorem decodeParcels_miscP (sub a b : BitVec 4) (q : W18) : decodeParcels (miscP sub a b) q = decodeMisc sub a b := by
  rw [miscP, decodeParcels_shortP (by decide)]
  simp [decodeShort]

theorem decode_alu (o : AluOp) (rd ra rb : Reg) (q : W18) :
    decodeParcels (shortP (aluOp o) (rf rd) (rf ra) (rf rb)) q = .op (.alu o rd ra rb) := by
  cases o <;> rw [decodeParcels_shortP (by decide)] <;> simp [decodeShort, aluOp, aluOf]

theorem decode_mul (o : MulOp) (ra rb : Reg) (q : W18) :
    decodeParcels (shortP (mulOp o) 0 (rf ra) (rf rb)) q = .op (.mul o ra rb) := by
  cases o <;> rw [decodeParcels_shortP (by decide)] <;> simp [decodeShort, mulOp, needs]

theorem decode_imm (o : ImmOp) (rd ra : Reg) (i : BitVec 18) :
    decodeLong (longP (immOp o) (rf rd) (rf ra) 0 i).1 i = .op (.imm o rd ra i) := by
  cases o <;> simp [decodeLong, immOp, immOf, needs]

theorem decode_ld (o : LdOp) (rd : Reg) (b : BankReg) (ra : Reg) (i : BitVec 18) :
    decodeLong (longP (ldOp o) (rf rd) (rf ra) (bf b) i).1 i = .op (.ld o rd b ra i) := by
  cases o <;> simp [decodeLong, ldOp]

theorem decode_st (o : StOp) (rs : Reg) (b : BankReg) (ra : Reg) (i : BitVec 18) :
    decodeLong (longP (stOp o) (rf rs) (rf ra) (bf b) i).1 i = .op (.st o rs b ra i) := by
  cases o <;> simp [decodeLong, stOp]

/-- A customer opcode's LOP is 30h and above (R200). -/
theorem decode_custom (n rd ra : Reg) (x : BitVec 2) (i : BitVec 18) :
    decodeLong (longP (3#2 ++ rf n) (rf rd) (rf ra) x i).1 i = .op (.custom n rd ra x i) := by
  have hlop : (3#2 ++ rf n : BitVec 6).toNat = 48 + n.val := by
    rw [BitVec.toNat_append, ← Nat.shiftLeft_add_eq_or_of_lt n.isLt]
    rfl
  have hle : 48 ≤ (3#2 ++ rf n : BitVec 6).toNat := by omega
  unfold decodeLong
  simp only [longP_op, longP_custom, longP_d, longP_a, longP_x]
  split
  case h_17 => simp [hle]
  all_goals omega

/-- A channel's number fits the low nine bits of the second parcel (R184). -/
theorem decode_sendei (n : Chan) :
    decodeLong (longP 0x1E 0 0 0 (BitVec.ofNat 18 n)).1 (BitVec.ofNat 18 n) = .op (.sendei n) := by
  have hlow : (BitVec.ofNat 18 n).extractLsb' 0 9 = BitVec.ofFin n := by
    apply BitVec.eq_of_toNat_eq
    simp
  have hhigh : (BitVec.ofNat 18 n).extractLsb' 9 9 = 0#9 := by
    apply BitVec.eq_of_toNat_eq
    simp [Nat.shiftRight_eq_div_pow]
    omega
  simp [decodeLong, needs, hlow, hhigh]

/-- The count of RPT is cut into two bits and four (R182, R190). -/
theorem decode_rpt (n : BitVec 6) :
    decodeMisc 8 ((n.extractLsb' 4 2).setWidth 4) (n.extractLsb' 0 4) = .op (.rpt n) := by
  have hpad : ((n.extractLsb' 4 2).setWidth 4).extractLsb' 2 2 = 0#2 := by
    ext k hk
    simp
  have hjoin : ((n.extractLsb' 4 2).setWidth 4 ++ n.extractLsb' 0 4).setWidth 6 = n := by
    ext k hk
    simp
    grind
  simp [decodeMisc, needs, hpad, hjoin]

/-- A bank register's field is two bits of four (R182). -/
theorem decode_bank_field (b : BankReg) :
    ((bf b).setWidth 4).extractLsb' 2 2 = 0#2 ∧ ((bf b).setWidth 4).extractLsb' 0 2 = bf b := by
  constructor
  · ext k hk
    simp
  · ext k hk
    simp
    grind

theorem decode_mfb (rd : Reg) (b : BankReg) : decodeMisc 0xC (rf rd) ((bf b).setWidth 4) = .op (.mfb rd b) := by
  obtain ⟨hpad, hfield⟩ := decode_bank_field b
  simp [decodeMisc, needs, hpad, hfield]

theorem decode_mtb (ra : Reg) (b : BankReg) : decodeMisc 0xD (rf ra) ((bf b).setWidth 4) = .op (.mtb b ra) := by
  obtain ⟨hpad, hfield⟩ := decode_bank_field b
  simp [decodeMisc, needs, hpad, hfield]

/-- Settles O24: the decoder reads the form, then the operation, then the fields that the encoder joined. -/
theorem parcelsDecodeTheirEncoding : Obligations.ParcelsDecodeTheirEncoding := by
  intro o
  cases o
  case nop | halt | di | ei | reti | waite | waitt | sende | rpti | jmp | callr =>
    simp [encodeOp, decodeParcels_miscP, decodeMisc, needs]
  case rpt n => exact (decodeParcels_miscP ..).trans (decode_rpt n)
  case mfb rd b => exact (decodeParcels_miscP ..).trans (decode_mfb rd b)
  case mtb b ra => exact (decodeParcels_miscP ..).trans (decode_mtb ra b)
  case alu o rd ra rb => exact decode_alu o rd ra rb 0
  case mul o ra rb => exact decode_mul o ra rb 0
  case mfsr | mtsr | neg | abs | ldw | stw | ldwi | stwi | addi | movi | bz | bnz | bra =>
    rw [encodeOp, decodeParcels_shortP (by decide)]
    simp [decodeShort, needs]
  case imm o rd ra i => exact (decodeParcels_longP ..).trans (decode_imm o rd ra i)
  case ld o rd b ra i => exact (decodeParcels_longP ..).trans (decode_ld o rd b ra i)
  case st o rs b ra i => exact (decodeParcels_longP ..).trans (decode_st o rs b ra i)
  case sendei n => exact (decodeParcels_longP ..).trans (decode_sendei n)
  case custom n rd ra x i => exact (decodeParcels_longP ..).trans (decode_custom n rd ra x i)
  case li | ldwL | stwL | bzL | bnzL | braL | call =>
    rw [encodeOp, decodeParcels_longP]
    simp [decodeLong, needs]

end Sys2Proof.Machine

namespace Sys2Proof.Machine

/-! ### Words: conditions, comparisons, shifts, rotations (R164, R165) -/

theorem condW_decide (c : Prop) [Decidable c] : condW (decide c) = if c then 1 else 0 := by simp [condW]

theorem ite_slt (a b : W24) {α : Type} (x y : α) : (if a.slt b then x else y) = if a.toInt < b.toInt then x else y := by
  simp [BitVec.slt]

theorem ite_ult (a b : W24) {α : Type} (x y : α) : (if a.ult b then x else y) = if a.toNat < b.toNat then x else y := by
  simp [BitVec.ult]

theorem condW_slt (a b : W24) : condW (a.slt b) = if a.toInt < b.toInt then 1 else 0 := ite_slt a b 1 0

theorem condW_ult (a b : W24) : condW (a.ult b) = if a.toNat < b.toNat then 1 else 0 := ite_ult a b 1 0

theorem condW_beq (a b : W24) : condW (a == b) = if a = b then 1 else 0 := by simp [condW]

theorem condW_bne (a b : W24) : condW (a != b) = if a = b then 0 else 1 := by
  by_cases h : a = b <;> simp [condW, h]

theorem condW_not_slt (a b : W24) : condW (!(b.slt a)) = if a.toInt ≤ b.toInt then 1 else 0 := by
  simp [condW, BitVec.slt]

theorem condW_not_ult (a b : W24) : condW (!(b.ult a)) = if a.toNat ≤ b.toNat then 1 else 0 := by
  simp [condW, BitVec.ult]

theorem shiftLeft_wide (a : W24) (n : Nat) : a <<< n = if n < 24 then a <<< n else 0 := by
  split
  · rfl
  · exact BitVec.shiftLeft_eq_zero (by omega)

theorem ushiftRight_wide (a : W24) (n : Nat) : a >>> n = if n < 24 then a >>> n else 0 := by
  split
  · rfl
  · exact BitVec.ushiftRight_eq_zero (by omega)

/-- A count of 24 or more leaves the sign alone (R165). -/
theorem sshiftRight_wide (a : W24) (n : Nat) :
    a.sshiftRight n = if n < 24 then a.sshiftRight n else if a.toInt < 0 then 0xFFFFFF else 0 := by
  split
  · rfl
  · next h =>
    have hsign : a.msb = decide (a.toInt < 0) := BitVec.msb_eq_toInt
    ext i hi
    have hout : ¬ n + i < 24 := by omega
    simp only [BitVec.getElem_sshiftRight, hout, dite_false, hsign]
    by_cases hneg : a.toInt < 0
    · rw [if_pos hneg, decide_eq_true hneg, show (0xFFFFFF : W24) = BitVec.allOnes 24 from rfl, BitVec.getElem_allOnes]
    · simp [hneg]

theorem rorW_eq (a : W24) (n : Nat) : rorW a n = (a >>> (n % 24)) ||| (a <<< (24 - n % 24)) := by
  rw [rorW, BitVec.rotateRight_def, Nat.mod_mod]

theorem rolW_eq (a : W24) (n : Nat) : rolW a n = (a <<< (n % 24)) ||| (a >>> (24 - n % 24)) := by
  rw [rolW, BitVec.rotateLeft_def, Nat.mod_mod]

/-! ### One instruction on registers alone, issued to a free engine (R178, R181 to R184) -/

section
variable {s : State} {e : Nat}

theorem State.issue_alu (h : s.engFree e = true) (o : AluOp) (rd ra rb : Reg) : s.issue e (.alu o rd ra rb) =
    .next (s.setEng e (((s.eng e).begun.setReg rd (aluEval o ((s.eng e).begun.reg ra) ((s.eng e).begun.reg rb))).past 1)) := by
  rw [State.issue_free h, State.runOp_alu, State.begins_eng, State.begins_setEng]

theorem State.issue_neg (h : s.engFree e = true) (rd ra : Reg) : s.issue e (.neg rd ra) =
    .next (s.setEng e (((s.eng e).begun.setReg rd (negW ((s.eng e).begun.reg ra))).past 1)) := by
  rw [State.issue_free h, State.runOp_neg, State.begins_eng, State.begins_setEng]

theorem State.issue_abs (h : s.engFree e = true) (rd ra : Reg) : s.issue e (.abs rd ra) =
    .next (s.setEng e (((s.eng e).begun.setReg rd (absW ((s.eng e).begun.reg ra))).past 1)) := by
  rw [State.issue_free h, State.runOp_abs, State.begins_eng, State.begins_setEng]

theorem State.issue_imm (h : s.engFree e = true) (o : ImmOp) (rd ra : Reg) (v : BitVec 18) : s.issue e (.imm o rd ra v) =
    .next (s.setEng e (((s.eng e).begun.setReg rd (immEval o ((s.eng e).begun.reg ra) v)).past 2)) := by
  rw [State.issue_free h, State.runOp_imm, State.begins_eng, State.begins_setEng]

theorem State.issue_li (h : s.engFree e = true) (rd : Reg) (c : W24) : s.issue e (.li rd c) =
    .next (s.setEng e (((s.eng e).begun.setReg rd c).past 2)) := by
  rw [State.issue_free h, State.runOp_li, State.begins_eng, State.begins_setEng]

theorem State.issue_addi (h : s.engFree e = true) (rd : Reg) (v : BitVec 8) : s.issue e (.addi rd v) =
    .next (s.setEng e (((s.eng e).begun.setReg rd ((s.eng e).begun.reg rd + v.signExtend 24)).past 1)) := by
  rw [State.issue_free h, State.runOp_addi, State.begins_eng, State.begins_setEng]

theorem State.issue_movi (h : s.engFree e = true) (rd : Reg) (v : BitVec 8) : s.issue e (.movi rd v) =
    .next (s.setEng e (((s.eng e).begun.setReg rd (v.signExtend 24)).past 1)) := by
  rw [State.issue_free h, State.runOp_movi, State.begins_eng, State.begins_setEng]

theorem State.issue_mfb (h : s.engFree e = true) (rd : Reg) (b : BankReg) : s.issue e (.mfb rd b) =
    .next (s.setEng e (((s.eng e).begun.setReg rd (((s.eng e).begun.bank b).setWidth 24)).past 1)) := by
  rw [State.issue_free h, State.runOp_mfb, State.begins_eng, State.begins_setEng]

theorem State.issue_mtb (h : s.engFree e = true) (b : BankReg) (ra : Reg) : s.issue e (.mtb b ra) =
    .next (s.setEng e (((s.eng e).begun.setBank b (((s.eng e).begun.reg ra).setWidth 11)).past 1)) := by
  rw [State.issue_free h, State.runOp_mtb, State.begins_eng, State.begins_setEng]

theorem State.issue_nop (h : s.engFree e = true) : s.issue e .nop = .next (s.setEng e ((s.eng e).begun.past 1)) := by
  have hrun : (s.begins e).runOp e .nop = (s.begins e).setEng e (((s.begins e).eng e).past 1) := rfl
  rw [State.issue_free h, hrun, State.begins_eng, State.begins_setEng]

theorem State.issue_mfsr (h : s.engFree e = true) (rd : Reg) (n : BitVec 4) : s.issue e (.mfsr rd n) =
    .next (s.setEng e (((s.eng e).begun.moveFrom s.tnow rd n.toNat).past 1)) := by
  rw [State.issue_free h, State.runOp_mfsr, State.begins_eng, State.begins_setEng]
  rfl

theorem State.issue_mtsr (h : s.engFree e = true) (n : BitVec 4) (ra : Reg) : s.issue e (.mtsr n ra) =
    .next (((s.setEng e ((s.eng e).begun.srWrite n.toNat ((s.eng e).begun.reg ra))).markIfHeld e).modEng e (·.past 1)) := by
  rw [State.issue_free h, State.runOp_mtsr, State.begins_eng, State.begins_setEng]

end

/-- A move from a special register other than TNOWL latches nothing (R174, R186). -/
theorem Engine.moveFrom_of_ne {n : Nat} (h : n ≠ 4) (x : Engine) (tnow : BitVec 48) (rd : Reg) :
    x.moveFrom tnow rd n = x.setReg rd (x.srRead tnow n) := by
  rw [Engine.moveFrom, if_neg h]

/-- Settles O7: the issued operation's result is that of `aluEval`, and each result is the spec's. -/
theorem shortAluAndConditions : Obligations.ShortAluAndConditions := by
  refine ⟨?results, ?conditions⟩
  case results =>
    intro e rd ra rb s h x a b n put
    have alu := fun o => State.issue_alu h o rd ra rb
    refine ⟨alu .add, alu .sub, alu .and, alu .or, alu .xor, State.issue_neg h rd ra, ?abs, ?min, ?max, ?minu, ?maxu, ?sll, ?srl, ?sra, ?ror, ?rol⟩
    case abs => exact (State.issue_abs h rd ra).trans (congrArg put (ite_slt a 0 _ _))
    case min => exact (alu .min).trans (congrArg put (ite_slt a b _ _))
    case max => exact (alu .max).trans (congrArg put (ite_slt a b _ _))
    case minu => exact (alu .minu).trans (congrArg put (ite_ult a b _ _))
    case maxu => exact (alu .maxu).trans (congrArg put (ite_ult a b _ _))
    case sll => exact (alu .sll).trans (congrArg put (shiftLeft_wide a n))
    case srl => exact (alu .srl).trans (congrArg put (ushiftRight_wide a n))
    case sra => exact (alu .sra).trans (congrArg put (sshiftRight_wide a n))
    case ror => exact (alu .ror).trans (congrArg put (rorW_eq a n))
    case rol => exact (alu .rol).trans (congrArg put (rolW_eq a n))
  case conditions =>
    intro e rd ra rb s h x a b put
    have alu := fun o => State.issue_alu h o rd ra rb
    have value : ∀ {v w : W24}, v = w → (Host.Outcome.next (s.setEng e ((x.setReg rd v).past 1)) : Out) =
        .next (s.setEng e ((x.setReg rd w).past 1)) := fun hv => by rw [hv]
    refine ⟨(alu .seq).trans (value (condW_beq a b)), (alu .sne).trans (value ?ne), (alu .slt).trans (value (condW_slt a b)),
      (alu .sltu).trans (value (condW_ult a b)), (alu .sle).trans (value (condW_not_slt a b)),
      (alu .sleu).trans (value (condW_not_ult a b))⟩
    case ne => exact (condW_bne a b).trans (ite_not (a = b) 1 0).symm

/-- Settles O8: the issued operation's result is that of `immEval`, and each result is the spec's. -/
theorem longImmediateResults : Obligations.LongImmediateResults := by
  intro e rd ra v c s h x a i n put
  have imm := fun o => State.issue_imm h o rd ra v
  exact ⟨imm .addi, imm .andi, imm .ori, imm .xori, (imm .slli).trans (congrArg put (shiftLeft_wide a n)),
    (imm .srli).trans (congrArg put (ushiftRight_wide a n)), (imm .srai).trans (congrArg put (sshiftRight_wide a n)),
    (imm .rori).trans (congrArg put (rorW_eq a n)), (imm .roli).trans (congrArg put (rolW_eq a n)),
    (imm .seqi).trans (congrArg put (condW_beq a i)), (imm .snei).trans (congrArg put (condW_bne a i)),
    (imm .slti).trans (congrArg put (condW_slt a i)), (imm .sltui).trans (congrArg put (condW_ult a i)),
    (imm .sgti).trans (congrArg put (condW_slt i a)), (imm .sgtui).trans (congrArg put (condW_ult i a)), State.issue_li h rd c⟩

/-- Settles O9: each instruction on a free engine, and the write rule of the general registers. -/
theorem movesAndBanks : Obligations.MovesAndBanks := by
  intro e rd ra b v s h x out
  exact ⟨State.issue_addi h rd v, State.issue_movi h rd v, State.issue_mfb h rd b, State.issue_mtb h b ra, State.issue_nop h,
    fun k w => Engine.reg_setReg x rd k w⟩

/-- Settles O10: MFSR reads what `srRead` gives for the number, MTSR writes what `srWrite` gives for it. -/
theorem specialRegisterMoves : Obligations.SpecialRegisterMoves := by
  intro e r s h x v from_ to_
  have move : ∀ n : BitVec 4, n.toNat ≠ 4 → from_ n (x.srRead s.tnow n.toNat) := fun n hn =>
    (State.issue_mfsr h r n).trans (by rw [Engine.moveFrom_of_ne hn])
  have moved : ∀ n : BitVec 4, to_ n (x.srWrite n.toNat v) := fun n => State.issue_mtsr h n r
  refine ⟨move 0 (by decide), move 1 (by decide), move 2 (by decide), move 3 (by decide), move 5 (by decide), move 6 (by decide),
    move 7 (by decide), State.issue_mfsr h r 4, ?levels, moved 0, moved 1, moved 2, moved 3, moved 4, moved 5, moved 6, moved 7, ?written⟩
  case levels =>
    intro l
    match l with
    | 0 => exact ⟨move 8 (by decide), move 12 (by decide)⟩
    | 1 => exact ⟨move 9 (by decide), move 13 (by decide)⟩
    | 2 => exact ⟨move 10 (by decide), move 14 (by decide)⟩
    | 3 => exact ⟨move 11 (by decide), move 15 (by decide)⟩
  case written =>
    intro l
    match l with
    | 0 => exact ⟨moved 8, moved 12⟩
    | 1 => exact ⟨moved 9, moved 13⟩
    | 2 => exact ⟨moved 10, moved 14⟩
    | 3 => exact ⟨moved 11, moved 15⟩

end Sys2Proof.Machine

namespace Sys2Proof.Machine

/-! ### Products and quotients (R165) -/

theorem halves_append (p : BitVec 48) : p.extractLsb' 24 24 ++ p.extractLsb' 0 24 = p := by
  ext k hk
  simp
  grind

theorem mulS_toInt (a b : W24) : (mulS a b).toInt = a.toInt * b.toInt := by
  have hlo := BitVec.le_toInt_mul_toInt (x := a) (y := b)
  have hhi := BitVec.toInt_mul_toInt_le (x := a) (y := b)
  exact BitVec.toInt_ofInt_eq_self (by decide) (by omega) (by omega)

theorem mulU_toNat (a b : W24) : (mulU a b).toNat = a.toNat * b.toNat := by
  have hlt : a.toNat * b.toNat < 2 ^ 24 * 2 ^ 24 := Nat.mul_lt_mul'' a.isLt b.isLt
  exact Nat.mod_eq_of_lt hlt

/-- The signed quotient fits except in the corner of R165. -/
theorem tdiv_toInt {a b : W24} (h : ¬(a = 0x800000 ∧ b = 0xFFFFFF)) :
    (BitVec.ofInt 24 (a.toInt.tdiv b.toInt)).toInt = a.toInt.tdiv b.toInt := by
  have hcorner : a ≠ BitVec.intMin 24 ∨ b ≠ -1#24 := by
    rcases Decidable.not_and_iff_or_not.mp h with ha | hb
    · exact .inl ha
    · exact .inr hb
  rw [BitVec.toInt_ofInt, ← BitVec.toInt_sdiv, BitVec.toInt_sdiv_of_ne_or_ne a b hcorner]

theorem tmod_toInt (a b : W24) : (BitVec.ofInt 24 (a.toInt.tmod b.toInt)).toInt = a.toInt.tmod b.toInt := by
  rw [← BitVec.toInt_srem, BitVec.ofInt_toInt]

/-- A signed divide: the flags, and the quotient and remainder of each case (R165). -/
theorem divS_spec (a b : W24) :
    (divS a b).dz = decide (b = 0) ∧ (divS a b).dov = decide (a = 0x800000 ∧ b = 0xFFFFFF) ∧
      (if decide (b = 0) then (divS a b).lo = 0xFFFFFF ∧ (divS a b).hi = a
       else if decide (a = 0x800000 ∧ b = 0xFFFFFF) then (divS a b).lo = 0x800000 ∧ (divS a b).hi = 0
       else (divS a b).lo.toInt = a.toInt.tdiv b.toInt ∧ (divS a b).hi.toInt = a.toInt.tmod b.toInt) := by
  by_cases hz : b = 0
  · subst hz
    simp [divS]
  · by_cases hm : a = 0x800000 ∧ b = 0xFFFFFF
    · obtain ⟨rfl, rfl⟩ := hm
      simp [divS]
    · have hd : divS a b = { lo := BitVec.ofInt 24 (a.toInt.tdiv b.toInt), hi := BitVec.ofInt 24 (a.toInt.tmod b.toInt), dov := false, dz := false } := by
        rw [divS, if_neg hz, if_neg hm]
      rw [hd, decide_eq_false hz, decide_eq_false hm]
      exact ⟨rfl, rfl, tdiv_toInt hm, tmod_toInt a b⟩

/-- An unsigned divide: the flag, and the quotient and remainder of each case (R165). -/
theorem divU_spec (a b : W24) :
    (divU a b).dz = decide (b = 0) ∧ (divU a b).dov = false ∧
      (if decide (b = 0) then (divU a b).lo = 0xFFFFFF ∧ (divU a b).hi = a
       else (divU a b).lo.toNat = a.toNat / b.toNat ∧ (divU a b).hi.toNat = a.toNat % b.toNat) := by
  by_cases hz : b = 0
  · subst hz
    simp [divU]
  · rw [divU, if_neg hz, decide_eq_false hz]
    exact ⟨rfl, rfl, BitVec.toNat_udiv, BitVec.toNat_umod⟩

/-! ### Issues and results in flight (R166) -/

theorem OnlyEngine.setEng {e : Nat} {s t : State} (h : OnlyEngine e s t) (x : Engine) : OnlyEngine e s (t.setEng e x) := by
  obtain ⟨heq, hother⟩ := h
  refine ⟨?_, fun k hk => (State.eng_setEng_other t x hk).trans (hother k hk)⟩
  rw [heq]
  rfl

theorem OnlyEngine.modEng {e : Nat} {s t : State} (h : OnlyEngine e s t) (f : Engine → Engine) : OnlyEngine e s (t.modEng e f) :=
  h.setEng _

/-- A multiply or divide issued with nothing in flight leaves it as the one in flight. -/
theorem State.issue_mul {s : State} {e : Nat} (h : s.engFree e = true) (o : MulOp) (ra rb : Reg) : s.issue e (.mul o ra rb) =
    .next (s.setEng e (((s.eng e).begun.issueMul o ((s.eng e).reg ra) ((s.eng e).reg rb)).past 1)) := by
  rw [State.issue_free h, State.runOp_mul, State.begins_eng, State.begins_setEng]
  rfl

/-- The engine with one product in flight and nothing else issued. -/
def Engine.multiplies (x : Engine) (p : BitVec 48) : Engine :=
  { x with entered := false, products := [(p.extractLsb' 24 24, p.extractLsb' 0 24)], pc := x.pc + 1 }

/-- The engine with a divide in flight and nothing else issued. -/
def Engine.divides (x : Engine) (d : DivRes) : Engine := { x with entered := false, divide := some d, pc := x.pc + 1 }

theorem Engine.begun_issueMul_product {x : Engine} (hd : x.divide = none) (hp : x.products = []) (a b : W24) :
    (x.begun.issueMul .mul a b).past 1 = x.multiplies (mulS a b) ∧ (x.begun.issueMul .mulu a b).past 1 = x.multiplies (mulU a b) := by
  simp [Engine.issueMul, Engine.begun, Engine.multiplies, Engine.past, hd, hp]

theorem Engine.begun_issueMul_divide {x : Engine} (hd : x.divide = none) (a b : W24) :
    (x.begun.issueMul .divs a b).past 1 = x.divides (divS a b) ∧ (x.begun.issueMul .divu a b).past 1 = x.divides (divU a b) := by
  simp [Engine.issueMul, Engine.begun, Engine.divides, Engine.past, hd]

/-- The product in flight is written (R166). -/
theorem exec_mulResult_multiplies (s : State) (e : Eng) (x : Engine) (p : BitVec 48) :
    ∃ u, exec (.mulResult e) (s.setEng e (x.multiplies p)) = .next u ∧ OnlyEngine e s u ∧ (u.eng e).mhi ++ (u.eng e).mlo = p := by
  refine ⟨_, rfl, (onlyEngine_setEng s e _).modEng _, ?_⟩
  rw [State.eng_modEng_same, State.eng_setEng_same]
  exact halves_append p

/-- The divide in flight is written with its flags (R165, R166). -/
theorem exec_divResult_divides {x : Engine} (hp : x.products = []) (s : State) (e : Eng) (d : DivRes) :
    ∃ u, exec (.divResult e) (s.setEng e (x.divides d)) = .next u ∧ OnlyEngine e s u ∧
      (u.eng e).dz = (x.dz || d.dz) ∧ (u.eng e).dov = (x.dov || d.dov) ∧ (u.eng e).mlo = d.lo ∧ (u.eng e).mhi = d.hi := by
  have hin : ((s.setEng e (x.divides d)).eng e).divide.isSome = true := by
    rw [State.eng_setEng_same]
    rfl
  refine ⟨(s.setEng e (x.divides d)).modEng e Engine.landed, ?_, (onlyEngine_setEng s e _).modEng _, ?_⟩
  · rw [exec_divResult, execDivResult, if_pos hin]
  · rw [State.eng_modEng_same, State.eng_setEng_same]
    simp [Engine.landed, Engine.landProducts, Engine.landDivide, Engine.divides, hp]

/-- Settles O11: the operation issued is the one in flight, and its result is the exact product or the divide of R165. -/
theorem multiplyAndDivide : Obligations.MultiplyAndDivide := by
  intro e ra rb s h hd hp x a b zero min
  obtain ⟨hmul, hmulu⟩ := Engine.begun_issueMul_product hd hp a b
  obtain ⟨hdivs, hdivu⟩ := Engine.begun_issueMul_divide hd a b
  refine ⟨?mul, ?mulu, ?divs, ?divu⟩
  case mul =>
    refine ⟨_, State.issue_mul h .mul ra rb, ?_⟩
    rw [hmul, State.eng_setEng_same]
    obtain ⟨u, hu, honly, hval⟩ := exec_mulResult_multiplies s e x (mulS a b)
    exact ⟨rfl, rfl, rfl, onlyEngine_setEng s e _, u, hu, honly, by rw [hval, mulS_toInt]⟩
  case mulu =>
    refine ⟨_, State.issue_mul h .mulu ra rb, ?_⟩
    rw [hmulu, State.eng_setEng_same]
    obtain ⟨u, hu, honly, hval⟩ := exec_mulResult_multiplies s e x (mulU a b)
    exact ⟨rfl, rfl, rfl, onlyEngine_setEng s e _, u, hu, honly, by rw [hval, mulU_toNat]⟩
  case divs =>
    refine ⟨_, State.issue_mul h .divs ra rb, ?_⟩
    rw [hdivs, State.eng_setEng_same]
    obtain ⟨u, hu, honly, hdz, hdov, hlo, hhi⟩ := exec_divResult_divides hp s e (divS a b)
    obtain ⟨hz, hm, hval⟩ := divS_spec a b
    refine ⟨rfl, rfl, rfl, onlyEngine_setEng s e _, u, hu, honly, hdz.trans (by rw [hz]), hdov.trans (by rw [hm]), ?_⟩
    rw [hlo, hhi]
    exact hval
  case divu =>
    refine ⟨_, State.issue_mul h .divu ra rb, ?_⟩
    rw [hdivu, State.eng_setEng_same]
    obtain ⟨u, hu, honly, hdz, hdov, hlo, hhi⟩ := exec_divResult_divides hp s e (divU a b)
    obtain ⟨hz, hm, hval⟩ := divU_spec a b
    refine ⟨rfl, rfl, rfl, onlyEngine_setEng s e _, u, hu, honly, hdz.trans (by rw [hz]), hdov.trans (by rw [hm, Bool.or_false]), ?_⟩
    rw [hlo, hhi]
    exact hval

end Sys2Proof.Machine

namespace Sys2Proof.Machine

/-! ### An instruction that replaces the engine alone (R178) -/

/-- A free engine e that an instruction takes to f of itself. -/
theorem State.issue_setEng {s : State} {e : Nat} {op : EOp} (f : Engine → Engine)
    (hrun : (s.begins e).runOp e op = (s.begins e).setEng e (f ((s.begins e).eng e))) (h : s.engFree e = true) :
    s.issue e op = .next (s.setEng e (f (s.eng e).begun)) := by
  rw [State.issue_free h, hrun, State.begins_eng, State.begins_setEng]

/-- A branch goes on at its target, or behind itself (R181, R184). -/
theorem Engine.branch_eq (x : Engine) (taken : Bool) (off : W18) (n : Nat) :
    x.branch taken off n = { x with pc := if taken then x.pc + off else x.pc + BitVec.ofNat 18 n } := by
  cases taken <;> rfl

theorem ite_not_bool (c : Bool) {α : Type} (a b : α) : (if !c then a else b) = if c then b else a := by cases c <;> rfl

theorem low_bits (v : W24) : v.setWidth 18 = v.extractLsb' 0 18 := BitVec.setWidth_eq_extractLsb' (by decide)

/-- Settles O14: each branch and call replaces the engine's PC, the calls g15 before. -/
theorem branchesAndCalls : Obligations.BranchesAndCalls := by
  intro e r v8 v12 v s h x z go
  have branches : ∀ (c : Engine → Bool) (op : EOp) (off : W18) (n : Nat) (p : W18),
      (s.begins e).runOp e op = (s.begins e).setEng e (((s.begins e).eng e).branch (c ((s.begins e).eng e)) off n) →
      (if c x then x.pc + off else x.pc + BitVec.ofNat 18 n) = p → s.issue e op = go p := by
    intro c op off n p hrun hp
    rw [State.issue_setEng (fun y => y.branch (c y) off n) hrun h, Engine.branch_eq, ← hp]
  have isZero := branches fun y => y.reg r == 0
  have notZero := branches fun y => y.reg r != 0
  have always := branches fun _ => true
  refine ⟨isZero _ _ _ _ rfl rfl, notZero _ _ _ _ rfl (ite_not_bool z _ _), always _ _ _ _ rfl rfl, isZero _ _ _ _ rfl rfl,
    notZero _ _ _ _ rfl (ite_not_bool z _ _), always _ _ _ _ rfl rfl, ?jmp, ?call, ?callr⟩
  case jmp =>
    rw [exec_jmp, execJmp, State.issue_setEng (fun y => { y with pc := (y.reg r).setWidth 18 }) rfl h, low_bits]
  case call =>
    rw [exec_call, execCall, State.issue_setEng (fun y => (y.setReg 15 ((y.pc + 2).setWidth 24)).branch true v 2) rfl h,
      Engine.branch_eq, if_pos rfl, Engine.setReg_pc]
  case callr =>
    rw [exec_callr, execCallr,
      State.issue_setEng (fun y => { y.setReg 15 ((y.pc + 1).setWidth 24) with pc := (y.reg r).setWidth 18 }) rfl h, low_bits]

/-! ### The mark of a held source, and engines that are free (R171) -/

/-- EVL bit 21 is all that the mark of a held source changes. -/
theorem State.markIfHeld_eng (s : State) (e : Nat) :
    (s.markIfHeld e).eng e = s.eng e ∨ (s.markIfHeld e).eng e = (s.eng e).mark 21 := by
  unfold State.markIfHeld
  split
  · exact .inr (State.eng_modEng_same s e _)
  · exact .inl rfl

theorem OnlyEngine.markIfHeld {e : Nat} {s t : State} (h : OnlyEngine e s t) : OnlyEngine e s (t.markIfHeld e) := by
  unfold State.markIfHeld
  split
  · exact h.modEng _
  · exact h

theorem State.engFree_e1 {s : State} {e : Nat} (h : s.engFree e = true) : (s.eng e).e1 = none := by
  simp only [State.engFree, State.engRuns, Bool.and_eq_true, Option.isNone_iff_eq_none] at h
  exact h.1.1.2

theorem State.engFree_run {s : State} {e : Nat} (h : s.engFree e = true) : (s.eng e).run = .running := by
  simp only [State.engFree, State.engRuns, Bool.and_eq_true, beq_iff_eq] at h
  exact h.1.1.1

theorem State.engFree_rpti {s : State} {e : Nat} (h : s.engFree e = true) : (s.eng e).rpti = none := by
  simp only [State.engFree, Bool.and_eq_true, Option.isNone_iff_eq_none] at h
  exact h.2

theorem tnowReached_iff (tnow : BitVec 48) (g : W24) : tnowReached tnow g = true ↔ 0 ≤ (tnow.extractLsb' 0 24 - g).toInt := by
  have hlow : tnow.setWidth 24 = tnow.extractLsb' 0 24 := BitVec.setWidth_eq_extractLsb' (by decide)
  simp [tnowReached, BitVec.slt, hlow]

/-! ### The ends of the waits (R193, R194) -/

theorem State.finishWait_event {x : Engine} (s : State) (hrun : x.run = .waitE) (hev : x.evl &&& x.evm ≠ 0) :
    s.finishWait x = { x with run := .running, pc := x.pc + 1 } := by
  simp only [State.finishWait, hrun]
  exact if_pos hev

theorem State.finishWait_time {s : State} {x : Engine} {g : W24} (hrun : x.run = .waitT g) (hnow : tnowReached s.tnow g = true) :
    s.finishWait x = { x with run := .running, pc := x.pc + 1 } := by
  have hslt : ¬((s.tnow.setWidth 24) - g).slt 0 = true := by simpa [tnowReached] using hnow
  simp only [State.finishWait, hrun]
  exact if_neg hslt

/-- A WAITE ends as an enabled event comes. -/
theorem State.endWait_event {s : State} {e : Nat} {x : Engine} (hx : s.eng e = x) (hrun : x.run = .waitE) (he1 : x.e1 = none)
    (hev : x.evl &&& x.evm ≠ 0) : s.endWait e false = s.setEng e { x with run := .running, pc := x.pc + 1 } := by
  rw [← s.finishWait_event hrun hev]
  simp only [State.endWait, hx, hrun, he1]
  rfl

/-- A WAITT ends as TNOW reaches its target. -/
theorem State.endWait_time {s : State} {e : Nat} {x : Engine} {g : W24} (hx : s.eng e = x) (hrun : x.run = .waitT g)
    (he1 : x.e1 = none) (hnow : tnowReached s.tnow g = true) :
    s.endWait e true = s.setEng e { x with run := .running, pc := x.pc + 1 } := by
  rw [← State.finishWait_time hrun hnow]
  simp only [State.endWait, hx, hrun, he1]
  rfl

/-- Settles O15: each of the instructions replaces the engine, and the two waits end as their conditions come. -/
theorem haltAndWaits : Obligations.HaltAndWaits := by
  intro e ra s h x out target
  have he1 : x.e1 = none := State.engFree_e1 h
  have waite : s.issue e .waite = out x.waitEvent := State.issue_setEng (fun y => y.waitEvent) rfl h
  have waitt : s.issue e (.waitt ra) = out (x.waitTime s.tnow target) :=
    State.issue_setEng (fun y => y.waitTime s.tnow (y.reg ra)) rfl h
  refine ⟨State.issue_setEng (fun y => { y.past 1 with run := .halted true }) rfl h, ?di,
    State.issue_setEng (fun y => { y.past 1 with ie := true }) rfl h, ?waite, ?waits, ?waitt, ?waitsT⟩
  case di =>
    have hrun : (s.begins e).runOp e .di = ((s.begins e).setEng e { ((s.begins e).eng e).past 1 with ie := false }).markIfHeld e := rfl
    refine ⟨(s.setEng e { x.past 1 with ie := false }).markIfHeld e, ?_, (onlyEngine_setEng s e _).markIfHeld, ?_⟩
    · rw [exec_di, execDi, State.issue_free h, hrun, State.begins_eng, State.begins_setEng]
    · obtain heng | heng := (s.setEng e { x.past 1 with ie := false }).markIfHeld_eng e
      · rw [heng, State.eng_setEng_same]
        exact ⟨rfl, rfl, rfl⟩
      · rw [heng, State.eng_setEng_same]
        exact ⟨rfl, rfl, rfl⟩
  case waite =>
    intro hev
    exact waite.trans (by rw [Engine.waitEvent, if_pos hev])
  case waits =>
    intro hev
    have hwait : x.waitEvent = { x with run := .waitE, crossed := [] } := by rw [Engine.waitEvent, if_neg (Classical.not_not.mpr hev)]
    refine ⟨_, waite, ?_⟩
    rw [hwait, State.eng_setEng_same]
    refine ⟨rfl, rfl, onlyEngine_setEng s e _, fun v hv => ⟨_, rfl, ?_⟩⟩
    rw [State.setEng_modEng, State.endWait_event (x := { x with run := .waitE, crossed := [], evl := v })
      (State.eng_setEng_same s e _) rfl he1 hv, State.eng_setEng_same]
    exact ⟨rfl, rfl, rfl⟩
  case waitt =>
    intro hnow
    exact waitt.trans (by rw [Engine.waitTime, if_pos ((tnowReached_iff _ _).mpr hnow)])
  case waitsT =>
    intro hnow
    have hlate : ¬tnowReached s.tnow target = true := fun hr => absurd ((tnowReached_iff _ _).mp hr) (by omega)
    refine ⟨waitt.trans (by rw [Engine.waitTime, if_neg hlate]), fun now hreach => ?_⟩
    have heng : ({ s.setEng e { x with run := .waitT target } with tnow := now } : State).eng e = { x with run := .waitT target } :=
      State.eng_setEng_same s e _
    have hend := State.endWait_time (s := { s.setEng e { x with run := .waitT target } with tnow := now }) heng rfl he1
      ((tnowReached_iff now target).mpr hreach)
    rw [exec_waittTargetReached, execWaittTargetReached, hend]
    exact congrArg Host.Outcome.next (State.setEng_setEng { s with tnow := now } e _ _)

/-! ### Interrupt entry and return (R170, R173) -/

/-- With no RPTI between two repetitions, an abandonment leaves RC as it is. -/
theorem Engine.rc_kept {x : Engine} (h : x.rpti = none) : { x with rc := x.rpti.getD x.rc, rpti := none } = x := by
  obtain ⟨⟩ := x
  cases h
  rfl

theorem State.modEng_rc_kept {s : State} {e : Nat} (h : (s.eng e).rpti = none) :
    (s.modEng e fun x => { x with rc := x.rpti.getD x.rc, rpti := none }) = s.setEng e (s.eng e) := by
  rw [State.modEng, Engine.rc_kept h]

/-- A RUNNING engine with no RPTI enters the level it has selected. -/
theorem exec_interruptEntry_running {s : State} {e : Eng} {n : Src} {l : BitVec 2} {v : W18} (hrun : (s.eng e).run = .running)
    (hr : (s.eng e).rpti = none) (he : (s.eng e).e1 = some (n, l, v)) :
    exec (.interruptEntry e) s = .next (s.setEng e { s.eng e with
      ipc := (s.eng e).ipc.put l.toNat (s.eng e).pc, istat := (s.eng e).istat.put l.toNat (s.eng e).ie
      act := (s.eng e).act ||| (1#4 <<< l.toNat), pc := v, e1 := none, entered := true }) := by
  have hsettle : s.settleRead e = s := by simp only [State.settleRead, hrun]
  have hab : s.abandon e = s.setEng e (s.eng e) := by
    simp only [State.abandon, hrun]
    exact State.modEng_rc_kept hr
  rw [exec_interruptEntry, execInterruptEntry, hsettle, if_pos (by rw [he]; rfl)]
  simp only [State.enterLevel, he, hab, State.setEng_modEng]
  rw [← hrun]

/-- RETI at the base level is an engine fault of case 6 (R170). -/
theorem State.returnFrom_base {s : State} {e : Nat} (h : (s.eng e).level = 0) : s.returnFrom e = s.engineFault e 6 := by
  simp only [State.returnFrom, h]

/-- RETI with no winner above returns to the level below (R170). -/
theorem State.returnFrom_return {s : State} {e k : Nat} (h : (s.eng e).level = k + 1)
    (hw : s.winner e (some (e, { s.eng e with act := (s.eng e).act &&& ~~~(1#4 <<< k) }.level)) = none) :
    s.returnFrom e = (s.setEng e { s.eng e with
      ie := (s.eng e).istat.look false k, act := (s.eng e).act &&& ~~~(1#4 <<< k), pc := (s.eng e).ipc.look 0 k, entered := true }).markIfHeld e := by
  simp only [State.returnFrom, h, hw]

theorem State.issue_reti {s : State} {e : Nat} (h : s.engFree e = true) : s.issue e .reti = .next ((s.begins e).returnFrom e) :=
  State.issue_free h .reti

theorem State.begins_engineFault (s : State) (e k : Nat) : (s.begins e).engineFault e k =
    ((s.setEng e { (s.eng e).begun with run := .halted false, faulted := true, faultCase := BitVec.ofNat 3 k, faultPc := (s.eng e).pc, rpti := none }).raise
      240).fault (tileOf e) .none 0 false := by
  simp only [State.engineFault, State.begins_modEng]
  rfl

/-- Settles O16: an entry replaces the engine, a return replaces it and may mark a held source. -/
theorem interruptEntryAndReturn : Obligations.InterruptEntryAndReturn := by
  intro e n l v s x
  refine ⟨fun hrun hr he => exec_interruptEntry_running hrun hr he, ?back, ?base⟩
  case back =>
    intro k h hk hw
    have hlevel : ((s.begins e).eng e).level = k + 1 := by rw [State.begins_eng]; exact hk
    have hwin : (s.begins e).winner e (some (e.val, { (s.begins e).eng e with
        act := ((s.begins e).eng e).act &&& ~~~(1#4 <<< k) }.level)) = none := by rw [State.begins_eng]; exact hw
    refine ⟨_, State.issue_reti h, ?_⟩
    rw [State.returnFrom_return hlevel hwin, State.begins_eng, State.begins_setEng]
    refine ⟨(onlyEngine_setEng s e _).markIfHeld, ?_⟩
    have hrun : x.run = .running := State.engFree_run h
    obtain heng | heng := State.markIfHeld_eng (s.setEng e { x.begun with
      ie := x.istat.look false k, act := x.act &&& ~~~(1#4 <<< k), pc := x.ipc.look 0 k, entered := true }) e
    · refine heng.symm ▸ ?_
      rw [State.eng_setEng_same]
      exact ⟨rfl, rfl, rfl, rfl, hrun, rfl⟩
    · refine heng.symm ▸ ?_
      rw [State.eng_setEng_same]
      exact ⟨rfl, rfl, rfl, rfl, hrun, rfl⟩
  case base =>
    intro h hbase
    have hlevel : ((s.begins e).eng e).level = 0 := by rw [State.begins_eng]; exact hbase
    rw [exec_reti, execReti, State.issue_reti h, State.returnFrom_base hlevel, State.begins_engineFault]
    rfl

end Sys2Proof.Machine

namespace Sys2Proof.Machine

/-! ### Bytes of words (R5) -/

@[simp] theorem toLE_length (n v : Nat) : (toLE n v).length = n := by
  induction n generalizing v with
  | zero => rfl
  | succ n ih => simp [toLE, ih]

theorem getElem_toLE (n v i : Nat) (h : i < (toLE n v).length) : (toLE n v)[i] = BitVec.ofNat 8 (v / 256 ^ i) := by
  induction n generalizing v i with
  | zero => simp at h
  | succ n ih =>
    cases i with
    | zero => simp [toLE]
    | succ i =>
      simp only [toLE, List.getElem_cons_succ]
      rw [ih, Nat.div_div_eq_div_mul, Nat.pow_succ, Nat.mul_comm]

/-- A byte of a word's number is the byte of the word. -/
theorem ofNat_div_pow {w : Nat} (v : BitVec w) (i : Nat) : BitVec.ofNat 8 (v.toNat / 256 ^ i) = v.extractLsb' (8 * i) 8 := by
  apply BitVec.eq_of_toNat_eq
  rw [BitVec.toNat_ofNat, BitVec.extractLsb'_toNat, Nat.shiftRight_eq_div_pow, Nat.pow_mul]

theorem leNat_three (a b c : Byte) : BitVec.ofNat 24 (leNat [a, b, c]) = c ++ b ++ a := by
  apply BitVec.eq_of_toNat_eq
  rw [BitVec.toNat_append, BitVec.toNat_append, ← Nat.shiftLeft_add_eq_or_of_lt b.isLt, ← Nat.shiftLeft_add_eq_or_of_lt a.isLt]
  simp only [leNat, BitVec.toNat_ofNat, Nat.shiftLeft_eq]
  omega

theorem leNat_two (a b : Byte) : (BitVec.ofNat 24 (leNat [a, b])).extractLsb' 0 16 = b ++ a := by
  apply BitVec.eq_of_toNat_eq
  rw [BitVec.toNat_append, ← Nat.shiftLeft_add_eq_or_of_lt a.isLt]
  simp only [leNat, BitVec.extractLsb'_toNat, BitVec.toNat_ofNat, Nat.shiftLeft_eq, Nat.shiftRight_zero]
  omega

theorem leNat_one (a : Byte) : (BitVec.ofNat 24 (leNat [a])).extractLsb' 0 8 = a := by
  apply BitVec.eq_of_toNat_eq
  simp only [leNat, BitVec.extractLsb'_toNat, BitVec.toNat_ofNat, Nat.shiftRight_zero]
  omega

/-! ### The bits that a byte of memory holds (R16) -/

theorem regionOf_dram {a : Nat} (h : a < 0x370000000) : regionOf a = .dram := if_pos h

theorem laneMask_dram {a : Nat} (h : a < 0x370000000) : laneMask a = 0xFF := by rw [laneMask, regionOf_dram h]

theorem and_full (v : Byte) : v &&& 0xFF = v := BitVec.and_allOnes

theorem regionOf_tileData {a : Nat} (h : 0x780000000 ≤ a) (h2 : a < 0x780C00000) : regionOf a = .tileData := by
  rw [regionOf, if_neg (by omega), if_neg (by omega), if_pos ⟨h, h2⟩]

theorem laneMask_tileData {a : Nat} (h : 0x780000000 ≤ a) (h2 : a < 0x780C00000) :
    laneMask a = if a % 4 = 3 then 0 else 0xFF := by rw [laneMask, regionOf_tileData h h2]

/-- A string stored in DRAM reads back (R11, R15). -/
theorem State.bytesAt_setBytes_dram (s : State) {a : Nat} {b : Bytes} (h : a + b.length ≤ 0x370000000) :
    (s.setBytes a b).bytesAt a b.length = b := by
  apply List.ext_getElem
  · simp [State.bytesAt]
  · intro i h1 h2
    simp only [State.bytesAt, List.getElem_map, List.getElem_range]
    rw [State.byteAt_setBytes_at s a b i h2, laneMask_dram (by omega), and_full]

/-! ### Bytes written one after the other -/

/-- Bytes stored at their addresses in order. -/
def State.setAll (s : State) (ps : List (Nat × Byte)) : State := ps.foldl (fun t p => t.setByte p.1 p.2) s

/-- Bytes g i at the addresses f i, for i below n. -/
def bytePairs (f : Nat → Nat) (g : Nat → Byte) (n : Nat) : List (Nat × Byte) := (List.range n).map fun i => (f i, g i)

theorem State.setAll_succ (s : State) (f : Nat → Nat) (g : Nat → Byte) (n : Nat) :
    s.setAll (bytePairs f g (n + 1)) = (s.setAll (bytePairs f g n)).setByte (f n) (g n) := by
  simp [State.setAll, bytePairs, List.range_succ]

theorem State.setAll_eq (s : State) (ps : List (Nat × Byte)) : s.setAll ps = { s with mem := (s.setAll ps).mem } := by
  induction ps generalizing s with
  | nil => rfl
  | cons p r ih => exact ih (s.setByte p.1 p.2)

/-- A byte at none of the addresses stays (R11). -/
theorem State.byteAt_setAll_other (s : State) (f : Nat → Nat) (g : Nat → Byte) {n a : Nat} (h : ∀ i, i < n → a ≠ f i) :
    (s.setAll (bytePairs f g n)).byteAt a = s.byteAt a := by
  induction n with
  | zero => rfl
  | succ n ih =>
    rw [State.setAll_succ, State.byteAt_setByte_other _ _ (h n (by omega)), ih fun i hi => h i (by omega)]

/-- At addresses that differ each byte reads back, cut to what its slot holds (R11, R16). -/
theorem State.byteAt_setAll_at (s : State) (f : Nat → Nat) (g : Nat → Byte) {n i : Nat} (hi : i < n)
    (hf : ∀ j k, j < k → k < n → f j ≠ f k) : (s.setAll (bytePairs f g n)).byteAt (f i) = g i &&& laneMask (f i) := by
  induction n with
  | zero => omega
  | succ n ih =>
    rw [State.setAll_succ]
    by_cases hn : i = n
    · rw [hn, State.byteAt_setByte_same]
    · rw [State.byteAt_setByte_other _ _ (hf i n (by omega) (by omega)), ih (by omega) fun j k hjk hk => hf j k hjk (by omega)]

end Sys2Proof.Machine

namespace Sys2Proof.Machine

/-! ### Writes over the bus to DRAM and tile data memory (R15, R16, R17) -/

/-- An address of DRAM or tile data memory, which every master may write. -/
def plainAddr (a : Nat) : Prop := regionOf a = .dram ∨ regionOf a = .tileData

theorem plainAddr_dram {a : Nat} (h : a < 0x370000000) : plainAddr a := .inl (regionOf_dram h)

theorem State.putByte_plain (s : State) {a : Nat} (h : plainAddr a) (v : Byte) : s.putByte a v = s.setByte a v := by
  rcases h with h | h <;> simp only [State.putByte, h]

theorem State.mayWrite_plain (s : State) (m : Nat) {a : Nat} (h : plainAddr a) : s.mayWrite m (regionOf a) = true := by
  rcases h with h | h <;> rw [h] <;> rfl

theorem State.memWrite_plain (s : State) (m : Nat) {ps : List (Nat × Byte)} (h : ∀ p ∈ ps, plainAddr p.1) :
    s.memWrite m ps = (s.setAll ps, false) := by
  have hfold : ∀ t : State, ps.foldl (fun (x : State × Bool) p =>
      if s.mayWrite m (regionOf p.1) then (x.1.putByte p.1 p.2, x.2) else (x.1, true)) (t, false) = (t.setAll ps, false) := by
    induction ps with
    | nil => exact fun _ => rfl
    | cons p r ih =>
      intro t
      have hp := h p List.mem_cons_self
      rw [List.foldl_cons, if_pos (s.mayWrite_plain m hp), t.putByte_plain hp]
      exact ih (fun q hq => h q (List.mem_cons_of_mem p hq)) _
  exact hfold s

/-- A write that meets no control register is made by the memories (R15, R17). -/
theorem State.busWrite_memory (s : State) (m : Nat) {ps : List (Nat × Byte)} (h : ∀ p ∈ ps, regionOf p.1 ≠ .control) :
    s.busWrite m ps = if (s.memWrite m ps).2 then (s.memWrite m ps).1.addrFault m else (s.memWrite m ps).1 := by
  have hctl : ∀ p ∈ ps, decide (regionOf p.1 = .control) = false := fun p hp => decide_eq_false (h p hp)
  have hall : ps.filter (fun p => !decide (regionOf p.1 = .control)) = ps :=
    List.filter_eq_self.mpr fun p hp => by rw [hctl p hp]; rfl
  have hnone : ps.filter (fun p => decide (regionOf p.1 = .control)) = [] :=
    List.filter_eq_nil_iff.mpr fun p hp => by rw [hctl p hp]; exact Bool.false_ne_true
  have hplain : ∀ t : State, t.ctlWrite m [] = (t, false) := fun _ => rfl
  simp only [State.busWrite, hall, hnone, hplain, Bool.or_false]

/-- A write that touches DRAM and tile data memory alone stores its bytes and does nothing else. -/
theorem State.busWrite_plain (s : State) (m : Nat) {ps : List (Nat × Byte)} (h : ∀ p ∈ ps, plainAddr p.1) :
    s.busWrite m ps = s.setAll ps := by
  have hmem : ∀ p ∈ ps, regionOf p.1 ≠ .control := fun p hp => by
    obtain hr | hr := h p hp <;> rw [hr] <;> decide
  rw [s.busWrite_memory m hmem, s.memWrite_plain m h]
  rfl

/-! ### The data space (R157) -/

/-- A load or store of the data space does its access, or stalls the engine on it (R187). -/
theorem State.runOp_data (s : State) (e : Nat) {op : EOp} (h : (s.eng e).dataAddr op ≠ none) :
    s.runOp e op = ((s.eng e).stalledLoad op).elim ((s.opBody e op).modEng e (·.past (opLen op)))
      fun r => s.setEng e { s.eng e with run := .stallLoad r } := by
  cases op
  case stw | stwi | stwL => rfl
  case ldw | ldwi | ldwL =>
    delta State.runOp
    dsimp only
    cases (s.eng e).stalledLoad _ <;> rfl
  all_goals exact absurd rfl h

/-- Outside the shared data memory and the I/O window nothing stalls. -/
theorem State.runOp_quiet {s : State} {e : Nat} {op : EOp} (h : (s.eng e).dataAddr op ≠ none) (hl : (s.eng e).stalledLoad op = none) :
    s.runOp e op = (s.opBody e op).modEng e (·.past (opLen op)) := by
  rw [State.runOp_data s e h, hl]
  rfl

theorem inFabric_local {a : W24} (h : a.toNat < 0x4000) : inFabric a = false := by
  simp only [inFabric, Bool.and_eq_false_iff, decide_eq_false_iff_not]
  omega

theorem inFabric_shared {a : W24} (h : 0x40000 ≤ a.toNat) (h2 : a.toNat < 0x80000) : inFabric a = true := by
  simp only [inFabric, Bool.and_eq_true, decide_eq_true_eq]
  omega

/-- A load names the address that it accesses. -/
theorem Engine.dataLoad_space {x : Engine} {op : EOp} {r : LoadReq} (h : x.dataLoad op = some r) : r.space = x.dataAddr op := by
  cases op
  case ldw | ldwi | ldwL => obtain rfl := Option.some.inj h; rfl
  all_goals cases h

theorem Engine.stalledLoad_local {x : Engine} {op : EOp} {a : W24} (ha : x.dataAddr op = some a) (h : a.toNat < 0x4000) :
    x.stalledLoad op = none := by
  rw [Engine.stalledLoad, Option.filter_eq_none_iff]
  intro r hr
  rw [Engine.dataLoad_space hr, ha]
  exact ne_true_of_eq_false (inFabric_local h)

theorem Engine.stalledLoad_shared {x : Engine} {op : EOp} {a : W24} {r : LoadReq} (hr : x.dataLoad op = some r)
    (ha : x.dataAddr op = some a) (h : 0x40000 ≤ a.toNat) (h2 : a.toNat < 0x80000) : x.stalledLoad op = some r := by
  rw [Engine.stalledLoad, hr, Option.filter_some, Engine.dataLoad_space hr, ha]
  exact if_pos (inFabric_shared h h2)

/-! ### Local memory (R157) -/

/-- The engine after an access's post-step, where it has one (R181). -/
def Engine.stepped (x : Engine) (p : Option (Reg × W24)) : Engine := p.elim x fun q => x.setReg q.1 q.2

theorem State.storeWord_stepped (s : State) (e : Nat) (a v : W24) (p : Option (Reg × W24)) :
    s.storeWord e a v p = (s.dataWrite e a v).modEng e (·.stepped p) := by cases p <;> rfl

theorem State.loadWord_local (s : State) (e : Nat) (rd : Reg) {a : W24} (p : Option (Reg × W24)) (h : a.toNat < 0x4000) :
    s.loadWord e rd a p = s.setEng e (((s.eng e).stepped p).setReg rd ((s.eng e).loc.look 0 a.toNat)) := by
  rw [State.loadWord_of_read (s.dataRead_local e a h)]
  cases p <;> rfl

theorem State.storeWord_local (s : State) (e : Nat) {a : W24} (v : W24) (p : Option (Reg × W24)) (h : a.toNat < 0x4000) :
    s.storeWord e a v p = s.setEng e (Engine.stepped { s.eng e with loc := (s.eng e).loc.store 0 a.toNat v } p) := by
  rw [State.storeWord_stepped, s.dataWrite_local e a v h]
  exact State.setEng_modEng s e _ _

/-- A load or store at a local address, issued to a free engine, replaces the engine alone. -/
theorem State.runOp_local {s : State} {e : Nat} {op : EOp} {a : W24} (ha : (s.eng e).dataAddr op = some a) (h : a.toNat < 0x4000)
    {y : Engine} (hbody : s.opBody e op = s.setEng e y) : s.runOp e op = s.setEng e (y.past (opLen op)) := by
  rw [State.runOp_quiet (ha ▸ Option.some_ne_none a) (Engine.stalledLoad_local ha h), hbody, State.setEng_modEng]

/-- Settles O12: each form is its access of the one word, and the engine alone is replaced. -/
theorem localMemoryAccesses : Obligations.LocalMemoryAccesses := by
  intro e rd ra u i s hfree x b word write out short long step
  have heng : (s.begins e).eng e = x := State.begins_eng s e
  have load : ∀ (op : EOp) (a : W24) (p : Option (Reg × W24)), x.dataAddr op = some a → a.toNat < 0x4000 →
      (s.begins e).opBody e op = (s.begins e).loadWord e rd a p →
      s.issueRead e 0 op = out (opLen op) ((x.stepped p).setReg rd (word a)) := by
    intro op a p ha h hbody
    rw [State.issueRead_good hfree, State.runOp_local (heng.symm ▸ ha) h (hbody.trans (State.loadWord_local _ e rd p h)), heng,
      State.begins_setEng]
  have store : ∀ (op : EOp) (a : W24) (p : Option (Reg × W24)), x.dataAddr op = some a → a.toNat < 0x4000 →
      (s.begins e).opBody e op = (s.begins e).storeWord e a (x.reg rd) p →
      s.issue e op = out (opLen op) ((write a).stepped p) := by
    intro op a p ha h hbody
    rw [State.issue_free hfree, State.runOp_local (heng.symm ▸ ha) h (hbody.trans (State.storeWord_local _ e _ p h)), heng,
      State.begins_setEng]
  refine ⟨fun h => ⟨load (.ldw rd ra u) short none rfl h ?_, store (.stw rd ra u) short none rfl h ?_⟩,
    fun h => ⟨load (.ldwL rd ra i) long none rfl h ?_, store (.stwL rd ra i) long none rfl h ?_⟩,
    fun h => ⟨load (.ldwi rd ra u) b (some (ra, step)) rfl h ?_, store (.stwi rd ra u) b (some (ra, step)) rfl h ?_⟩⟩
  all_goals simp only [State.opBody, heng]; rfl

/-! ### The shared data memory (R157, R187) -/

theorem State.modEng_modEng (s : State) (e : Nat) (f g : Engine → Engine) :
    (s.modEng e f).modEng e g = s.modEng e fun x => g (f x) := State.setEng_modEng s e _ g

/-- The word that a shared data address holds, from its three bytes (R5, R16). -/
theorem State.bytesAt_three (s : State) (a : Nat) :
    BitVec.ofNat 24 (leNat (s.bytesAt a 3)) = s.byteAt (a + 2) ++ s.byteAt (a + 1) ++ s.byteAt a := leNat_three _ _ _

/-- A shared data address of tile e / 8 is four bytes to the word behind the tile's window (R16). -/
theorem sharedAddr_eq (e a : Nat) : sharedAddr e a = 0x780000000 + e / 8 * 0x100000 + 4 * (a - 0x40000) := rfl

theorem laneMask_shared {e : Eng} {a : W24} (h : 0x40000 ≤ a.toNat) (h2 : a.toNat < 0x80000) {k : Nat} (hk : k < 3) :
    laneMask (sharedAddr e a.toNat + k) = 0xFF := by
  have he := e.isLt
  have heq := sharedAddr_eq e a.toNat
  have hlo : 0x780000000 ≤ sharedAddr e a.toNat + k := by omega
  have hhi : sharedAddr e a.toNat + k < 0x780C00000 := by omega
  have hk4 : (sharedAddr e a.toNat + k) % 4 ≠ 3 := by omega
  rw [laneMask_tileData hlo hhi, if_neg hk4]

/-- A word stored in the shared data memory: its three bytes and nothing else (R11, R16). -/
theorem State.setBytes_shared (s : State) {e : Eng} {a : W24} (h : 0x40000 ≤ a.toNat) (h2 : a.toNat < 0x80000) (v : W24) :
    (∀ k : Fin 3, (s.setBytes (sharedAddr e a.toNat) (toLE 3 v.toNat)).byteAt (sharedAddr e a.toNat + k) = v.extractLsb' (8 * k) 8) ∧
    ∀ k, k < sharedAddr e a.toNat ∨ sharedAddr e a.toNat + 3 ≤ k →
      (s.setBytes (sharedAddr e a.toNat) (toLE 3 v.toNat)).byteAt k = s.byteAt k := by
  refine ⟨fun k => ?_, fun k hk => State.byteAt_setBytes_other s _ _ _ (by rwa [toLE_length])⟩
  rw [State.byteAt_setBytes_at s _ _ _ (by rw [toLE_length]; exact k.isLt), laneMask_shared h h2 k.isLt, and_full, getElem_toLE,
    ofNat_div_pow]

theorem Engine.setRun_setReg (x : Engine) (c : EngRun) (r : Reg) (v : W24) :
    { x with run := c }.setReg r v = { x.setReg r v with run := c } := by
  unfold Engine.setReg
  split <;> rfl

theorem Engine.setRun_stepped (x : Engine) (c : EngRun) (p : Option (Reg × W24)) :
    Engine.stepped { x with run := c } p = { x.stepped p with run := c } := by
  cases p
  · rfl
  · exact Engine.setRun_setReg x c _ _

@[simp] theorem Engine.stepped_run (x : Engine) (p : Option (Reg × W24)) : (x.stepped p).run = x.run := by
  cases p
  · rfl
  · exact Engine.setReg_run x _ _

@[simp] theorem Engine.stepped_rpti (x : Engine) (p : Option (Reg × W24)) : (x.stepped p).rpti = x.rpti := by
  cases p
  · rfl
  · exact Engine.setReg_rpti x _ _

theorem Engine.setRun_self {x : Engine} {c : EngRun} (h : x.run = c) : { x with run := c } = x := by
  subst h
  rfl

theorem Engine.completed_of_rpti {x : Engine} (h : x.rpti = none) (n : Nat) : x.completed n = { x with run := .running }.past n := by
  rw [Engine.completed, h]

/-- The engine with its load's step and destination written. -/
def Engine.loads (x : Engine) (r : LoadReq) (v : W24) : Engine := (x.stepped r.step).setReg r.rd (extend r.size r.sext v)

theorem Engine.setRun_loads (x : Engine) (c : EngRun) (r : LoadReq) (v : W24) :
    Engine.loads { x with run := c } r v = { x.loads r v with run := c } := by
  rw [Engine.loads, Engine.setRun_stepped, Engine.setRun_setReg]
  rfl

@[simp] theorem Engine.loads_rpti (x : Engine) (r : LoadReq) (v : W24) : (x.loads r v).rpti = x.rpti := by
  rw [Engine.loads, Engine.setReg_rpti, Engine.stepped_rpti]

@[simp] theorem Engine.loads_run (x : Engine) (r : LoadReq) (v : W24) : (x.loads r v).run = x.run := by
  rw [Engine.loads, Engine.setReg_run, Engine.stepped_run]

/-- The data of an engine's load arrive outside a repetition: the engine runs on behind the load (R162). -/
theorem State.loaded_eq {s : State} {e : Nat} (h : (s.eng e).rpti = none) (r : LoadReq) (v : W24) :
    s.loaded e r v = s.setEng e ({ (s.eng e).loads r v with run := .running }.past r.len) := by
  have hcomp : ((s.eng e).loads r v).completed r.len = { (s.eng e).loads r v with run := .running }.past r.len :=
    Engine.completed_of_rpti (by rw [Engine.loads_rpti, h]) _
  rw [← hcomp]
  cases hp : r.step <;> simp only [State.loaded, State.modEng, Engine.loads, hp] <;> rfl

/-- A read kept by no level of the engine is none of a load's (R163). -/
theorem Engine.kept_of_none {x : Engine} (h : x.replay.look none x.level = none) (r : LoadReq) : x.kept r = none := by
  rw [Engine.kept, h]

/-- The word that a load of the shared data memory waits for arrives. -/
theorem State.loadReturn_shared {s : State} {e : Nat} {r : LoadReq} {a : W24} (hk : (s.eng e).kept r = none) (hs : r.space = some a)
    (h : 0x40000 ≤ a.toNat) (h2 : a.toNat < 0x80000) :
    s.loadReturn e r 0 = s.loaded e r (BitVec.ofNat 24 (leNat (s.bytesAt (sharedAddr e a.toNat) 3))) := by
  simp only [State.loadReturn, hk, hs, State.spaceReturn, State.eccRead, true_or, if_true, s.dataRead_shared e a h h2]

/-- A load that stalls its engine takes its data (R162). -/
theorem exec_loadDataReturn_stalled {s : State} {e : Eng} {r : LoadReq} (hrun : (s.eng e).run = .stallLoad r)
    (he : (s.eng e).e1 = none) (ecc : Fin 3) : exec (.loadDataReturn e ecc) s = .next (s.loadReturn e r ecc) := by
  rw [exec_loadDataReturn, execLoadDataReturn, hrun]
  simp only [he, Option.isNone_none, if_true]

/-- Settles O13: a store is one word written behind the step, a load a stall that the word's bytes end. -/
theorem sharedMemoryAccesses : Obligations.SharedMemoryAccesses := by
  intro e rd ra u i s hfree hreplay x b short long step d shared word stores loads
  have heng : (s.begins e).eng e = x := State.begins_eng s e
  have store : ∀ (op : EOp) (a : W24) (p : Option (Reg × W24)) (c : Instr), exec c s = s.issue e op → x.dataAddr op = some a →
      x.stalledLoad op = none → (s.begins e).opBody e op = (s.begins e).storeWord e a (x.reg rd) p → shared a →
      stores c a ((x.stepped p).past (opLen op)) := by
    rintro op a p c hc ha hstall hbody ⟨hlo, hhi⟩
    have hrun : (s.begins e).runOp e op = ((s.begins e).setBytes (sharedAddr e a.toNat) (toLE 3 (x.reg rd).toNat)).modEng e
        fun y => (y.stepped p).past (opLen op) := by
      rw [State.runOp_quiet (by rw [heng, ha]; exact Option.some_ne_none a) (by rw [heng, hstall]), hbody, State.storeWord_stepped,
        State.dataWrite_shared _ _ _ _ hlo hhi, State.modEng_modEng]
    obtain ⟨hword, hframe⟩ := (s.begins e).setBytes_shared hlo hhi (x.reg rd)
    refine ⟨_, (hc.trans (State.issue_free hfree op)).trans (congrArg _ hrun), ?_, hword, hframe, rfl, fun k hk => ?_⟩
    · rw [State.eng_modEng_same]
      exact congrArg (fun y : Engine => (y.stepped p).past (opLen op)) heng
    · rw [State.eng_modEng_other _ _ hk]
      exact State.eng_modEng_other _ _ hk
  have load : ∀ (op : EOp) (a : W24) (r : LoadReq) (c : Instr), exec c s = s.issueRead e 0 op → x.dataAddr op = some a →
      x.dataLoad op = some r → shared a → loads c ((x.loads r (word a)).past r.len) := by
    rintro op a r c hc ha hr ⟨hlo, hhi⟩
    have hspace : r.space = some a := (Engine.dataLoad_space hr).trans ha
    have hrun : (s.begins e).runOp e op = s.setEng e { x with run := .stallLoad r } := by
      rw [State.runOp_data _ _ (by rw [heng, ha]; exact Option.some_ne_none a), heng, Engine.stalledLoad_shared hr ha hlo hhi]
      exact State.begins_setEng s e _
    refine ⟨_, (hc.trans (State.issueRead_good hfree op)).trans (congrArg _ hrun), onlyEngine_setEng s e _, ?_, ?_, ?_⟩
    · rw [State.eng_setEng_same]
    · rw [State.eng_setEng_same]
      exact fun _ => rfl
    have hstalled : ((s.setEng e { x with run := .stallLoad r }).eng e) = { x with run := .stallLoad r } := State.eng_setEng_same s e _
    have hret := exec_loadDataReturn_stalled (s := s.setEng e { x with run := .stallLoad r }) (r := r) (by rw [hstalled])
      (by rw [hstalled]; exact State.engFree_e1 hfree) 0
    rw [State.loadReturn_shared (by rw [hstalled]; exact Engine.kept_of_none hreplay r) hspace hlo hhi,
      State.loaded_eq (by rw [hstalled]; exact State.engFree_rpti hfree), State.bytesAt_three, hstalled, Engine.setRun_loads] at hret
    refine ⟨_, hret, (onlyEngine_setEng s e _).setEng _, ?_⟩
    rw [State.eng_setEng_same]
    have hkeep : (x.loads r (word a)).run = .running := (Engine.loads_run x r _).trans (State.engFree_run hfree)
    exact congrArg (Engine.past · r.len) (Engine.setRun_self hkeep)
  refine ⟨fun h => ⟨store (.stw rd ra u) short none _ rfl rfl rfl ?_ h, load (.ldw rd ra u) short _ _ rfl rfl rfl h⟩,
    fun h => ⟨store (.stwL rd ra i) long none _ rfl rfl rfl ?_ h, load (.ldwL rd ra i) long _ _ rfl rfl rfl h⟩,
    fun h => ⟨store (.stwi rd ra u) b (some (ra, step)) _ rfl rfl rfl ?_ h, load (.ldwi rd ra u) b _ _ rfl rfl rfl h⟩⟩
  all_goals simp only [State.opBody, heng]; rfl

end Sys2Proof.Machine

namespace Sys2Proof.Machine

/-! ### Bytes read over the bus from DRAM (R5, R20) -/

theorem byteAddr_zero (a : DevAddr) : byteAddr a 0 = a := by
  have happ : a.extractLsb' 24 11 ++ a.extractLsb' 0 24 = a := by
    ext k hk
    simp
    grind
  rw [byteAddr, devAddr, BitVec.add_zero, happ]

theorem State.devByte_dram (s : State) {a : Nat} (h : a < 0x370000000) : s.devByte a = s.byteAt a := by
  simp only [State.devByte, regionOf_dram h]

/-- An engine without a posted store loads what memory holds (R162). -/
theorem State.loadByte_of_not_posted {s : State} {e : Nat} (h : (s.eng e).posted = []) (a : Nat) : s.loadByte e a = s.devByte a := by
  rw [State.loadByte, h]
  rfl

/-- A read of DRAM changes nothing. -/
theorem State.busRead_dram (s : State) (m : Nat) {as : List Nat} (h : ∀ a ∈ as, a < 0x370000000) : (s.busRead m as).2 = s := by
  have hctl : as.filter (fun a => decide (regionOf a = .control)) = [] := List.filter_eq_nil_iff.mpr fun a ha => by
    rw [regionOf_dram (h a ha)]
    decide
  have hun : as.any (fun a => decide (regionOf a = .unassigned)) = false := List.any_eq_false.mpr fun a ha => by
    rw [regionOf_dram (h a ha)]
    decide
  simp only [State.busRead, hctl, hun]
  rfl

/-- A load from DRAM by an engine without a posted store (R161, R162). -/
theorem State.loadMem_dram {s : State} {e : Nat} (h : (s.eng e).posted = []) {a : DevAddr} {n : Nat}
    (hd : ∀ i, i < n → (byteAddr a i).toNat < 0x370000000) :
    s.loadMem e a n = (BitVec.ofNat 24 (leNat ((List.range n).map fun i => s.byteAt (byteAddr a i).toNat)), s) := by
  have hin : ∀ x ∈ accessBytes a n, x < 0x370000000 := by
    intro x hx
    obtain ⟨i, hi, rfl⟩ := List.mem_map.mp hx
    exact hd i (List.mem_range.mp hi)
  have hbytes : (accessBytes a n).map (s.loadByte e) = (List.range n).map fun i => s.byteAt (byteAddr a i).toNat := by
    rw [accessBytes, List.map_map]
    apply List.map_congr_left
    intro i hi
    exact (State.loadByte_of_not_posted h _).trans (s.devByte_dram (hd i (List.mem_range.mp hi)))
  rw [State.loadMem, hbytes, s.busRead_dram e hin]

/-- The data of a load from DRAM arrive. -/
theorem State.loadReturn_dram {s : State} {e : Nat} {r : LoadReq} (hk : (s.eng e).kept r = none) (hs : r.space = none)
    (h : r.addr.toNat < 0x370000000) :
    s.loadReturn e r 0 = (s.loadMem e r.addr r.size).2.loaded e r (s.loadMem e r.addr r.size).1 := by
  simp only [State.loadReturn, hk, hs, regionOf_dram h, if_true]

/-! ### A load and its data (R161, R162) -/

theorem State.issue_ld {s : State} {e : Nat} (h : s.engFree e = true) (o : LdOp) (rd : Reg) (b : BankReg) (ra : Reg) (v : BitVec 18) :
    s.issue e (.ld o rd b ra v) = .next (s.setEng e { (s.eng e).begun with run := .stallLoad {
      rd := rd, addr := devAddr ((s.eng e).begun.bank b) ((s.eng e).begun.reg ra + s18w v), size := ldSize o, sext := ldSigned o } }) :=
  State.issue_setEng (fun x => { x with run := .stallLoad {
    rd := rd, addr := devAddr (x.bank b) (x.reg ra + s18w v), size := ldSize o, sext := ldSigned o } }) rfl h

/-- The engine after a store: behind it with the store posted, or STALLED on it (R162). -/
def Engine.afterStore (x : Engine) (p : Posted) : Engine :=
  if x.posted.length < 8 then { x with posted := x.posted ++ [p], pc := x.pc + 2 } else { x with run := .stallStore p [] }

theorem Engine.post_afterStore {x : Engine} (h : x.run = .running) (p : Posted) :
    (if (x.post p).run = .running then (x.post p).past 2 else x.post p) = x.afterStore p := by
  by_cases hroom : x.posted.length < 8
  · rw [Engine.post, Engine.afterStore, if_pos hroom, if_pos hroom]
    exact if_pos h
  · rw [Engine.post, Engine.afterStore, if_neg hroom, if_neg hroom]
    exact if_neg nofun

theorem State.issue_st {s : State} {e : Nat} (h : s.engFree e = true) (o : StOp) (rs : Reg) (b : BankReg) (ra : Reg) (v : BitVec 18) :
    s.issue e (.st o rs b ra v) = .next (s.setEng e ((s.eng e).begun.afterStore ((s.eng e).begun.storeOf o rs b ra v))) := by
  rw [← Engine.post_afterStore (show (s.eng e).begun.run = .running from State.engFree_run h)]
  exact State.issue_setEng (fun x => if (x.post (x.storeOf o rs b ra v)).run = .running then (x.post (x.storeOf o rs b ra v)).past 2
    else x.post (x.storeOf o rs b ra v)) rfl h

/-- Settles O20: the load is issued as a stall on its bytes, and those of DRAM come back through `extend`. -/
theorem loadsStallAndReturn : Obligations.LoadsStallAndReturn := by
  refine ⟨?stall, ?data⟩
  case stall =>
    intro e rd ra b v s h x a out
    have load := fun o => State.issue_ld h o rd b ra v
    exact ⟨load .b, load .bs, load .h, load .hs, load .t⟩
  case data =>
    intro e r s x at_ hrun he hr hp hreplay hspace hstep hlen hsize hd
    have haddr : r.addr.toNat < 0x370000000 := byteAddr_zero r.addr ▸ hd 0 (by decide)
    have hret := exec_loadDataReturn_stalled hrun he 0
    rw [State.loadReturn_dram (Engine.kept_of_none hreplay r) hspace haddr, State.loadMem_dram hp fun i hi => hd i (by omega),
      State.loaded_eq hr] at hret
    refine ⟨_, hret, onlyEngine_setEng s e _, ?_⟩
    rw [State.eng_setEng_same]
    have hreg : ∀ (w : W24) (k : Reg), (Engine.past { x.loads r w with run := .running } r.len).reg k =
        (x.setReg r.rd (extend r.size r.sext w)).reg k := fun w k => by
      rw [Engine.loads, hstep]
      rfl
    refine ⟨rfl, ?pc, fun k hk => ?other, fun h0 h1 => ?one, fun h0 h2 => ?two, fun h0 h3 => ?three⟩
    case pc =>
      rw [hlen]
      exact congrArg (· + 2) ((Engine.setReg_pc _ _ _).trans (congrArg Engine.pc (by rw [hstep]; rfl)))
    case other => exact (hreg _ k).trans (Engine.reg_setReg_other x _ hk)
    case one =>
      rw [hreg, Engine.reg_setReg_same x _ _ h0, h1]
      exact congrArg (fun w : Byte => if r.sext then w.signExtend 24 else w.setWidth 24) (leNat_one (at_ 0))
    case two =>
      rw [hreg, Engine.reg_setReg_same x _ _ h0, h2]
      exact congrArg (fun w : BitVec 16 => if r.sext then w.signExtend 24 else w.setWidth 24) (leNat_two (at_ 0) (at_ 1))
    case three =>
      rw [hreg, Engine.reg_setReg_same x _ _ h0, h3]
      exact leNat_three (at_ 0) (at_ 1) (at_ 2)

/-! ### Posted stores reach DRAM (R162, R175) -/

theorem zip_accessBytes (p : Posted) :
    (accessBytes p.addr p.size).zip ((List.range p.size).map fun i => p.data.extractLsb' (8 * i) 8) =
      bytePairs (fun i => (byteAddr p.addr i).toNat) (fun i => p.data.extractLsb' (8 * i) 8) p.size := by
  rw [accessBytes, List.zip_map', bytePairs]

/-- The bytes of an access of up to three bytes lie apart (R20). -/
theorem byteAddr_ne {a : DevAddr} {j k : Nat} (hjk : j < k) (hk : k < 3) : (byteAddr a j).toNat ≠ (byteAddr a k).toNat := by
  have hlo : ∀ i, (byteAddr a i).toNat = (a.extractLsb' 24 11).toNat * 2 ^ 24 + ((a.extractLsb' 0 24).toNat + i) % 2 ^ 24 := fun i => by
    rw [byteAddr, devAddr_toNat, BitVec.toNat_add, BitVec.toNat_ofNat, Nat.add_mod_mod]
  rw [hlo j, hlo k]
  omega

/-- The oldest posted store to DRAM is made (R162). -/
theorem State.drainOne_dram {s : State} {e : Nat} {p : Posted} {rest : List Posted} (h : (s.eng e).posted = p :: rest)
    (hd : ∀ i, i < p.size → (byteAddr p.addr i).toNat < 0x370000000) :
    s.drainOne e = (s.setEng e { s.eng e with posted := rest }).setAll
      (bytePairs (fun i => (byteAddr p.addr i).toNat) (fun i => p.data.extractLsb' (8 * i) 8) p.size) := by
  have hplain : ∀ q ∈ bytePairs (fun i => (byteAddr p.addr i).toNat) (fun i => p.data.extractLsb' (8 * i) 8) p.size, plainAddr q.1 := by
    intro q hq
    obtain ⟨i, hi, rfl⟩ := List.mem_map.mp hq
    exact plainAddr_dram (hd i (List.mem_range.mp hi))
  simp only [State.drainOne, h]
  rw [zip_accessBytes, State.busWrite_plain _ _ hplain]
  rfl

theorem Engine.unstall_running {x : Engine} (h : x.run = .running) : x.unstall = x := by
  simp only [Engine.unstall, h]

/-- A tile that runs and is not asked to be banked does not wait for a store (R175). -/
theorem State.bankWaits_none {s : State} {t : Nat} (h : (s.tile t).pwrReq ≠ 1 ∨ (s.tile t).power ≠ .run) : s.bankWaits t = s :=
  if_neg fun ⟨h1, h2⟩ => h.elim (· h1) (· h2)

/-- Settles O21: a store is posted or stalls its engine; drained, it writes its bytes at their addresses in turn. -/
theorem storesPostAndReachMemory : Obligations.StoresPostAndReachMemory := by
  refine ⟨?post, ?drain⟩
  case post =>
    intro e rs ra b v s h x p out
    have store := fun o => State.issue_st h o rs b ra v
    exact ⟨store .b, store .h, store .t⟩
  case drain =>
    intro e p rest s x g hrun hp hsize hd hbank
    let fetch := fun i => (byteAddr p.addr i).toNat
    let data := fun i => p.data.extractLsb' (8 * i) 8
    let t := (s.setEng e { x with posted := rest }).setAll (bytePairs fetch data p.size)
    have ht : t = { s.setEng e { x with posted := rest } with mem := t.mem } := State.setAll_eq _ _
    have heng : t.eng e = { x with posted := rest } := by
      rw [ht]
      exact State.eng_setEng_same s e _
    have hrun2 : (t.eng e).run = .running := by rw [heng]; exact hrun
    have hself : t.modEng e Engine.unstall = t.setEng e (t.eng e) := by rw [State.modEng, Engine.unstall_running hrun2]
    have hwait : (t.modEng e Engine.unstall).bankWaits (tileOf e) = t.modEng e Engine.unstall := by
      refine State.bankWaits_none ?_
      rw [ht]
      exact hbank
    refine ⟨t.setEng e (t.eng e), ?_, ?_, ?_, fun i hi => ?_, fun a ha => ?_⟩
    · rw [exec_storeBufferDrain, execStoreBufferDrain, State.drainOne_dram hp hd]
      exact congrArg _ (hwait.trans hself)
    · rw [State.eng_setEng_same, heng]
    · rw [ht]
      rfl
    · exact (State.byteAt_setAll_at (s.setEng e { x with posted := rest }) fetch data hi fun j k hjk hk => byteAddr_ne hjk (by omega)).trans
        (by rw [laneMask_dram (hd i hi), and_full])
    · exact State.byteAt_setAll_other (s.setEng e { x with posted := rest }) fetch data ha

end Sys2Proof.Machine

namespace Sys2Proof.Machine

/-! ### ADDI of 1 under RPT and RPTI (R190, R191) -/

/-- The engine after k additions of 1 to rd. -/
def Engine.counted (rd : Reg) : Nat → Engine → Engine
  | 0, x => x
  | k + 1, x => (Engine.counted rd k x).setReg rd ((Engine.counted rd k x).reg rd + 1)

/-- The additions change rd and nothing else. -/
theorem Engine.counted_reg {rd : Reg} (h : rd ≠ 0) (k : Nat) (x : Engine) : (x.counted rd k).reg rd = x.reg rd + BitVec.ofNat 24 k := by
  induction k with
  | zero => exact (BitVec.add_zero _).symm
  | succ k ih =>
    rw [Engine.counted, Engine.reg_setReg_same _ _ _ h, ih, BitVec.add_assoc, BitVec.ofNat_add]
    rfl

theorem Engine.counted_keeps {α : Type} {rd : Reg} {f : Engine → α} (h : ∀ (y : Engine) (v : W24), f (y.setReg rd v) = f y)
    (k : Nat) (x : Engine) : f (x.counted rd k) = f x := by
  induction k with
  | zero => rfl
  | succ k ih => rw [Engine.counted, h, ih]

theorem State.opBody_count (s : State) (e : Nat) (rd : Reg) (x : Engine) (k : Nat) :
    (s.setEng e (x.counted rd k)).opBody e (.addi rd 1) = s.setEng e (x.counted rd (k + 1)) := by
  simp only [State.opBody, State.eng_setEng_same, State.setEng_setEng]
  rfl

/-- RPT walks through the engines of n additions and ends behind the pair (R190). -/
theorem State.rptLoop_count (s : State) (e : Nat) (rd : Reg) (x : Engine) (n k : Nat) :
    (s.setEng e (x.counted rd k)).rptLoop e (.addi rd 1) none n k = s.setEng e ((x.counted rd (k + n)).past 2) := by
  induction n generalizing k with
  | zero => rw [State.rptLoop, State.setEng_modEng]; rfl
  | succ n ih =>
    have hstep : (s.setEng e (x.counted rd k)).rptLoop e (.addi rd 1) none (n + 1) k =
        ((s.setEng e (x.counted rd k)).opBody e (.addi rd 1)).rptLoop e (.addi rd 1) none n (k + 1) := rfl
    rw [hstep, State.opBody_count, ih (k + 1), Nat.add_right_comm, Nat.add_assoc]

/-- RPTI walks through n additions of a running engine to what is left (R191, R192). -/
theorem State.rptiLoop_count (s : State) (e : Nat) {rd : Reg} {x : Engine} (hrun : x.run = .running) (n k left : Nat) :
    (s.setEng e (x.counted rd k)).rptiLoop e (.addi rd 1) none none n k (left + n) =
      (s.setEng e (x.counted rd (k + n))).rptiLoop e (.addi rd 1) none none 0 (k + n) left := by
  induction n generalizing k with
  | zero => rfl
  | succ n ih =>
    have hrun2 : (x.counted rd (k + 1)).run = .running :=
      (Engine.counted_keeps (f := Engine.run) (fun y v => Engine.setReg_run y rd v) (k + 1) x).trans hrun
    have hgo : ((((s.setEng e (x.counted rd k)).opBody e (.addi rd 1)).eng e).run == .running) = true := by
      rw [State.opBody_count, State.eng_setEng_same, hrun2]
      rfl
    have hstep : (s.setEng e (x.counted rd k)).rptiLoop e (.addi rd 1) none none (n + 1) k (left + (n + 1)) =
        ((s.setEng e (x.counted rd k)).opBody e (.addi rd 1)).rptiLoop e (.addi rd 1) none none n (k + 1) (left + n) :=
      if_pos hgo
    rw [hstep, State.opBody_count, ih (k + 1), Nat.add_right_comm, Nat.add_assoc]

/-- An interrupt entry of a RUNNING engine between two repetitions leaves the rest in RC (R192). -/
theorem exec_interruptEntry_repeating {s : State} {e : Eng} {n : Src} {l : BitVec 2} {v : W18} {c : W24} (hrun : (s.eng e).run = .running)
    (hr : (s.eng e).rpti = some c) (he : (s.eng e).e1 = some (n, l, v)) :
    exec (.interruptEntry e) s = .next (s.setEng e { s.eng e with
      ipc := (s.eng e).ipc.put l.toNat (s.eng e).pc, istat := (s.eng e).istat.put l.toNat (s.eng e).ie
      act := (s.eng e).act ||| (1#4 <<< l.toNat), pc := v, run := .running, e1 := none, entered := true, rc := c, rpti := none }) := by
  have hsettle : s.settleRead e = s := by simp only [State.settleRead, hrun]
  have hab : s.abandon e = s.setEng e { s.eng e with rc := c, rpti := none } := by
    simp only [State.abandon, hrun, State.modEng, hr, Option.getD_some]
  rw [exec_interruptEntry, execInterruptEntry, hsettle, if_pos (by rw [he]; rfl)]
  simp only [State.enterLevel, he, hab, State.setEng_modEng]

theorem exec_rpt_count {s : State} {e : Eng} (h : s.engFree e = true) (nm1 : BitVec 6) (rd : Reg) :
    exec (.rpt e nm1 (.addi rd 1) none) s =
      .next ((s.setEng e ((s.eng e).begun.counted rd 0)).rptLoop e (.addi rd 1) none (nm1.toNat + 1) 0) := by
  have hbegin : s.begins e = s.setEng e ((s.eng e).begun.counted rd 0) := rfl
  have hok : rptOk (.addi rd 1) = true := rfl
  have hplain : (s.begins e).publishTimes e (nm1.toNat + 1) (.addi rd 1) = none := rfl
  simp only [exec_rpt, execRpt, if_pos h, hok, if_true, hplain, ← hbegin]

theorem exec_rpti_count {s : State} {e : Eng} (h : s.engFree e = true) (rd : Reg) (stop : Option Nat) :
    exec (.rpti e (.addi rd 1) stop ⟨none, none⟩) s = .next ((s.setEng e ((s.eng e).begun.counted rd 0)).rptiLoop e (.addi rd 1) none none
      (stop.elim (s.eng e).rc.toNat fun k => min k (s.eng e).rc.toNat) 0 (s.eng e).rc.toNat) := by
  have hleft : (((s.begins e).eng e).rpti.getD ((s.begins e).eng e).rc).toNat = (s.eng e).rc.toNat := by
    rw [State.begins_eng, show (s.eng e).begun.rpti = none from State.engFree_rpti h]
    rfl
  have hruns : s.engRuns e = true := by
    simp only [State.engFree, Bool.and_eq_true] at h
    exact h.1
  have hbegin : s.begins e = s.setEng e ((s.eng e).begun.counted rd 0) := rfl
  have hcase : (s.begins e).rptiCase e (.addi rd 1) = none := rfl
  have hplain : ∀ n, (s.begins e).publishTimes e n (.addi rd 1) = none := fun _ => rfl
  simp only [exec_rpti, execRpti, if_pos hruns, hcase, hplain, hleft, ← hbegin]
  cases stop <;> rfl

/-- The engine of k additions that ends behind the pair. -/
theorem Engine.counted_end {x : Engine} {rd : Reg} (h : rd ≠ 0) (k : Nat) (r : Option W24) :
    let y := Engine.past { x.begun.counted rd k with rpti := r } 2
    y.reg rd = x.reg rd + BitVec.ofNat 24 k ∧ y.pc = x.pc + 2 ∧ y.rc = x.rc :=
  ⟨Engine.counted_reg h k x.begun,
    congrArg (· + 2) (Engine.counted_keeps (f := Engine.pc) (fun y v => Engine.setReg_pc y rd v) k x.begun),
    Engine.counted_keeps (f := Engine.rc) (fun y v => Engine.setReg_rc y rd v) k x.begun⟩

/-- An RPTI of ADDI 1 that is not interrupted ends its repetitions (R191). -/
theorem exec_rpti_count_all {s : State} {e : Eng} (h : s.engFree e = true) (rd : Reg) :
    exec (.rpti e (.addi rd 1) none ⟨none, none⟩) s =
      .next (s.setEng e (Engine.past { (s.eng e).begun.counted rd (s.eng e).rc.toNat with rpti := none } 2)) := by
  have hwalk := State.rptiLoop_count s e (rd := rd) (x := (s.eng e).begun) (State.engFree_run h) (s.eng e).rc.toNat 0 0
  rw [Nat.zero_add] at hwalk
  rw [exec_rpti_count h, Option.elim_none, hwalk, State.rptiLoop, if_pos rfl, State.setEng_modEng]
  rfl

/-- An RPTI of ADDI 1 that is interrupted before its repetition k keeps the rest (R192). -/
theorem exec_rpti_count_cut {s : State} {e : Eng} (h : s.engFree e = true) (rd : Reg) {k : Nat} (hk : k < (s.eng e).rc.toNat) :
    exec (.rpti e (.addi rd 1) (some k) ⟨none, none⟩) s =
      .next (s.setEng e { (s.eng e).begun.counted rd k with rpti := some (BitVec.ofNat 24 ((s.eng e).rc.toNat - k)) }) := by
  have hwalk := State.rptiLoop_count s e (rd := rd) (x := (s.eng e).begun) (State.engFree_run h) k 0 ((s.eng e).rc.toNat - k)
  rw [Nat.sub_add_cancel (Nat.le_of_lt hk), Nat.zero_add] at hwalk
  rw [exec_rpti_count h, Option.elim_some, Nat.min_eq_left (Nat.le_of_lt hk), hwalk, State.rptiLoop, if_neg (by omega), State.setEng_modEng]

/-- Settles O18: n repetitions are n additions; an RPTI stopped after k of them keeps the rest, which the entry puts into RC. -/
theorem repeatsAndTheirInterrupt : Obligations.RepeatsAndTheirInterrupt := by
  refine ⟨?whole, ?cut⟩
  case whole =>
    intro e nm1 rd s h h0 x
    refine ⟨⟨_, (exec_rpt_count h nm1 rd).trans (congrArg _ (State.rptLoop_count s e rd _ _ 0)), onlyEngine_setEng s e _, ?_⟩,
      ⟨_, exec_rpti_count_all h rd, onlyEngine_setEng s e _, ?_⟩⟩
    · rw [State.eng_setEng_same, Nat.zero_add]
      exact Engine.counted_end h0 (nm1.toNat + 1) _
    · rw [State.eng_setEng_same]
      obtain ⟨hreg, hpc, hrc⟩ := Engine.counted_end (x := x) h0 x.rc.toNat none
      exact ⟨hreg.trans (by rw [BitVec.ofNat_toNat, BitVec.setWidth_eq]), hpc, hrc, rfl⟩
  case cut =>
    intro e rd k n l v s h h0 x hk
    have hpc : (x.begun.counted rd k).pc = x.pc := Engine.counted_keeps (f := Engine.pc) (fun y w => Engine.setReg_pc y rd w) k x.begun
    have hrun : (x.begun.counted rd k).run = .running :=
      (Engine.counted_keeps (f := Engine.run) (fun y w => Engine.setReg_run y rd w) k x.begun).trans (State.engFree_run h)
    refine ⟨_, exec_rpti_count_cut h rd hk, ?_, ?_⟩
    · rw [State.eng_setEng_same]
      exact hpc
    rw [State.setEng_modEng]
    have hentry := exec_interruptEntry_repeating (s := s.setEng e { x.begun.counted rd k with
      rpti := some (BitVec.ofNat 24 (x.rc.toNat - k)), e1 := some (n, l, v) }) (e := e) (n := n) (l := l) (v := v)
      (c := BitVec.ofNat 24 (x.rc.toNat - k)) (by rw [State.eng_setEng_same]; exact hrun) (by rw [State.eng_setEng_same])
      (by rw [State.eng_setEng_same])
    refine ⟨_, hentry, ?_⟩
    simp only [State.eng_setEng_same]
    refine ⟨Engine.counted_reg h0 k x.begun, ?_, ?_, trivial, ?_⟩
    · have hlt := x.rc.isLt
      rw [BitVec.toNat_ofNat]
      omega
    · rw [Tab.look_put_same]
      exact hpc
    · have hl := l.isLt
      simp [hl]

end Sys2Proof.Machine

namespace Sys2Proof.Machine

/-! ### A customer opcode of one ADD and a COMMIT (R200, R204, R205) -/

/-- The micro-word that adds RA and IMM18 into T0. -/
def addWord : BitVec 72 := 0x5241#72
/-- The micro-word that commits T0 to RD. -/
def commitWord : BitVec 72 := 0x1000000000003F#72

theorem State.microRun_add (s : State) (e : Nat) (c : CustArgs) {cut : Option Nat} {i : Nat} (h : (cut.any fun k => decide (k ≤ i)) = false)
    (rest : List (Nat × BitVec 72)) (t : Tab W24) :
    s.microRun e c cut none none ((i, addWord) :: rest) 0 t =
      s.microRun e c cut none none rest 0 (t.put 0 ((s.eng e).reg c.ra + s18w c.imm)) := by
  rw [State.microRun, h]
  rfl

theorem State.microRun_commit (s : State) (e : Nat) (c : CustArgs) (i : Nat) (rest : List (Nat × BitVec 72)) (t : Tab W24) :
    s.microRun e c none none none ((i, commitWord) :: rest) 0 t = .commit t commitWord s := by
  rw [State.microRun]
  rfl

/-- An interrupt at a boundary leaves nothing of the sequence (R205). -/
theorem State.microRun_cut (s : State) (e : Nat) (c : CustArgs) {i k : Nat} (h : k ≤ i) (w : BitVec 72) (rest : List (Nat × BitVec 72))
    (t : Tab W24) : s.microRun e c (some k) none none ((i, w) :: rest) 0 t = .again s := by
  rw [State.microRun, if_neg (by decide), Option.any_some, if_pos (by simpa using h)]

theorem State.commit_commitWord (s : State) (e : Nat) (c : CustArgs) (t : Tab W24) :
    s.commit e c t commitWord = s.setEng e ((s.eng e).setReg c.rd (t.look 0 0)) := rfl

/-- The sequence of an entry of two micro-words (R200). -/
theorem TileSt.sequence_two {x : TileSt} {d : DecEntry} {v w : BitVec 72} (hlen : d.lenM1 = 1) (hv : x.micro.look 0 d.start.toNat = v)
    (hw : x.micro.look 0 (d.start.toNat + 1) = w) : x.sequence d = [(0, v), (1, w)] := by
  rw [TileSt.sequence, hlen, ← hv, ← hw]
  rfl

theorem State.custCase_valid {s : State} {e : Nat} {n : Reg} (hvalid : ((s.tile (tileOf e)).entries.look {} n).valid = true)
    (hbank : ((s.tile (tileOf e)).entries.look {} n).xBank = true) (x : BitVec 2) : s.custCase e n x = none := by
  simp only [State.custCase, hvalid, hbank]
  rfl

/-- An opcode without a loaded entry (R204). -/
theorem State.custCase_invalid {s : State} {e : Nat} {n : Reg} (hvalid : ((s.tile (tileOf e)).entries.look {} n).valid = false)
    (x : BitVec 2) : s.custCase e n x = some 5 := by
  simp only [State.custCase, hvalid]
  rfl

section
variable {s : State} {e : Nat} {n : Reg} {c : CustArgs} {cut micro data : Option Nat}

/-- The sequence of customer opcode n run on its operands. -/
def State.custRun (s : State) (e : Nat) (n : Reg) (c : CustArgs) (cut micro data : Option Nat) : MicroEnd :=
  s.microRun e c cut micro data ((s.tile (tileOf e)).sequence ((s.tile (tileOf e)).entries.look {} n)) 0 []

theorem State.custom_commit (hcase : s.custCase e n (BitVec.ofFin c.x) = none) {t : Tab W24} {w : BitVec 72} {u : State}
    (h : s.custRun e n c cut micro data = .commit t w u) : s.custom e n c cut micro data = (u.commit e c t w, true) := by
  rw [State.custRun] at h
  simp only [State.custom, hcase, h]

theorem State.custom_again (hcase : s.custCase e n (BitVec.ofFin c.x) = none) {u : State}
    (h : s.custRun e n c cut micro data = .again u) : s.custom e n c cut micro data = (u, false) := by
  rw [State.custRun] at h
  simp only [State.custom, hcase, h]

theorem State.custom_fault {k : Nat} (hcase : s.custCase e n (BitVec.ofFin c.x) = some k) :
    s.custom e n c cut micro data = (s.custFault e k, false) := by
  simp only [State.custom, hcase]

end

/-- A customer opcode issued to a free engine. -/
theorem exec_customerOpcode_free {s : State} {e : Eng} (h : s.engFree e = true) (n rd ra : Reg) (x : BitVec 2) (v : BitVec 18)
    (events : MicroEvents) (data : Option Nat) {r : State × Bool}
    (hr : (s.begins e).custom e n { rd := rd, ra := ra, x := x.toFin, imm := v } events.cut events.error data = r) :
    exec (.customerOpcode e n rd ra x v events data) s =
      .next (if r.2 && (r.1.eng e).run == .running then r.1.modEng e (·.past 2) else r.1) := by
  subst hr
  rw [exec_customerOpcode, execCustomerOpcode, if_pos h]

/-- Settles O22: the two micro-words of the sequence are run, cut at a boundary, or not there. -/
theorem customerOpcodes : Obligations.CustomerOpcodes := by
  intro e n rd ra x v s h y w d
  let c : CustArgs := { rd := rd, ra := ra, x := x.toFin, imm := v }
  have heng : (s.begins e).eng e = y := State.begins_eng s e
  refine ⟨fun hvalid hbank hlen hadd hcommit => ?loaded, fun hvalid => ?illegal⟩
  case loaded =>
    have hcase : (s.begins e).custCase e n (BitVec.ofFin c.x) = none := State.custCase_valid (s := s.begins e) hvalid hbank _
    have hseq : ((s.begins e).tile (tileOf e)).sequence (((s.begins e).tile (tileOf e)).entries.look {} n) = [(0, addWord), (1, commitWord)] :=
      TileSt.sequence_two hlen hadd hcommit
    refine ⟨?whole, fun k hk => ?cut⟩
    case whole =>
      have hrun : (s.begins e).custRun e n c none none none =
          .commit (Tab.put [] 0 (y.reg ra + s18w v)) commitWord (s.begins e) := by
        rw [State.custRun, hseq, State.microRun_add _ _ _ rfl, State.microRun_commit, heng]
      rw [exec_customerOpcode_free h n rd ra x v ⟨none, none⟩ none (State.custom_commit hcase hrun), State.commit_commitWord, heng,
        State.begins_setEng, Tab.look_put_same]
      have hkeep : ((y.setReg rd (y.reg ra + s18w v)).run == .running) = true := by
        rw [Engine.setReg_run, show y.run = .running from State.engFree_run h]
        rfl
      rw [State.eng_setEng_same, Bool.true_and, if_pos hkeep, State.setEng_modEng]
      rfl
    case cut =>
      have hrun : (s.begins e).custRun e n c (some k) none none = .again (s.begins e) := by
        rw [State.custRun, hseq]
        obtain rfl | rfl : k = 0 ∨ k = 1 := by omega
        · exact State.microRun_cut _ _ _ (Nat.le_refl 0) _ _ _
        · rw [State.microRun_add _ _ _ rfl]
          exact State.microRun_cut _ _ _ (Nat.le_refl 1) _ _ _
      rw [exec_customerOpcode_free h n rd ra x v ⟨some k, none⟩ none (State.custom_again hcase hrun)]
      rfl
  case illegal =>
    rw [exec_customerOpcode_free h n rd ra x v ⟨none, none⟩ none
      (State.custom_fault (c := c) (State.custCase_invalid (s := s.begins e) hvalid (BitVec.ofFin c.x)))]
    simp only [State.custFault, Bool.false_and, Bool.false_eq_true, if_false]
    have hsec : ∀ q : Sec, ({ s.begins e with sec := q } : State) = State.begins { s with sec := q } e := fun _ => rfl
    rw [if_neg (by decide), hsec, State.begins_engineFault]
    rfl

end Sys2Proof.Machine

namespace Sys2Proof.Machine

/-! ### Encodings that no instruction has (R180, R183, R197) -/

theorem needs_false {c : Bool} (h : c = false) (o : EOp) : needs c o = .illegal 2 := by
  rw [h]
  rfl

theorem form_of_op (p : W18) : p.extractLsb' 16 2 = (p.extractLsb' 12 6).extractLsb' 4 2 := by
  ext k hk
  simp
  grind

/-- A parcel whose opcode is below 0x30 is a short one (R179). -/
theorem decodeParcels_short {p : W18} (h : p.extractLsb' 12 6 < 0x30#6) (q : W18) : decodeParcels p q = decodeShort p := by
  have hform : ∀ op : BitVec 6, op < 0x30#6 → op.extractLsb' 4 2 ≠ 3#2 := by decide
  rw [decodeParcels, if_neg (form_of_op p ▸ hform _ h)]

theorem decodeParcels_long {p : W18} (h : p.extractLsb' 16 2 = 3#2) (q : W18) : decodeParcels p q = decodeLong p q := if_pos h

/-- The short opcodes that no instruction has (R181). -/
def unassignedOps : List (BitVec 6) := [0x03, 0x0F, 0x15, 0x16, 0x17, 0x1E, 0x1F, 0x2D, 0x2E, 0x2F]

theorem decodeShort_unassigned {p : W18} (h : p.extractLsb' 12 6 ∈ unassignedOps) : decodeShort p = .illegal 1 := by
  generalize hop : p.extractLsb' 12 6 = op at h
  simp only [unassignedOps, List.mem_cons, List.not_mem_nil, or_false] at h
  obtain rfl | rfl | rfl | rfl | rfl | rfl | rfl | rfl | rfl | rfl := h <;> simp [decodeShort, hop, aluOf]

theorem decodeShort_misc_unassigned {p : W18} (h : p.extractLsb' 12 6 = 0) (hd : p.extractLsb' 8 4 = 0xE ∨ p.extractLsb' 8 4 = 0xF) :
    decodeShort p = .illegal 1 := by
  obtain hd | hd := hd <;> simp [decodeShort, decodeMisc, h, hd]

/-- MUL, MULU, DIVS and DIVU take no RD (R181). -/
theorem decodeShort_mul_reserved {p : W18} (h : p.extractLsb' 12 6 ∈ [0x20, 0x21, 0x22, 0x23#6]) (hd : p.extractLsb' 8 4 ≠ 0) :
    decodeShort p = .illegal 2 := by
  have hz : (p.extractLsb' 8 4 == 0) = false := beq_eq_false_iff_ne.mpr hd
  generalize hop : p.extractLsb' 12 6 = op at h
  simp only [List.mem_cons, List.not_mem_nil, or_false] at h
  obtain rfl | rfl | rfl | rfl := h <;> simp only [decodeShort, hop] <;> exact needs_false hz _

/-- NEG, ABS, MFSR and MTSR take no RB (R181). -/
theorem decodeShort_unary_reserved {p : W18} (h : p.extractLsb' 12 6 ∈ [0x09, 0x0A, 0x01, 0x02#6]) (hb : p.extractLsb' 0 4 ≠ 0) :
    decodeShort p = .illegal 2 := by
  have hz : (p.extractLsb' 0 4 == 0) = false := beq_eq_false_iff_ne.mpr hb
  generalize hop : p.extractLsb' 12 6 = op at h
  simp only [List.mem_cons, List.not_mem_nil, or_false] at h
  obtain rfl | rfl | rfl | rfl := h <;> simp only [decodeShort, hop] <;> exact needs_false hz _

theorem decodeLong_unassigned {p : W18} (hlo : 0x1F#6 ≤ p.extractLsb' 10 6) (hhi : p.extractLsb' 10 6 ≤ 0x2F#6) (i : W18) :
    decodeLong p i = .illegal 1 := by
  generalize hop : p.extractLsb' 10 6 = op at hlo hhi
  have hlist : ∀ o : BitVec 6, 0x1F#6 ≤ o → o ≤ 0x2F#6 →
      o ∈ [0x1F, 0x20, 0x21, 0x22, 0x23, 0x24, 0x25, 0x26, 0x27, 0x28, 0x29, 0x2A, 0x2B, 0x2C, 0x2D, 0x2E, 0x2F#6] := by decide
  have hmem := hlist op hlo hhi
  simp only [List.mem_cons, List.not_mem_nil, or_false] at hmem
  obtain rfl | rfl | rfl | rfl | rfl | rfl | rfl | rfl | rfl | rfl | rfl | rfl | rfl | rfl | rfl | rfl | rfl := hmem <;> simp only [decodeLong, hop] <;> rfl

/-- The immediate instructions, LDW and STW take no bank (R184). -/
theorem decodeLong_reserved {p : W18} (h : p.extractLsb' 10 6 ≤ 0x0E#6 ∨ p.extractLsb' 10 6 = 0x10#6 ∨ p.extractLsb' 10 6 = 0x11#6)
    (hx : p.extractLsb' 0 2 ≠ 0) (i : W18) : decodeLong p i = .illegal 2 := by
  have hz : (p.extractLsb' 0 2 == 0) = false := beq_eq_false_iff_ne.mpr hx
  generalize hop : p.extractLsb' 10 6 = op at h
  have hlist : ∀ o : BitVec 6, o ≤ 0x0E#6 ∨ o = 0x10#6 ∨ o = 0x11#6 →
      o ∈ [0, 1, 2, 3, 4, 5, 6, 7, 8, 9, 0xA, 0xB, 0xC, 0xD, 0xE, 0x10, 0x11#6] := by decide
  have hmem := hlist op h
  simp only [List.mem_cons, List.not_mem_nil, or_false] at hmem
  obtain rfl | rfl | rfl | rfl | rfl | rfl | rfl | rfl | rfl | rfl | rfl | rfl | rfl | rfl | rfl | rfl | rfl := hmem <;> simp only [decodeLong, hop] <;> exact needs_false hz _

/-- An illegal encoding on a free engine is its engine fault and nothing else (R197). -/
theorem exec_reservedOpcode_illegal {s : State} {e : Eng} (h : s.engFree e = true) {p q : W18} {k : Nat} (hd : decodeParcels p q = .illegal k) :
    exec (.reservedOpcode e p q) s = .next (s.engineFault e k) := by
  rw [exec_reservedOpcode, execReservedOpcode, if_pos h, hd]

/-- Settles O23: each encoding decodes to `illegal` with its case. -/
theorem illegalEncodings : Obligations.IllegalEncodings := by
  intro e p q s h x stop op lop
  have faults : ∀ {k : Nat}, decodeParcels p q = .illegal k → exec (.reservedOpcode e p q) s = stop (BitVec.ofNat 3 k) := fun hd =>
    exec_reservedOpcode_illegal h hd
  have short : ∀ {k : Nat}, op < 0x30#6 → decodeShort p = .illegal k → exec (.reservedOpcode e p q) s = stop (BitVec.ofNat 3 k) :=
    fun hop hd => faults ((decodeParcels_short hop q).trans hd)
  have long : ∀ {k : Nat}, p.extractLsb' 16 2 = 3 → decodeLong p q = .illegal k → exec (.reservedOpcode e p q) s = stop (BitVec.ofNat 3 k) :=
    fun hform hd => faults ((decodeParcels_long hform q).trans hd)
  refine ⟨fun hop => ?_, fun hop hd => short (k := 1) (by rw [hop]; decide) (decodeShort_misc_unassigned hop hd),
    fun hform hlo hhi => long (k := 1) hform (decodeLong_unassigned hlo hhi q), fun hlo hhi hd => ?_, fun hop hb => ?_,
    fun hform hop hx => long (k := 2) hform (decodeLong_reserved hop hx q)⟩
  · have hlist : ∀ o : BitVec 6, o = 0x03 ∨ o = 0x0F ∨ (0x15 ≤ o ∧ o ≤ 0x17) ∨ o = 0x1E ∨ o = 0x1F ∨ (0x2D ≤ o ∧ o ≤ 0x2F) →
        o < 0x30#6 ∧ o ∈ unassignedOps := by decide
    exact short (k := 1) (hlist op hop).1 (decodeShort_unassigned (hlist op hop).2)
  · have hlist : ∀ o : BitVec 6, 0x20 ≤ o → o ≤ 0x23 → o < 0x30#6 ∧ o ∈ [0x20, 0x21, 0x22, 0x23#6] := by decide
    exact short (k := 2) (hlist op hlo hhi).1 (decodeShort_mul_reserved (hlist op hlo hhi).2 hd)
  · have hlist : ∀ o : BitVec 6, o = 0x09 ∨ o = 0x0A ∨ o = 0x01 ∨ o = 0x02 → o < 0x30#6 ∧ o ∈ [0x09, 0x0A, 0x01, 0x02#6] := by decide
    exact short (k := 2) (hlist op hop).1 (decodeShort_unary_reserved (hlist op hop).2 hb)

/-- Settles O3: the words of the examples, decoded. -/
theorem parcelWords : Obligations.ParcelWords := by
  unfold Obligations.ParcelWords
  decide

end Sys2Proof.Machine

namespace Sys2Proof.Machine

/-! ### The addresses and bytes of a word that a master writes (R5, R15) -/

theorem byteAddr_word {a : DevAddr} (h : a.toNat % 4 = 0) {i : Nat} (hi : i < 4) : (byteAddr a i).toNat = a.toNat + i := by
  have hsplit : a.toNat = (a.extractLsb' 24 11).toNat * 2 ^ 24 + (a.extractLsb' 0 24).toNat := by
    rw [← devAddr_toNat, ← byteAddr_zero a]
    simp [byteAddr]
  have hlow := (a.extractLsb' 0 24).isLt
  rw [byteAddr, devAddr_toNat, BitVec.toNat_add, BitVec.toNat_ofNat, Nat.add_mod_mod, hsplit]
  omega

/-- The bytes that a word write carries, at their addresses. -/
def wordPairs (a : Nat) (v : W32) : List (Nat × Byte) := bytePairs (a + ·) (byteOf v) 4

theorem word_bytes {a : DevAddr} (h : a.toNat % 4 = 0) (v : W32) :
    ((List.range 4).map fun i => ((byteAddr a i).toNat, byteOf v i)) = wordPairs a.toNat v := by
  rw [wordPairs, bytePairs]
  refine List.map_congr_left fun i hi => ?_
  rw [byteAddr_word h (List.mem_range.mp hi)]

theorem mem_wordPairs {a : Nat} {v : W32} {p : Nat × Byte} (hp : p ∈ wordPairs a v) : a ≤ p.1 ∧ p.1 < a + 4 := by
  obtain ⟨i, hi, rfl⟩ := List.mem_map.mp hp
  exact ⟨Nat.le_add_right a i, Nat.add_lt_add_left (List.mem_range.mp hi) a⟩

/-- A word write outside the engines' halt words (R175). -/
theorem exec_write_device {a : DevAddr} (h : a.toNat % 4 = 0) (hhalt : a.toNat < 0x7AE000200) (m : Master) (v : W32) (s : State) :
    exec (.registerWrite m (.device a) v) s = .next (s.busWrite m (wordPairs a.toNat v)) := by
  have hquiet : s.beforeHalt a.toNat v = s := if_neg fun ⟨hlo, _⟩ => absurd hlo (by omega)
  simp only [exec_registerWrite, execRegisterWrite, hquiet, word_bytes h v]

/-- A word stored reads back as its bytes, each cut to what its slot holds; no other byte changes (R11, R16). -/
theorem State.setAll_wordPairs (s : State) (a : Nat) (v : W32) :
    (∀ i, i < 4 → (s.setAll (wordPairs a v)).byteAt (a + i) = byteOf v i &&& laneMask (a + i)) ∧
    ∀ k, k < a ∨ a + 4 ≤ k → (s.setAll (wordPairs a v)).byteAt k = s.byteAt k :=
  ⟨fun _ hi => State.byteAt_setAll_at s (a + ·) (byteOf v) hi fun j k hjk _ => by omega,
    fun _ hk => State.byteAt_setAll_other s (a + ·) (byteOf v) fun i hi => by omega⟩

theorem State.bytesAt_four (s : State) (a : Nat) :
    s.bytesAt a 4 = [s.byteAt (a + 0), s.byteAt (a + 1), s.byteAt (a + 2), s.byteAt (a + 3)] := rfl

theorem byteOf_eq (v : W32) (i : Nat) : byteOf v i = BitVec.ofNat 8 (v.toNat / 256 ^ i) := (ofNat_div_pow v i).symm

theorem toLE_word (v : W32) : [byteOf v 0, byteOf v 1, byteOf v 2, byteOf v 3] = toLE 4 v.toNat := by
  refine List.ext_getElem (toLE_length 4 _).symm fun i h1 h2 => ?_
  rw [getElem_toLE, ← byteOf_eq]
  match i, h1 with
  | 0, _ | 1, _ | 2, _ | 3, _ => rfl

/-- A word of a 24-bit memory holds three of its bytes. -/
theorem toLE_low_word (v : W32) : [byteOf v 0, byteOf v 1, byteOf v 2, 0] = toLE 4 (v.toNat % 0x1000000) := by
  have hlow : ∀ i, i < 3 → BitVec.ofNat 8 (v.toNat % 0x1000000 / 256 ^ i) = byteOf v i := fun i hi => by
    apply BitVec.eq_of_toNat_eq
    rw [byteOf_eq, BitVec.toNat_ofNat, BitVec.toNat_ofNat]
    match i, hi with
    | 0, _ | 1, _ | 2, _ => omega
  refine List.ext_getElem (toLE_length 4 _).symm fun i h1 h2 => ?_
  rw [getElem_toLE]
  match i, h1 with
  | 0, _ | 1, _ | 2, _ => exact (hlow _ (by decide)).symm
  | 3, _ =>
    rw [show v.toNat % 0x1000000 / 256 ^ 3 = 0 by omega]
    rfl

/-! ### Writes that no byte takes (R17) -/

/-- A write of which no byte may be made is one address fault (R17). -/
theorem State.busWrite_refused {s : State} {m : Nat} {ps : List (Nat × Byte)} (hne : ps ≠ [])
    (h : ∀ p ∈ ps, regionOf p.1 ≠ .control ∧ s.mayWrite m (regionOf p.1) = false) : s.busWrite m ps = s.addrFault m := by
  have hwrite : s.memWrite m ps = (s, true) := by
    have hfold : ∀ b, ps.foldl (fun (x : State × Bool) p =>
        if s.mayWrite m (regionOf p.1) then (x.1.putByte p.1 p.2, x.2) else (x.1, true)) (s, b) = (s, b || !ps.isEmpty) := by
      clear hne
      induction ps with
      | nil => exact fun b => by rw [List.isEmpty_nil, Bool.not_true, Bool.or_false]; rfl
      | cons p r ih =>
        intro b
        rw [List.foldl_cons, if_neg (by rw [(h p List.mem_cons_self).2]; decide), ih fun q hq => h q (List.mem_cons_of_mem p hq)]
        simp
    have hsome : ps.isEmpty = false := List.isEmpty_eq_false_iff.mpr hne
    exact (hfold false).trans (by rw [hsome]; rfl)
  rw [s.busWrite_memory m fun p hp => (h p hp).1, hwrite]
  rfl

theorem regionOf_context {a : Nat} (h : 0x370000000 ≤ a) (h2 : a < 0x380000000) : regionOf a = .context := by
  rw [regionOf, if_neg (by omega), if_pos h2]

theorem regionOf_gap {a : Nat} (h : 0x380000000 ≤ a) (h2 : a < 0x780000000) : regionOf a = .unassigned := by
  rw [regionOf, if_neg (by omega), if_neg (by omega), if_neg (by omega), if_neg (by omega), if_neg (by omega)]

theorem regionOf_tileProg {a : Nat} (h : 0x790000000 ≤ a) (h2 : a < 0x790C00000) : regionOf a = .tileProg := by
  rw [regionOf, if_neg (by omega), if_neg (by omega), if_neg (by omega), if_pos ⟨h, h2⟩]

theorem wordPairs_ne_nil (a : Nat) (v : W32) : wordPairs a v ≠ [] := List.cons_ne_nil _ _

/-- A word write that the master may not make (R17). -/
theorem exec_write_refused {a : DevAddr} (h : a.toNat % 4 = 0) (hhalt : a.toNat < 0x7AE000200) {m : Master} {g : Region} {s : State}
    (hg : ∀ b, a.toNat ≤ b → b < a.toNat + 4 → regionOf b = g) (hc : g ≠ .control) (hm : s.mayWrite m g = false) (v : W32) :
    exec (.registerWrite m (.device a) v) s = .next (s.addrFault m) := by
  have hbytes : ∀ p ∈ wordPairs a.toNat v, regionOf p.1 ≠ .control ∧ s.mayWrite m (regionOf p.1) = false := fun p hp => by
    rw [hg p.1 (mem_wordPairs hp).1 (mem_wordPairs hp).2]
    exact ⟨hc, hm⟩
  rw [exec_write_device h hhalt, State.busWrite_refused (wordPairs_ne_nil _ v) hbytes]

/-- A word write that reaches plain memory (R15, R16). -/
theorem exec_write_plain {a : DevAddr} (h : a.toNat % 4 = 0) (hhalt : a.toNat < 0x7AE000200)
    (hp : ∀ b, a.toNat ≤ b → b < a.toNat + 4 → plainAddr b) (m : Master) (v : W32) (s : State) :
    exec (.registerWrite m (.device a) v) s = .next (s.setAll (wordPairs a.toNat v)) := by
  rw [exec_write_device h hhalt, State.busWrite_plain _ _ fun p hmem => hp p.1 (mem_wordPairs hmem).1 (mem_wordPairs hmem).2]

theorem exec_write_bar (m : Master) (off : BitVec 24) (v : W32) (s : State) :
    exec (.registerWrite m (.bar off) v) s = .next ((s.barWrite off.toNat v).getD (s.addrFault 96)) := rfl

/-! ### The host's DRAM window (R277, R278) -/

/-- The bytes of a write through the window, at their device addresses. -/
def windowPairs (base : Nat) (b : Bytes) : List (Nat × Byte) := bytePairs (base + ·) (b.getD · 0) b.length

/-- The bytes of it that lie in general DRAM. -/
def dramPairs (base : Nat) (b : Bytes) : List (Nat × Byte) := (windowPairs base b).filter fun p => decide (regionOf p.1 = .dram)

theorem exec_window (w : BitVec 35) (b : Bytes) (s : State) {base : Nat}
    (hbase : s.rings.winBase.toNat * 0x100000000 + w.toNat % 0x100000000 = base) :
    exec (.dramWindowWrite w b) s = .next (if (dramPairs base b).length = (windowPairs base b).length
      then s.setAll (dramPairs base b) else (s.setAll (dramPairs base b)).addrFault 96) := by
  subst hbase
  rfl

theorem dramPairs_all {base : Nat} {b : Bytes} (h : base + b.length ≤ 0x370000000) : dramPairs base b = windowPairs base b := by
  refine List.filter_eq_self.mpr fun p hp => ?_
  obtain ⟨i, hi, rfl⟩ := List.mem_map.mp hp
  have hlt := List.mem_range.mp hi
  exact decide_eq_true (regionOf_dram (show base + i < 0x370000000 by omega))

theorem dramPairs_none {base : Nat} (h : 0x370000000 ≤ base) (b : Bytes) : dramPairs base b = [] := by
  refine List.filter_eq_nil_iff.mpr fun p hp => ?_
  obtain ⟨i, _, rfl⟩ := List.mem_map.mp hp
  have hno : regionOf (base + i) ≠ .dram := by
    rw [regionOf, if_neg (by omega)]
    repeat' split
    all_goals decide
  simpa using hno

/-- Settles O6: each clause is the one write that its address range makes, or the one address fault. -/
theorem plainWrites : Obligations.PlainWrites := by
  intro m a off w v b s write base through
  refine ⟨?dram, ?tileData, ?gap, ?context, ?tileProg, rfl, rfl, rfl, ?raise, ?raiseOut, ?barOut, ?window, ?windowOut⟩
  case dram =>
    intro h hlt
    obtain ⟨hat, hframe⟩ := s.setAll_wordPairs a.toNat v
    refine ⟨_, exec_write_plain h (by omega) (fun k h1 h2 => plainAddr_dram (by omega)) m v s, State.setAll_eq _ _, ?_, hframe⟩
    have hbyte : ∀ i, i < 4 → (s.setAll (wordPairs a.toNat v)).byteAt (a.toNat + i) = byteOf v i := fun i hi => by
      rw [hat i hi, laneMask_dram (by omega), and_full]
    rw [State.bytesAt_four, hbyte 0 (by decide), hbyte 1 (by decide), hbyte 2 (by decide), hbyte 3 (by decide)]
    exact toLE_word v
  case tileData =>
    intro h hlo hhi
    obtain ⟨hat, hframe⟩ := s.setAll_wordPairs a.toNat v
    refine ⟨_, exec_write_plain h (by omega) (fun k h1 h2 => .inr (regionOf_tileData (by omega) (by omega))) m v s, State.setAll_eq _ _, ?_,
      hframe⟩
    have hbyte : ∀ i, i < 3 → (s.setAll (wordPairs a.toNat v)).byteAt (a.toNat + i) = byteOf v i := fun i hi => by
      rw [hat i (by omega), laneMask_tileData (by omega) (by omega), if_neg (by omega), and_full]
    have hlast : (s.setAll (wordPairs a.toNat v)).byteAt (a.toNat + 3) = 0 := by
      rw [hat 3 (by decide), laneMask_tileData (by omega) (by omega), if_pos (by omega)]
      exact BitVec.and_zero
    rw [State.bytesAt_four, hbyte 0 (by decide), hbyte 1 (by decide), hbyte 2 (by decide), hlast]
    exact toLE_low_word v
  case gap =>
    exact fun h hlo hhi => exec_write_refused h (by omega) (fun k h1 h2 => regionOf_gap (by omega) (by omega)) nofun rfl v
  case context =>
    exact fun h hlo hhi hm => exec_write_refused h (by omega) (fun k h1 h2 => regionOf_context (by omega) (by omega)) nofun
      (decide_eq_false (by omega)) v
  case tileProg =>
    intro h hlo hhi hfw hm
    refine exec_write_refused h (by omega) (fun k h1 h2 => regionOf_tileProg (by omega) (by omega)) nofun ?_ v
    rw [State.mayWrite, hfw]
    simpa using hm
  case raise =>
    intro hn
    rw [exec_write_bar, show s.barWrite (0x900000#24).toNat v = some (s.raiseWrite 96 (bits v 0 8)) from rfl, State.raiseWrite, if_pos hn]
    rfl
  case raiseOut =>
    intro hn
    rw [exec_write_bar, show s.barWrite (0x900000#24).toNat v = some (s.raiseWrite 96 (bits v 0 8)) from rfl, State.raiseWrite,
      if_neg (by omega)]
    rfl
  case barOut =>
    intro hlo hne
    rw [exec_write_bar, State.barWrite, if_neg (by omega), if_neg (by omega), if_neg hne]
    rfl
  case window =>
    intro hin
    have hall : dramPairs base b = windowPairs base b := dramPairs_all hin
    refine ⟨s.setAll (windowPairs base b), ?_, State.setAll_eq _ _, ?_, fun k hk => ?_⟩
    · rw [show through = _ from exec_window w b s rfl, hall, if_pos rfl]
    · apply List.ext_getElem
      · simp [State.bytesAt]
      · intro i h1 h2
        have hat := State.byteAt_setAll_at s (base + ·) (b.getD · 0) h2 fun j k hjk _ => by omega
        simp only [State.bytesAt, List.getElem_map, List.getElem_range]
        exact hat.trans (by rw [laneMask_dram (by omega), and_full, List.getD_eq_getElem?_getD, List.getElem?_eq_getElem h2, Option.getD_some])
    · exact State.byteAt_setAll_other s (base + ·) (b.getD · 0) fun i hi => by omega
  case windowOut =>
    intro hout hne
    have hlen : (windowPairs base b).length ≠ 0 := by simpa [windowPairs, bytePairs] using hne
    rw [show through = _ from exec_window w b s rfl, dramPairs_none hout, if_neg fun h => hlen h.symm]
    rfl

end Sys2Proof.Machine

namespace Sys2Proof.Machine

/-! ### Every command answers (R10 to R20) -/

/-- The command is answered with a next state. -/
def Answers (o : Out) : Prop := ∃ t, o = .next t

theorem answers_next (t : State) : Answers (.next t) := ⟨t, rfl⟩

theorem answers_ite {c : Prop} [Decidable c] {a b : Out} (ha : Answers a) (hb : Answers b) : Answers (if c then a else b) := by
  split
  · exact ha
  · exact hb

theorem State.onWord_answers (s : State) (c op : Nat) (f : BitVec 256 → State) : Answers (s.onWord c op f) := by
  unfold State.onWord
  split <;> exact answers_next _

theorem State.onEntry_answers (s : State) (q op : Nat) (f : TakenEntry → State) : Answers (s.onEntry q op f) := by
  unfold State.onEntry
  split <;> exact answers_next _

theorem execSealComplete_answers (l : Lane) (s : State) : Answers (execSealComplete l s) := by
  unfold execSealComplete
  split <;> exact answers_next _

theorem execCopingRecordSigned_answers (l : Lane) (s : State) : Answers (execCopingRecordSigned l s) := by
  unfold execCopingRecordSigned
  split <;> exact answers_next _

theorem execRazeRecordDurable_answers (c : CtxId) (s : State) : Answers (execRazeRecordDurable c s) := by
  unfold execRazeRecordDurable
  split <;> exact answers_next _

theorem execDelivery_answers (t : Target) (s : State) : Answers (execDelivery t s) := by
  unfold execDelivery
  split
  · exact answers_next _
  · exact answers_ite (answers_next _) (answers_next _)

theorem execCrossingDetected_answers (a b : Mbox) (s : State) : Answers (execCrossingDetected a b s) :=
  answers_ite (answers_next _) (answers_next _)

theorem execConfigStoreComplete_answers (ok : Bool) (s : State) : Answers (execConfigStoreComplete ok s) := by
  unfold execConfigStoreComplete
  split <;> exact answers_next _

theorem execRekeySwitch_answers (s : State) : Answers (execRekeySwitch s) := by
  unfold execRekeySwitch
  split
  · exact answers_next _
  · exact answers_ite (answers_next _) (answers_next _)

/-- Settles O2: the commands that meet nothing to work on answer with the state as it is, all others with the state they make. -/
theorem everyCommandAnswers : Obligations.EveryCommandAnswers := by
  intro c s
  cases c
  case sealComplete l => exact execSealComplete_answers l s
  case copingRecordSigned l => exact execCopingRecordSigned_answers l s
  case razeRecordDurable c => exact execRazeRecordDurable_answers c s
  case delivery t => exact execDelivery_answers t s
  case crossingDetected a b => exact execCrossingDetected_answers a b s
  case configStoreComplete ok => exact execConfigStoreComplete_answers ok s
  case courseNop | jump | branch | wait | post | ingest | cope | append | read | verify | raze | move | ledger | eth | nvme |
    usb | can | tdm => exact State.onWord_answers _ _ _ _
  case nopEntry | startEntry | signalEntry | stopEntry | holdEntry | writeEntry | mortarEntry => exact State.onEntry_answers _ _ _ _
  case rekeySwitch => exact execRekeySwitch_answers s
  any_goals exact answers_next _
  -- The word SEAL, whose name is a keyword.
  exact State.onWord_answers _ _ _ _

/-! ### A step (R10; log entries 48 and 114) -/

/-- With no request that waits in the host's mailbox an idle step is a tick. -/
theorem State.idle_of_no_mail {s : State} (h : s.mailWaits = false) : s.idle = s.tick := by
  simp [State.idle, State.hostMail, h]

/-- An idle step serves the request that waits, behind it the restart that it asked for, and then ticks. -/
theorem State.idle_of_mail {s : State} (hp : s.power.phase = .run) (hs : s.serving = true) (h : s.mailWaits = true) :
    s.idle = (s.serveMail.lcRestart).tick := by
  simp [State.idle, State.hostMail, hp, hs, h]

/-- A tick changes the clocks and the draws of a slewed one, and nothing else. -/
theorem State.tick_eq (s : State) :
    s.tick = { s with aon := s.tick.aon, tnow := s.tick.tnow, time := s.tick.time, draws := s.tick.draws } := by
  unfold State.tick
  split <;> rfl

theorem State.step_empty {s : State} (h : s.pending = []) : step s = .next s.idle := by
  rw [step, h]

/-- Settles O1: the two cases of a step, and the two of an idle one. -/
theorem stepRunsFront : Obligations.StepRunsFront := by
  intro c rest s
  refine ⟨rfl, fun hp hrun hserve hmail => ?_, fun hp hmail => ⟨?_, ?_, ?_, s.tick_eq⟩⟩
  · rw [State.step_empty hp, State.idle_of_mail hrun hserve hmail]
  · rw [State.step_empty hp, State.idle_of_no_mail hmail]
  · unfold State.tick
    split <;> rfl
  · unfold State.tick
    split <;> rfl

/-! ### The block before its first start (R10; log entries 4 and 30) -/

/-- Settles O5: the reset value of each field. -/
theorem resetState : Obligations.ResetState := by
  refine ⟨rfl, ⟨rfl, nofun⟩, ⟨trivial, fun n => rfl⟩, fun i => rfl, fun c => rfl, fun e => ⟨rfl, rfl, rfl, rfl⟩, fun e r => ?reg,
    fun n => ⟨rfl, rfl⟩, rfl, fun a => rfl, rfl, rfl, rfl, rfl, rfl, rfl, rfl⟩
  case reg => exact ite_self (c := r = 0) (0 : W24)

end Sys2Proof.Machine

namespace Sys2Proof.Machine

/-! ### One arrival at a source (R211, R213) -/

theorem SrcRow.arrive_full {r : SrcRow} (h : r.count = 255) :
    r.arrive = { r with arrivals := r.arrivals + 1, dropped := r.dropped + 1 } := if_pos h

theorem SrcRow.arrive_pending {r : SrcRow} (h : r.count ≠ 255) (hp : r.pending = true) :
    r.arrive = { r with arrivals := r.arrivals + 1, coalesced := r.coalesced + 1, count := r.count + 1 } := by
  rw [SrcRow.arrive, if_neg h, if_pos hp]

theorem SrcRow.arrive_first {r : SrcRow} (h : r.count ≠ 255) (hp : r.pending = false) :
    r.arrive = { r with arrivals := r.arrivals + 1, pending := true, count := r.count + 1 } := by
  rw [SrcRow.arrive, if_neg h, hp]
  rfl

theorem SrcRow.arrive_counts (r : SrcRow) : r.arrive.arrivals = r.arrivals + 1 ∧ r.arrive.delivered = r.delivered := by
  unfold SrcRow.arrive
  repeat' split
  all_goals exact ⟨rfl, rfl⟩

/-- An arrival counts once on each side of R212's account. -/
theorem SrcRow.arrive_balanced {r : SrcRow} (h : r.balanced) : r.arrive.balanced := by
  by_cases hc : r.count = 255
  · rw [SrcRow.arrive_full hc]
    simp only [SrcRow.balanced] at h ⊢
    rw [h]
    ac_rfl
  · cases hp : r.pending
    · rw [SrcRow.arrive_first hc hp]
      simp only [SrcRow.balanced, hp] at h ⊢
      rw [h]
      simp
    · rw [SrcRow.arrive_pending hc hp]
      simp only [SrcRow.balanced] at h ⊢
      rw [h]
      ac_rfl

theorem VectorUnit.row_put_same (v : VectorUnit) (n : Nat) (r : SrcRow) : VectorUnit.row { v with src := v.src.put n r } n = r :=
  Tab.look_put_same v.src {} n r

theorem VectorUnit.row_put_other (v : VectorUnit) {n k : Nat} (r : SrcRow) (h : k ≠ n) :
    VectorUnit.row { v with src := v.src.put n r } k = v.row k := Tab.look_put_other v.src {} r h

theorem VectorUnit.arrive_eq (v : VectorUnit) (n : Nat) : v.arrive n =
    if (v.row n).count = 255 ∧ n ≠ 247 then { v with src := (v.src.modify {} n SrcRow.arrive).modify {} 247 SrcRow.arrive }
    else { v with src := v.src.modify {} n SrcRow.arrive } := rfl

theorem VectorUnit.row_arrive_same (v : VectorUnit) (n : Nat) : (v.arrive n).row n = (v.row n).arrive := by
  rw [VectorUnit.arrive_eq]
  split
  · next h => exact (Tab.look_modify_other _ _ _ _ h.2).trans (Tab.look_modify_same v.src {} n _)
  · exact Tab.look_modify_same v.src {} n _

theorem VectorUnit.row_arrive_other (v : VectorUnit) {n k : Nat} (h : k ≠ n) (h2 : k ≠ 247) : (v.arrive n).row k = v.row k := by
  rw [VectorUnit.arrive_eq]
  split
  · exact (Tab.look_modify_other _ _ _ _ h2).trans (Tab.look_modify_other v.src {} {} _ h)
  · exact Tab.look_modify_other v.src {} {} _ h

/-- A dropped arrival arrives at source 247 (R213). -/
theorem VectorUnit.row_arrive_overflow {v : VectorUnit} {n : Nat} (h : (v.row n).count = 255) (hn : n ≠ 247) :
    (v.arrive n).row 247 = (v.row 247).arrive := by
  rw [VectorUnit.arrive_eq, if_pos ⟨h, hn⟩]
  exact (Tab.look_modify_same _ _ _ _).trans (congrArg SrcRow.arrive (Tab.look_modify_other v.src {} {} _ hn.symm))

theorem VectorUnit.row_arrive_noOverflow {v : VectorUnit} {n : Nat} (h : (v.row n).count ≠ 255) (hn : n ≠ 247) :
    (v.arrive n).row 247 = v.row 247 := by
  rw [VectorUnit.arrive_eq, if_neg fun hc => h hc.1]
  exact Tab.look_modify_other v.src {} {} _ hn.symm

/-- A raise while the device is awake is an arrival, with its marks of held sources (R211, R220). -/
theorem State.raise_awake {s : State} (h : s.watcher.asleep = false) (n : Nat) :
    s.raise n = { s with vu := s.vu.arrive n, engines := (s.raise n).engines } := by
  simp only [State.raise, h]
  rfl

theorem State.vu_raise {s : State} (h : s.watcher.asleep = false) (n : Nat) : (s.raise n).vu = s.vu.arrive n := by
  rw [State.raise_awake h]

theorem neverRaised_low {n : Nat} (h : n < 96) : neverRaised n = false := by
  simp only [neverRaised, Bool.or_eq_false_iff, Bool.and_eq_false_iff, beq_eq_false_iff_ne, decide_eq_false_iff_not]
  omega

theorem exec_sourceArrival_raised {n : Src} (h : neverRaised n = false) (s : State) : exec (.sourceArrival n) s = .next (s.raise n) := by
  rw [exec_sourceArrival, execSourceArrival, h]
  rfl

/-- Settles O25: each outcome is that of `SrcRow.arrive` for the source's row, and of source 247 behind a drop. -/
theorem sourceArrivals : Obligations.SourceArrivals := by
  intro m n s hawake r
  refine ⟨fun h => ?low, fun h => ?high, fun h => ?never, fun h => ⟨s.raise n, exec_sourceArrival_raised h s, ?raised⟩⟩
  case low =>
    rw [exec_sourceArrival_raised (neverRaised_low h), exec_raise, execRaise, State.raiseWrite, if_pos h]
  case high =>
    rw [exec_raise, execRaise, State.raiseWrite, if_neg (by omega)]
  case never =>
    have hnever : neverRaised n = true := by
      simp only [neverRaised, Bool.or_eq_true, Bool.and_eq_true, beq_iff_eq, decide_eq_true_eq]
      omega
    rw [exec_sourceArrival, execSourceArrival, hnever]
    rfl
  case raised =>
    have hrow : (s.raise n).vu.row n = r.arrive := by rw [State.vu_raise hawake, VectorUnit.row_arrive_same]
    obtain ⟨harr, hdel⟩ := r.arrive_counts
    refine ⟨by rw [hrow, harr], by rw [hrow, hdel], ?_, fun k hk hk2 => ?_, fun hc => ?_, fun hc => ⟨?_, fun hn => ?_⟩, fun hc hp => ?_,
      fun hc hp => ?_⟩
    · rw [State.vu_raise hawake]
      exact State.raise_awake hawake n
    · rw [State.vu_raise hawake]
      exact VectorUnit.row_arrive_other s.vu hk hk2
    · split
      · next hn => rw [hn]
      · next hn => rw [State.vu_raise hawake, VectorUnit.row_arrive_noOverflow hc hn]
    · rw [hrow, SrcRow.arrive_full hc]
    · rw [State.vu_raise hawake, VectorUnit.row_arrive_overflow hc hn]
      exact (s.vu.row 247).arrive_counts.1
    · rw [hrow, SrcRow.arrive_pending hc hp]
    · rw [hrow, SrcRow.arrive_first hc hp]

/-- Settles O26: each command writes the fields that it names. -/
theorem vectorUnitReads : Obligations.VectorUnitReads := by
  intro m n t s r
  exact ⟨rfl, fun h => congrArg _ (if_pos h), fun h => congrArg _ (if_neg (by rw [h]; decide)), rfl⟩

/-! ### The winner and its delivery (R215, R217, R219) -/

theorem winnerOf_mem {l : List (Nat × SrcRow)} {c : Nat × SrcRow} (h : winnerOf l = some c) : c ∈ l := by
  suffices hall : ∀ c, winnerOf l = some c → c ∈ l from hall c h
  refine List.foldlRecOn (motive := fun b => ∀ c, b = some c → c ∈ l) l _ nofun fun b hb x hx c hc => ?_
  cases b with
  | none => exact Option.some.inj hc ▸ hx
  | some d =>
    dsimp only at hc
    split at hc
    · exact Option.some.inj hc ▸ hx
    · exact hb c hc

theorem Tab.look_of_mem {α : Type} {t : Tab α} (h : t.Rising) (d : α) {e : Nat × α} (he : e ∈ t) : t.look d e.1 = e.2 := by
  induction t with
  | nil => nomatch he
  | cons c r ih =>
    obtain ⟨hlo, hr⟩ := h
    obtain rfl | hin := List.mem_cons.mp he
    · exact if_pos rfl
    · exact (if_neg (Nat.ne_of_lt (hlo e hin))).trans (ih hr hin)

/-- The winner of a target is a pending source (R215). -/
theorem State.winner_pending {s : State} (hr : s.vu.src.Rising) {t : Nat} {chain : Option (Nat × Nat)} {n : Nat} {r : SrcRow}
    (h : s.winner t chain = some (n, r)) : s.vu.row n = r ∧ r.pending = true := by
  unfold State.winner at h
  split at h
  · nomatch h
  · obtain ⟨hmem, hass⟩ := List.mem_filter.mp (winnerOf_mem h)
    refine ⟨Tab.look_of_mem hr {} hmem, ?_⟩
    refine Classical.byContradiction fun hp => ?_
    rw [State.assigned, if_neg fun hc => hp hc.1] at hass
    nomatch hass

/-- The row of a source delivered to target t (R211, R221). -/
def SrcRow.deliverTo (r : SrcRow) (t : Nat) : SrcRow :=
  { r with pending := false, delivered := r.delivered + 1, lastTarget := BitVec.ofNat 8 t }

theorem VectorUnit.row_deliver_same (v : VectorUnit) (n t : Nat) : (v.deliver n t).row n = (v.row n).deliverTo t :=
  Tab.look_modify_same v.src {} n (·.deliverTo t)

theorem VectorUnit.row_deliver_other (v : VectorUnit) {n k : Nat} (t : Nat) (h : k ≠ n) : (v.deliver n t).row k = v.row k :=
  Tab.look_modify_other v.src {} {} (·.deliverTo t) h

theorem VectorUnit.target_deliver (v : VectorUnit) (n t : Nat) : (v.deliver n t).target t =
    { v.target t with lastSrc := BitVec.ofNat 8 n, heldMod := (v.target t).heldMod || decide ((v.target t).holdoff ≠ 0) } :=
  Tab.look_put_same v.tgt {} t _

/-- A delivery to an engine (R215, R220). -/
theorem exec_delivery_engine {t : Target} {n : Nat} {r : SrcRow} {s : State} (h : s.winner t none = some (n, r)) (ht : t.val < 96) :
    exec (.delivery t) s = .next (({ s with vu := (s.vu.deliver n t).entered t r.level.toNat n } : State).setEng t
      { s.finishWait (s.eng t) with e1 := some (Fin.ofNat 256 n, r.level, (s.finishWait (s.eng t)).vector n) }) := by
  simp only [exec_delivery, execDelivery, h, if_pos ht]
  rfl

/-- A delivery to a host vector (R219). -/
theorem exec_delivery_host {t : Target} {n : Nat} {r : SrcRow} {s : State} (h : s.winner t none = some (n, r)) (ht : 96 ≤ t.val) :
    exec (.delivery t) s = .next { s.msixWrite (t - 96) with vu := s.vu.deliver n t } := by
  simp only [exec_delivery, execDelivery, h, if_neg (Nat.not_lt.mpr ht)]

theorem exec_delivery_none {t : Target} {s : State} (h : s.winner t none = none) : exec (.delivery t) s = .next s := by
  simp only [exec_delivery, execDelivery, h]

/-- Settles O27: the row and the target of `deliver`, and the engine that selects or the write to the host. -/
theorem deliveries : Obligations.Deliveries := by
  intro t n r s hw g q
  refine ⟨fun ht hrun => ?engine, fun ht => ?host⟩
  case engine =>
    have hwait : s.finishWait (s.eng t) = s.eng t := by simp only [State.finishWait, hrun]
    refine ⟨_, exec_delivery_engine hw ht, ?_⟩
    rw [hwait, State.eng_setEng_same]
    exact ⟨rfl, rfl, hrun, s.vu.row_deliver_same n t, s.vu.target_deliver n t, rfl, fun k hk => State.eng_setEng_other _ _ hk⟩
  case host =>
    exact ⟨_, exec_delivery_host hw ht, rfl, s.vu.row_deliver_same n t, s.vu.target_deliver n t, rfl⟩

/-! ### The account of every source (R212) -/

/-- The account of every source of a well-formed table. -/
def VectorUnit.balanced (v : VectorUnit) : Prop := v.src.Rising ∧ ∀ n, (v.row n).balanced

theorem State.vuBalanced_iff (s : State) : s.vuBalanced ↔ s.vu.balanced := Iff.rfl

theorem VectorUnit.balanced_put {v : VectorUnit} (h : v.balanced) (n : Nat) {r : SrcRow} (hr : r.balanced) :
    VectorUnit.balanced { v with src := v.src.put n r } := by
  obtain ⟨hrise, hrows⟩ := h
  refine ⟨Tab.put_rising n r hrise, fun k => ?_⟩
  by_cases hk : k = n
  · rw [hk, VectorUnit.row_put_same]
    exact hr
  · rw [VectorUnit.row_put_other v r hk]
    exact hrows k

theorem VectorUnit.balanced_arrive {v : VectorUnit} (h : v.balanced) (n : Nat) : (v.arrive n).balanced := by
  have hone : VectorUnit.balanced { v with src := v.src.modify {} n SrcRow.arrive } := VectorUnit.balanced_put h n (SrcRow.arrive_balanced (h.2 n))
  rw [VectorUnit.arrive_eq]
  split
  · exact VectorUnit.balanced_put hone 247 (SrcRow.arrive_balanced (hone.2 247))
  · exact hone

theorem SrcRow.deliverTo_balanced {r : SrcRow} (h : r.balanced) (hp : r.pending = true) (t : Nat) : (r.deliverTo t).balanced := by
  simp only [SrcRow.balanced, SrcRow.deliverTo, hp] at h ⊢
  rw [h]
  simp
  ac_rfl

/-- A delivery of a pending source counts it in DELIVERED and clears PENDING. -/
theorem VectorUnit.balanced_deliver {v : VectorUnit} (h : v.balanced) {n : Nat} (hp : (v.row n).pending = true) (t : Nat) :
    (v.deliver n t).balanced := by
  exact VectorUnit.balanced_put (v := v) h n (SrcRow.deliverTo_balanced (h.2 n) hp t)

theorem State.vuBalanced_raise {s : State} (h : s.vuBalanced) (n : Nat) : (s.raise n).vuBalanced := by
  have hvu : (s.raise n).vu = if s.watcher.asleep then s.vu else s.vu.arrive n := rfl
  rw [State.vuBalanced_iff, hvu]
  split
  · exact h
  · exact VectorUnit.balanced_arrive h n

theorem State.vuBalanced_addrFault {s : State} (h : s.vuBalanced) (m : Nat) : (s.addrFault m).vuBalanced :=
  State.vuBalanced_raise h 244

theorem State.vuBalanced_raiseWrite {s : State} (h : s.vuBalanced) (m n : Nat) : (s.raiseWrite m n).vuBalanced := by
  unfold State.raiseWrite
  split
  · exact State.vuBalanced_raise h n
  · exact State.vuBalanced_addrFault h m

/-- A read of a source's COUNT leaves the account alone (R211). -/
theorem State.vuBalanced_takeCount {s : State} (h : s.vuBalanced) (n : Nat) : (s.takeCount n).2.vuBalanced :=
  VectorUnit.balanced_put (v := s.vu) (r := { s.vu.row n with count := 0 }) h n (h.2 n)

theorem exec_delivery_vuBalanced {t : Target} {s u : State} (h : s.vuBalanced) (hu : exec (.delivery t) s = .next u) : u.vuBalanced := by
  cases hw : s.winner t none with
  | none =>
    rw [exec_delivery_none hw] at hu
    exact Host.Outcome.next.inj hu ▸ h
  | some c =>
    obtain ⟨n, r⟩ := c
    obtain ⟨hrow, hp⟩ := State.winner_pending h.1 hw
    have hbal := VectorUnit.balanced_deliver h (hrow.symm ▸ hp) t
    by_cases ht : t.val < 96
    · rw [exec_delivery_engine hw ht] at hu
      exact Host.Outcome.next.inj hu ▸ hbal
    · rw [exec_delivery_host hw (Nat.not_lt.mp ht)] at hu
      exact Host.Outcome.next.inj hu ▸ hbal

/-- Settles O28: an arrival and a delivery move both sides of the account together; the other commands leave it alone. -/
theorem vectorUnitAccounts : Obligations.VectorUnitAccounts := by
  intro c s t h hc hstep
  cases c
  case sourceArrival n =>
    obtain rfl := Host.Outcome.next.inj hstep
    split
    · exact h
    · exact State.vuBalanced_raise h n
  case srcCountRead m n => exact Host.Outcome.next.inj hstep ▸ State.vuBalanced_takeCount h n
  case snapSel m n =>
    obtain rfl := Host.Outcome.next.inj hstep
    split
    · exact h
    · exact State.vuBalanced_addrFault h m
  case raise m n => exact Host.Outcome.next.inj hstep ▸ State.vuBalanced_raiseWrite h m n
  case delivery g => exact exec_delivery_vuBalanced h hstep
  case moderationExpiry g => exact Host.Outcome.next.inj hstep ▸ h
  all_goals exact hc.elim

end Sys2Proof.Machine

namespace Sys2Proof.Machine

/-! ### Tables mapped row by row -/

/-- A look into a table whose rows are mapped, where the row that stands for an entry not listed is fixed. -/
theorem Tab.look_map {α : Type} (t : Tab α) (d : α) (f : Nat → α → α) (hd : ∀ k, f k d = d) (k : Nat) :
    Tab.look (t.map fun e => (e.1, f e.1 e.2)) d k = f k (t.look d k) := by
  induction t with
  | nil => exact (hd k).symm
  | cons e r ih =>
    simp only [List.map_cons, Tab.look]
    split
    · next h => rw [h]
    · exact ih

/-! ### Raises and marks leave the rest of the state alone -/

theorem State.raiseN_eq (s : State) (src n : Nat) :
    s.raiseN src n = { s with vu := (s.raiseN src n).vu, watcher := (s.raiseN src n).watcher, engines := (s.raiseN src n).engines } := by
  have hiter : ∀ (n : Nat) (t : State), iterate (·.raise src) n t =
      { t with vu := (iterate (·.raise src) n t).vu, watcher := (iterate (·.raise src) n t).watcher
               engines := (iterate (·.raise src) n t).engines } := by
    intro n
    induction n with
    | zero => exact fun _ => rfl
    | succ n ih => exact fun t => ih (t.raise src)
  exact hiter n s

@[simp] theorem State.router_raiseN (s : State) (src n : Nat) : (s.raiseN src n).router = s.router := by rw [State.raiseN_eq]

theorem State.markWarm_eq (s : State) (e bit : Nat) : s.markWarm e bit = { s with engines := (s.markWarm e bit).engines } := by
  unfold State.markWarm
  split <;> rfl

theorem markSubscribers_eq (s : State) (subs : Tab TaskRow) : markSubscribers s subs = { s with engines := (markSubscribers s subs).engines } := by
  induction subs generalizing s with
  | nil => rfl
  | cons e r ih =>
    have hone : ∀ t : State, markSubscribers t (e :: r) = markSubscribers (if e.1 < 1536 then t.markWarm (e.1 / 16) (e.1 % 16) else t) r :=
      fun _ => rfl
    rw [hone]
    split
    · rw [ih, State.markWarm_eq]
    · exact ih s

/-! ### A wave reaches the task inputs that hear its channel (R228, R229) -/

theorem TaskRow.hears_reset (c : Nat) : TaskRow.hears {} c = false := rfl

theorem Router.taskAt_wave (r : Router) (c k i : Nat) :
    (r.wave c k).taskAt i = if (r.taskAt i).hears c then (r.taskAt i).wave i k else r.taskAt i := by
  have hmap := Tab.look_map r.task {} (fun j x => if x.hears c then x.wave j k else x) (fun j => if_neg (by rw [TaskRow.hears_reset]; decide)) i
  have hfun : (r.wave c k).task = r.task.map fun e => (e.1, if e.2.hears c then e.2.wave e.1 k else e.2) := by
    refine List.map_congr_left fun e _ => ?_
    split <;> rfl
  rw [Router.taskAt, hfun]
  exact hmap

theorem TaskRow.wave_low (r : TaskRow) {i : Nat} (h : i < 1536) (k : Nat) : r.wave i k = r.arriveN k := if_neg (by omega)

theorem TaskRow.take_arrivals (r : TaskRow) : r.take.arrivals = r.arrivals := by
  unfold TaskRow.take
  split <;> rfl

theorem TaskRow.arrive_arrivals (r : TaskRow) : r.arrive.arrivals = r.arrivals + 1 := by
  unfold TaskRow.arrive
  repeat' split
  all_goals rfl

theorem TaskRow.arriveN_succ (r : TaskRow) (k : Nat) : r.arriveN (k + 1) = r.arrive.arriveN k := rfl

theorem TaskRow.arriveN_arrivals (r : TaskRow) (k : Nat) : (r.arriveN k).arrivals = r.arrivals + BitVec.ofNat 32 k := by
  induction k generalizing r with
  | zero => exact (BitVec.add_zero _).symm
  | succ k ih =>
    rw [TaskRow.arriveN_succ, ih, TaskRow.arrive_arrivals, BitVec.add_assoc, Nat.add_comm k, BitVec.ofNat_add]
    rfl

theorem TaskRow.wave_arrivals (r : TaskRow) (i k : Nat) : (r.wave i k).arrivals = r.arrivals + BitVec.ofNat 32 k := by
  unfold TaskRow.wave
  split
  · rw [TaskRow.take_arrivals, TaskRow.arriveN_arrivals]
  · exact r.arriveN_arrivals k

/-! ### Publications (R225, R228, R231) -/

section
variable {s : State} {c : Nat}

theorem State.publishN_gated (h : s.router.mayFire c = false) (k : Nat) : s.publishN c k = { s with router := { s.router with
    chan := s.router.chan.put c { s.router.chanAt c with gated := (s.router.chanAt c).gated + BitVec.ofNat 32 k } } } := by
  rw [State.publishN, if_pos (by rw [h]; decide)]
  rfl

theorem State.publishN_blocked (h : s.router.mayFire c = true) (hb : (s.router.chanAt c).blocking = true) (k : Nat) :
    s.publishN c k = ({ s with router := { s.router with
      chan := s.router.chan.put c { s.router.chanAt c with blocked := (s.router.chanAt c).blocked + BitVec.ofNat 32 k } } }).raiseN 224 k := by
  rw [State.publishN, if_neg (by rw [h]; decide), if_pos hb]
  rfl

theorem State.publishN_fired (h : s.router.mayFire c = true) (hb : (s.router.chanAt c).blocking = false) (k : Nat) :
    s.publishN c k = markSubscribers (({ s with router := s.router.wave c k }).raiseN 225 (s.router.overflows c k))
      (s.router.subscribers c) := by
  rw [State.publishN, if_neg (by rw [h]; decide), if_neg (by rw [hb]; decide)]

/-- A publication that fires changes the router by its wave, and raises and marks (R228). -/
theorem State.publishN_fired_eq (h : s.router.mayFire c = true) (hb : (s.router.chanAt c).blocking = false) (k : Nat) :
    s.publishN c k = { s with router := s.router.wave c k, vu := (s.publishN c k).vu, watcher := (s.publishN c k).watcher
                              engines := (s.publishN c k).engines } := by
  rw [State.publishN_fired h hb, markSubscribers_eq, State.raiseN_eq]

end

theorem exec_publication_some {k : Nat} (h : 0 < k) (c : Chan) (s : State) : exec (.publication c k) s = .next (s.publishN c k) := by
  rw [exec_publication, execPublication, if_neg (by omega)]

/-! ### Publications by engines (R196, R226, R237, R239) -/

theorem State.producersOff_iff (s : State) : s.producersOff = true ↔ s.power.phase = .park ∨ s.power.phase = .deep := by
  simp [State.producersOff]

/-- An engine's publication is one of its channel, or nothing in PARK and DEEP (R237; log entry 98). -/
theorem State.publishCore_spec {s u : State} (hp : u.power = s.power) {c : Nat} (hc : c < 512) :
    if s.power.phase = .park ∨ s.power.phase = .deep then u.publishCore c = u
    else exec (.publication (Fin.ofNat 512 c) 1) u = .next (u.publishCore c) := by
  have hoff : u.producersOff = true ↔ s.power.phase = .park ∨ s.power.phase = .deep := by rw [State.producersOff_iff, hp]
  have hchan : (Fin.ofNat 512 c).val = c := Nat.mod_eq_of_lt hc
  split
  · next h => exact if_pos (hoff.mpr h)
  · next h => rw [exec_publication_some Nat.one_pos, hchan, State.publishCore, if_neg fun hon => h (hoff.mp hon), State.publish]

theorem State.issue_sendei {s : State} {e : Nat} (h : s.engFree e = true) (n : Chan) :
    s.issue e (.sendei n) = .next (((s.begins e).publishCore n).modEng e (·.past 2)) := State.issue_free h _

theorem State.issue_sende {s : State} {e : Nat} (h : s.engFree e = true) (ra : Reg) :
    s.issue e (.sende ra) = .next (((s.begins e).publishValue e ((s.eng e).reg ra)).modEng e (·.past 1)) := by
  have hrun : (s.begins e).runOp e (.sende ra) = ((s.begins e).publishValue e (((s.begins e).eng e).reg ra)).modEng e (·.past 1) := rfl
  rw [State.issue_free h, hrun, State.begins_eng, Engine.begun_reg]

/-- Settles O29: the three outcomes of a publication, and the publications that engines make. -/
theorem blockAndEnginePublications : Obligations.BlockAndEnginePublications := by
  refine ⟨?blocks, ?engines⟩
  case blocks =>
    intro c k s hk x
    rw [exec_publication_some hk]
    refine ⟨fun h => congrArg _ (State.publishN_gated h k), fun h hb => congrArg _ (State.publishN_blocked h hb k), fun h hb => ?_⟩
    have heq := State.publishN_fired_eq h hb k
    have hrouter : (s.publishN c k).router = s.router.wave c k := by rw [heq]
    refine ⟨_, rfl, ?_, fun i hi => ?_, fun i hi hlow => ?_, fun i => ?_, by rw [heq], by rw [heq], by rw [heq]⟩
    · rw [hrouter]
      exact Tab.look_modify_same s.router.chan {} c fun y => { y with fired := y.fired + BitVec.ofNat 32 k, blocking := true, waves := y.waves + 1 }
    · rw [hrouter, Router.taskAt_wave, if_neg (by rw [hi]; decide)]
    · rw [hrouter, Router.taskAt_wave, if_pos hi, TaskRow.wave_low _ hlow]
    · rw [hrouter, Router.taskAt_wave]
      split
      · exact TaskRow.wave_arrivals _ i k
      · exact (BitVec.add_zero _).symm
  case engines =>
    intro e n ra v s a one
    have spec := fun {c : Nat} (hc : c < 512) (u : State) (hp : u.power = s.power) => State.publishCore_spec hp hc
    refine ⟨fun hv => ⟨_, congrArg Host.Outcome.next (if_pos hv), spec hv s rfl⟩, fun hv => congrArg Host.Outcome.next (if_neg (by omega)),
      fun h => ⟨_, spec n.isLt a rfl, State.issue_sendei h n⟩, fun h hv => ⟨_, spec hv a rfl, ?_⟩, fun h hv => ?_⟩
    · rw [exec_sende, execSende, State.issue_sende h, State.publishValue, if_pos hv]
    · rw [exec_sende, execSende, State.issue_sende h, State.publishValue, if_neg (by omega)]


/-! ### Takes and windows (R229, R232, R235) -/

theorem TaskRow.take_zero {r : TaskRow} (h : r.arr = 0) : r.take = r := if_pos h

theorem TaskRow.take_some {r : TaskRow} (h : r.arr ≠ 0) : r.take = { r with arr := 0, delivered := r.delivered + 1 } := if_neg h

theorem Router.taskAt_put (r : Router) (i k : Nat) (x : TaskRow) :
    Router.taskAt { r with task := r.task.put i x } k = if k = i then x else r.taskAt k := Tab.look_put r.task {} i k x

theorem ChanRow.windowEnd_reset : ChanRow.windowEnd {} = {} := rfl

theorem Router.chanAt_windowEnd (r : Router) (c : Nat) :
    Router.chanAt { r with chan := r.chan.map fun e => (e.1, ChanRow.windowEnd e.2) } c = (r.chanAt c).windowEnd :=
  Tab.look_map r.chan {} (fun _ => ChanRow.windowEnd) (fun _ => ChanRow.windowEnd_reset) c

/-- A take of a course port on which no context waits reaches none (R235). -/
theorem State.coursePort_none {s : State} {ch : Nat} (h : ∀ e ∈ s.courses.held, e.2.channel.map (·.toNat) ≠ some ch) :
    s.coursePort ch = s := by
  have hnone : (s.courses.held.filter fun e => (s.ctxRec e.1).suspended && (e.2.channel.map (·.toNat)) == some ch) = [] :=
    List.filter_eq_nil_iff.mpr fun e he => by simp [h e he]
  rw [State.coursePort, hnone]
  rfl

/-- Settles O30: each command is the write of the one row that it names. -/
theorem routerTakesAndWindows : Obligations.RouterTakesAndWindows := by
  intro i c m s r x p took
  refine ⟨fun h => ?some, fun h => ?zero, rfl, ?window, fun h => congrArg Host.Outcome.next (if_pos h), fun h hheld => ?port⟩
  case some =>
    have htake : r.take = took := TaskRow.take_some h
    exact ⟨congrArg (fun y => (Host.Outcome.next { s with router := { s.router with task := s.router.task.put i y } } : Out)) htake,
      congrArg (fun y => (Host.Outcome.next { s with router := { s.router with task := s.router.task.put i y } } : Out)) htake⟩
  case zero =>
    refine ⟨_, rfl, fun k => ?_⟩
    refine (Router.taskAt_put s.router i k r.take).trans ?_
    rw [TaskRow.take_zero h]
    split
    · next hk => rw [hk]
    · rfl
  case window =>
    refine ⟨_, rfl, ?_⟩
    rw [State.router_raiseN]
    have hchan := s.router.chanAt_windowEnd c
    exact ⟨(congrArg ChanRow.waves hchan :), (congrArg ChanRow.fired hchan :), (congrArg ChanRow.rateHit hchan :)⟩
  case port =>
    have hp : exec (.coursePortTake c) s = .next { s with router := { s.router with port := s.router.port.put c p.take } } := by
      have hnone := State.coursePort_none (s := { s with router := { s.router with port := s.router.port.put c p.take } }) hheld
      exact congrArg Host.Outcome.next ((if_neg h).trans hnone)
    refine ⟨_, hp, ?_⟩
    rw [TaskRow.take_some h]
    exact Tab.look_put_same s.router.port {} c _

/-! ### The account of every task input (R230) -/

/-- An arrival counts once on each side of R230's account. -/
theorem TaskRow.arrive_balanced {r : TaskRow} (h : r.balanced) : r.arrive.balanced := by
  by_cases hfull : r.arr = 15
  · rw [TaskRow.arrive, if_pos hfull]
    simp only [TaskRow.balanced] at h ⊢
    rw [h]
    ac_rfl
  · by_cases hzero : r.arr = 0
    · rw [TaskRow.arrive, if_neg hfull, if_pos hzero]
      simp only [TaskRow.balanced, hzero] at h ⊢
      rw [h]
      simp
    · have hnext : r.arr + 1 ≠ 0 := by bv_omega
      rw [TaskRow.arrive, if_neg hfull, if_neg hzero]
      simp only [TaskRow.balanced, if_pos hzero, if_pos hnext] at h ⊢
      rw [h]
      ac_rfl

theorem TaskRow.arriveN_balanced {r : TaskRow} (h : r.balanced) (k : Nat) : (r.arriveN k).balanced := by
  induction k generalizing r with
  | zero => exact h
  | succ k ih => exact ih (TaskRow.arrive_balanced h)

/-- A take that finds a count moves it from PENDING to DELIVERED. -/
theorem TaskRow.take_balanced {r : TaskRow} (h : r.balanced) : r.take.balanced := by
  by_cases hzero : r.arr = 0
  · rw [TaskRow.take_zero hzero]
    exact h
  · rw [TaskRow.take_some hzero]
    simp only [TaskRow.balanced, if_pos hzero] at h ⊢
    rw [h]
    simp
    ac_rfl

theorem TaskRow.wave_balanced {r : TaskRow} (h : r.balanced) (i k : Nat) : (r.wave i k).balanced := by
  unfold TaskRow.wave
  split
  · exact TaskRow.take_balanced (TaskRow.arriveN_balanced h k)
  · exact TaskRow.arriveN_balanced h k

theorem State.routerBalanced_of_task {s t : State} (h : s.routerBalanced) (ht : t.router.task = s.router.task) : t.routerBalanced := by
  intro i
  rw [Router.taskAt, ht]
  exact h i

theorem State.routerBalanced_publishN {s : State} (h : s.routerBalanced) (c k : Nat) : (s.publishN c k).routerBalanced := by
  cases hf : s.router.mayFire c
  · rw [State.publishN_gated hf]
    exact State.routerBalanced_of_task h rfl
  · cases hb : (s.router.chanAt c).blocking
    · intro i
      rw [State.publishN_fired_eq hf hb, Router.taskAt_wave]
      split
      · exact TaskRow.wave_balanced (h i) i k
      · exact h i
    · rw [State.publishN_blocked hf hb, State.raiseN_eq]
      exact State.routerBalanced_of_task h rfl

theorem State.routerBalanced_publishValue {s : State} (h : s.routerBalanced) (e : Nat) (v : W24) : (s.publishValue e v).routerBalanced := by
  unfold State.publishValue State.publishCore
  repeat' split
  · exact h
  · exact State.routerBalanced_publishN h _ 1
  · exact State.routerBalanced_of_task h rfl

/-- A take of one task input keeps every account. -/
theorem State.routerBalanced_take {s : State} (h : s.routerBalanced) (i : Nat) :
    State.routerBalanced { s with router := { s.router with task := s.router.task.modify {} i TaskRow.take } } := by
  intro k
  refine (Router.taskAt_put s.router i k (s.router.taskAt i).take).symm ▸ ?_
  split
  · exact TaskRow.take_balanced (h i)
  · exact h k

/-- Settles O31: an arrival and a take move both sides of the account together; the other commands leave the task inputs alone. -/
theorem routerAccounts : Obligations.RouterAccounts := by
  intro c s t h hc hstep
  cases c
  case publication c k =>
    obtain rfl := Host.Outcome.next.inj hstep
    split
    · exact h
    · exact State.routerBalanced_publishN h c k
  case publish e v => exact Host.Outcome.next.inj hstep ▸ State.routerBalanced_publishValue h e v
  case arrTake i => exact Host.Outcome.next.inj hstep ▸ State.routerBalanced_take h i
  case blockTaskStart i => exact Host.Outcome.next.inj hstep ▸ State.routerBalanced_take h i
  case rearmBlockEnd c => exact Host.Outcome.next.inj hstep ▸ State.routerBalanced_of_task h rfl
  case rateWindowEnd =>
    obtain rfl := Host.Outcome.next.inj hstep
    exact State.routerBalanced_of_task h (by rw [State.router_raiseN])
  case routerSnapSel m i =>
    obtain rfl := Host.Outcome.next.inj hstep
    split <;> exact State.routerBalanced_of_task h rfl
  all_goals exact hc.elim

end Sys2Proof.Machine

namespace Sys2Proof.Machine

/-! ### Notices of a message (R245, R246) -/

theorem State.noticeReceiver_eq (s : State) (x : MboxRow) : s.noticeReceiver x = { s with
    vu := (s.noticeReceiver x).vu, watcher := (s.noticeReceiver x).watcher, engines := (s.noticeReceiver x).engines } := by
  unfold State.noticeReceiver
  repeat' split
  · rfl
  · rw [State.markWarm_eq]
  · rfl

theorem State.noticeSender_eq (s : State) (x : MboxRow) : s.noticeSender x = { s with
    vu := (s.noticeSender x).vu, watcher := (s.noticeSender x).watcher, engines := (s.noticeSender x).engines } := by
  unfold State.noticeSender
  repeat' split
  · rfl
  · rw [State.markWarm_eq]
  · rfl

/-! ### The outcomes of a SEND and an ACK (R244 to R246) -/

section
variable {s : State} {m c : Nat}

theorem State.mailSend_violation (h : s.mbox.maySend m c = false) (tag : BitVec 16) : s.mailSend m c tag = s.violation := by
  rw [State.mailSend, if_pos (by rw [h]; decide)]

theorem State.mailSend_refused (h : s.mbox.maySend m c = true) (hf : (s.mbox.row c).full = true) (tag : BitVec 16) :
    s.mailSend m c tag = (s.setMbox c (s.mbox.row c).sendRefused).raise 230 := by
  rw [State.mailSend, if_neg (by rw [h]; decide), if_pos hf]
  rfl

theorem State.mailSend_delivered (h : s.mbox.maySend m c = true) (hf : (s.mbox.row c).full = false) (tag : BitVec 16) :
    s.mailSend m c tag = (s.setMbox c ((s.mbox.row c).sendTo m tag)).noticeReceiver (s.mbox.row c) := by
  rw [State.mailSend, if_neg (by rw [h]; decide), if_neg (by rw [hf]; decide)]

theorem State.mailAck_violation (h : s.mbox.mayAck m c = false) (v : W24) : s.mailAck m c v = s.violation := by
  rw [State.mailAck, if_pos (by rw [h]; decide)]

theorem State.mailAck_taken (h : s.mbox.mayAck m c = true) (hf : (s.mbox.row c).full = true) (v : W24) :
    s.mailAck m c v = (s.setMbox c ((s.mbox.row c).ackTaken v)).noticeSender (s.mbox.row c) := by
  rw [State.mailAck, if_neg (by rw [h]; decide), if_pos hf]
  rfl

theorem State.mailAck_stray (h : s.mbox.mayAck m c = true) (hf : (s.mbox.row c).full = false) (v : W24) :
    s.mailAck m c v = s.setMbox c (s.mbox.row c).ackStray := by
  rw [State.mailAck, if_neg (by rw [h]; decide), if_neg (by rw [hf]; decide)]
  rfl

end

/-- The message that a send leaves in the slot: word 0 stamped, the others as staged (R242, R245). -/
theorem MboxRow.sendTo_slot (x : MboxRow) (m : Nat) (tag : BitVec 16) :
    (x.sendTo m tag).slot.look 0 0 = slotWord0 m tag ∧ ∀ i, i ≠ 0 → (x.sendTo m tag).slot.look 0 i = x.stage.look 0 i :=
  ⟨Tab.look_put_same _ 0 0 _, fun _ hi => (Tab.look_put_other _ 0 _ hi).trans (Tab.look_del_other _ 0 hi)⟩

/-- A master that takes no part in the mailboxes is the debug port while it is closed (R241, R339). -/
theorem State.mailMaster_closed {s : State} {m : Nat} (h : m = 99) (hd : s.debugOpen = false) : s.mailMaster m = false := by
  simp [State.mailMaster, h, hd]

/-- Settles O32: each outcome is that of `mailSend` or `mailAck`, chosen by the master's right and the slot. -/
theorem mailboxSendsAndAcks : Obligations.MailboxSendsAndAcks := by
  refine ⟨?sends, ?acks⟩
  case sends =>
    intro m c v s x
    refine ⟨fun h hd => by rw [exec_send, execSend, State.mailMaster_closed h hd]; rfl, fun hm => ?_⟩
    rw [exec_send_of_mailMaster ((s.mailMaster_iff m).mpr hm)]
    refine ⟨fun h hf => ⟨_, rfl, ?_⟩, fun h hf => congrArg _ (State.mailSend_refused h hf _), fun h => congrArg _ (State.mailSend_violation h _)⟩
    obtain ⟨hword, hstage⟩ := x.sendTo_slot m (v.extractLsb' 8 16)
    rw [State.mailSend_delivered h hf, State.noticeReceiver_eq, State.row_setMbox_same]
    exact ⟨rfl, rfl, rfl, rfl, hword, fun i h1 _ => hstage i (by omega), rfl, rfl, fun k hk => State.row_setMbox_other s _ hk, rfl, rfl⟩
  case acks =>
    intro m c v s x
    refine ⟨fun h hd => by rw [exec_ack, execAck, State.mailMaster_closed h hd]; rfl, fun hm => ?_⟩
    rw [exec_ack_of_mailMaster ((s.mailMaster_iff m).mpr hm)]
    refine ⟨fun h hf => ⟨_, rfl, ?_⟩, fun h hf => congrArg _ (State.mailAck_stray h hf _), fun h => congrArg _ (State.mailAck_violation h _)⟩
    have hlow : v.setWidth 24 = v.extractLsb' 0 24 := BitVec.setWidth_eq_extractLsb' (by decide)
    rw [State.mailAck_taken h hf, State.noticeSender_eq, State.row_setMbox_same, hlow]
    exact ⟨rfl, fun k hk => State.row_setMbox_other s _ hk, rfl, rfl⟩

/-! ### Crossings (R250) -/

/-- A mark of a held source leaves the episodes that an engine has seen. -/
theorem markHeld_crossed (v : VectorUnit) (n : Nat) (t : Tab Engine) (e : Nat) :
    (Tab.look (markHeld v n t) {} e).crossed = (t.look {} e).crossed := by
  simp only [markHeld]
  split
  · refine List.foldlRecOn (motive := fun u : Tab Engine => (u.look {} e).crossed = (t.look {} e).crossed) _ _ rfl fun u hu k _ => ?_
    split
    · by_cases hk : e = k
      · rw [hk, Tab.look_modify_same]
        exact hk ▸ hu
      · rw [Tab.look_modify_other _ _ _ _ hk]
        exact hu
    · exact hu
  · rfl

theorem State.crossed_raise (s : State) (n e : Nat) : ((s.raise n).eng e).crossed = (s.eng e).crossed := by
  rw [State.eng, State.raise]
  dsimp only
  split
  · rfl
  · rw [markHeld_crossed, markHeld_crossed]
    rfl

/-- Engine e has seen the episode. -/
def State.seen (s : State) (ep : Nat × Nat × W32 × W32) (e : Nat) : State := s.modEng e fun x => { x with crossed := ep :: x.crossed }

/-- The two engines of a crossing see its episode, which is counted and raised (R250). -/
def State.crossed (s : State) (a b : Nat) : State :=
  let ep := s.episode a b
  let p := s.mbox.ends a
  let u := (s.seen ep p.1).seen ep p.2
  { u with mbox := { u.mbox with crossA := BitVec.ofNat 10 ep.1, crossB := BitVec.ofNat 10 ep.2.1
                                 crossings := u.mbox.crossings + 1 } }.raise 228

theorem execCrossingDetected_new {s : State} {a b : Mbox} (h : s.crossing a b = true) (hl : s.mbox.crossLimit ≠ 0)
    (hnew : s.episode a b ∉ (s.eng (s.mbox.ends a).1).crossed) : execCrossingDetected a b s = .next (s.crossed a b) :=
  if_pos ⟨h, hl, fun hold => hnew hold.1⟩

theorem execCrossingDetected_seen {s : State} {a b : Mbox} (h1 : s.episode a b ∈ (s.eng (s.mbox.ends a).1).crossed)
    (h2 : s.episode a b ∈ (s.eng (s.mbox.ends a).2).crossed) : execCrossingDetected a b s = .next s :=
  if_neg fun hc => hc.2.2 ⟨h1, h2⟩

theorem State.crossed_seen (s : State) (ep : Nat × Nat × W32 × W32) (e : Nat) : ep ∈ ((s.seen ep e).eng e).crossed := by
  rw [State.seen, State.eng_modEng_same]
  exact List.mem_cons_self

theorem State.crossed_seen_mono {s : State} {ep : Nat × Nat × W32 × W32} {k : Nat} (h : ep ∈ (s.eng k).crossed) (e : Nat) :
    ep ∈ ((s.seen ep e).eng k).crossed := by
  by_cases hk : k = e
  · exact hk ▸ s.crossed_seen ep k
  · rw [State.seen, State.eng_modEng_other _ _ hk]
    exact h

/-- Behind a crossing both engines have seen its episode. -/
theorem State.crossed_crossed (s : State) (a b : Nat) :
    s.episode a b ∈ ((s.crossed a b).eng (s.mbox.ends a).1).crossed ∧ s.episode a b ∈ ((s.crossed a b).eng (s.mbox.ends a).2).crossed := by
  rw [State.crossed, State.crossed_raise, State.crossed_raise]
  exact ⟨State.crossed_seen_mono (s.crossed_seen (s.episode a b) (s.mbox.ends a).1) (s.mbox.ends a).2,
    State.crossed_seen (s.seen (s.episode a b) (s.mbox.ends a).1) (s.episode a b) (s.mbox.ends a).2⟩

/-- Settles O33: the lock by the master's number; a crossing is counted once, since both engines then have its episode. -/
theorem mailboxLockAndCrossings : Obligations.MailboxLockAndCrossings := by
  intro m a b s
  refine ⟨fun h => ?lock, fun h h2 => ?noLock, fun h hl hnew => ?crossing, fun h => if_neg fun hc => by rw [h] at hc; exact nomatch hc.1⟩
  case lock =>
    have hm : (tile0 m || m.val == 98) = true := by
      obtain h | rfl := h
      · simp [tile0, h]
      · rfl
    rw [exec_mailboxLock, execMailboxLock, State.mailLock, if_pos hm]
    rfl
  case noLock =>
    have hm : ¬(tile0 m || m.val == 98) = true := by
      have h98 : m.val ≠ 98 := fun hv => h2 (Fin.ext hv)
      simp [tile0, h98, h]
    rw [exec_mailboxLock, execMailboxLock, State.mailLock, if_neg hm]
    rfl
  case crossing =>
    obtain ⟨h1, h2⟩ := s.crossed_crossed a b
    exact ⟨s.crossed a b, execCrossingDetected_new h hl (by rw [hnew]; exact List.not_mem_nil), rfl, rfl, rfl, rfl,
      execCrossingDetected_seen (s := s.crossed a b) h1 h2⟩

end Sys2Proof.Machine

namespace Sys2Proof.Machine

/-! ### Submissions (R257 to R259, R266, R430) -/

section
variable {s : State} {i a : Nat} {sign : Bool} {engine : Option Eng} {host : Option EntryRef}

theorem Mortar.room_iff (m : Mortar) (i : Nat) : m.room i = true ↔ (m.row i).jobs.length < 8 := by
  simp [Mortar.room]

/-- The job that a descriptor asks for (R258). -/
def softJob (s : State) (d : JobDesc) (engine : Option Eng) (host : Option EntryRef) : Job :=
  { kind := .soft d.op d.key d.len d.src d.dst d.sig, tag := d.tag, engine := engine, host := host, since := s.tnow }

theorem State.submitJob_queued (h : (s.mortar.row i).jobs.length < 8) (hd : s.jobStatus (readJobDesc (s.devBytes a 32)) sign = 0) :
    s.submitJob i a sign engine host = s.mortarTurn { s.mortar with input := s.mortar.input.put i { s.mortar.row i with
      jobs := (s.mortar.row i).jobs ++ [softJob s (readJobDesc (s.devBytes a 32)) engine host] } } := by
  rw [State.submitJob, if_neg (Classical.not_not.mpr ((s.mortar.room_iff i).mpr h))]
  simp only [hd]
  rfl

theorem State.submitJob_full (h : 8 ≤ (s.mortar.row i).jobs.length) :
    s.submitJob i a sign engine host = ({ s with mortar := { s.mortar with
      input := s.mortar.input.put i { s.mortar.row i with subRefused := (s.mortar.row i).subRefused + 1 } } }).raise 207 := by
  rw [State.submitJob, if_pos fun hr => absurd ((s.mortar.room_iff i).mp hr) (by omega)]

end

theorem jobAddrOk_iff (a : Nat) : jobAddrOk a = true ↔ a % 32 = 0 ∧ a + 31 < 0x370000000 := by
  simp [jobAddrOk]

/-- Settles O35: an accepted address leads to `submitJob`, whose outcome is its queue's room and its descriptor's checks. -/
theorem mortarSubmissions : Obligations.MortarSubmissions := by
  intro e m v s a t d j q
  have hself : Fin.ofNat 96 e.val = e := Fin.ext (Nat.mod_eq_of_lt e.isLt)
  have accepted : a % 32 = 0 → a + 31 < 0x370000000 →
      exec (.submitHi e v) s = .next (s.submitJob t a (decide (e.val < 8)) (some e) none) := fun h1 h2 => by
    rw [exec_submitHi, execSubmitHi, State.submitEngine, if_pos ((jobAddrOk_iff _).mpr ⟨h1, h2⟩), hself]
    rfl
  refine ⟨fun h1 h2 hroom hd => ?queued, fun h1 h2 hfull => ?full, fun h => ?fault, fun h => ?refused, fun hm => ?twelve⟩
  case queued => rw [accepted h1 h2, State.submitJob_queued hroom hd]; rfl
  case full => rw [accepted h1 h2, State.submitJob_full hfull]
  case fault =>
    rw [exec_submitHi, execSubmitHi, State.submitEngine, if_neg fun hok => ?_]
    have hok2 := (jobAddrOk_iff _).mp hok
    exact h.elim (fun h1 => h1 hok2.1) fun h2 => absurd hok2.2 (by omega)
  case refused => rw [exec_submit12Lo, execSubmit12Lo, if_neg (by rw [h]; decide)]
  case twelve =>
    intro b d2 p h1 h2 hroom hd
    have hfw : s.fw m = true := by simp [State.fw, tile0, hm]
    have hheld : s.heldHi m = (s.eng m).submit12Hi := if_pos (by omega)
    rw [exec_submit12Lo, execSubmit12Lo, if_pos hfw, State.submit12, hheld, if_pos ((jobAddrOk_iff _).mpr ⟨h1, h2⟩), if_pos (by omega),
      State.submitJob_queued hroom hd]
    rfl


/-! ### What the arbiter leaves alone -/

@[simp] theorem State.mem_mortarTurn (s : State) (m : Mortar) : (s.mortarTurn m).mem = s.mem := by
  have hturn : ∀ (a : Mortar) (new : BitVec 15), ((List.range 15).foldl (fun (s : State) i => if new.getLsbD i then s.raise (192 + i) else s)
      { s with mortar := a }).mem = s.mem := fun a new => by
    refine List.foldlRecOn (motive := fun t : State => t.mem = s.mem) _ _ rfl fun t ht i _ => ?_
    split <;> exact ht
  exact hturn _ _

@[simp] theorem State.mem_finishJob (s : State) (i : Nat) (j : Job) : (s.finishJob i j).mem = s.mem := rfl

@[simp] theorem State.mem_askVerify (s : State) (c : Nat) (record : Bool) : (s.askVerify c record).mem = s.mem := by
  unfold State.askVerify
  split <;> rfl

@[simp] theorem State.mem_retryVerify (s : State) : s.retryVerify.mem = s.mem := by
  refine List.foldlRecOn (motive := fun t : State => t.mem = s.mem) _ _ rfl fun t ht e _ => ?_
  split
  · exact (State.mem_askVerify t _ _).trans ht
  · exact ht

/-- With no job of a lane held back only the VERIFY jobs of courses are tried again (R257). -/
theorem State.retryHeld_of_no_lane {s : State} (h : ∀ l, (s.lane l).sealHeld = false ∧ (s.lane l).signHeld = false) :
    s.retryHeld = s.retryVerify.turnNow := by
  have hlanes : s.lanes.foldl (fun t e =>
      let a := if (t.lane e.1).sealHeld then t.askSeal e.1 else t
      if (a.lane e.1).signHeld then a.askSign e.1 else a) s = s := by
    refine List.foldlRecOn (motive := fun t : State => t = s) _ _ rfl fun t ht e _ => ?_
    subst ht
    simp only [h, Bool.false_eq_true, if_false]
  rw [State.retryHeld, hlanes]

/-! ### A hash job's completion (R259) -/

/-- Memory with a hash job's digest at DST and its completion word behind it (R259). -/
def State.hashed (s : State) (n len : Nat) (h : Job) (src dst : DevAddr) : State :=
  (s.setBytes dst.toNat (toBE 48 (Config.sha384 (s.devBytes src.toNat len)).toNat)).setBytes (dst.toNat + 0x60) (completionWord 0 h.tag n)

theorem State.lanes_hashed (s : State) (n len : Nat) (h : Job) (src dst : DevAddr) : (s.hashed n len h src dst).lanes = s.lanes := by
  rw [State.hashed, State.lanes_setBytes, State.lanes_setBytes]

theorem State.jobDone_hash {s : State} {n len : Nat} {h : Job} {src dst : DevAddr} (hk : h.kind = .soft 1 0 len src dst 0)
    (he : h.engine = none) : s.jobDone n h = ((s.hashed n len h src dst).finishJob n h, 0) := by
  simp only [State.jobDone, hk, he]
  rfl

@[simp] theorem toBE_length (n v : Nat) : (toBE n v).length = n := by rw [toBE, List.length_reverse, toLE_length]

@[simp] theorem completionWord_length (st : Status) (tag : BitVec 16) (n : Nat) : (completionWord st tag n).length = 8 := toLE_length 8 _

theorem completionWord_done (tag : BitVec 16) (n : Nat) : completionWord 0 tag n = toLE 8 (tag.toNat * 2 ^ 16 + n * 2 ^ 32) := by
  rw [completionWord, show (0 : Status).toNat = 0 from rfl, Nat.zero_add]

theorem State.bytesAt_congr {s t : State} {a n : Nat} (h : ∀ i, i < n → t.byteAt (a + i) = s.byteAt (a + i)) :
    t.bytesAt a n = s.bytesAt a n := List.map_congr_left fun i hi => h i (List.mem_range.mp hi)

/-- Of the digest, the completion word and every other byte (R259). -/
theorem State.hashed_bytes (s : State) (n len : Nat) (h : Job) (src : DevAddr) {dst : DevAddr} (hin : dst.toNat + 0x68 ≤ 0x370000000) :
    (s.hashed n len h src dst).bytesAt dst.toNat 48 = toBE 48 (Config.sha384 (s.devBytes src.toNat len)).toNat ∧
    (s.hashed n len h src dst).bytesAt (dst.toNat + 0x60) 8 = toLE 8 (h.tag.toNat * 2 ^ 16 + n * 2 ^ 32) ∧
    ∀ a, a < dst.toNat ∨ dst.toNat + 0x68 ≤ a → (s.hashed n len h src dst).byteAt a = s.byteAt a := by
  generalize hr : toBE 48 (Config.sha384 (s.devBytes src.toNat len)).toNat = r
  have hlen : r.length = 48 := by rw [← hr, toBE_length]
  have hstate : s.hashed n len h src dst = (s.setBytes dst.toNat r).setBytes (dst.toNat + 0x60) (completionWord 0 h.tag n) := by
    rw [State.hashed, hr]
  have hword := (s.setBytes dst.toNat r).bytesAt_setBytes_dram (a := dst.toNat + 0x60) (b := completionWord 0 h.tag n)
    (by rw [completionWord_length]; omega)
  have hdig := s.bytesAt_setBytes_dram (a := dst.toNat) (b := r) (by omega)
  rw [completionWord_length, completionWord_done] at hword
  rw [hlen] at hdig
  rw [hstate, completionWord_done]
  refine ⟨?_, hword, fun a ha => ?_⟩
  · rw [← hdig]
    refine State.bytesAt_congr fun i hi => ?_
    rw [hdig]
    exact State.byteAt_setBytes_other _ _ _ _ (.inl (by omega))
  · rw [State.byteAt_setBytes_other _ _ _ _ (by rw [toLE_length]; omega), State.byteAt_setBytes_other _ _ _ _ (by omega)]

theorem State.unitDone_hash {s : State} {u : Fin 10} {n len : Nat} {h : Job} {src dst : DevAddr} (hu : s.mortar.holder u = some (n, h))
    (hk : h.kind = .soft 1 0 len src dst 0) (hh : h.host = none) : s.unitDone u = (s.jobDone n h).1.retryHeld := by
  simp only [State.unitDone, hu, hk, hh]

/-- A software job completes into t while no lane's job is held back (R259). -/
theorem exec_mortarJobComplete_soft {s t : State} {u : Fin 10} {n len : Nat} {h : Job} {src dst : DevAddr}
    (hu : s.mortar.holder u = some (n, h)) (hk : h.kind = .soft 1 0 len src dst 0) (hh : h.host = none)
    (hd : s.jobDone n h = (t.finishJob n h, 0)) (hlanes : t.lanes = s.lanes)
    (hheld : ∀ l, (s.lane l).sealHeld = false ∧ (s.lane l).signHeld = false) :
    exec (.mortarJobComplete u) s = .next ((t.finishJob n h).retryVerify.turnNow) := by
  have hlane : ∀ l, ((t.finishJob n h).lane l) = s.lane l := fun l => congrArg (Tab.look · ({} : LaneSt) l) hlanes
  rw [exec_mortarJobComplete, execMortarJobComplete, State.unitDone_hash hu hk hh, hd, State.retryHeld_of_no_lane fun l => ?_]
  rw [hlane]
  exact hheld l

/-! ### The oldest waiting job (R264) -/

theorem foldl_max_le {α : Type} (f : α → Nat) {b : Nat} {l : List α} (h : ∀ x ∈ l, f x ≤ b) : l.foldl (fun a x => max a (f x)) b = b := by
  refine List.foldlRecOn (motive := fun a => a = b) l _ rfl fun a ha x hx => ?_
  rw [ha]
  exact Nat.max_eq_left (h x hx)

theorem starveOldest_first {now : BitVec 48} {j : Job} {rest : List Job} (hj : j.unit = none)
    (h : ∀ k ∈ rest, k.unit = none → k.age now ≤ j.age now) : starveOldest now (j :: rest) = { j with starved := true } :: rest := by
  have hwait : (j :: rest).filter (·.unit.isNone) = j :: rest.filter (·.unit.isNone) := List.filter_cons_of_pos (by simp [hj])
  have hage : ((j :: rest).filter (·.unit.isNone)).foldl (fun (a : Nat) k => max a (k.age now)) 0 = j.age now := by
    rw [hwait, List.foldl_cons, Nat.zero_max]
    refine foldl_max_le _ fun k hk => ?_
    obtain ⟨hin, hnone⟩ := List.mem_filter.mp hk
    exact h k hin (Option.isNone_iff_eq_none.mp hnone)
  rw [starveOldest, hage, starveAged, hj]
  simp

/-- Settles O36: the completion's two writes with their frame, and the mark of the first, oldest job. -/
theorem mortarCompletionsAndStarvation : Obligations.MortarCompletionsAndStarvation := by
  intro u i j rest s
  refine ⟨?hash, ?starve⟩
  case hash =>
    intro n h len src dst hu hk he hh hheld hin
    have hdone := exec_mortarJobComplete_soft hu hk hh (State.jobDone_hash hk he) (s.lanes_hashed n len h src dst) hheld
    have hmem : (((s.hashed n len h src dst).finishJob n h).retryVerify.turnNow).mem = (s.hashed n len h src dst).mem := by
      rw [State.turnNow, State.mem_mortarTurn, State.mem_retryVerify, State.mem_finishJob]
    have hbyte : ∀ a, (((s.hashed n len h src dst).finishJob n h).retryVerify.turnNow).byteAt a = (s.hashed n len h src dst).byteAt a :=
      fun a => congrArg (Tab.look · 0 a) hmem
    obtain ⟨hdig, hword, hframe⟩ := s.hashed_bytes n len h src hin
    exact ⟨_, hdone, (State.bytesAt_congr fun i _ => hbyte _).trans hdig, (State.bytesAt_congr fun i _ => hbyte _).trans hword,
      fun a ha => (hbyte a).trans (hframe a ha)⟩
  case starve =>
    intro hj hnone hold
    rw [exec_starvationDetected, execStarvationDetected, hj, starveOldest_first hnone hold]

end Sys2Proof.Machine

namespace Sys2Proof.Machine

/-! ### The waiting classes (R267, R268) -/

/-- A class waits exactly where a request of it is queued. -/
theorem classWaits_any (q : List DramWait) (now n : Nat) :
    ((classWaits q now).any fun c => c.1.val == n) = true ↔ ∃ r ∈ q, r.cls.val = n := by
  rw [List.any_eq_true]
  constructor
  · rintro ⟨c, hc, hn⟩
    obtain ⟨k, -, hk⟩ := List.mem_filterMap.mp hc
    split at hk
    · nomatch hk
    · next r rest hq =>
      obtain rfl := Option.some.inj hk
      have hr : r ∈ q.filter (·.cls == k) := hq ▸ List.mem_cons_self
      obtain ⟨hin, hcls⟩ := List.mem_filter.mp hr
      exact ⟨r, hin, (congrArg Fin.val (beq_iff_eq.mp hcls)).trans (beq_iff_eq.mp hn)⟩
  · rintro ⟨r, hr, hn⟩
    have hin : r ∈ q.filter (·.cls == r.cls) := List.mem_filter.mpr ⟨hr, beq_self_eq_true _⟩
    obtain ⟨x, rest, hq⟩ := List.exists_cons_of_ne_nil (List.ne_nil_of_mem hin)
    refine ⟨(r.cls, rest.foldl (fun (a : Nat) y => max a (now - y.since)) (now - x.since)), List.mem_filterMap.mpr ⟨r.cls, List.mem_finRange _, ?_⟩,
      beq_iff_eq.mpr hn⟩
    rw [hq]

theorem classWaits_nil (now : Nat) : classWaits [] now = [] := rfl

/-- One request waits in its class alone. -/
theorem classWaits_one (r : DramWait) (now : Nat) : classWaits [r] now = [(r.cls, now - r.since)] := by
  obtain ⟨cls, bytes, since⟩ := r
  match cls with
  | 0 | 1 | 2 | 3 | 4 | 5 | 6 => rfl

theorem recipient_owner {q : List DramWait} {owner : BitVec 3} (h : ∃ r ∈ q, r.cls.val = owner.toNat) (declared : Bool) (now : Nat) :
    recipient owner declared (classWaits q now) = some (owner, true) := if_pos ((classWaits_any q now _).mpr h)

/-- After a declaration class 6 comes before the others where the owner does not wait (R268). -/
theorem recipient_six {q : List DramWait} {owner : BitVec 3} (h : ¬∃ r ∈ q, r.cls.val = owner.toNat) (h6 : ∃ r ∈ q, r.cls = 6) (now : Nat) :
    recipient owner true (classWaits q now) = some (6, false) := by
  have hsix : ∃ r ∈ q, r.cls.val = 6 := h6.imp fun r hr => ⟨hr.1, congrArg Fin.val hr.2⟩
  rw [recipient, if_neg fun hw => h ((classWaits_any q now _).mp hw), if_pos ⟨rfl, (classWaits_any q now 6).mpr hsix⟩]

/-- The only class that waits is served, as owner or not (R268). -/
theorem recipient_one (owner : BitVec 3) (declared : Bool) (r : DramWait) (now : Nat) : recipient owner declared (classWaits [r] now) =
    some (BitVec.ofNat 3 r.cls, decide (r.cls.val = owner.toNat)) := by
  have hval : (BitVec.ofNat 3 r.cls).toNat = r.cls.val := Nat.mod_eq_of_lt (by omega)
  rw [classWaits_one]
  by_cases howner : r.cls.val = owner.toNat
  · have hsame : owner = BitVec.ofNat 3 r.cls := BitVec.eq_of_toNat_eq (howner.symm.trans hval.symm)
    rw [recipient, if_pos (by simp [howner]), decide_eq_true howner, hsame]
  · rw [recipient, if_neg (by simp [howner]), decide_eq_false howner]
    by_cases h6 : declared = true ∧ r.cls.val = 6
    · rw [if_pos (by simp [h6]), h6.2]
      rfl
    · rw [if_neg (by simpa using h6)]
      rfl

theorem serveClass_whole {r : DramWait} {n : Nat} (h : r.bytes ≤ n) : serveClass r.cls n [r] = [] := by
  simp [serveClass, Nat.not_lt.mpr h]

theorem serveClass_part {r : DramWait} {n : Nat} (h : n < r.bytes) : serveClass r.cls n [r] = [{ r with bytes := r.bytes - n }] := by
  simp [serveClass, h]

/-- The queue behind a slot while one request waits (R268). -/
theorem slotStart_queue_one {now : Nat} {new : List DramRequest} {s t : State} {r : DramWait}
    (hq : s.slots.queue ++ new.map s.dramWait = [r]) (ht : exec (.slotStart ⟨now, new⟩) s = .next t) :
    t.slots.queue = serveClass r.cls 4096 [r] := by
  have hval : (BitVec.ofNat 3 r.cls).toNat = r.cls.val := Nat.mod_eq_of_lt (by omega)
  simp only [exec_slotStart, execSlotStart, hq, recipient_one, hval] at ht
  exact (congrArg (fun u : State => u.slots.queue) (Host.Outcome.next.inj ht)).symm

theorem slotStart_served_none {now : Nat} {new : List DramRequest} {s t : State} (hq : s.slots.queue ++ new.map s.dramWait = [])
    (ht : exec (.slotStart ⟨now, new⟩) s = .next t) : t.slots.served = none := by
  simp only [exec_slotStart, execSlotStart, hq, classWaits_nil] at ht
  refine (congrArg (fun u : State => u.slots.served) (Host.Outcome.next.inj ht)).symm.trans ?_
  simp [recipient, oldestClass]

/-- A write of SLOT_SEL by a master that may set the controller up (R270, R271). -/
theorem exec_slotSel_fw {m : Master} {s : State} (h : s.fw m = true) (v : W32) : exec (.slotSel m v) s =
    .next (if s.slots.hasSix (v.getLsbD 0) then { s with slots := { s.slots with sel := v.getLsbD 0, swapPending := true } } else s.addrFault m) := by
  have hbe : (0xFFFFFFFF : W32).getLsbD 0 = true := rfl
  rw [exec_slotSel, execSlotSel, State.slotWrite, if_neg (Classical.not_not.mpr h), if_pos rfl, if_pos hbe, Slots.writeSel]
  split <;> rfl

/-- Settles O37: the recipient that the waiting classes give, and the writes of SLOT_SEL. -/
theorem slotTables : Obligations.SlotTables := by
  intro now new m v s k owner q
  refine ⟨⟨_, rfl, rfl, fun h => recipient_owner h s.holdup.declared now, fun h hd h6 => ?six, fun r hq hne => ?other, fun r hq hb => ?whole,
    fun r hq hb => ?part, fun hq => ?none, rfl⟩, fun r h1 h2 h3 => ?cls, fun h h6 => ?sel, fun h h6 => ?noSix, fun h => ?refused, rfl⟩
  case six =>
    have hsix := recipient_six h h6 now
    rw [← hd] at hsix
    exact hsix
  case other =>
    have hone := recipient_one owner s.holdup.declared r now
    rw [← hq, decide_eq_false hne] at hone
    exact hone
  case whole => exact (slotStart_queue_one hq rfl).trans (serveClass_whole hb)
  case part => exact (slotStart_queue_one hq rfl).trans (serveClass_part hb)
  case none => exact slotStart_served_none hq rfl
  case cls => simp [State.dramClass, h1, h2, h3]
  case sel => rw [exec_slotSel_fw h, if_pos h6]
  case noSix => rw [exec_slotSel_fw h, if_neg (by rw [h6]; decide)]
  case refused =>
    rw [exec_slotSel, execSlotSel, State.slotWrite, if_pos (by rw [h]; decide)]
    rfl

end Sys2Proof.Machine

namespace Sys2Proof.Machine

/-! ### Pairs read back (R279) -/

@[simp] theorem State.pair_setPair_same (s : State) (q : Nat) (p : Pair) : (s.setPair q p).pair q = p := Tab.look_put_same s.rings.pair {} q p

theorem State.pair_setPair_other (s : State) {q k : Nat} (p : Pair) (h : k ≠ q) : (s.setPair q p).pair k = s.pair k :=
  Tab.look_put_other s.rings.pair {} p h

@[simp] theorem State.setPair_setPair (s : State) (q : Nat) (p r : Pair) : (s.setPair q p).setPair q r = s.setPair q r := by
  simp only [State.setPair, Tab.put_put]

@[simp] theorem State.setPair_modPair (s : State) (q : Nat) (p : Pair) (f : Pair → Pair) : (s.setPair q p).modPair q f = s.setPair q (f p) := by
  rw [State.modPair, State.pair_setPair_same, State.setPair_setPair]

/-! ### Word 00h of a pair: a write of EN leaves its other fields alone (R279, R280) -/

theorem merge_bit0 (c v : W32) : (merge c v 1).getLsbD 0 = v.getLsbD 0 := by simp [merge]

theorem merge_bit (c v : W32) {k : Nat} (h : 0 < k) : (merge c v 1).getLsbD k = c.getLsbD k := by
  have hone : (1#32).getLsbD k = false := by
    rw [BitVec.getLsbD_one]
    simp
    omega
  rw [merge, BitVec.getLsbD_or, BitVec.getLsbD_and, BitVec.getLsbD_and, BitVec.getLsbD_not, show (1 : W32) = 1#32 from rfl, hone]
  by_cases hk : k < 32
  · simp [hk]
  · simp [BitVec.getLsbD_of_ge c k (by omega)]

theorem merge_field (c v : W32) {k n : Nat} (h : 0 < k) : (merge c v 1).extractLsb' k n = c.extractLsb' k n := by
  ext i hi
  simp only [BitVec.getElem_extractLsb']
  exact merge_bit c v (by omega)

/-- The number that `pack` makes a word of. -/
def packed (fs : List (Nat × Nat)) (a : Nat) : Nat := fs.foldl (fun a f => a + f.1 * 2 ^ f.2) a

theorem packed_nil (a : Nat) : packed [] a = a := rfl

theorem packed_cons (a x k : Nat) (fs : List (Nat × Nat)) : packed ((x, k) :: fs) a = packed fs (a + x * 2 ^ k) := rfl

theorem pack_bit {fs : List (Nat × Nat)} {k n : Nat} (hn : packed fs 0 = n) (h : k < 32) (b : Bool) (hb : n / 2 ^ k % 2 = b.toNat) :
    (pack fs).getLsbD k = b := by
  have hpack : pack fs = BitVec.ofNat 32 n := congrArg (BitVec.ofNat 32) hn
  rw [hpack, BitVec.getLsbD_ofNat, decide_eq_true h, Bool.true_and, Nat.testBit_eq_decide_div_mod_eq, hb]
  cases b <;> rfl

theorem pack_field {fs : List (Nat × Nat)} {k m n : Nat} (hn : packed fs 0 = n) (hm : k + m ≤ 32) (v : BitVec m)
    (hv : n / 2 ^ k % 2 ^ m = v.toNat) : (pack fs).extractLsb' k m = v := by
  apply BitVec.eq_of_toNat_eq
  have hpack : pack fs = BitVec.ofNat 32 n := congrArg (BitVec.ofNat 32) hn
  have hsplit : (2 : Nat) ^ 32 = 2 ^ k * 2 ^ (32 - k) := by rw [← Nat.pow_add, Nat.add_sub_cancel' (by omega)]
  have hdvd : (2 : Nat) ^ m ∣ 2 ^ (32 - k) := Nat.pow_dvd_pow 2 (by omega)
  rw [BitVec.extractLsb'_toNat, hpack, BitVec.toNat_ofNat, Nat.shiftRight_eq_div_pow, ← hv, hsplit, Nat.mod_mul_right_div_self,
    Nat.mod_mod_of_dvd _ hdvd]

theorem Pair.ctlWord_packed (p : Pair) : packed [(p.en.toNat, 0), (p.txn.toNat, 1), (p.recover.toNat, 2), (p.cfgErr.toNat, 3),
    (p.irqEn.toNat, 4), (p.weight.toNat, 8), (p.burst.toNat, 16), (p.irqGroup.toNat, 24)] 0 =
    p.en.toNat + 2 * p.txn.toNat + 4 * p.recover.toNat + 8 * p.cfgErr.toNat + 16 * p.irqEn.toNat + 256 * p.weight.toNat +
      65536 * p.burst.toNat + 16777216 * p.irqGroup.toNat := by
  rw [packed_cons, packed_cons, packed_cons, packed_cons, packed_cons, packed_cons, packed_cons, packed_cons, packed_nil]
  omega

/-- The fields of the control word, as it packs them. -/
theorem Pair.ctlWord_fields (p : Pair) : p.ctlWord.getLsbD 1 = p.txn ∧ p.ctlWord.getLsbD 2 = p.recover ∧ p.ctlWord.getLsbD 4 = p.irqEn ∧
    p.ctlWord.extractLsb' 8 8 = p.weight ∧ p.ctlWord.extractLsb' 16 7 = p.burst ∧ p.ctlWord.extractLsb' 24 5 = p.irqGroup := by
  have hweight := p.weight.isLt
  have hburst := p.burst.isLt
  have hgroup := p.irqGroup.isLt
  have hen := p.en.toNat_lt
  have htxn := p.txn.toNat_lt
  have hrec := p.recover.toNat_lt
  have herr := p.cfgErr.toNat_lt
  have hirq := p.irqEn.toNat_lt
  have hp := p.ctlWord_packed
  exact ⟨pack_bit hp (by decide) _ (by omega), pack_bit hp (by decide) _ (by omega), pack_bit hp (by decide) _ (by omega),
    pack_field hp (by decide) _ (by omega), pack_field hp (by decide) _ (by omega), pack_field hp (by decide) _ (by omega)⟩

/-- A write of EN to a pair that is not enabled: its fields stay, and it is enabled where EN = 1 (R280). -/
theorem State.pairCtl_closed {s : State} {q : Nat} (h : (s.pair q).en = false) (hr : HostRead) :
    s.pairCtl q 1 1 hr = (s.setPair q (s.pair q)).enablePair q hr := by
  obtain ⟨htxn, hrec, hirq, hweight, hburst, hgroup⟩ := (s.pair q).ctlWord_fields
  have hone : (merge (s.pair q).ctlWord 1 1).getLsbD 0 = true := merge_bit0 _ 1
  rw [State.pairCtl, if_neg (by rw [h]; decide), if_pos hone]
  simp only [merge_bit _ _ Nat.one_pos, merge_bit _ _ Nat.two_pos, merge_bit _ _ (Nat.succ_pos 3), merge_field _ _ (Nat.succ_pos 7),
    merge_field _ _ (Nat.succ_pos 15), merge_field _ _ (Nat.succ_pos 23), htxn, hrec, hirq, hweight, hburst, hgroup]

/-- A write of EN = 0 to an enabled pair (R280). -/
theorem State.pairCtl_open {s : State} {q : Nat} (h : (s.pair q).en = true) (hr : HostRead) :
    s.pairCtl q 0 1 hr = (s.setPair q (s.pair q)).disablePair q := by
  obtain ⟨-, -, hirq, -⟩ := (s.pair q).ctlWord_fields
  have hzero : (merge (s.pair q).ctlWord 0 1).getLsbD 0 = false := merge_bit0 _ 0
  rw [State.pairCtl, if_pos h, if_neg (by rw [hzero]; decide), merge_bit _ _ (Nat.succ_pos 3), hirq]

theorem ringMaster_of {m : Master} (h : m.val < 8 ∨ m = 96) : ringMaster m = true := by
  obtain h | rfl := h
  · simp [ringMaster, tile0, h]
  · rfl

/-- The pairs behind a disable (R280). -/
theorem State.pair_disablePair (s : State) (q k : Nat) :
    (s.disablePair q).pair k = if k = q then { (s.pair q).abort 0x0203 with en := false } else s.pair k :=
  Tab.look_put s.rings.pair {} q k _

/-! ### Doorbells (R285) -/

/-- How far index x lies behind index h of a ring of n slots. -/
theorem ring_ahead {x h n : Nat} (hx : x < n) (hh : h < n) : (x + n - h) % n = if h ≤ x then x - h else x + n - h := by
  split
  · rw [show x + n - h = x - h + n by omega, Nat.add_mod_right, Nat.mod_eq_of_lt (by omega)]
  · exact Nat.mod_eq_of_lt (by omega)

/-- An index i that is not behind index t, both seen from index h, lies ahead of t by the difference, once around where it is lower. -/
theorem ring_advance {i t h n : Nat} (hi : i < n) (ht : t < n) (hh : h < n) (hle : (t + n - h) % n ≤ (i + n - h) % n) :
    t + ((i + n - h) % n - (t + n - h) % n) = if t ≤ i then i else i + n := by
  have hai := ring_ahead hi hh
  have hat := ring_ahead ht hh
  generalize (i + n - h) % n = a at hai hle ⊢
  generalize (t + n - h) % n = b at hat hle ⊢
  split at hai
  · split at hat
    · split <;> omega
    · split <;> omega
  · split at hat
    · split <;> omega
    · split <;> omega

/-- A position moved on by d has its slot moved on by d (R279). -/
theorem Pair.slot_add {p : Pair} (hn : p.size.toNat ∣ 2 ^ 32) (pos : W32) (d : Nat) :
    p.slot (pos + BitVec.ofNat 32 d) = (p.slot pos + d) % p.size.toNat := by
  rw [Pair.slot, Pair.slot, BitVec.toNat_add, BitVec.toNat_ofNat, Nat.add_mod_mod, Nat.mod_mod_of_dvd _ hn, Nat.mod_add_mod]

theorem Pair.size_of_enableOk {p : Pair} (h : p.enableOk = true) : p.size.toNat ∣ 2 ^ 32 ∧ 0 < p.size.toNat := by
  simp only [Pair.enableOk, Bool.and_eq_true, List.any_eq_true, beq_iff_eq] at h
  obtain ⟨⟨⟨⟨⟨⟨k, hk, hsize⟩, -⟩, -⟩, -⟩, -⟩, -⟩ := h
  have hlt := List.mem_range.mp hk
  rw [hsize]
  exact ⟨Nat.pow_dvd_pow 2 (by omega), Nat.two_pow_pos _⟩

theorem word_add_sub_toNat (a : W32) {d : Nat} (h : d < 2 ^ 32) : (a + BitVec.ofNat 32 d - a).toNat = d := by
  rw [BitVec.add_comm, BitVec.add_sub_cancel, BitVec.toNat_ofNat, Nat.mod_eq_of_lt h]

/-- A valid SQ doorbell covers up to its index (R285). -/
theorem Pair.sqDoorbell_valid {p : Pair} {i : Nat} (hen : p.en = true) (hok : p.enableOk = true) (hi : i < p.size.toNat)
    (h : (p.slot p.takenPos + p.size.toNat - p.slot p.posted) % p.size.toNat ≤ (i + p.size.toNat - p.slot p.posted) % p.size.toNat) :
    ∃ c, p.sqDoorbell i = { p with covered := c } ∧ p.slot c = i ∧ (c - p.takenPos).toNat < p.size.toNat := by
  obtain ⟨hdvd, hpos⟩ := Pair.size_of_enableOk hok
  have hsize := p.size.isLt
  have ht : p.slot p.takenPos < p.size.toNat := Nat.mod_lt _ hpos
  have hp : p.slot p.posted < p.size.toNat := Nat.mod_lt _ hpos
  refine ⟨_, if_pos ⟨hen, hi, h⟩, ?_, ?_⟩
  · rw [Pair.slot_add hdvd]
    rw [ring_advance hi ht hp h]
    split
    · exact Nat.mod_eq_of_lt hi
    · rw [Nat.add_mod_right, Nat.mod_eq_of_lt hi]
  · have hlt : (i + p.size.toNat - p.slot p.posted) % p.size.toNat < p.size.toNat := Nat.mod_lt _ hpos
    rw [word_add_sub_toNat _ (by omega)]
    omega

/-- A valid CQ doorbell moves the head to its index (R285). -/
theorem Pair.cqDoorbell_valid {p : Pair} {i : Nat} (hen : p.en = true) (hok : p.enableOk = true) (hi : i < p.size.toNat)
    (h : (i + p.size.toNat - p.slot p.cqHead) % p.size.toNat ≤ (p.posted - p.cqHead).toNat) :
    ∃ c, p.cqDoorbell i = { p with cqHead := c } ∧ p.slot c = i ∧ (c - p.cqHead).toNat < p.size.toNat := by
  obtain ⟨hdvd, hpos⟩ := Pair.size_of_enableOk hok
  have hsize := p.size.isLt
  have hp : p.slot p.cqHead < p.size.toNat := Nat.mod_lt _ hpos
  refine ⟨_, if_pos ⟨hen, hi, h⟩, ?_, ?_⟩
  · rw [Pair.slot_add hdvd, ring_ahead hi hp]
    split
    · rw [Nat.add_sub_cancel' ‹_›, Nat.mod_eq_of_lt hi]
    · rw [Nat.add_sub_cancel' (by omega), Nat.add_mod_right, Nat.mod_eq_of_lt hi]
  · have hlt : (i + p.size.toNat - p.slot p.cqHead) % p.size.toNat < p.size.toNat := Nat.mod_lt _ hpos
    rw [word_add_sub_toNat _ (by omega)]
    omega

/-- Settles O38: word 00h's other fields stay where they are, and a valid index is reached from the positions. -/
theorem hostQueues : Obligations.HostQueues := by
  intro m q h v s hm p n i
  have hring := ringMaster_of hm
  have hself : (s.setPair q p).pair q = p := State.pair_setPair_same s q p
  have enable : p.en = false → exec (.queueEnable m q h) s = .next ((s.setPair q p).enablePair q h) := fun hen => by
    rw [exec_queueEnable, execQueueEnable, if_pos hring, State.pairCtl_closed hen]
  have bell : exec (.sqDoorbell m q v) s = .next (s.setPair q (p.sqDoorbell i)) ∧
      exec (.cqDoorbell m q v) s = .next (s.setPair q (p.cqDoorbell i)) := by
    have hi : bits v 0 16 = i := congrArg (· % 65536) (Nat.div_one _)
    rw [exec_sqDoorbell, exec_cqDoorbell, execSqDoorbell, execCqDoorbell, if_pos hring, if_pos hring, hi]
    exact ⟨rfl, rfl⟩
  refine ⟨fun hen hok hrec => ?accepted, fun hen hok => ?refused, fun hen => ?disable, fun hen hok hi hat => ?sq, fun hen hok hi hat => ?cq,
    fun hbad => ?bad⟩
  case accepted =>
    rw [enable hen, State.enablePair, hself, hok, hrec]
    simp only [State.setPair_setPair]
    rfl
  case refused =>
    rw [enable hen, State.enablePair, hself, hok]
    simp only [State.setPair_setPair]
    rfl
  case disable =>
    refine ⟨_, by rw [exec_queueDisable, execQueueDisable, if_pos hring, State.pairCtl_open hen], ?_⟩
    rw [State.pair_disablePair, if_pos rfl, hself]
    refine ⟨rfl, rfl, rfl, rfl, fun k hk => ?_⟩
    rw [State.pair_disablePair, if_neg hk]
    exact State.pair_setPair_other s p hk
  case sq =>
    obtain ⟨c, hc, hslot, hlt⟩ := Pair.sqDoorbell_valid hen hok hi hat
    exact ⟨c, by rw [bell.1, hc], hslot, hlt⟩
  case cq =>
    obtain ⟨c, hc, hslot, hlt⟩ := Pair.cqDoorbell_valid hen hok hi hat
    exact ⟨c, by rw [bell.2, hc], hslot, hlt⟩
  case bad =>
    have hno : ¬(p.en = true ∧ i < n) := fun ⟨hen, hi⟩ => hbad.elim (fun h => absurd hen (by rw [h]; decide)) fun h => absurd hi (by omega)
    rw [bell.1, bell.2]
    exact ⟨congrArg (fun r => (Host.Outcome.next (s.setPair q r) : Out)) (if_neg fun hc => hno ⟨hc.1, hc.2.1⟩),
      congrArg (fun r => (Host.Outcome.next (s.setPair q r) : Out)) (if_neg fun hc => hno ⟨hc.1, hc.2.1⟩)⟩

end Sys2Proof.Machine

namespace Sys2Proof.Machine

/-! ### The pair whose turn it is (R289) -/

/-- The last entry of a rising table that passes a test is the highest that does. -/
theorem Tab.reverse_find_max {α : Type} {t : Tab α} (h : t.Rising) {p : Nat × α → Bool} {e : Nat × α} (he : t.reverse.find? p = some e) :
    ∀ d ∈ t, p d = true → d.1 ≤ e.1 := by
  induction t with
  | nil => nofun
  | cons c r ih =>
    obtain ⟨hlo, hr⟩ := h
    rw [List.reverse_cons, List.find?_append] at he
    intro d hd hp
    cases hfind : r.reverse.find? p with
    | some x =>
      rw [hfind, Option.some_or] at he
      obtain rfl := Option.some.inj he
      have hx : x ∈ r := List.mem_reverse.mp (List.mem_of_find?_eq_some hfind)
      obtain rfl | hin := List.mem_cons.mp hd
      · exact Nat.le_of_lt (hlo x hx)
      · exact ih hr hfind d hin hp
    | none =>
      rw [hfind, Option.none_or] at he
      have hc : c = e := by
        have hce := List.mem_of_find?_eq_some he
        exact (List.mem_singleton.mp hce).symm
      obtain rfl | hin := List.mem_cons.mp hd
      · exact hc ▸ Nat.le_refl _
      · exact absurd hp (List.find?_eq_none.mp hfind d (List.mem_reverse.mpr hin))

theorem Pair.turn_reset : Pair.turn {} = 0 := rfl

/-- An entry that is not the default stands in its table. -/
theorem Tab.mem_of_look {α : Type} {t : Tab α} {d : α} {k : Nat} (h : t.look d k ≠ d) : (k, t.look d k) ∈ t := by
  induction t with
  | nil => exact absurd rfl h
  | cons e r ih =>
    by_cases hk : e.1 = k
    · have hv : Tab.look (e :: r) d k = e.2 := if_pos hk
      rw [hv, ← hk]
      exact List.mem_cons_self
    · have hv : Tab.look (e :: r) d k = Tab.look r d k := if_neg hk
      rw [hv] at h ⊢
      exact List.mem_cons_of_mem _ (ih h)

theorem Rings.nextBelow_of_turn {r : Rings} (hr : r.pair.Rising) {q k : Nat} (hq : q < k) (ht : 0 < (r.pair.look {} q).turn)
    (habove : ∀ j, q < j → j < k → (r.pair.look {} j).turn = 0) : r.nextBelow k = some q := by
  have hmem : (q, r.pair.look {} q) ∈ r.pair := Tab.mem_of_look fun h => by
    rw [h, Pair.turn_reset] at ht
    exact absurd ht (by decide)
  have hok : (decide (q < k) && decide (0 < (r.pair.look {} q).turn)) = true := by
    rw [decide_eq_true hq, decide_eq_true ht]
    rfl
  cases hfind : r.pair.reverse.find? fun e => decide (e.1 < k) && decide (0 < e.2.turn) with
  | none => exact absurd hok (List.find?_eq_none.mp hfind _ (List.mem_reverse.mpr hmem))
  | some e =>
    have hle : q ≤ e.1 := Tab.reverse_find_max hr hfind _ hmem hok
    have hge : ¬q < e.1 := fun hlt => by
      have hpass := List.find?_some hfind
      simp only [Bool.and_eq_true, decide_eq_true_eq] at hpass
      have hlook : r.pair.look {} e.1 = e.2 := Tab.look_of_mem hr {} (List.mem_reverse.mp (List.mem_of_find?_eq_some hfind))
      have hzero := habove e.1 hlt hpass.1
      rw [hlook] at hzero
      omega
    rw [Rings.nextBelow, hfind]
    exact congrArg some (Nat.le_antisymm (Nat.not_lt.mp hge) hle)

/-- A turn of pair q while the link is up (R287, R289). -/
theorem State.entryTake_turn {s : State} (hl : s.iface.linkDown.getLsbD 4 = false) {q : Nat} (hnext : s.rings.nextBelow s.rings.cursor = some q)
    (h : HostRead) : s.entryTake h = s.takeEntries h q (s.pair q).turn := by
  have hpick : s.rings.pick = (s.rings, some q) := by simp only [Rings.pick, hnext]
  simp only [State.entryTake, hl, hpick]
  rfl

theorem State.pair_takeEntries (s : State) (h : HostRead) (q n k : Nat) : (s.takeEntries h q n).pair k = if k = q then { s.pair q with
    takenPos := (s.pair q).takenPos + BitVec.ofNat 32 n, credit := (s.pair q).credit - n
    entries := (s.pair q).entries ++ (List.range n).map (s.takenEntry h (s.pair q)) } else s.pair k :=
  Tab.look_put s.rings.pair {} q k _

/-- What a turn of n entries changes beside its pair (R287, R289). -/
theorem State.takeEntries_fields (s : State) (h : HostRead) (q n : Nat) : (s.takeEntries h q n).hostMem =
      hostStore s.hostMem (s.pair q).shadow.toNat (shadowBytes ((s.pair q).takenPos + BitVec.ofNat 32 n) (s.pair q).epoch) ∧
    (s.takeEntries h q n).rings.entriesTaken = s.rings.entriesTaken + BitVec.ofNat 64 n ∧ (s.takeEntries h q n).rings.cursor = q ∧
    (s.takeEntries h q n).mem = s.mem := by
  simp only [State.takeEntries, State.writeShadow, State.hostWrite, State.setPair, and_self]

/-- The account of R293 over a turn of entries behind others. -/
theorem Pair.balanced_taken {p : Pair} (h : p.balanced) (hne : p.entries ≠ []) (n credit : Nat) {es : List TakenEntry} (hes : es.length = n) :
    Pair.balanced { p with takenPos := p.takenPos + BitVec.ofNat 32 n, credit := credit, entries := p.entries ++ es } := by
  obtain ⟨hsum, hhead⟩ := h
  refine ⟨?_, fun e he => hhead e ?_⟩
  · simp only [List.length_append, hes, BitVec.ofNat_add]
    rw [hsum, BitVec.add_assoc]
  · have hsome : p.entries.head?.isSome = true := by rwa [List.isSome_head?]
    rwa [List.head?_append, Option.or_of_isSome hsome] at he

/-! ### The completion posted (R290, R291) -/

theorem State.postNext_ready {s : State} {q : Nat} {e : TakenEntry} {rest : List TakenEntry} {d : RingDone} (he : (s.pair q).entries = e :: rest)
    (hd : e.done = some d) : s.postNext q =
      if !(s.pair q).txn && bits e.raw 0 8 == 6 && s.journal.line.any (·.1 == bits e.raw 80 8) then s
      else (s.postDone q e.pos (bits e.raw 16 16) d).modPair q fun p => { p with entries := rest, posted := e.pos + 1 } := by
  simp only [State.postNext, he, hd]

theorem execCompletionPosted_up {s : State} (hl : s.iface.linkDown.getLsbD 4 = false) (q : QueueId) :
    exec (.completionPosted q) s = .next (s.postNext q) := by
  rw [exec_completionPosted, execCompletionPosted, if_neg (by rw [hl]; decide)]

/-- Host memory with a completion in its slot (R290). -/
@[irreducible] def State.completionSlot (s : State) (q : Nat) (pos : W32) (cid : Nat) (d : RingDone) : List Host.Cell :=
  hostStore s.hostMem (((s.pair q).cqBase.toNat + 32 * (s.pair q).slot pos) % 2 ^ 64) (completionBytes (s.pair q) q pos cid d)

/-- A completion stored and counted. -/
def State.posts (s : State) (q : Nat) (pos : W32) (cid : Nat) (d : RingDone) : State :=
  { s with hostMem := s.completionSlot q pos cid d, rings := s.rings.countDone q d.status }

theorem State.postDone_eq (s : State) (q : Nat) (pos : W32) (cid : Nat) (d : RingDone) : s.postDone q pos cid d =
    if (s.pair q).irqEn then (s.posts q pos cid d).raise (96 + (s.pair q).irqGroup.toNat) else s.posts q pos cid d := by
  simp only [State.postDone, State.posts, State.hostWrite, State.completionSlot]

theorem Rings.pair_countDone (r : Rings) (q k : Nat) (st : Status) : (r.countDone q st).pair.look {} k = if k = q then { r.pair.look {} q with
    malformed := if st = 0x0202 then (r.pair.look {} q).malformed + 1 else (r.pair.look {} q).malformed
    aborted := if st = 0x0201 then (r.pair.look {} q).aborted + 1 else (r.pair.look {} q).aborted } else r.pair.look {} k :=
  Tab.look_put r.pair {} q k _

theorem State.rings_postDone (s : State) (q : Nat) (pos : W32) (cid : Nat) (d : RingDone) :
    (s.postDone q pos cid d).rings = s.rings.countDone q d.status := by
  rw [State.postDone_eq]
  split <;> rfl

theorem State.hostMem_postDone (s : State) (q : Nat) (pos : W32) (cid : Nat) (d : RingDone) :
    (s.postDone q pos cid d).hostMem = s.completionSlot q pos cid d := by
  rw [State.postDone_eq]
  split <;> rfl

theorem State.mem_postDone (s : State) (q : Nat) (pos : W32) (cid : Nat) (d : RingDone) : (s.postDone q pos cid d).mem = s.mem := by
  rw [State.postDone_eq]
  split <;> rfl

/-- The state behind a posted completion (R290, R291). -/
def State.posted (s : State) (q : Nat) (e : TakenEntry) (rest : List TakenEntry) (d : RingDone) : State :=
  (s.postDone q e.pos (bits e.raw 16 16) d).modPair q fun p => { p with entries := rest, posted := e.pos + 1 }

theorem State.hostMem_posted (s : State) (q : Nat) (e : TakenEntry) (rest : List TakenEntry) (d : RingDone) :
    (s.posted q e rest d).hostMem = s.completionSlot q e.pos (bits e.raw 16 16) d := s.hostMem_postDone q e.pos _ d

theorem State.pair_posted_same (s : State) (q : Nat) (e : TakenEntry) (rest : List TakenEntry) (d : RingDone) :
    ((s.posted q e rest d).pair q).entries = rest ∧ ((s.posted q e rest d).pair q).posted = e.pos + 1 ∧
      ((s.posted q e rest d).pair q).takenPos = (s.pair q).takenPos := by
  have hpair : (s.postDone q e.pos (bits e.raw 16 16) d).pair q = _ :=
    (congrArg (fun r : Rings => r.pair.look {} q) (s.rings_postDone q e.pos (bits e.raw 16 16) d)).trans
      ((s.rings.pair_countDone q q d.status).trans (if_pos rfl))
  rw [State.posted, State.modPair, State.pair_setPair_same, hpair]
  exact ⟨rfl, rfl, rfl⟩

theorem State.pair_posted_other (s : State) {q k : Nat} (h : k ≠ q) (e : TakenEntry) (rest : List TakenEntry) (d : RingDone) :
    (s.posted q e rest d).pair k = s.pair k := by
  rw [State.posted, State.modPair, State.pair_setPair_other _ _ h]
  exact (congrArg (fun r : Rings => r.pair.look {} k) (s.rings_postDone q e.pos (bits e.raw 16 16) d)).trans
    ((s.rings.pair_countDone q k d.status).trans (if_neg h))

/-- The pair's interrupt, where it asks for one (R290). -/
theorem State.vu_posted (s : State) (q : Nat) (e : TakenEntry) (rest : List TakenEntry) (d : RingDone) :
    (s.posted q e rest d).vu = if (s.pair q).irqEn then (s.raise (96 + (s.pair q).irqGroup.toNat)).vu else s.vu := by
  have hvu : (s.posted q e rest d).vu = (s.postDone q e.pos (bits e.raw 16 16) d).vu := rfl
  rw [hvu, State.postDone_eq]
  split <;> rfl

/-- The account of R293 behind the posting of the first entry. -/
theorem Pair.balanced_posted {p : Pair} (h : p.balanced) {e : TakenEntry} {rest : List TakenEntry} (he : p.entries = e :: rest) :
    p.takenPos = e.pos + 1 + BitVec.ofNat 32 rest.length := by
  obtain ⟨hsum, hhead⟩ := h
  have hpos : e.pos = p.posted := hhead e (by rw [he]; rfl)
  rw [hsum, he, hpos, List.length_cons, Nat.add_comm, BitVec.ofNat_add, BitVec.add_assoc]
  rfl

/-- Settles O39: the turn found by the service order and its take; the first entry's completion with the pair's account. -/
theorem entriesTakenAndPosted : Obligations.EntriesTakenAndPosted := by
  intro q h e rest d s hl p n
  refine ⟨fun hr hq hn habove => ?take, fun he hd htxn hop hline => ?waits, fun he hd hfree => ?post⟩
  case take =>
    have hnext : s.rings.nextBelow s.rings.cursor = some q.val := Rings.nextBelow_of_turn hr hq hn habove
    refine ⟨s.takeEntries h q n, by rw [exec_entryTake, execEntryTake, State.entryTake_turn hl hnext], ?_⟩
    have hself := (s.pair_takeEntries h q n q).trans (if_pos rfl)
    obtain ⟨hhost, htaken, hcursor, hmem⟩ := s.takeEntries_fields h q n
    refine ⟨hself, hhost, htaken, hcursor, hmem, fun k hk => (s.pair_takeEntries h q n k).trans (if_neg hk), fun hbal hne => ?_⟩
    rw [hself]
    exact Pair.balanced_taken hbal hne n _ (by rw [List.length_map, List.length_range])
  case waits =>
    have hwait : (!p.txn && bits e.raw 0 8 == 6 && s.journal.line.any (·.1 == bits e.raw 80 8)) = true := by
      obtain ⟨x, hx, hlane⟩ := hline
      have hany : s.journal.line.any (·.1 == bits e.raw 80 8) = true := List.any_eq_true.mpr ⟨x, hx, beq_iff_eq.mpr hlane⟩
      rw [htxn, hany, show bits e.raw 0 8 = 6 from hop]
      rfl
    rw [execCompletionPosted_up hl, State.postNext_ready he hd, if_pos hwait]
  case post =>
    have hgo : ¬(!p.txn && bits e.raw 0 8 == 6 && s.journal.line.any (·.1 == bits e.raw 80 8)) = true := fun hc => by
      simp only [Bool.and_eq_true, Bool.not_eq_true', beq_iff_eq, List.any_eq_true] at hc
      obtain ⟨⟨htxn, hop⟩, x, hx, hlane⟩ := hc
      exact hfree htxn hop x hx hlane
    obtain ⟨hentries, hposted, htaken⟩ := s.pair_posted_same q e rest d
    refine ⟨s.posted q e rest d, by rw [execCompletionPosted_up hl, State.postNext_ready he hd, if_neg hgo]; rfl, hentries, hposted, ?_, ?_,
      fun k hk => s.pair_posted_other hk e rest d, fun hirq => ?_, fun hirq hawake => ?_, fun hbal => ?_⟩
    · rw [s.hostMem_posted q e rest d, State.completionSlot]
    · exact s.mem_postDone q e.pos (bits e.raw 16 16) d
    · rw [State.vu_posted, if_neg (by rw [hirq]; decide)]
    · rw [State.vu_posted, if_pos hirq, State.vu_raise hawake, VectorUnit.row_arrive_same]
      exact (SrcRow.arrive_counts _).1
    · rw [hposted, htaken]
      exact Pair.balanced_posted hbal he

end Sys2Proof.Machine

namespace Sys2Proof.Machine

/-- The next native entry of a pair, where it may start, is carried out (R282, R287). -/
theorem State.onEntry_first {s : State} {q op : Nat} {e : TakenEntry} {rest : List TakenEntry} (h : s.firstEntry q op e rest)
    (f : TakenEntry → State) : s.onEntry q op f = .next (f e) := by
  obtain ⟨htxn, hes, hst, -, hop, -, hpow⟩ := h
  have hfind : (s.pair q).entries.find? (fun e => !e.started) = some e := by rw [hes]; simp [hst]
  have hof : s.entryOf q op = some e := by
    rw [State.entryOf, hfind]; simp [htxn, hop, hpow]
  rw [State.onEntry, hof]

/-- A WRITE waits while its lane's tile has no power and no declaration stands (R283). -/
theorem exec_writeEntry_waits {s : State} {q : QueueId} {e : TakenEntry} {rest : List TakenEntry} (h : s.firstEntry q 6 e rest)
    (hd : s.holdup.declared = false) (ht : s.tilePowered (s.laneTile (bits e.raw 80 8)) = false) (src : WriteSource) :
    exec (.writeEntry q src) s = .next s := by
  change s.onEntry q 6 _ = _
  rw [State.onEntry_first h]
  simp [hd, ht]

/-- A WRITE of five bytes to lane 0. -/
def writeOfFive : TakenEntry := { pos := 3, no := 7, raw := BitVec.ofNat 512 (6 + 5 * 2 ^ 128) }

/-- That WRITE first in pair 0, served by tile 8, with lane 0 open on an object of host evidence; the lane is tile 1's, which is without
power, and every other tile runs. -/
def writeToColdLane : State where
  rings := { pair := [(0, { en := true, size := 16, serviceTile := some 8, entries := [writeOfFive] })] }
  lanes := [(0, { active := true, obj := some { ctx := 5, sourceType := 8, openTime := 0, genesis := 0, prevDigest := 0, lastDigest := 0 } })]
  tiles := [(1, { power := .cold })]

/-- Refutes O40: the WRITE clause asks for power on tile 8, whatever the tile of the entry's lane. In `writeToColdLane` the lane's tile
has none, so the WRITE waits (R283), where the clause says that a cut at unit 0 completes it with 0901h. -/
theorem not_nativeEntries : ¬ Obligations.NativeEntries := by
  unfold Obligations.NativeEntries
  intro h
  have hfirst : writeToColdLane.firstEntry (0 : QueueId) 6 writeOfFive [] := by unfold State.firstEntry; decide +kernel
  obtain ⟨-, -, -, -, -, -, hwrite, -⟩ := h 0 [] writeOfFive [] writeToColdLane
  obtain ⟨-, hcut⟩ := hwrite hfirst (by decide +kernel) (by decide +kernel) (by decide +kernel) (by decide +kernel) (by decide +kernel)
    (by decide +kernel) (by decide +kernel)
  have hdone := hcut 0 (by decide +kernel) (by decide +kernel)
  rw [exec_writeEntry_waits hfirst (by decide +kernel) (by decide +kernel)] at hdone
  have hstarted := congrArg (fun t => (t.pair 0).entries.map (·.started)) (Host.Outcome.next.inj hdone)
  revert hstarted
  decide +kernel

end Sys2Proof.Machine

namespace Sys2Proof.Machine

theorem TakenEntry.open_iff (t : TakenEntry) (e : EntryRef) : t.open e = true ↔ t.no = e.no ∧ t.done = none := by
  simp [TakenEntry.open]

/-- The entry that may start is one of its pair's, with the opcode (R418, R420). -/
theorem State.kxEntry_some {s : State} {q op : Nat} {e : TakenEntry} (h : s.kxEntry q op = some e) :
    e ∈ (s.pair q).entries ∧ eOp e.raw = op := by
  rw [State.kxEntry] at h
  split at h
  · cases h
  · have hp := List.find?_some h
    simp only [Bool.and_eq_true, beq_iff_eq] at hp
    exact ⟨List.mem_of_find?_eq_some h, hp.1.2⟩

/-- An entry of a pair that is not done yet is completed. -/
theorem State.entryDone_open {s : State} {q : Nat} {e : TakenEntry} (he : e ∈ (s.pair q).entries) (hd : e.done = none) (d : RingDone) :
    s.entryDone (e.ref q) d = s.setPair q { s.pair q with
      entries := (s.pair q).entries.map fun t => if t.no = e.no ∧ t.done = none then { t with started := true, done := some d } else t } := by
  have hany : (s.pair q).entries.any (·.open (e.ref q)) = true := List.any_eq_true.2 ⟨e, he, (TakenEntry.open_iff e _).2 ⟨rfl, hd⟩⟩
  have hmap : ∀ t : TakenEntry, (if t.open (e.ref q) then { t with started := true, done := some d } else t) =
      if t.no = e.no ∧ t.done = none then { t with started := true, done := some d } else t := fun t => by
    simp only [TakenEntry.open_iff]; rfl
  rw [State.entryDone]
  refine (if_pos hany).trans ?_
  simp only [hmap]
  rfl

/-- The entries of a pair with entry e marked as started. -/
def Pair.begun (p : Pair) (e : TakenEntry) : Pair :=
  { p with entries := p.entries.map fun (x : TakenEntry) => if x.no = e.no then { x with started := true } else x }

/-- A translated word that passes its checks starts its raw operation (R417, R418). -/
theorem State.kxStart_starts {s : State} {q : QueueId} {op : Nat} {e : TakenEntry} {h : HostRead} (he : s.kxEntry q op = some e) (hop : op ≠ 1)
    (hdecl : s.holdup.declared = false) (r : RawOp) (hr : s.kxOp q e h = r)
    (hbuf : ¬ (r.op = 0x21 ∧ r.count ≠ 0 ∧ !devRangeOk (bits r.param 0 35) r.count true)) (hcheck : s.rawCheck r = 0) :
    s.kxStart q op h = (s.modPair q (·.begun e)).rawStart r := by
  rw [State.kxStart, he]
  simp only [hop, if_false, hdecl, Bool.false_eq_true, hr, if_neg hbuf, hcheck, ne_eq, not_true_eq_false]
  rfl

/-- What an operation's start leaves as it was. -/
theorem State.rawStart_fields (s : State) (r : RawOp) : (s.rawStart r).raws = s.raws ++ [r] ∧ (s.rawStart r).rings = s.rings ∧
    (s.rawStart r).mem = s.mem ∧ (s.rawStart r).hostMem = s.hostMem ∧ (r.op ≠ 0x21 → (s.rawStart r).nvme = s.nvme) := by
  rw [State.rawStart]
  split
  case isTrue hop => exact ⟨rfl, rfl, rfl, rfl, fun h => absurd hop h⟩
  case isFalse hop => exact ⟨rfl, rfl, rfl, rfl, fun _ => rfl⟩

/-- A started word's operation and the pair's mark are all that changes, but for the command of an NVMe operation. -/
theorem State.begun_rawStart (s : State) (q : QueueId) (e : TakenEntry) (r : RawOp) :
    let t := (s.modPair q (·.begun e)).rawStart r
    t.raws = s.raws ++ [r] ∧ t.pair q = (s.pair q).begun e ∧ (r.op ≠ 0x21 → t.nvme = s.nvme) ∧ t.mem = s.mem ∧ t.hostMem = s.hostMem ∧
      ∀ k, k ≠ q.val → t.pair k = s.pair k := by
  obtain ⟨hraws, hrings, hmem, hhost, hnvme⟩ := (s.modPair q (·.begun e)).rawStart_fields r
  have hpair : ∀ k, ((s.modPair q (·.begun e)).rawStart r).pair k = (s.modPair q (·.begun e)).pair k := fun k =>
    congrArg (fun x : Rings => x.pair.look {} k) hrings
  refine ⟨hraws, ?_, hnvme, hmem, hhost, fun k hk => ?_⟩
  · exact (hpair q).trans (s.pair_setPair_same q _)
  · exact (hpair k).trans (s.pair_setPair_other _ hk)

/-- Settles O41: each translated word starts the raw operation that `State.kxOp` gives its opcode. -/
theorem transactionWords : Obligations.TransactionWords := by
  unfold Obligations.TransactionWords
  intro q h e s hd
  have starts : ∀ {op : Nat} {hr : HostRead} (r : RawOp), op ≠ 1 → (op ≠ 0x20 → r.op ≠ 0x21) → (s.kxEntry q op = some e → s.kxOp q e hr = r) →
      ¬ (r.op = 0x21 ∧ r.count ≠ 0 ∧ !devRangeOk (bits r.param 0 35) r.count true) →
      s.kxEntry q op = some e → s.holdup.declared = false → s.rawCheck r = 0 →
      ∃ t, (Host.Outcome.next (s.kxStart q op hr) : Out) = .next t ∧ t.raws = s.raws ++ [r] ∧ t.pair q = (s.pair q).begun e ∧
        (op ≠ 0x20 → t.nvme = s.nvme) ∧ t.mem = s.mem ∧ t.hostMem = s.hostMem ∧ ∀ k, k ≠ q.val → t.pair k = s.pair k := by
    intro op hr r hop hnv hr' hbuf he hdecl hcheck
    obtain ⟨hraws, hpair, hnvme, hmem, hhost, hother⟩ := s.begun_rawStart q e r
    exact ⟨_, congrArg _ (State.kxStart_starts he hop hdecl r (hr' he) hbuf hcheck), hraws, hpair, fun h => hnvme (hnv h), hmem, hhost, hother⟩
  have kxOp : ∀ {op : Nat} (hr : HostRead) (r : RawOp), (eOp e.raw = op → s.kxOp q e hr = r) → s.kxEntry q op = some e → s.kxOp q e hr = r :=
    fun _ _ h he => h (State.kxEntry_some he).2
  refine ⟨fun he => ?nop, ?ethTx, ?ethRx, fun hb => ?nvm, ?usbRead, ?usbCap, ?usbInq, ?canTx, ?canRx, ?tdmTx, ?tdmRx⟩
  case nop =>
    change (Host.Outcome.next (s.kxStart q 1 []) : Out) = _
    rw [State.kxStart, he]
    exact congrArg Host.Outcome.next (State.entryDone_open (State.kxEntry_some he).1 hd _)
  case nvm =>
    refine starts _ (by decide) (fun h => absurd rfl h) (kxOp h _ fun ho => ?_) ?_
    · rw [State.kxOp]; simp only [ho]; rfl
    · rintro ⟨-, hn, hbad⟩
      rcases hb with h0 | hok
      · exact hn h0
      · rw [show devRangeOk _ _ true = true from hok] at hbad
        cases hbad
  case ethTx | canTx | tdmTx =>
    exact starts _ (by decide) (fun _ => by simp) (kxOp h _ fun ho => by rw [State.kxOp]; simp only [ho]; rfl) (by simp)
  case ethRx | usbRead | usbCap | usbInq | canRx | tdmRx =>
    exact starts _ (by decide) (fun _ => by simp) (kxOp [] _ fun ho => by rw [State.kxOp]; simp only [ho]; rfl) (by simp)

end Sys2Proof.Machine

namespace Sys2Proof.Machine

/-! ### The current record of a context (R117, R120) -/

theorem CtxStore.get_of_table {t : CtxStore} {c : Nat} (h : t.cache.find? (·.ctx == c) = none) : t.get c = t.table.look {} c := by
  rw [CtxStore.get, h]

theorem CtxStore.get_of_line {t : CtxStore} {c : Nat} {l : CacheLine} (h : t.cache.find? (·.ctx == c) = some l) : t.get c = l.row := by
  rw [CtxStore.get, h]

/-- The line of context `c` with another record. -/
def CacheLine.put (c : Nat) (r : CtxRec) (l : CacheLine) : CacheLine := if l.ctx = c then { l with row := r, dirty := true } else l

@[simp] theorem CacheLine.put_ctx (c : Nat) (r : CtxRec) (l : CacheLine) : (CacheLine.put c r l).ctx = l.ctx := by
  rw [CacheLine.put]; split <;> rfl

theorem CtxStore.set_cached {t : CtxStore} {c : Nat} (h : t.cache.any (·.ctx == c) = true) (r : CtxRec) :
    t.set c r = { t with cache := t.cache.map (CacheLine.put c r) } := if_pos h

theorem CtxStore.set_uncached {t : CtxStore} {c : Nat} (h : t.cache.any (·.ctx == c) = false) (r : CtxRec) :
    t.set c r = { t with table := t.table.put c r } := if_neg (by rw [h]; decide)

theorem CacheLine.find_map_put (ls : List CacheLine) (c k : Nat) (r : CtxRec) :
    (ls.map (CacheLine.put c r)).find? (·.ctx == k) = (ls.find? (·.ctx == k)).map (CacheLine.put c r) := by
  rw [List.find?_map]
  congr 2
  funext l
  simp

@[simp] theorem CtxStore.get_set_same (t : CtxStore) (c : Nat) (r : CtxRec) : (t.set c r).get c = r := by
  by_cases h : t.cache.any (·.ctx == c) = true
  · rw [CtxStore.set_cached h]
    obtain ⟨l, hl⟩ := Option.isSome_iff_exists.1 (List.find?_isSome.2 (List.any_eq_true.1 h))
    have hc : l.ctx = c := by simpa using List.find?_some hl
    have hfind := CacheLine.find_map_put t.cache c c r
    rw [hl] at hfind
    rw [CtxStore.get_of_line hfind, CacheLine.put, if_pos hc]
  · have h := Bool.eq_false_iff.2 h
    rw [CtxStore.set_uncached h, CtxStore.get_of_table (List.find?_eq_none.2 (by simpa using h))]
    exact Tab.look_put_same _ _ _ _

theorem CtxStore.get_set_other (t : CtxStore) {c k : Nat} (hk : k ≠ c) (r : CtxRec) : (t.set c r).get k = t.get k := by
  by_cases h : t.cache.any (·.ctx == c) = true
  · have hfind := CacheLine.find_map_put t.cache c k r
    rw [CtxStore.set_cached h]
    cases hl : t.cache.find? (·.ctx == k) with
    | none =>
      rw [hl] at hfind
      rw [CtxStore.get_of_table hl, CtxStore.get_of_table hfind]
    | some l =>
      have hc : l.ctx = k := by simpa using List.find?_some hl
      rw [hl] at hfind
      rw [CtxStore.get_of_line hl, CtxStore.get_of_line hfind, CacheLine.put, if_neg (by rw [hc]; exact hk)]
  · rw [CtxStore.set_uncached (Bool.eq_false_iff.2 h), CtxStore.get, CtxStore.get]
    dsimp only
    rw [Tab.look_put_other _ _ _ hk]

/-- The store apart from its table, its cache and their counters. -/
def CtxStore.apart (t : CtxStore) : CtxStore := { t with table := [], cache := [], hits := 0, misses := 0 }

@[simp] theorem CtxStore.apart_set (t : CtxStore) (c : Nat) (r : CtxRec) : (t.set c r).apart = t.apart := by
  rw [CtxStore.set]; split <;> rfl

@[simp] theorem CtxStore.apart_access (t : CtxStore) (c : Nat) : (t.access c).apart = t.apart := by
  rw [CtxStore.access]
  split
  · rfl
  · split
    · rfl
    · split <;> rfl

theorem CtxStore.get_fill (t : CtxStore) (c : Nat) : (t.fill c).get c = t.table.look {} c := by
  rw [CtxStore.get]; simp [CtxStore.fill]

/-- An access changes where a context's record stands, not what it holds (R120). -/
@[simp] theorem CtxStore.get_access_same (t : CtxStore) (c : Nat) : (t.access c).get c = t.get c := by
  rw [CtxStore.access]
  split
  next l hl =>
    have hc : (l.ctx == c) = true := (List.find?_some hl :)
    rw [CtxStore.get_of_line hl, CtxStore.get]
    simp only [List.find?_cons, hc]
  next hnone =>
    rw [CtxStore.get_of_table hnone]
    split
    · exact t.get_fill c
    · split
      next l hl =>
        have hl' : l ∈ t.cache := (List.mem_filter.1 (List.mem_reverse.1 (List.mem_of_find?_eq_some hl))).1
        have hne : c ≠ l.ctx := fun h => by simpa [h] using List.find?_eq_none.1 hnone l hl'
        rw [CtxStore.get_fill, CtxStore.evict]
        dsimp only
        split
        · exact Tab.look_put_other _ _ _ hne
        · rfl
      · exact CtxStore.get_of_table hnone

@[simp] theorem CtxStore.get_claimed_same (t : CtxStore) (c m : Nat) (own : Option Nat) :
    (t.claimed c m own).get c = { t.get c with claimed := true, claimId := BitVec.ofNat 8 m } := t.get_set_same c _

@[simp] theorem CtxStore.get_released_same (t : CtxStore) (c : Nat) :
    (t.released c).get c = { t.get c with claimed := false, claimId := 0 } := t.get_set_same c _

theorem CtxStore.get_released_other (t : CtxStore) {c k : Nat} (h : k ≠ c) : (t.released c).get k = t.get k := t.get_set_other h _

@[simp] theorem State.ctxRec_setCtx_same (s : State) (c : Nat) (r : CtxRec) : (s.setCtx c r).ctxRec c = r := s.ctx.get_set_same c r

@[simp] theorem State.ctxRec_modCtx_same (s : State) (c : Nat) (f : CtxRec → CtxRec) : (s.modCtx c f).ctxRec c = f (s.ctxRec c) :=
  s.ctx.get_set_same c _

theorem State.ctxRec_setCtx_other (s : State) {c k : Nat} (h : k ≠ c) (r : CtxRec) : (s.setCtx c r).ctxRec k = s.ctxRec k :=
  s.ctx.get_set_other h r

theorem State.ctxRec_modCtx_other (s : State) {c k : Nat} (h : k ≠ c) (f : CtxRec → CtxRec) : (s.modCtx c f).ctxRec k = s.ctxRec k :=
  s.ctx.get_set_other h _

/-! ### Images (R126) -/

/-- The state apart from what the writing of images changes: the members' media and their places in the context log. -/
def State.offMedia (s : State) : State :=
  { s with wythes := { s.wythes with issued := [], member := [] }, ctx := { s.ctx with logUsed := [], imagesWritten := 0 } }

@[simp] theorem State.offMedia_ssdWrite (s : State) (m z l : Nat) (b : Bytes) : (s.ssdWrite m z l b).offMedia = s.offMedia := rfl

@[simp] theorem State.offMedia_modMember (s : State) (m : Nat) (f : MemberSt → MemberSt) : (s.modMember m f).offMedia = s.offMedia := rfl

@[simp] theorem State.offMedia_resetZone (s : State) (m n : Nat) : (s.resetZone m n).offMedia = s.offMedia := by
  rw [State.resetZone]; split <;> rfl

@[simp] theorem State.offMedia_writeLabel (s : State) (m : Nat) : (s.writeLabel m).offMedia = s.offMedia := by
  rw [State.writeLabel]
  refine (State.offMedia_ssdWrite ..).trans ?_
  split
  · rfl
  · exact (State.offMedia_modMember ..).trans (s.offMedia_resetZone ..)

@[simp] theorem State.offMedia_putLog (s : State) (m : Nat) (img : Bytes) : (s.putLog m img).offMedia = s.offMedia := rfl

/-- What each step of a fold keeps, the fold keeps. -/
theorem foldl_keeps {α β γ : Type} (g : β → γ) (f : β → α → β) (h : ∀ b a, g (f b a) = g b) (l : List α) (b : β) : g (l.foldl f b) = g b := by
  induction l generalizing b with
  | nil => rfl
  | cons a l ih => exact (ih _).trans (h b a)

@[simp] theorem State.offMedia_regionChange (s : State) (m : Nat) : (s.regionChange m).offMedia = s.offMedia := by
  rw [State.regionChange]
  refine (foldl_keeps State.offMedia _ (fun t i => t.offMedia_resetZone ..) _ _).trans ?_
  rw [State.offMedia_writeLabel]
  exact foldl_keeps State.offMedia _ (fun t i => t.offMedia_putLog ..) _ _

@[simp] theorem State.offMedia_logImage (s : State) (m : Nat) (img : Bytes) : (State.logImage img s m).offMedia = s.offMedia := by
  rw [State.logImage]
  split
  · exact (State.offMedia_regionChange ..).trans (s.offMedia_putLog ..)
  · exact s.offMedia_putLog ..

@[simp] theorem State.offMedia_writeImage (s : State) (n : Nat) (img : Bytes) : (s.writeImage n img).offMedia = s.offMedia := by
  rw [State.writeImage]
  exact foldl_keeps State.offMedia _ (fun t m => t.offMedia_logImage ..) _ _

/-- The state apart from what an image changes: the media, and the queue of images that wait for them. -/
def State.offImages (s : State) : State := { s.offMedia with ctx := { s.offMedia.ctx with imageQueue := [] } }

/-- The record of a context under its next image number (R126). -/
def State.numbered (s : State) (c : Nat) : State :=
  { s with ctx := { s.ctx.set c { s.ctxRec c with imageSeq := s.ctx.imageSeq + 1 } with imageSeq := s.ctx.imageSeq + 1 } }

/-- An image gives the record its number and, apart from the media and their queue, changes nothing else (R126). -/
theorem State.offImages_image (s : State) {c : Nat} (h : c ≠ 0) : (s.image c).offImages = (s.numbered c).offImages := by
  rw [State.image, if_neg h]
  dsimp only
  split
  · exact congrArg (fun t : State => { t with ctx := { t.ctx with imageQueue := [] } }) ((s.numbered c).offMedia_writeImage _ _)
  · rfl

theorem State.ctxRec_offImages (s : State) (c : Nat) : s.offImages.ctxRec c = s.ctxRec c := rfl

theorem State.ctxRec_image (s : State) {c : Nat} (h : c ≠ 0) :
    (s.image c).ctxRec c = { s.ctxRec c with imageSeq := s.ctx.imageSeq + 1 } := by
  rw [← State.ctxRec_offImages, s.offImages_image h]
  exact CtxStore.get_set_same ..

theorem State.ctxRec_image_other (s : State) {c k : Nat} (h : c ≠ 0) (hk : k ≠ c) : (s.image c).ctxRec k = s.ctxRec k := by
  rw [← State.ctxRec_offImages, s.offImages_image h]
  exact CtxStore.get_set_other _ hk _

@[simp] theorem State.mem_image (s : State) {c : Nat} (h : c ≠ 0) : (s.image c).mem = s.mem := (congrArg State.mem (s.offImages_image h) :)

@[simp] theorem State.rings_image (s : State) {c : Nat} (h : c ≠ 0) : (s.image c).rings = s.rings := (congrArg State.rings (s.offImages_image h) :)

@[simp] theorem State.courses_image (s : State) {c : Nat} (h : c ≠ 0) : (s.image c).courses = s.courses :=
  (congrArg State.courses (s.offImages_image h) :)

theorem CtxStore.free_set (t : CtxStore) (c : Nat) (r : CtxRec) : (t.set c r).free = t.free := (congrArg CtxStore.free (t.apart_set c r) :)

theorem State.free_image (s : State) {c : Nat} (h : c ≠ 0) : (s.image c).ctx.free = s.ctx.free :=
  (congrArg (fun t : State => t.ctx.free) (s.offImages_image h) :).trans (s.ctx.free_set c _)

/-! ### Claims (R122) -/

theorem State.tryClaim_claimable {s : State} {c : Nat} (h : s.claimable c = true) (m : Nat) (own : Option Nat) :
    s.tryClaim c m own = some { s with ctx := (s.ctx.access c).claimed c m own } := by
  rw [State.tryClaim, if_pos h]

/-- A context that is not suspended has no course to resume (R107). -/
theorem State.tryResume_of_not_suspended {s : State} {c : Nat} (h : (s.ctxRec c).course = false ∨ (s.ctxRec c).suspended = false) :
    s.tryResume c = s := by
  have hc : ((s.ctxRec c).course && (s.ctxRec c).suspended) = false := by rcases h with h | h <;> simp [h]
  rw [State.tryResume]
  dsimp only
  rw [hc]
  rfl

theorem CtxStore.length_set_cache (t : CtxStore) (c : Nat) (r : CtxRec) : (t.set c r).cache.length = t.cache.length := by
  rw [CtxStore.set]; split <;> simp

theorem CtxStore.cacheKey_set (t : CtxStore) (c : Nat) (r : CtxRec) : (t.set c r).cacheKey = t.cacheKey :=
  (congrArg CtxStore.cacheKey (t.apart_set c r) :)

theorem CtxStore.setOf_set (t : CtxStore) (c k : Nat) (r : CtxRec) : (t.set c r).setOf k = t.setOf k := by
  rw [CtxStore.setOf, CtxStore.setOf, t.cacheKey_set]

theorem CtxStore.waySet_set (t : CtxStore) (c k : Nat) (r : CtxRec) : ((t.set c r).waySet k).length = (t.waySet k).length := by
  simp only [CtxStore.waySet, t.setOf_set c]
  by_cases h : t.cache.any (·.ctx == c) = true
  · rw [CtxStore.set_cached h, List.filter_map, List.length_map]
    exact congrArg List.length (List.filter_congr fun l _ => by simp)
  · rw [CtxStore.set_uncached (Bool.eq_false_iff.2 h)]

/-- A release keeps who waits for the context's set (R120). -/
theorem State.setWaiters_releaseClaim (s : State) (c : Nat) : (s.releaseClaim c).setWaiters c = s.setWaiters c := by
  have hlen : (s.releaseClaim c).ctx.cache.length = s.ctx.cache.length := CtxStore.length_set_cache ..
  have hway : ((s.releaseClaim c).ctx.waySet c).length = (s.ctx.waySet c).length := CtxStore.waySet_set ..
  have hset : ∀ k, (s.releaseClaim c).ctx.setOf k = s.ctx.setOf k := fun k => CtxStore.setOf_set ..
  have hrec : ∀ k, k ≠ c → (s.releaseClaim c).ctxRec k = s.ctxRec k := fun k hk => s.ctx.get_released_other hk
  simp only [State.setWaiters, hlen, hway, hset]
  congr 2
  refine List.filter_congr fun e _ => ?_
  by_cases he : e.1 = c
  · simp [he]
  · rw [hrec e.1 he]

/-- A release that leaves no course to resume frees the context and does nothing else (R122). -/
theorem State.release_quiet {s : State} {c : Nat} (h : (s.ctxRec c).course = false ∨ (s.ctxRec c).suspended = false)
    (hw : s.setWaiters c = []) : s.release c = s.releaseClaim c := by
  have hrec : (s.releaseClaim c).ctxRec c = { s.ctxRec c with claimed := false, claimId := 0 } := s.ctx.get_released_same c
  rw [State.release, State.tryResume_of_not_suspended (by rw [hrec]; exact h), s.setWaiters_releaseClaim, hw]
  rfl

end Sys2Proof.Machine

namespace Sys2Proof.Machine

/-! ### Claims that arrive in one cycle (R122) -/

theorem foldl_natMax (l : List Nat) (a : Nat) : let t := l.foldl (fun (a : Nat) m => Nat.max a m) a
    (t = a ∨ t ∈ l) ∧ a ≤ t ∧ ∀ x ∈ l, x ≤ t := by
  induction l generalizing a with
  | nil => simp
  | cons b l ih =>
    obtain ⟨hin, hle, hall⟩ := ih (Nat.max a b)
    have ha : a ≤ Nat.max a b := Nat.le_max_left a b
    have hb : b ≤ Nat.max a b := Nat.le_max_right a b
    refine ⟨?_, Nat.le_trans ha hle, fun x hx => ?_⟩
    · rcases hin with heq | hmem
      · rcases Nat.le_total a b with h | h
        · exact Or.inr (List.mem_cons.2 (Or.inl (heq.trans (Nat.max_eq_right h))))
        · exact Or.inl (heq.trans (Nat.max_eq_left h))
      · exact Or.inr (List.mem_cons_of_mem b hmem)
    · rcases List.mem_cons.1 hx with rfl | hx
      · exact Nat.le_trans hb hle
      · exact hall x hx

/-- Among claimants one has the highest identity. -/
theorem top_claimant {qs : List Claimant} (h : qs ≠ []) : ∃ q ∈ qs, (∀ r ∈ qs, r.master.val ≤ q.master.val) ∧
    (qs.map fun r => r.master.val).foldl (fun (a : Nat) m => Nat.max a m) 0 = q.master.val := by
  obtain ⟨hin, -, hall⟩ := foldl_natMax (qs.map fun r => r.master.val) 0
  obtain ⟨q, hq, htop⟩ : ∃ q ∈ qs, q.master.val = (qs.map fun r => r.master.val).foldl (fun (a : Nat) m => Nat.max a m) 0 := by
    rcases hin with h0 | hmem
    · obtain ⟨q, hq⟩ := List.exists_mem_of_ne_nil qs h
      have hle := hall q.master.val (List.mem_map_of_mem hq)
      exact ⟨q, hq, by omega⟩
    · exact List.mem_map.1 hmem
  exact ⟨q, hq, fun r hr => Nat.le_trans (hall r.master.val (List.mem_map_of_mem hr)) (Nat.le_of_eq htop.symm), htop.symm⟩

theorem iterate_keeps {α γ : Type} (g : α → γ) (f : α → α) (h : ∀ a, g (f a) = g a) (n : Nat) (a : α) : g (iterate f n a) = g a := by
  induction n generalizing a with
  | zero => rfl
  | succ n ih => exact (ih _).trans (h a)

theorem State.ctxRec_claimLost (s : State) (c : Nat) : s.claimLost.ctxRec c = s.ctxRec c := rfl

theorem State.ctx_claimAnswered (s : State) (m : Nat) : (s.claimAnswered m).ctx = s.ctx := by
  rw [State.claimAnswered]; split <;> rfl

/-- Claims none of which is stale: the highest claimant gets a free context (R122). -/
theorem State.claimAll_fresh {s : State} {c : Nat} {qs : List Claimant} (hne : qs ≠ []) (hfresh : ∀ q ∈ qs, s.claimStale c q = false)
    (hfree : s.claimable c = true) {top : Nat} (htop : (qs.map fun r => r.master.val).foldl (fun (a : Nat) m => Nat.max a m) 0 = top) :
    (s.claimAll c qs).ctxRec c = { s.ctxRec c with claimed := true, claimId := BitVec.ofNat 8 top } ∧
      (s.claimAll c qs).reply = qs.map fun q => { dest := q.master, status := if q.master.val = top then 0 else 0x0501 } := by
  have hstale : qs.filter (s.claimStale c) = [] := List.filter_eq_nil_iff.2 fun q hq => by simp [hfresh q hq]
  have hlive : (qs.filter fun q => !s.claimStale c q) = qs := List.filter_eq_self.2 fun q hq => by simp [hfresh q hq]
  have hsome : (qs.map fun q => q.master.val).isEmpty = false := by simpa using hne
  have hwon := State.tryClaim_claimable hfree top none
  constructor
  · rw [State.claimAll]
    simp only [hstale, hlive, htop, hsome, List.length_nil, iterate, hwon, Option.getD_some, Bool.false_eq_true, if_false]
    refine (congrArg (CtxStore.get · c) (foldl_keeps State.ctx _ State.ctx_claimAnswered _ _) :).trans ?_
    refine (iterate_keeps (State.ctxRec · c) _ (State.ctxRec_claimLost · c) _ _).trans ?_
    exact (CtxStore.get_claimed_same ..).trans (by rw [CtxStore.get_access_same]; rfl)
  · rw [State.claimAll]
    simp only [hstale, hlive, htop, hsome, List.length_nil, iterate, hwon, Option.isSome_some, Bool.true_and, beq_iff_eq, Bool.false_eq_true,
      if_false]
    refine List.map_congr_left fun q hq => ?_
    rw [hfresh q hq]
    rfl

/-! ### Allocation and the free list (R116, R123) -/

/-- The state in which context k, the head of the free list, is handed out as an open context (R116, R123). -/
def State.handedOut (s : State) (k : Nat) (rest : List (Nat × Nat)) : State :=
  { s with ctx := { s.ctx.set k { state := 1, gen := (s.ctxRec k).gen } with free := rest } }

theorem State.ctxRec_handedOut (s : State) (k : Nat) (rest : List (Nat × Nat)) :
    (s.handedOut k rest).ctxRec k = { state := 1, gen := (s.ctxRec k).gen } := s.ctx.get_set_same k _

theorem State.imageSeq_handedOut (s : State) (k : Nat) (rest : List (Nat × Nat)) : (s.handedOut k rest).ctx.imageSeq = s.ctx.imageSeq :=
  (congrArg CtxStore.imageSeq (s.ctx.apart_set k _) :)

theorem State.allocate_free {s : State} {m k : Nat} {l : List (Nat × Nat)} (hdone : s.ctx.restoreDone = true)
    (hres : s.cfg 0x2100 2 < freeCount s.ctx.free) (htake : freeTake s.ctx.free = some (k, l)) : s.allocate m =
      { (s.handedOut k l).image k with reply := [{ dest := m, data := toLE 4 k ++ toLE 2 (s.ctxRec k).gen.toNat }] } := by
  have htake' : s.takeFree { state := 1 } = some (k, s.handedOut k l) := by rw [State.takeFree, htake]; rfl
  rw [State.allocate, hdone, htake']
  simp only [Bool.not_true, Bool.false_eq_true, if_false, if_neg (Nat.not_le.2 hres), s.ctxRec_handedOut]

theorem State.freeStatus_ok {s : State} {c : Nat} (h0 : c ≠ 0) (hcourse : (s.ctxRec c).course = false) (hclaimed : (s.ctxRec c).claimed = false)
    (hstate : (s.ctxRec c).state = 1 ∨ (s.ctxRec c).state = 4) : s.freeStatus c = 0 := by
  have h23 : ¬ ((s.ctxRec c).state = 2 ∨ (s.ctxRec c).state = 3) := by rcases hstate with h | h <;> rw [h] <;> decide
  simp only [State.freeStatus, h0, hcourse, hclaimed, Bool.false_eq_true, if_false, if_neg h23, if_pos hstate]

theorem State.ctxRec_makeFree (s : State) (c : Nat) : (s.makeFree c).ctxRec c = { gen := (s.ctxRec c).gen + 1 } := s.ctx.get_set_same c _

theorem State.freeContext_ok {s : State} {m c : Nat} (hs : s.freeStatus c = 0) (hext : (s.ctxRec c).extContext = 0) :
    s.freeContext m c (s.ctxRec c).gen = ((s.makeFree c).image c).answer m 0 := by
  have hok : s.handleOk c (s.ctxRec c).gen = true := by simp [State.handleOk]
  rw [State.freeContext, hok, hs, hext]
  rfl

/-! ### A re-key (R133) -/

theorem State.rekeySwitch_built {s : State} {a : BindArea} (hb : s.bind.build = some a) (hlen : a.stash.length ≤ 48)
    (hin : ∀ e ∈ s.bind.active.all, (a.inBuckets e.key).isSome = true) : ∃ peak : BitVec 8, exec .rekeySwitch s = .next
      ({ s with bind := { s.bind with active := a, build := none, rekeys := s.bind.rekeys + 1, stashPeak := peak } }.raise 246) := by
  have hbuilt : s.bind.active.all.foldl (fun (b : BindArea) e =>
      if (b.inBuckets e.key).isSome ∨ b.stash.any (·.key == e.key) then b else (b.insert e s.draws).area) a = a := by
    refine List.foldlRecOn (motive := fun b => b = a) _ _ rfl fun b hba e he => ?_
    rw [hba, if_pos (Or.inl (hin e he))]
  refine ⟨if s.bind.stashPeak.toNat < a.stash.length then BitVec.ofNat 8 a.stash.length else s.bind.stashPeak, ?_⟩
  change execRekeySwitch s = _
  rw [execRekeySwitch, hb]
  dsimp only
  rw [hbuilt, if_neg (Nat.not_lt.2 hlen)]

/-- Settles O42: each request of the context store and of the re-key by its own lemma; what the requests leave of other records is not
asked. -/
theorem contextStoreRequests : Obligations.ContextStoreRequests := by
  unfold Obligations.ContextStoreRequests
  intro x c qs k l a w s r m fresh
  refine ⟨fun hne hfresh hfree => ?claim, fun h => ?stale, fun hfresh hclaimed hid hsus hwait hcourse => ?release,
    fun hfresh hm hdone hres htake hk => ?allocate, fun hfresh hm hc hcourse hclaimed hstate hext => ?free,
    fun hlanes hloc hw hlba => ?locExt, ?rekey, fun hb hlen hin => ?switched⟩
  case claim =>
    obtain ⟨q, hq, hle, htop⟩ := top_claimant hne
    obtain ⟨hrec, hreply⟩ := State.claimAll_fresh hne hfresh hfree htop
    refine ⟨_, rfl, q.master, ⟨q, hq, rfl⟩, hle, hrec, hreply.trans (List.map_congr_left fun p _ => ?_)⟩
    simp only [Fin.val_inj]
  case stale =>
    change Host.Outcome.next (s.checked c x _) = _
    rw [State.checked, h]
    rfl
  case release =>
    have hany : s.ctx.courseClaim.any (·.1 == c.val) = false := List.any_eq_false.2 fun e he => by simpa using hcourse e he
    refine ⟨(s.releaseClaim c).answer m 0, ?_, s.ctx.get_released_same c, rfl, rfl⟩
    change Host.Outcome.next (s.checked c x _) = _
    rw [State.checked, hfresh, hany, State.release_quiet (Or.inr hsus) hwait]
    have hholder : ((s.ctxRec c).claimed && (s.ctxRec c).claimId.toNat == x.master.val && !false) = true := by
      rw [show (s.ctxRec c).claimed = true from hclaimed, show (s.ctxRec c).claimId.toNat = x.master.val from hid]
      simp
    exact congrArg _ (if_pos hholder)
  case allocate =>
    have hfw : (s.fw m || m.val == 96) = true := by
      rw [Bool.or_eq_true, beq_iff_eq]
      exact hm.imp_right (congrArg Fin.val)
    have hstale : s.claimStale 0 { x with handle := none } = false := hfresh
    refine ⟨s.allocate m, ?_, ?_⟩
    · change Host.Outcome.next (if (s.fw m || m.val == 96) = true then s.checked 0 _ _ else _) = _
      rw [if_pos hfw, State.checked, hstale]
      rfl
    · rw [State.allocate_free hdone hres htake]
      have hrec : ((s.handedOut k l).image k).ctxRec k = { state := 1, gen := (s.ctxRec k).gen, imageSeq := s.ctx.imageSeq + 1 } := by
        rw [State.ctxRec_image _ hk, State.ctxRec_handedOut, State.imageSeq_handedOut]
      exact ⟨State.free_image _ hk, (congrArg CtxRec.state hrec :), (congrArg CtxRec.gen hrec :), (congrArg CtxRec.imageSeq hrec :),
        (congrArg CtxRec.course hrec :), (congrArg CtxRec.claimed hrec :), rfl⟩
  case free =>
    have hfw : (s.fw m || m.val == 96) = true := by
      rw [Bool.or_eq_true, beq_iff_eq]
      exact hm.imp_right (congrArg Fin.val)
    have hstale : s.claimStale c { x with handle := none } = false := hfresh
    have hc : c.val ≠ 0 := fun h => hc (Fin.ext h)
    have hrec : (((s.makeFree c).image c).ctxRec c) = { gen := r.gen + 1, imageSeq := (s.makeFree c).ctx.imageSeq + 1 } := by
      rw [State.ctxRec_image _ hc]
      rw [State.ctxRec_makeFree]
    refine ⟨((s.makeFree c).image c).answer m 0, ?_, ?_, (congrArg CtxRec.state hrec :), (congrArg CtxRec.gen hrec :), rfl⟩
    · change Host.Outcome.next (if (s.fw m || m.val == 96) = true then s.checked c _ _ else _) = _
      rw [if_pos hfw, State.checked, hstale, State.freeContext_ok (State.freeStatus_ok hc hcourse hclaimed hstate) hext]
      rfl
    · exact (State.free_image _ hc).trans (congrArg (· ++ [(c.val, 1)]) (s.ctx.free_set c _))
  case locExt =>
    change Host.Outcome.next (s.locRetry c) = _
    conv => lhs; rw [State.locRetry, hlanes]
    simp only [List.filter_nil, List.map_nil, List.foldl_nil, hloc, List.filter_cons, hw, beq_self_eq_true, if_true, bne_self_eq_false,
      Bool.false_eq_true, if_false, List.foldl_cons, if_neg hlba]
  case rekey =>
    refine ⟨s.rekeyStart, rfl, rfl, rfl, rfl, fun hawake => ?_⟩
    have hvu : s.rekeyStart.vu = s.vu.arrive 246 := State.vu_raise hawake 246
    rw [hvu, VectorUnit.row_arrive_same]
    exact (s.vu.row 246).arrive_counts.1
  case switched =>
    obtain ⟨peak, h⟩ := State.rekeySwitch_built hb hlen hin
    exact ⟨_, h, rfl, rfl, rfl, rfl, rfl⟩

end Sys2Proof.Machine

namespace Sys2Proof.Machine

/-! ### A hod's state (R137 to R139) -/

@[simp] theorem State.hod_modHod_same (s : State) (h : Nat) (f : HodSt → HodSt) : (s.modHod h f).hod h = f (s.hod h) := Tab.look_put_same ..

theorem State.hod_modHod_other (s : State) {h k : Nat} (hk : k ≠ h) (f : HodSt → HodSt) : (s.modHod h f).hod k = s.hod k :=
  Tab.look_put_other _ _ _ hk

@[simp] theorem State.modHod_modHod (s : State) (h : Nat) (f g : HodSt → HodSt) : (s.modHod h f).modHod h g = s.modHod h (g ∘ f) := by
  have hf : (s.modHod h f).hod h = f (s.hod h) := s.hod_modHod_same h f
  simp only [State.modHod] at hf ⊢
  rw [hf, Tab.put_put]
  rfl

/-- Where nobody waits for room, room is given to nobody (R28). -/
theorem State.hodRoom_unwaited {s : State} {h : Nat} (hw : (s.hod h).waiting = []) : s.hodRoom h = s := by
  rw [State.hodRoom, hw]; rfl

/-! ### The DONE writeback of a descriptor that a master submitted (R140, R148) -/

theorem hodWritable_dram {a : Nat} (h : a < 0x370000000) : hodWritable a = true := by rw [hodWritable, regionOf_dram h]

/-- The writeback of bytes 1Ch to 1Fh and, with IRQ, the source. -/
def State.doneWritten (s : State) (h addr : Nat) (irq : Bool) (st : Status) : State :=
  if irq then (s.setBytes (addr + 0x1C) (doneBytes st)).raise (176 + h / 2) else s.setBytes (addr + 0x1C) (doneBytes st)

/-- Apart from marks of engines, a submitted descriptor's completion is its writeback. -/
theorem State.descNotify_submit (s : State) (h : Nat) {addr : Nat} (ha : addr + 0x1C < 0x370000000) (i : Master) (irq : Bool) (st : Status) :
    s.descNotify h addr (.submit i) irq st =
      { s.doneWritten h addr irq st with engines := (s.descNotify h addr (.submit i) irq st).engines } := by
  have hform : s.descNotify h addr (.submit i) irq st =
      if i.val < 96 then (s.doneWritten h addr irq st).markWarm i 18 else s.doneWritten h addr irq st := by
    rw [State.descNotify, hodWritable_dram ha]; rfl
  rw [hform]
  split
  · exact State.markWarm_eq ..
  · rfl

theorem State.hods_doneWritten (s : State) (h addr : Nat) (irq : Bool) (st : Status) : (s.doneWritten h addr irq st).hods = s.hods := by
  rw [State.doneWritten]; split <;> rfl

theorem State.mem_doneWritten (s : State) (h addr : Nat) (irq : Bool) (st : Status) :
    (s.doneWritten h addr irq st).mem = (s.setBytes (addr + 0x1C) (doneBytes st)).mem := by
  rw [State.doneWritten]; split <;> rfl

theorem State.hod_descNotify (s : State) (h : Nat) {addr : Nat} (ha : addr + 0x1C < 0x370000000) (i : Master) (irq : Bool) (st : Status)
    (k : Nat) : (s.descNotify h addr (.submit i) irq st).hod k = s.hod k := by
  rw [s.descNotify_submit h ha]
  exact congrArg (fun t : Tab HodSt => t.look {} k) (s.hods_doneWritten h addr irq st)

theorem State.byteAt_descNotify (s : State) (h : Nat) {addr : Nat} (ha : addr + 0x1C < 0x370000000) (i : Master) (irq : Bool) (st : Status)
    (k : Nat) : (s.descNotify h addr (.submit i) irq st).byteAt k = (s.setBytes (addr + 0x1C) (doneBytes st)).byteAt k := by
  rw [s.descNotify_submit h ha]
  exact congrArg (fun m : List Host.Cell => Tab.look m 0 k) (s.mem_doneWritten h addr irq st)

@[simp] theorem doneBytes_length (st : Status) : (doneBytes st).length = 4 := toLE_length 4 _

/-- The writeback stands behind the descriptor and no other byte changes. -/
theorem State.descNotify_bytes (s : State) (h : Nat) {addr : Nat} (ha : addr + 0x20 ≤ 0x370000000) (i : Master) (irq : Bool) (st : Status) :
    (s.descNotify h addr (.submit i) irq st).bytesAt (addr + 0x1C) 4 = doneBytes st ∧
    ∀ k, k < addr + 0x1C ∨ addr + 0x20 ≤ k → (s.descNotify h addr (.submit i) irq st).byteAt k = s.byteAt k := by
  have hin : addr + 0x1C < 0x370000000 := by omega
  have hback := s.bytesAt_setBytes_dram (a := addr + 0x1C) (b := doneBytes st) (by rw [doneBytes_length]; omega)
  rw [doneBytes_length] at hback
  refine ⟨(State.bytesAt_congr fun j _ => s.byteAt_descNotify h hin i irq st _).trans hback, fun k hk => ?_⟩
  rw [s.byteAt_descNotify h hin, State.byteAt_setBytes_other _ _ _ _ (by rw [doneBytes_length]; omega)]

/-! ### A plain copy (R142, R144) -/

theorem State.hodPort_dram (s : State) {a : Nat} (h : a < 0x370000000) : s.hodPort a = none := if_neg (by omega)

theorem State.hodBytes_dram (s : State) {a n : Nat} (h : a + n ≤ 0x370000000) : s.hodBytes a n = s.bytesAt a n := by
  refine List.map_congr_left fun i hi => ?_
  have hi := List.mem_range.1 hi
  rw [s.hodPort_dram (by omega)]
  exact s.devByte_dram (by omega)

theorem getD_bytesAt (s : State) {a n i : Nat} (h : i < n) : (s.bytesAt a n).getD i 0 = s.byteAt (a + i) := by
  simp [State.bytesAt, h]

theorem foldl_hodWrite_writable (ps : List (Nat × Byte)) (h : ∀ p ∈ ps, hodWritable p.1 = true) (s : State) : s.hodWrite ps = s.setAll ps := by
  induction ps generalizing s with
  | nil => rfl
  | cons p ps ih =>
    obtain ⟨hp, hps⟩ := List.forall_mem_cons.mp h
    rw [State.hodWrite, List.foldl_cons, if_pos hp]
    exact ih hps _

/-- The move of a descriptor without a bond between two ranges of DRAM that do not meet. -/
theorem State.movedBytes_plain (s : State) {w : HodWork} (hb : dBondEn w.desc = false) (hsrc : dSrc w.desc + dLen w.desc ≤ 0x370000000)
    (hdst : dDst w.desc + dLen w.desc ≤ 0x370000000)
    (hapart : dSrc w.desc + dLen w.desc ≤ dDst w.desc ∨ dDst w.desc + dLen w.desc ≤ dSrc w.desc) :
    s.movedBytes w = bytePairs (dDst w.desc + ·) (fun k => s.byteAt (dSrc w.desc + k)) (dLen w.desc) := by
  have hlen : (s.bytesAt (dSrc w.desc) (dLen w.desc)).length = dLen w.desc := by simp [State.bytesAt]
  have hplace : (bondOf w.desc w.bond).place (s.hodBytes (dSrc w.desc) (dLen w.desc)) =
      (List.range (dLen w.desc)).map fun k => (k, (s.bytesAt (dSrc w.desc) (dLen w.desc)).getD k 0) := by
    rw [bondOf, hb, s.hodBytes_dram hsrc]
    exact congrArg (fun n => (List.range n).map fun k => (k, (s.bytesAt (dSrc w.desc) (dLen w.desc)).getD k 0)) hlen
  rw [State.movedBytes]
  dsimp only
  rw [hplace, List.map_map, bytePairs]
  refine List.map_congr_left fun k hk => ?_
  have hk := List.mem_range.1 hk
  have hmod : (dDst w.desc + k) % 2 ^ 35 = dDst w.desc + k := Nat.mod_eq_of_lt (by omega)
  have hout : (decide (dSrc w.desc ≤ dDst w.desc + k) && decide (dDst w.desc + k < dSrc w.desc + dLen w.desc)) = false := by
    simp only [Bool.and_eq_false_iff, decide_eq_false_iff_not]
    omega
  simp only [Function.comp_apply, hmod, Bool.and_assoc, hout, Bool.and_false, Bool.false_eq_true, if_false, getD_bytesAt s hk]

theorem State.hods_setAll (s : State) (ps : List (Nat × Byte)) : (s.setAll ps).hods = s.hods := by rw [State.setAll_eq]

/-- The bytes that a copy leaves, and the hods as they were. -/
theorem State.moveBytes_plain (s : State) (h : Nat) {w : HodWork} (hb : dBondEn w.desc = false)
    (hsrc : dSrc w.desc + dLen w.desc ≤ 0x370000000) (hdst : dDst w.desc + dLen w.desc ≤ 0x370000000)
    (hapart : dSrc w.desc + dLen w.desc ≤ dDst w.desc ∨ dDst w.desc + dLen w.desc ≤ dSrc w.desc) :
    (s.moveBytes h w).hods = s.hods ∧
    (∀ k, k < dLen w.desc → (s.moveBytes h w).byteAt (dDst w.desc + k) = s.byteAt (dSrc w.desc + k)) ∧
    ∀ k, k < dDst w.desc ∨ dDst w.desc + dLen w.desc ≤ k → (s.moveBytes h w).byteAt k = s.byteAt k := by
  have hps := s.movedBytes_plain hb hsrc hdst hapart
  have hwrite : s.hodWrite (s.movedBytes w) = s.setAll (s.movedBytes w) := by
    refine foldl_hodWrite_writable _ (fun p hp => ?_) s
    obtain ⟨k, hk, rfl⟩ := List.mem_map.1 (hps ▸ hp)
    exact hodWritable_dram (a := dDst w.desc + k) (by have := List.mem_range.1 hk; omega)
  have hhods : (s.moveBytes h w).hods = (s.setAll (s.movedBytes w)).hods := by
    rw [← hwrite]
    exact iterate_keeps State.hods _ (State.hods_addrFaultF · _) _ _
  have hmem : (s.moveBytes h w).mem = (s.setAll (s.movedBytes w)).mem := by
    rw [← hwrite]
    exact iterate_keeps State.mem _ (State.mem_addrFaultF · _) _ _
  have hbyte : ∀ k, (s.moveBytes h w).byteAt k = (s.setAll (s.movedBytes w)).byteAt k := fun k =>
    congrArg (fun m : List Host.Cell => Tab.look m 0 k) hmem
  refine ⟨hhods.trans (s.hods_setAll _), fun k hk => ?_, fun k hk => ?_⟩
  · rw [hbyte, hps]
    refine (s.byteAt_setAll_at (dDst w.desc + ·) _ hk fun i j _ _ => by omega).trans ?_
    rw [laneMask_dram (by omega), and_full]
  · rw [hbyte, hps]
    exact s.byteAt_setAll_other (dDst w.desc + ·) _ fun i _ => by omega

/-! ### Descriptors at their start (R137, R140, R143) -/

section
variable {s : State} {h : Nat} {a : DevAddr} {i : Master} {rest : List HodEntry} (hen : (s.hod h).en = true)
  (hdis : (s.hod h).dis = false) (hwork : (s.hod h).work = none) (hpow : s.hodPowered h = true)
  (hq : (s.hod h).queue = { addr := a.toNat, issuer := .submit i } :: rest) {w : BitVec 256} {bond : BitVec 128}
  (hdesc : BitVec.ofNat 256 (leNat (s.devBytes a.toNat 32)) = w) (hbond : (s.hod h).bonds.look 0 (dBond w) = bond)
include hen hdis hwork hpow hq hdesc hbond

/-- A descriptor that passes its checks is latched with its bond (R137). -/
theorem State.descStart_latches (hst : descStatus w bond false = 0) : s.descStart h = (s.modHod h fun y => { y with
    queue := rest, work := some { addr := a.toNat, issuer := .submit i, desc := w, bond := bond } }).hodRoom h := by
  rw [State.descStart, hq]
  simp only [hen, hdis, hwork, hpow, Bool.not_true, Bool.or_false, Option.isSome_none, Bool.false_eq_true, if_false, hdesc, hbond, hst, ne_eq,
    not_true_eq_false, State.modHod_modHod]
  rfl

/-- A plain descriptor that fails a check is counted and completes with the check's status (R140, R143). -/
theorem State.descStart_rejects (hst : descStatus w bond false ≠ 0) (hev : dEvid w = false) : s.descStart h =
    (((s.modHod h fun y => { y with queue := rest, rejectCount := satAdd y.rejectCount 1 }).raise 188).descNotify h a.toNat (.submit i) (dIrq w)
      (descStatus w bond false)).hodRoom h := by
  rw [State.descStart, hq]
  simp only [hen, hdis, hwork, hpow, Bool.not_true, Bool.or_false, Option.isSome_none, Bool.false_eq_true, if_false, hdesc, hbond, if_pos hst,
    hev, State.modHod_modHod]
  rfl
end

/-- A descriptor in progress that a master submitted completes. -/
theorem State.descComplete_submit {s : State} {h : Nat} {w : HodWork} {i : Master} (hw : (s.hod h).work = some w) (hi : w.issuer = .submit i) :
    s.descComplete h = ((s.moveBytes h w).modHod h fun y => { y with work := none, doneCount := y.doneCount + 1
                                                                     bytesMoved := y.bytesMoved + BitVec.ofNat 64 (dLen w.desc) }).descNotify
      h w.addr (.submit i) (dIrq w.desc) 0 := by
  rw [State.descComplete, hw]
  dsimp only
  rw [hi]

theorem State.hod_raise (s : State) (n k : Nat) : (s.raise n).hod k = s.hod k := rfl

theorem State.hod_drawn (s : State) (h : Nat) : s.drawn.hod h = s.hod h := rfl

/-- A hod after a write of DIS with nothing in progress; what its BYTES_MOVED counts is then free (R146). -/
def HodSt.disabled (x : HodSt) (v : W64) : HodSt :=
  { x with dis := true, work := none, queue := [], dropped := x.queue, dropping := !x.queue.isEmpty
           bytesMoved := if x.queue.isEmpty then x.bytesMoved else v }

/-- The queue that a write of DIS drops holds no lane's block, so nothing but the hod changes (R146). -/
theorem State.hodDisable_idle {s : State} {h : Nat} (hdis : (s.hod h).dis = false) (hwork : (s.hod h).work = none)
    (hq : ∀ e ∈ (s.hod h).queue, e.block = none) : s.hodDisable h = (s.modHod h (·.disabled (Config.freeBits 64 s.draws))).drawn := by
  have hfold : (s.hod h).queue.foldl (fun t e => t.dropQueued h e) s = s := by
    refine List.foldlRecOn (motive := fun t => t = s) _ _ rfl fun t ht e he => ?_
    rw [ht, State.dropQueued, hq e he]
    split
    · contradiction
    · rfl
  rw [State.hodDisable]
  simp only [hdis, hwork, Bool.false_eq_true, if_false, Option.toList_none, List.map_nil, List.nil_append, hfold]
  rfl

theorem State.bytesAt_hodRoom {s : State} {h : Nat} (hw : (s.hod h).waiting = []) (a n : Nat) : (s.hodRoom h).bytesAt a n = s.bytesAt a n := by
  rw [State.hodRoom_unwaited hw]

/-- With one descriptor dropped, its writeback is made and DROPPING clears (R146). -/
theorem State.droppingClear_one {s : State} {h : Nat} {e : HodEntry} {i : Master} (hdrop : (s.hod h).dropping = true)
    (hone : (s.hod h).dropped = [e]) (hi : e.issuer = .submit i) : s.droppingClear h =
      (((s.modHod h fun y => { y with dropped := [], dropping := false, dropCount := satAdd y.dropCount 1
                                      dis := y.dis && !y.disClear, disClear := false }).descNotify h e.addr (.submit i) (s.entryIrq e)
        0x0604).raise 189).hodRoom h := by
  rw [State.droppingClear, hone]
  simp only [hdrop, Bool.not_true, Bool.false_eq_true, if_false, List.foldl_cons, List.foldl_nil, List.length_singleton, hi]
  rfl

/-- A source that neither IRQ nor 247 is keeps its row in a writeback. -/
theorem State.row_descNotify {s : State} (hawake : s.watcher.asleep = false) (h : Nat) {addr : Nat} (ha : addr + 0x1C < 0x370000000) (i : Master)
    (irq : Bool) (st : Status) {n : Nat} (hn : n ≠ 176 + h / 2) (hn2 : n ≠ 247) :
    (s.descNotify h addr (.submit i) irq st).watcher.asleep = false ∧ (s.descNotify h addr (.submit i) irq st).vu.row n = s.vu.row n := by
  rw [s.descNotify_submit h ha]
  change (s.doneWritten h addr irq st).watcher.asleep = false ∧ (s.doneWritten h addr irq st).vu.row n = s.vu.row n
  have hset : (s.setBytes (addr + 0x1C) (doneBytes st)).watcher.asleep = false := hawake
  rw [State.doneWritten]
  split
  · refine ⟨by rw [State.raise_awake hset]; exact hawake, ?_⟩
    rw [State.vu_raise hset]
    exact VectorUnit.row_arrive_other s.vu hn hn2
  · exact ⟨hawake, rfl⟩

/-- Settles O43: each command by the lemma of its function, and the writebacks by that of `State.descNotify`. -/
theorem hodCommands : Obligations.HodCommands := by
  unfold Obligations.HodCommands
  intro m i h a en rest e d b s x first w bond
  refine ⟨fun hm hroom hdis h32 hin => ?submit, fun hm hfull => ?full, fun hm => ?issuer, fun hm => ?en, fun hm hdis hwork hq => ?dis,
    fun hm hdis hdrop => ?dropping, fun hm hdis hdrop hw => ?clear, fun hen hdis hwork hpow hq hw => ⟨fun hst => ?start, fun hst hev hirq h32 hin => ?reject⟩,
    fun v hpow hwork hbond hirq hsrc hdst hin hapart hback => ?complete, fun hdrop hone he hin hw => ?dropped⟩
  case submit =>
    have hok : ((s.hod h).room && a.toNat % 32 == 0 && decide (a.toNat + 31 < 0x370000000)) = true := by
      simp only [HodSt.room, Bool.and_eq_true, decide_eq_true_eq, beq_iff_eq, Bool.not_eq_true']
      exact ⟨⟨⟨hroom, hdis⟩, h32⟩, hin⟩
    refine congrArg Host.Outcome.next ((if_pos hm).trans ?_)
    rw [State.hodSubmit, if_pos hok]
  case full =>
    have hroom : (s.hod h).room = false := by
      simp only [HodSt.room, Bool.and_eq_false_iff, decide_eq_false_iff_not, Bool.not_eq_false']
      exact hfull.imp_left Nat.not_lt.2
    refine congrArg Host.Outcome.next ((if_pos hm).trans ?_)
    rw [State.hodSubmit, hroom]
    rfl
  case issuer => exact congrArg Host.Outcome.next (if_neg (by rw [hm]; decide))
  case en => exact congrArg Host.Outcome.next (if_pos hm)
  case dis =>
    have hform := State.hodDisable_idle hdis hwork hq
    have hhod : (s.modHod h (·.disabled (Config.freeBits 64 s.draws))).drawn.hod h = x.disabled (Config.freeBits 64 s.draws) :=
      (State.hod_drawn _ h).trans (s.hod_modHod_same h _)
    refine ⟨_, congrArg Host.Outcome.next ((if_pos hm).trans hform), ?_, ?_, ?_, ?_, rfl, fun k hk => ?_⟩
    case refine_5 => exact s.hod_modHod_other hk (·.disabled (Config.freeBits 64 s.draws))
    all_goals rw [hhod]; rfl
  case dropping =>
    refine congrArg Host.Outcome.next ((if_pos hm).trans ((if_pos hdis).trans (if_pos hdrop)))
  case clear =>
    refine congrArg Host.Outcome.next ((if_pos hm).trans ((if_pos hdis).trans ?_))
    rw [State.hodEnableAgain, if_neg (by rw [show (s.hod h).dropping = false from hdrop]; decide)]
    exact State.hodRoom_unwaited (by rw [State.hod_modHod_same]; exact hw)
  case start =>
    refine congrArg Host.Outcome.next ((State.descStart_latches hen hdis hwork hpow hq rfl rfl hst).trans ?_)
    exact State.hodRoom_unwaited (by rw [State.hod_modHod_same]; exact hw)
  case reject =>
    have hform := State.descStart_rejects hen hdis hwork hpow hq rfl rfl hst hev
    generalize ht : (s.modHod h fun y => { y with queue := rest, rejectCount := satAdd y.rejectCount 1 }).raise 188 = t at hform
    have hhod : t.hod h = { x with queue := rest, rejectCount := satAdd x.rejectCount 1 } := by
      rw [← ht, State.hod_raise]
      exact s.hod_modHod_same h _
    have hbyte : ∀ k, t.byteAt k = s.byteAt k := fun k => by rw [← ht]; rfl
    obtain ⟨hback, hframe⟩ := t.descNotify_bytes h (addr := a.toNat) (by omega) i (dIrq w) (descStatus w bond false)
    have hnot := t.hod_descNotify h (addr := a.toNat) (by omega) i (dIrq w) (descStatus w bond false) h
    rw [State.hodRoom_unwaited (by rw [hnot, hhod]; exact hw)] at hform
    refine ⟨_, congrArg Host.Outcome.next hform, ?_, ?_, ?_, ?_, hback, fun k hk => (hframe k hk).trans (hbyte k)⟩
    all_goals rw [hnot, hhod]
    exact hwork
  case complete =>
    have hform := State.descComplete_submit hwork rfl
    obtain ⟨hhods, hcopy, hrest⟩ := s.moveBytes_plain h (w := { addr := d, issuer := .submit i, desc := v, bond := 0 }) hbond hsrc hdst hapart
    generalize s.moveBytes h { addr := d, issuer := .submit i, desc := v, bond := 0 } = t at hform hhods hcopy hrest
    generalize hu : (t.modHod h fun y => { y with work := none, doneCount := y.doneCount + 1
                                                  bytesMoved := y.bytesMoved + BitVec.ofNat 64 (dLen v) }) = u at hform
    have hhod : u.hod h = { x with work := none, doneCount := x.doneCount + 1, bytesMoved := x.bytesMoved + BitVec.ofNat 64 (dLen v) } := by
      rw [← hu, State.hod_modHod_same, State.hod, hhods]
      rfl
    have hbyte : ∀ k, u.byteAt k = t.byteAt k := fun k => by rw [← hu]; rfl
    obtain ⟨hdone, hframe⟩ := u.descNotify_bytes h hin i (dIrq v) 0
    have hnot := u.hod_descNotify h (addr := d) (by omega) i (dIrq v) 0 h
    refine ⟨_, congrArg Host.Outcome.next ((if_pos hpow).trans hform), ?_, ?_, ?_, ?_, fun k hk => ?_, hdone, fun k hout hk => ?_⟩
    case refine_5 => rw [hframe _ (by omega), hbyte]; exact hcopy k hk
    case refine_6 => rw [hframe k hk, hbyte]; exact hrest k hout
    all_goals rw [hnot, hhod]
  case dropped =>
    subst he
    have hform := State.droppingClear_one hdrop hone rfl
    generalize s.entryIrq _ = irq at hform
    generalize ht : (s.modHod h fun y => { y with dropped := [], dropping := false, dropCount := satAdd y.dropCount 1
                                                  dis := y.dis && !y.disClear, disClear := false }) = t at hform
    have hhod : t.hod h = { x with dropped := [], dropping := false, dropCount := satAdd x.dropCount 1
                                   dis := x.dis && !x.disClear, disClear := false } := by rw [← ht]; exact s.hod_modHod_same h _
    have hbyte : ∀ k, t.byteAt k = s.byteAt k := fun k => by rw [← ht]; rfl
    have hawake : t.watcher = s.watcher := by rw [← ht]; rfl
    have hvu : t.vu = s.vu := by rw [← ht]; rfl
    obtain ⟨hdone, hframe⟩ := t.descNotify_bytes h hin i irq 0x0604
    have hnot := t.hod_descNotify h (addr := b) (by omega) i irq 0x0604 h
    rw [State.hodRoom_unwaited (by rw [State.hod_raise, hnot, hhod]; exact hw)] at hform
    refine ⟨_, congrArg Host.Outcome.next hform, ?_, ?_, ?_, hdone, fun hasleep => ?_, fun k hk => (hframe k hk).trans (hbyte k)⟩
    case refine_4 =>
      obtain ⟨hup, hrow⟩ := State.row_descNotify (hawake ▸ hasleep) h (addr := b) (by omega) i irq 0x0604 (n := 189) (by omega) (by decide)
      rw [State.vu_raise hup, VectorUnit.row_arrive_same, (SrcRow.arrive_counts _).1, hrow, hvu]
    all_goals rw [State.hod_raise, hnot, hhod]

end Sys2Proof.Machine

namespace Sys2Proof.Machine

/-! ### Courses held (R104, R105) -/

@[simp] theorem State.course_setCourse_same (s : State) (c : Nat) (x : Course) : (s.setCourse c x).course c = x := Tab.look_put_same ..

theorem State.course_setCourse_other (s : State) {c k : Nat} (h : k ≠ c) (x : Course) : (s.setCourse c x).course k = s.course k :=
  Tab.look_put_other _ _ _ h

@[simp] theorem State.setCourse_setCourse (s : State) (c : Nat) (x y : Course) : (s.setCourse c x).setCourse c y = s.setCourse c y := by
  simp only [State.setCourse, Tab.put_put]

@[simp] theorem State.ctxRec_setCourse (s : State) (c k : Nat) (x : Course) : (s.setCourse c x).ctxRec k = s.ctxRec k := rfl

@[simp] theorem State.mem_setCourse (s : State) (c : Nat) (x : Course) : (s.setCourse c x).mem = s.mem := rfl

@[simp] theorem State.byteAt_setCourse (s : State) (c : Nat) (x : Course) (a : Nat) : (s.setCourse c x).byteAt a = s.byteAt a := rfl
@[simp] theorem State.bytesAt_setCourse (s : State) (c : Nat) (x : Course) (a n : Nat) : (s.setCourse c x).bytesAt a n = s.bytesAt a n := rfl
@[simp] theorem State.byteAt_setCtx (s : State) (c : Nat) (r : CtxRec) (a : Nat) : (s.setCtx c r).byteAt a = s.byteAt a := rfl
@[simp] theorem State.bytesAt_setCtx (s : State) (c : Nat) (r : CtxRec) (a n : Nat) : (s.setCtx c r).bytesAt a n = s.bytesAt a n := rfl

@[simp] theorem State.course_setCtx (s : State) (c k : Nat) (r : CtxRec) : (s.setCtx c r).course k = s.course k := rfl

@[simp] theorem State.course_modCtx (s : State) (c k : Nat) (f : CtxRec → CtxRec) : (s.modCtx c f).course k = s.course k := rfl

theorem State.modCtx_setCourse (s : State) (c k : Nat) (x : Course) (f : CtxRec → CtxRec) :
    (s.setCourse k x).modCtx c f = (s.modCtx c f).setCourse k x := rfl

/-! ### The held word (R105, R113) -/

theorem State.heldWord_eq {s : State} {c op : Nat} {w : BitVec 256} (h : s.heldWord c op = some w) :
    (s.course c).word = some w ∧ s.courseRuns c = true ∧ (s.course c).wait = none ∧ s.courseTile c = true ∧ wOp w = op := by
  rw [State.heldWord] at h
  cases hw : (s.course c).word with
  | none => rw [hw] at h; cases h
  | some v =>
    rw [hw] at h
    dsimp only at h
    split at h
    next hc =>
      cases h
      simp only [Bool.and_eq_true, Option.isNone_iff_eq_none, beq_iff_eq] at hc
      obtain ⟨⟨⟨hruns, hwait⟩, htile⟩, hop⟩ := hc
      exact ⟨rfl, hruns, hwait, htile, hop⟩
    next => cases h

theorem State.courseRuns_iff (s : State) (c : Nat) : s.courseRuns c = true ↔ (s.ctxRec c).course = true ∧ (s.ctxRec c).suspended = false := by
  simp [State.courseRuns]

/-- A held word that is no span's rest is carried out (R85, R105). -/
theorem State.onWord_held {s : State} {c op : Nat} {w : BitVec 256} (h : s.heldWord c op = some w) (hspan : (s.course c).spanEnd = none)
    (f : BitVec 256 → State) : s.onWord c op f = .next (f w) := by
  rw [State.onWord, h, hspan]

/-- A word with NEXT and without POST that ends without an error: the course goes on behind it (R91). -/
theorem State.afterWord_next {s : State} {c : Nat} {w : BitVec 256} {v : WordResult} (hnext : wNext w = true) (hpost : wPost w = false)
    (hstop : (s.course c).stop = false) (hst : v.status = 0) : s.afterWord c w v = s.setCourse c ((s.course c).next ((s.course c).addr + 32)) := by
  rw [State.afterWord]
  simp only [hstop, hst, hnext, hpost, Bool.false_eq_true, if_false, if_true, Bool.not_true]
  rfl

theorem State.jumpTo_target {s : State} {c : Nat} {w : BitVec 256} (hpost : wPost w = false) (hstop : (s.course c).stop = false)
    (target : BitVec 40) : s.jumpTo c w target = s.setCourse c ((s.course c).next target) := by
  rw [State.jumpTo]
  simp only [hstop, hpost, Bool.false_eq_true, if_false]

/-! ### Status words (R89, R90) -/

theorem statusBytes_length (r : CtxRec) (c kind : Nat) (a : BitVec 40) (op e : Nat) (v : WordResult) :
    (statusBytes r c kind a op e v).length = 32 := toLE_length 32 _

theorem State.writeAt_device (s : State) (base : W64) {a : BitVec 40} (h : a.getLsbD 39 = false) (b : Bytes) :
    s.writeAt base a b = s.setBytes (bits a 0 35) b := if_neg (by rw [h]; decide)

/-- An address below the end of DRAM is in device form and is its own number (R83). -/
theorem deviceForm {a : BitVec 40} (h : a.toNat < 0x370000000) : a.getLsbD 39 = false ∧ bits a 0 35 = a.toNat := by
  constructor
  · rw [BitVec.getLsbD]
    exact Nat.testBit_lt_two_pow (by omega)
  · rw [bits]
    omega

/-- The record of a course whose status sequence has counted a word (R90). -/
def CtxRec.posted (r : CtxRec) : CtxRec := { r with postSeq := r.postSeq + 1 }

/-- A status word without a notification channel: its 32 bytes and its number (R90). -/
theorem State.postStatus_quiet {s : State} {c : Nat} (hnotify : (s.ctxRec c).notifyEn = false) (kind : Nat) (a : BitVec 40) (op : Nat)
    (v : WordResult) : s.postStatus c kind a op v = (s.writeAt (s.ctxRec c).hostBase (s.ctxRec c).statusAddr
      (statusBytes (s.ctxRec c) c kind a op (s.engineOf c) v)).setCtx c (s.ctxRec c).posted :=
  if_neg (by rw [hnotify]; decide)

/-! ### Suspension (R106, R107) -/

theorem State.completeStart_none {s : State} {c : Nat} (h : (s.course c).entry = none) (st : Status) (d : W64) : s.completeStart c st d = s := by
  rw [State.completeStart, h]

theorem State.tryResume_unmatched {s : State} {c : Nat} (h : (s.ctxRec c).pending &&& (s.course c).mask = 0) : s.tryResume c = s := by
  rw [State.tryResume]
  dsimp only
  rw [h]
  split <;> rfl

/-- No suspended course shares the set of the context's cache line (R120). -/
theorem State.setWaiters_none {s : State} {c : Nat} (h : ∀ z ∈ s.courses.held, z.1 ≠ c → s.ctx.setOf z.1 ≠ s.ctx.setOf c) :
    s.setWaiters c = [] := by
  have hnone : (s.courses.held.filter fun e => e.1 != c && (s.ctxRec e.1).suspended && s.ctx.setOf e.1 == s.ctx.setOf c) = [] := by
    refine List.filter_eq_nil_iff.2 fun e he hc => ?_
    simp only [Bool.and_eq_true, bne_iff_ne, beq_iff_eq] at hc
    exact h e he hc.1.1 hc.2
  rw [State.setWaiters, hnone]
  split <;> rfl

/-- A release of a suspended context whose pending causes do not end its wait frees the claim alone (R106, R122). -/
theorem State.release_unmatched {s : State} {c : Nat} (hm : (s.ctxRec c).pending &&& (s.course c).mask = 0) (hw : s.setWaiters c = []) :
    s.release c = s.releaseClaim c := by
  have hrec : (s.releaseClaim c).ctxRec c = { s.ctxRec c with claimed := false, claimId := 0 } := s.ctx.get_released_same c
  rw [State.release, State.tryResume_unmatched (by rw [hrec]; exact hm), s.setWaiters_releaseClaim, hw]
  rfl

/-- The image of a context, which context 0 has none of. -/
theorem State.image_zero (s : State) : s.image 0 = s := if_pos rfl

/-- An image keeps every course, all bytes of memory and the cache key, and of its record everything but the number. -/
theorem State.image_keeps (s : State) (c : Nat) : (s.image c).courses = s.courses ∧ (s.image c).mem = s.mem ∧
    (s.image c).ctx.cacheKey = s.ctx.cacheKey ∧ ∃ n, (s.image c).ctxRec c = { s.ctxRec c with imageSeq := n } := by
  by_cases h : c = 0
  · rw [h, s.image_zero]
    exact ⟨rfl, rfl, rfl, _, rfl⟩
  · refine ⟨s.courses_image h, s.mem_image h, ?_, _, s.ctxRec_image h⟩
    exact (congrArg (fun t : State => t.ctx.cacheKey) (s.offImages_image h) :).trans (s.ctx.cacheKey_set c _)

/-- The record of a course that a suspension leaves. -/
def CtxRec.suspendedAt (r : CtxRec) (resume : BitVec 40) : CtxRec := { r with suspended := true, resumeAddr := resume }

theorem State.suspend_quiet {s : State} {c : Nat} {w : BitVec 256} (hpost : wPost w = false) (hentry : (s.course c).entry = none)
    {mask : BitVec 16} (hmask : (s.ctxRec c).pending &&& mask = 0) (hset : ∀ z ∈ s.courses.held, z.1 ≠ c → s.ctx.setOf z.1 ≠ s.ctx.setOf c)
    (resume : BitVec 40) (channel : Option (BitVec 9)) :
    let d := (s.modCtx c (·.suspendedAt resume)).setCourse c { hosted := (s.course c).hosted, mask := mask, channel := channel }
    s.suspend c resume w mask channel = (d.image c).releaseClaim c := by
  intro d
  have hform : s.suspend c resume w mask channel = (d.image c).release c := by
    rw [State.suspend]
    simp only [hpost, Bool.false_eq_true, if_false, State.completeStart_none hentry]
    rfl
  obtain ⟨hcourses, -, hkey, n, hrec⟩ := d.image_keeps c
  have hcourse : (d.image c).course c = d.course c := congrArg (fun t : CourseStore => t.held.look {} c) hcourses
  have hd : d.ctxRec c = (s.ctxRec c).suspendedAt resume := s.ctxRec_modCtx_same c (·.suspendedAt resume)
  have hkey' : (d.image c).ctx.cacheKey = s.ctx.cacheKey := hkey.trans (s.ctx.cacheKey_set c _)
  rw [hform, State.release_unmatched]
  · rw [hrec, hd, hcourse, State.course_setCourse_same]
    exact hmask
  · refine State.setWaiters_none fun z hz hne => ?_
    rw [hcourses] at hz
    rw [CtxStore.setOf, CtxStore.setOf, hkey']
    rcases Tab.put_mem hz with h | h
    · exact absurd (congrArg Prod.fst h) hne
    · exact hset z h hne

/-! ### The control words (R102) -/

theorem bne_eq_decide {n : Nat} (a b : BitVec n) : (a != b) = decide (a ≠ b) := by
  rw [bne, decide_not]
  rfl

theorem State.branchWord_tests {s : State} {c : Nat} {w : BitVec 256} (hnext : wNext w = true) (hpost : wPost w = false)
    (hstop : (s.course c).stop = false) (hobj : bits (wParam w) 0 4 = 6 ∨ bits (wParam w) 0 4 = 8 → s.holdsObject (wObject w c) = true)
    {hit : Bool} (htest : s.branchTest c w = hit) : s.branchWord c w = s.setCourse c ((s.course c).next
      (if hit != (wParam w).getLsbD 4 then wAddr w else (s.course c).addr + 32)) := by
  have hno : ¬ ((bits (wParam w) 0 4 = 6 ∨ bits (wParam w) 0 4 = 8) ∧ !s.holdsObject (wObject w c)) := fun h => by
    rw [hobj h.1] at h
    exact absurd h.2 (by decide)
  rw [State.branchWord, if_neg hno, htest]
  split
  · exact State.jumpTo_target hpost hstop _
  · exact State.afterWord_next hnext hpost hstop rfl

theorem State.postWord_quiet {s : State} {c : Nat} {w : BitVec 256} (hnext : wNext w = true) (hpost : wPost w = false)
    (hstop : (s.course c).stop = false) (hnotify : (s.ctxRec c).notifyEn = false) (hdev : (s.ctxRec c).statusAddr.getLsbD 39 = false)
    {b : Bytes} (hb : statusBytes (s.ctxRec c) c 3 (s.course c).addr 5 (s.engineOf c) { detail := wParam w } = b) :
    s.postWord c w = ((s.setBytes (bits (s.ctxRec c).statusAddr 0 35) b).setCtx c (s.ctxRec c).posted).setCourse c
      ((s.course c).next ((s.course c).addr + 32)) := by
  have hon : (wNext w && !(s.course c).stop) = true := by rw [hnext, hstop]; rfl
  have hword := State.postStatus_quiet hnotify 3 (s.course c).addr 5 { detail := wParam w }
  rw [State.writeAt_device _ _ hdev, hb] at hword
  rw [State.postWord, if_pos hon, hword]
  exact State.afterWord_next hnext hpost hstop rfl

/-- A string of 32 bytes stored in DRAM for a status word reads back, and every other byte stays. -/
theorem State.setBytes_word (s : State) {a : Nat} {b : Bytes} (hlen : b.length = 32) (h : a + 32 ≤ 0x370000000) :
    (s.setBytes a b).bytesAt a 32 = b ∧ ∀ k, k < a ∨ a + 32 ≤ k → (s.setBytes a b).byteAt k = s.byteAt k := by
  have hback := s.bytesAt_setBytes_dram (a := a) (b := b) (by omega)
  rw [hlen] at hback
  exact ⟨hback, fun k hk => State.byteAt_setBytes_other _ _ _ _ (by omega)⟩

/-- Settles O44: every control word through the lemma of its function. -/
theorem controlWords : Obligations.ControlWords := by
  unfold Obligations.ControlWords
  intro c w s x r v o on test hnext hpost hstop hspan
  have branch : ∀ {n : Nat} {hit : Bool}, (bits (wParam w) 0 4 = n → s.branchTest c w = hit) →
      (n = 6 ∨ n = 8 → s.holdsObject (wObject w c) = true) → test n hit := by
    intro n hit htest hobj hheld hn
    change s.onWord c 3 (s.branchWord c) = _
    rw [State.onWord_held hheld hspan]
    exact congrArg _ (State.branchWord_tests hnext hpost hstop (fun h => hobj (hn ▸ h)) (htest hn))
  have noObject : ∀ {n : Nat}, n ≠ 6 ∧ n ≠ 8 → (n = 6 ∨ n = 8 → s.holdsObject (wObject w c) = true) := fun h h2 => by omega
  have holds : o.state = 2 ∨ o.state = 3 → s.holdsObject (wObject w c) = true := fun h => by
    simp only [State.holdsObject, Bool.or_eq_true, beq_iff_eq]
    exact h
  refine ⟨fun hheld => ?nop, fun hheld => ?jump, branch (fun hn => ?t0) (noObject (by decide)), branch (fun hn => ?t1) (noObject (by decide)),
    branch (fun hn => ?t2) (noObject (by decide)), branch (fun hn => ?t3) (noObject (by decide)), branch (fun hn => ?t4) (noObject (by decide)),
    branch (fun hn => ?t5) (noObject (by decide)), fun hobj => ⟨branch (fun hn => ?t6) fun _ => holds hobj, branch (fun hn => ?t8) fun _ => holds hobj⟩,
    branch (fun hn => ?t7) (noObject (by decide)), fun hheld hentry hmask hset => ?wait, fun hheld hnotify hin => ?post⟩
  case nop =>
    change s.onWord c 1 _ = _
    rw [State.onWord_held hheld hspan, State.afterWord_next hnext hpost hstop rfl]
  case jump =>
    change s.onWord c 2 _ = _
    rw [State.onWord_held hheld hspan, State.jumpTo_target hpost hstop]
  case t0 => simp only [State.branchTest, hn]
  case t1 | t3 | t5 | t6 => simp only [State.branchTest, hn]; rfl
  case t4 | t7 => simp only [State.branchTest, hn, bne_eq_decide]; rfl
  case t2 =>
    have hhigh : bits r.lastStatus 8 8 = r.lastStatus.toNat / 256 := by rw [bits]; omega
    simp only [State.branchTest, hn]
    rw [hhigh]
    rfl
  case t8 =>
    have hnow : bits s.time.now 0 48 = s.time.now.toNat % 2 ^ 48 := by rw [bits]; omega
    simp only [State.branchTest, hn, hnow, bne_eq_decide]
    rfl
  case wait =>
    obtain ⟨-, hruns, -, -, -⟩ := State.heldWord_eq hheld
    obtain ⟨hcourse, -⟩ := (s.courseRuns_iff c).1 hruns
    have hform := State.suspend_quiet hpost hentry hmask hset (x.addr + 32) (some ((wParam w).extractLsb' 16 9))
    generalize hd : (s.modCtx c (·.suspendedAt (x.addr + 32))).setCourse c { hosted := (s.course c).hosted, mask := waitMask w,
                                                                             channel := some ((wParam w).extractLsb' 16 9) } = d at hform
    obtain ⟨hcourses, hmem, -, n, hrec⟩ := d.image_keeps c
    have hrec' : ((d.image c).releaseClaim c).ctxRec c = { r.suspendedAt (x.addr + 32) with imageSeq := n, claimed := false, claimId := 0 } := by
      refine ((d.image c).ctx.get_released_same c).trans ?_
      change { (d.image c).ctxRec c with claimed := false, claimId := 0 } = _
      rw [hrec, ← hd, State.ctxRec_setCourse, State.ctxRec_modCtx_same]
    have hcourse' : ((d.image c).releaseClaim c).course c = { hosted := (s.course c).hosted, mask := waitMask w,
                                                              channel := some ((wParam w).extractLsb' 16 9) } := by
      refine (congrArg (fun t : CourseStore => t.held.look {} c) hcourses :).trans ?_
      rw [← hd]
      exact State.course_setCourse_same ..
    refine ⟨(d.image c).releaseClaim c, ?_, ?_, ?_, ?_, ?_, ?_, ?_, ?_, hmem.trans (by rw [← hd]; rfl)⟩
    case refine_1 =>
      change s.onWord c 4 (s.waitWord c) = _
      rw [State.onWord_held hheld hspan, State.waitWord]
      exact congrArg _ ((if_neg (by rw [show (s.course c).stop = false from hstop]; decide)).trans hform)
    case refine_7 | refine_8 => rw [hcourse']
    all_goals rw [hrec']
    case refine_5 => exact hcourse
    all_goals rfl
  case post =>
    obtain ⟨hdev, haddr⟩ := deviceForm (a := r.statusAddr) (by omega)
    have hform := State.postWord_quiet hnext hpost hstop hnotify hdev rfl
    obtain ⟨hback, hframe⟩ := s.setBytes_word (statusBytes_length r c 3 x.addr 5 (s.engineOf c) { detail := wParam w }) hin
    rw [haddr] at hform
    refine ⟨_, (State.onWord_held hheld hspan _).trans (congrArg _ hform), State.course_setCourse_same .., ?_, ?_, fun a ha => ?_⟩
    · rw [State.ctxRec_setCourse, State.ctxRec_setCtx_same]
      rfl
    · rw [State.bytesAt_setCourse, State.bytesAt_setCtx, hback]
    · rw [State.byteAt_setCourse, State.byteAt_setCtx, hframe a ha]

end Sys2Proof.Machine

namespace Sys2Proof.Machine

/-- Context 1 is open, and its record names tile 13, which the device does not have (R117). -/
def tileThirteen : State where
  ctx := { restoreDone := true, table := [(1, { state := 1, tile := 13 })] }

/-- Refutes O45: the start clause puts every started course on one of tiles 0 to 11 and keeps a TILE that is not 0. TILE has four bits and
nothing bounds it, so the two do not agree for the record of `tileThirteen`. -/
theorem not_coursesStartAndStop : ¬ Obligations.CoursesStartAndStop := by
  unfold Obligations.CoursesStartAndStop
  intro h
  obtain ⟨hstart, -⟩ := h 0 { master := 0, tileGen := 0, handle := none } 1 0 0x1000 0 tileThirteen (by decide) (by decide +kernel)
  obtain ⟨t, -, -, -, -, -, -, -, -, -, -, -, hrange, -, hkept, -⟩ := hstart (by decide) (by decide +kernel) (by decide +kernel)
    (by decide +kernel) (by decide) (by decide +kernel)
  rw [hkept (by decide +kernel)] at hrange
  revert hrange
  decide +kernel

end Sys2Proof.Machine

namespace Sys2Proof.Machine

/-! ### A command that ends well (R87, R91) -/

/-- The record of a course after a command without an error. -/
def CtxRec.wordOk (r : CtxRec) : CtxRec := { r with lastStatus := 0, lenMem := false }

/-- The course of context c has ended its word well and goes on behind it. -/
def State.wordEnded (s : State) (c : Nat) : State :=
  (s.modCtx c (·.wordOk)).setCourse c ((s.course c).next ((s.course c).addr + 32))

theorem State.course_wordEnded (s : State) (c : Nat) : (s.wordEnded c).course c = (s.course c).next ((s.course c).addr + 32) :=
  State.course_setCourse_same ..

theorem State.ctxRec_wordEnded (s : State) (c : Nat) : (s.wordEnded c).ctxRec c = (s.ctxRec c).wordOk := by
  rw [State.wordEnded, State.ctxRec_setCourse, State.ctxRec_modCtx_same]

theorem State.byteAt_wordEnded (s : State) (c a : Nat) : (s.wordEnded c).byteAt a = s.byteAt a := rfl
theorem State.bytesAt_wordEnded (s : State) (c a n : Nat) : (s.wordEnded c).bytesAt a n = s.bytesAt a n := rfl
theorem State.mem_wordEnded (s : State) (c : Nat) : (s.wordEnded c).mem = s.mem := rfl
theorem State.lanes_wordEnded (s : State) (c : Nat) : (s.wordEnded c).lanes = s.lanes := rfl
theorem State.mortar_wordEnded (s : State) (c : Nat) : (s.wordEnded c).mortar = s.mortar := rfl
theorem State.raws_wordEnded (s : State) (c : Nat) : (s.wordEnded c).raws = s.raws := rfl
theorem State.held_wordEnded (s : State) (c : Nat) :
    (s.wordEnded c).courses.held = s.courses.held.put c ((s.course c).next ((s.course c).addr + 32)) := rfl

/-- A word without SPAN and POST, with NEXT, of a course that no stop waits for. -/
def State.plainWord (s : State) (c : Nat) (w : BitVec 256) : Prop :=
  (s.course c).word = some w ∧ s.holdup.declared = false ∧ wSpan w = false ∧ wNext w = true ∧ wPost w = false ∧ (s.course c).stop = false

theorem WordEnd.result_good {e : WordEnd} (hst : e.status = 0) (hlong : e.long = false) (hdone : e.count ≤ e.done) (w : BitVec 256) :
    (e.result w).status = 0 ∧ (e.result w).diff = false := by
  have hdiff : (decide (e.count ≠ 0) && decide (e.done < e.count)) = false := by
    rw [Bool.and_eq_false_iff, decide_eq_false_iff_not, decide_eq_false_iff_not]
    omega
  simp only [WordEnd.result, hst, hlong, hdiff, Bool.false_or, Bool.and_false, Bool.false_and]
  exact ⟨rfl, trivial⟩

/-- A plain word that transfers all that it was asked for ends well (R87, R91). -/
theorem State.finishWord_good {s : State} {c : Nat} {w : BitVec 256} (h : s.plainWord c w) {e : WordEnd} (hst : e.status = 0)
    (hlong : e.long = false) (hdone : e.count ≤ e.done) : s.finishWord c e = s.wordEnded c := by
  obtain ⟨hword, hdecl, hspan, hnext, hpost, hstop⟩ := h
  obtain ⟨hstatus, hdiff⟩ := e.result_good hst hlong hdone w
  rw [State.finishWord, hword]
  simp only [hdecl, hspan, Bool.false_and, Bool.false_eq_true, if_false, hstatus, hdiff]
  exact State.afterWord_next hnext hpost hstop hstatus

/-! ### The data of a word (R83, R86) -/

theorem State.pieces_single (s : State) (base : W64) (hosted : Bool) (h : HostRead) (write : Bool) {w : BitVec 256} (hl : wList w = false)
    (n : Nat) : s.pieces base hosted h write w n = ([(wAddr w, n)], true) := if_neg (by rw [hl]; decide)

theorem State.gatherPieces_device (s : State) (base : W64) (h : HostRead) {a : BitVec 40} (ha : a.getLsbD 39 = false) (n : Nat) :
    s.gatherPieces base h [(a, n)] = s.devBytes (bits a 0 35) n := by
  simp only [State.gatherPieces, List.flatMap_cons, List.flatMap_nil, List.append_nil, State.readAt, ha, Bool.false_eq_true, if_false]

theorem State.scatter_device (s : State) (base : W64) {a : BitVec 40} (ha : a.getLsbD 39 = false) {n : Nat} {b : Bytes} (hb : b.length = n)
    (hn : 0 < n) : s.scatter base [(a, n)] b = s.setBytes (bits a 0 35) b := by
  have hne : b.isEmpty = false := by
    cases b with
    | nil => simp at hb; omega
    | cons => rfl
  rw [State.scatter, hne, List.take_of_length_le (by omega), State.writeAt_device _ _ ha]
  rfl

/-! ### INGEST (R93) -/

theorem State.releaseReady_none {s : State} {l : Nat} (h : (s.lane l).ready = []) (closing : Bool) (n : Nat) : s.releaseReady l closing n = s := by
  cases n with
  | zero => rfl
  | succ n => rw [State.releaseReady, h]

theorem State.laneHod_none {s : State} {l : Nat} (h : (s.lane l).ring = []) : s.laneHod l = s := by
  rw [State.laneHod, h]

@[simp] theorem State.lane_setLane_same (s : State) (l : Nat) (x : LaneSt) : (s.setLane l x).lane l = x := Tab.look_put_same ..

@[simp] theorem State.lane_modLane_same (s : State) (l : Nat) (f : LaneSt → LaneSt) : (s.modLane l f).lane l = f (s.lane l) :=
  Tab.look_put_same ..

theorem State.lane_modLane_other (s : State) {l k : Nat} (h : k ≠ l) (f : LaneSt → LaneSt) : (s.modLane l f).lane k = s.lane k :=
  Tab.look_put_other _ _ _ h

/-- An INGEST for which nothing waits starts (R93). -/
theorem State.ingestGo_idle {s : State} {l : Nat} (hready : (s.lane l).ready = []) (hring : (s.lane l).ring = []) : s.ingestGo l = s := by
  rw [State.ingestGo, State.releaseReady_none hready, State.laneHod_none hring]

/-! ### READ (R97) -/

/-- Without SPAN a READ with room for exactly the unit that it begins ends with that unit. -/
theorem State.readLoop_one {s : State} {md : Medium} {w : BitVec 256} {o last n : Nat} {b : Bytes} (hunit : s.readUnit md w o n = .bytes b)
    (hlen : b.length = wCount w) (hpos : 0 < wCount w) (hn : n < last) (fuel : Nat) :
    s.readLoop md w o last { out := [], carry := [], next := n } (fuel + 3) = { out := b, carry := [], next := n + 1 } := by
  have hne : b.isEmpty = false := by
    cases b with
    | nil => simp at hlen; omega
    | cons => rfl
  have hroom : b.length ≠ 0 := by omega
  rw [State.readLoop]
  simp only [← hlen, List.length_nil, Nat.sub_zero, List.isEmpty_nil, Bool.not_true, Bool.false_eq_true, if_false, if_neg hroom,
    if_neg (Nat.not_le.2 hn), hunit, Nat.le_refl, decide_true, Bool.or_true, if_true]
  rw [State.readLoop]
  simp only [← hlen, List.length_nil, Nat.sub_zero, hne, Bool.not_false, if_true, if_neg hroom, List.nil_append, List.take_length,
    List.drop_length]
  rw [State.readLoop]
  simp only [← hlen, Nat.sub_self, if_true]

/-! ### The arbiter's turn (R261) -/

theorem ite_keeps {α β : Type} (g : α → β) {p : Prop} [Decidable p] {a b : α} (h : g a = g b) : g (if p then a else b) = g b := by
  split
  · exact h
  · rfl

theorem State.mortarTurn_eq (s : State) (m : Mortar) : let a := if s.inRung2 0x58 then m else m.arbitrate
    (s.mortarTurn m).mortar = { a with starving := a.starvingNow s.tnow } ∧ (s.mortarTurn m).ctx = s.ctx ∧
    (s.mortarTurn m).courses = s.courses ∧ (s.mortarTurn m).lanes = s.lanes := by
  refine ⟨?_, ?_, ?_, ?_⟩
  · refine foldl_keeps State.mortar _ (fun t i => ?_) _ _
    exact ite_keeps State.mortar rfl
  · refine foldl_keeps State.ctx _ (fun t i => ?_) _ _
    exact ite_keeps State.ctx rfl
  · refine foldl_keeps State.courses _ (fun t i => ?_) _ _
    exact ite_keeps State.courses rfl
  · refine foldl_keeps State.lanes _ (fun t i => ?_) _ _
    exact ite_keeps State.lanes rfl

theorem Mortar.completed_put {m : Mortar} (i k : Nat) (r : InputRow) (h : r.completed = (m.row k).completed) :
    (({ m with input := m.input.put k r } : Mortar).row i).completed = (m.row i).completed := by
  rw [Mortar.row, Tab.look_put]
  split
  next hi => rw [h, hi]
  next => rfl

theorem Mortar.completed_grant (m : Mortar) (p : Bool) (k : Nat) (u : Fin 10) (i : Nat) :
    ((m.grant p k u).row i).completed = (m.row i).completed := Mortar.completed_put i k _ rfl

theorem Mortar.completed_revoke (m : Mortar) (k : Nat) (j : Job) (i : Nat) : ((m.revoke k j).row i).completed = (m.row i).completed :=
  Mortar.completed_put i k _ rfl

theorem Mortar.completed_serve (m : Mortar) (p : Bool) (k i : Nat) : ((m.serve p k).row i).completed = (m.row i).completed := by
  rw [Mortar.serve]
  split
  · split
    · exact m.completed_grant ..
    · split
      · split
        · rw [Mortar.completed_grant, Mortar.completed_revoke]
        · rfl
      · rfl
  · rfl

/-- Arbitration moves no completion count (R261). -/
theorem Mortar.completed_arbitrate (m : Mortar) (i : Nat) : ((m.arbitrate).row i).completed = (m.row i).completed := by
  refine foldl_keeps (fun m : Mortar => (m.row i).completed) _ (fun m p => ?_) _ _
  refine foldl_keeps (fun m : Mortar => (m.row i).completed) _ (fun m k => ?_) _ _
  exact iterate_keeps (fun m : Mortar => (m.row i).completed) _ (fun m => m.completed_serve ..) _ _

theorem State.completed_mortarTurn (s : State) (m : Mortar) (i : Nat) : ((s.mortarTurn m).mortar.row i).completed = (m.row i).completed := by
  obtain ⟨hm, -⟩ := s.mortarTurn_eq m
  have hrow : ∀ (a : Mortar) (v : BitVec 15), ({ a with starving := v } : Mortar).row i = a.row i := fun _ _ => rfl
  rw [hm, hrow]
  split
  · rfl
  · exact m.completed_arbitrate i

end Sys2Proof.Machine

namespace Sys2Proof.Machine

theorem State.lane_setCourse (s : State) (c l : Nat) (x : Course) : (s.setCourse c x).lane l = s.lane l := rfl

theorem State.modCourse_eq (s : State) (c : Nat) (f : Course → Course) : s.modCourse c f = s.setCourse c (f (s.course c)) := rfl

/-- The course of context c waits. -/
def State.waitFor (s : State) (c : Nat) (wt : WordWait) : State := s.setCourse c { s.course c with wait := some wt }

theorem State.course_waitFor (s : State) (c : Nat) (wt : WordWait) : (s.waitFor c wt).course c = { s.course c with wait := some wt } :=
  State.course_setCourse_same ..

theorem State.waitFor_modHod (s : State) (c k : Nat) (wt : WordWait) (f : HodSt → HodSt) :
    (s.waitFor c wt).modHod k f = (s.modHod k f).waitFor c wt := rfl

theorem State.waitFor_waitFor (s : State) (c : Nat) (a b : WordWait) : (s.waitFor c a).waitFor c b = s.waitFor c b := by
  rw [State.waitFor, State.course_waitFor, State.waitFor, State.setCourse_setCourse]
  rfl

/-- An INGEST of an open lane for which nothing waits runs on it (R93). -/
theorem State.ingestWord_idle {s : State} {c : Nat} {w : BitVec 256} (hact : (s.lane (bits (wSel w) 0 8)).active = true)
    (hing : (s.lane (bits (wSel w) 0 8)).ingest = none) (hww : s.writeWaits (bits (wSel w) 0 8) = false)
    (hty : s.laneType (bits (wSel w) 0 8) ≠ 8) (hready : (s.lane (bits (wSel w) 0 8)).ready = [])
    (hring : (s.lane (bits (wSel w) 0 8)).ring = []) (hskip : wSkip w = false) (hdone : (s.course c).done = 0) (hr : HostRead) :
    s.ingestWord c w hr = (s.modLane (bits (wSel w) 0 8) fun y => { y with
        ingest := some c, fileOffset := if s.laneType (bits (wSel w) 0 8) = 7 then wParam w else y.fileOffset }).setCourse c
      { s.course c with wait := some (.ingest (bits (wSel w) 0 8)), total := wCount w } := by
  have hcourse : ({ s.course c with wait := some (.ingest (bits (wSel w) 0 8)), total := wCount w, done := 0 } : Course) =
      { s.course c with wait := some (.ingest (bits (wSel w) 0 8)), total := wCount w } := by rw [← hdone]
  rw [State.ingestWord, State.modCourse_eq]
  simp only [hact, hing, hww, if_neg hty, hskip, Option.any_none, Bool.or_false, Bool.not_true, Bool.not_false, Bool.false_eq_true, if_false,
    and_true]
  rw [State.ingestGo_idle]
  · exact congrArg (State.setCourse _ c) hcourse
  · rw [State.lane_setCourse, State.lane_modLane_same]
    exact hready
  · rw [State.lane_setCourse, State.lane_modLane_same]
    exact hring

/-- A plain word stays one where its course only begins to wait. -/
theorem State.plainWord_waitFor {s : State} {c : Nat} {w : BitVec 256} (h : s.plainWord c w) (wt : WordWait) :
    (s.waitFor c wt).plainWord c w := by
  obtain ⟨hword, hdecl, hspan, hnext, hpost, hstop⟩ := h
  refine ⟨?_, hdecl, hspan, hnext, hpost, ?_⟩ <;> rw [State.course_waitFor]
  · exact hword
  · exact hstop

/-! ### SEAL, COPE, RAZE (R94, R95, R99) -/

/-- A SEAL of mode 0 ends where its lane has no unsealed brick (R94). -/
theorem State.sealEnd_now {s : State} {c l k : Nat} (hw : (s.course c).wait = some (.seal l 0 k)) (hl : (s.lane l).sealing = none) :
    s.sealEnd c = s.finishWord c { detail := s.lastSealed l k } := by
  have hready : (s.lane l).sealReady 0 k = true := by
    change (!(s.lane l).unsealed) = true
    rw [LaneSt.unsealed, hl]
    rfl
  rw [State.sealEnd, hw]
  exact if_pos hready

/-- The object that a SEAL of a lane names. -/
def LaneSt.sealObject (x : LaneSt) : Nat := match x.obj with | some o => o.ctx | none => 0

/-- A SEAL of mode 0 with no brick of its lane unsealed ends at once (R94). -/
theorem State.sealWord_now {s : State} {c : Nat} {w : BitVec 256} (h : s.plainWord c w) (hmode : bits (wParam w) 0 2 = 0)
    (hseal : (s.lane (bits (wSel w) 0 8)).sealing = none) : s.sealWord c w =
      (s.waitFor c (.seal (bits (wSel w) 0 8) 0 (s.lane (bits (wSel w) 0 8)).sealObject)).wordEnded c := by
  have hform : s.sealWord c w =
      (s.waitFor c (.seal (bits (wSel w) 0 8) 0 (s.lane (bits (wSel w) 0 8)).sealObject)).sealEnd c := by
    rw [State.sealWord, hmode, if_neg fun hm => absurd hm.1 (by decide)]
    rfl
  have hwait := congrArg Course.wait (s.course_waitFor c (.seal (bits (wSel w) 0 8) 0 (s.lane (bits (wSel w) 0 8)).sealObject))
  exact hform.trans ((State.sealEnd_now hwait hseal).trans (State.finishWord_good (State.plainWord_waitFor h _) rfl rfl (Nat.zero_le _)))

/-- A COPE of kind 1 waits for the lane's next record (R95). -/
theorem State.copeWord_waits {s : State} {c : Nat} {w : BitVec 256} (hkind : bits (wParam w) 0 9 = 1) {o : ObjChain}
    (ho : (s.lane (bits (wSel w) 0 8)).obj = some o) (hkey : s.slotHoldsKey (s.laneCfg (bits (wSel w) 0 8) 0xA) = true) :
    s.copeWord c w =
      (s.waitFor c (.cope (bits (wSel w) 0 8) (s.lane (bits (wSel w) 0 8)).freshSeq none)).cadence (bits (wSel w) 0 8) := by
  have hlow : bits (wParam w) 0 8 = 1 := by rw [bits] at hkind ⊢; omega
  have hcopy : (wParam w).getLsbD 8 = false := by
    rw [bits] at hkind
    rw [BitVec.getLsbD, Nat.testBit_eq_decide_div_mod_eq, decide_eq_false_iff_not]
    omega
  rw [State.copeWord, ho]
  simp only [hkey, hlow, hcopy, Bool.not_true, Bool.false_eq_true, if_false, State.modCourse_eq]
  rfl

/-- A RAZE of the course's own object, whose chain a lane holds, waits for the razing record (R52, R99). -/
theorem State.razeWord_own {s : State} {c : Nat} {w : BitVec 256} {o : ObjChain} (hown : wObject w c = c) (hstate : (s.ctxRec c).state = 3)
    (hhold : (s.ctxRec c).hold = false) (hkey : s.slotHoldsKey (s.laneCfg (s.ctxRec c).lane.toNat 0xA) = true)
    (hchain : (s.lane (s.ctxRec c).lane.toNat).chainOf c = some o) (md : Medium) : s.razeWord c w md =
      (s.waitFor c (.raze c)).recordDue (s.ctxRec c).lane.toNat
        { kind := 4, ctx := c, located := some o.lastDigest, area := s.razeArea c (razeCause w (s.ctxRec c).resumeCause) } := by
  have hdigest : s.lastDigestOf md c = (o.lastDigest, 0) := by rw [State.lastDigestOf, hchain]
  have hcheck : s.razeCheck c = 0 := by
    rw [State.razeCheck, if_neg (Classical.not_not.2 hstate), hhold, hkey]
    rfl
  rw [State.razeWord, hown]
  simp only [if_true, hdigest, hcheck, ne_eq, not_true_eq_false, if_false]
  rfl

/-! ### APPEND, READ, VERIFY (R96 to R98) -/

/-- A coping record that passes its checks goes to its member's coping zone (R49, R96). -/
theorem State.appendWord_record {s : State} {c : Nat} {w : BitVec 256} (h : s.plainWord c w) (hl : wList w = false)
    (hg : (s.course c).gather = []) (hsel : bits (wSel w) 0 2 = 2) (hdev : (wAddr w).getLsbD 39 = false) {b : Bytes}
    (hb : b = s.devBytes (bits (wAddr w) 0 35) 1024) (hcount : wCount w = 1024) (hobj : s.holdsObject (wObject w c) = true)
    (hrec : s.checkRecord b = 0) (hwythe : s.wytheList.contains 0 = true) (hup : s.wythes.failed.getLsbD 0 = false) (hr : HostRead)
    (md : Medium) : s.appendWord c w hr md =
      ({ s with lanes := s.lanes.map fun (e : Nat × LaneSt) => (e.1, { e.2 with copyWait := e.2.copyWait.filter (·.course != c) }) }.setCourse c
        { s.course c with wait := some .append, gather := b }).recordIssue c (s.memberFor 0 (rSeq b)) (wObject w c) 1024 := by
  obtain ⟨-, -, hspan, -, -, -⟩ := h
  have hlen : b.length = 1024 := by rw [hb]; simp [State.devBytes]
  have hwy : bits (wSel w) 0 1 = 0 := by rw [bits] at hsel ⊢; omega
  have hkind : (wSel w).getLsbD 1 = true := by
    rw [bits] at hsel
    rw [BitVec.getLsbD, Nat.testBit_eq_decide_div_mod_eq, decide_eq_true_iff]
    omega
  have hcheck : s.appendCheck md 0 (wObject w c) true b = 0 := by
    rw [State.appendCheck, hobj, hlen, hrec, hwythe, hup]
    rfl
  rw [State.appendWord]
  simp only [State.pieces_single _ _ _ _ _ hl, State.gatherPieces_device _ _ _ hdev, hg, List.nil_append, hcount, ← hb, hspan, hwy, hkind, hcheck,
    hlen, Bool.not_true, Bool.false_eq_true, if_false, if_true, ne_eq, not_true_eq_false, State.modCourse_eq]
  rfl

/-- With room in the coping zone a zoned member gets the record's command at once (R49, R386). -/
theorem State.recordIssue_room {s : State} {m : Nat} (hroom : (s.member m).copeNext + (s.member m).lbas 1024 ≤ (s.member m).zoneLbas)
    (hz : (s.member m).zoned = true) (c o n : Nat) :
    s.recordIssue c m o n = (s.issueRecord m 0).nvmeIssue (s.portOf m) (.append c m none o none) := by
  have hmember : (s.issueRecord m 0).member m = { s.member m with copeNext := (s.member m).copeNext + (s.member m).lbas 1024
                                                                  copeMono := if (s.member m).copeMono ≤ 0 then 0 else (s.member m).copeMono } :=
    Tab.look_put_same ..
  rw [State.recordIssue, State.copingRoom, if_pos hroom]
  dsimp only
  rw [State.appendNvme, State.portOf, hmember]
  simp only [hz, if_true]
  rfl

/-- The one wythe that a word with WYTHE 0 reads (R97). -/
theorem State.readOrder_zero {s : State} {w : BitVec 256} (hsel : bits (wSel w) 0 2 = 0) (hwythe : s.wytheList.contains 0 = true) :
    s.readOrder w = [0] := by
  rw [State.readOrder, hsel]
  simp only [List.filter_cons, hwythe, if_true, List.filter_nil]

/-- A READ of one brick into a buffer of its length ends well with the brick there (R97). -/
theorem State.readWord_one {s : State} {c : Nat} {w : BitVec 256} (h : s.plainWord c w) (hl : wList w = false) (hskip : wSkip w = false)
    (hg : (s.course c).gather = []) (hnext : (s.course c).nextSeq = none) (htotal : (s.course c).total = 0)
    (hrec : (wSel w).getLsbD 3 = false) (hsel : bits (wSel w) 0 2 = 0) (hwythe : s.wytheList.contains 0 = true)
    (hobj : s.holdsObject (wObject w c) = true) (hlast : (wParam w).toNat ≤ (s.ctxRec (wObject w c)).lastSeq.toNat)
    (hsome : (s.ctxRec (wObject w c)).lastSeq ≠ 0xFFFFFFFFFFFFFFFF) {md : Medium} {b : Bytes}
    (hunit : s.readUnit md w (wObject w c) (wParam w).toNat = .bytes b) (hlen : b.length = wCount w) (hpos : 0 < wCount w)
    (hdev : (wAddr w).getLsbD 39 = false) (hr : HostRead) : s.readWord c w hr md = (s.setBytes (bits (wAddr w) 0 35) b).wordEnded c := by
  have hplace : s.placeCheck w (wObject w c) (wParam w).toNat = 0 := by
    have hlate : ((s.ctxRec (wObject w c)).lastSeq == 0xFFFFFFFFFFFFFFFF ||
        decide ((s.ctxRec (wObject w c)).lastSeq.toNat < (wParam w).toNat)) = false := by
      simp only [Bool.or_eq_false_iff, beq_eq_false_iff_ne, decide_eq_false_iff_not]
      exact ⟨hsome, Nat.not_lt.2 hlast⟩
    rw [State.placeCheck, hobj, State.readOrder_zero hsel hwythe, hrec, hlate]
    rfl
  have hloop : s.readLoop md w (wObject w c) ((s.ctxRec (wObject w c)).lastSeq.toNat + 1) { out := [], carry := [], next := (wParam w).toNat }
      (2 * ((s.ctxRec (wObject w c)).lastSeq.toNat + 1 + 2)) = { out := b, carry := [], next := (wParam w).toNat + 1 } := by
    have hfuel : 2 * ((s.ctxRec (wObject w c)).lastSeq.toNat + 1 + 2) = 2 * (s.ctxRec (wObject w c)).lastSeq.toNat + 3 + 3 := by omega
    rw [hfuel]
    exact State.readLoop_one hunit hlen hpos (by omega) _
  obtain ⟨hword, hdecl, hspan, hnx, hpost, hstop⟩ := h
  have hp : (s.setBytes (bits (wAddr w) 0 35) b).plainWord c w := ⟨hword, hdecl, hspan, hnx, hpost, hstop⟩
  rw [State.readWord]
  simp only [hrec, hnext, hg, hplace, Option.isSome_none, Option.getD_none, Bool.false_eq_true, if_false, ne_eq, not_true_eq_false, hloop,
    State.pieces_single _ _ _ _ _ hl, hskip, State.scatter_device _ _ hdev rfl (hlen ▸ hpos), hspan, and_false, Bool.not_false, Bool.not_true,
    Bool.and_false]
  refine State.finishWord_good hp rfl rfl ?_
  simp only [List.foldl_cons, List.foldl_nil, Nat.zero_add, Nat.min_self, State.asked, htotal]
  omega

theorem Course.wait_undone {x : Course} (h : x.done = 0) (wt : WordWait) :
    ({ x with wait := some wt, done := 0 } : Course) = { x with wait := some wt } := by
  cases x
  cases h
  rfl

/-- A VERIFY whose first brick gives data asks for its job (R92, R98). -/
theorem State.verifyWord_asks {s : State} {c : Nat} {w : BitVec 256} (hdone : (s.course c).done = 0) (hrec : (wSel w).getLsbD 3 = false)
    (hsel : bits (wSel w) 0 2 = 0) (hobj : s.holdsObject (wObject w c) = true) (hpos : 0 < wCount w)
    (hlast : (wParam w).toNat + wCount w ≤ (s.ctxRec (wObject w c)).lastSeq.toNat + 1)
    (hsome : (s.ctxRec (wObject w c)).lastSeq ≠ 0xFFFFFFFFFFFFFFFF) {md : Medium}
    (hdata : s.verifyData md w (wObject w c) (wParam w).toNat 0 = true) : s.verifyWord c w md =
      ((s.waitFor c (.verify false md (wParam w).toNat (wCount w) none)).askVerify c false).turnNow := by
  have hfirst : verifyFirst w = (wParam w).toNat := if_neg (by rw [hrec]; decide)
  have hwythe : firstWythe w = 0 := if_neg (by rw [hsel]; decide)
  have hlate : ((s.ctxRec (wObject w c)).lastSeq == 0xFFFFFFFFFFFFFFFF ||
      decide ((s.ctxRec (wObject w c)).lastSeq.toNat < (wParam w).toNat)) = false := by
    simp only [Bool.or_eq_false_iff, beq_eq_false_iff_ne, decide_eq_false_iff_not]
    exact ⟨hsome, by omega⟩
  have hmin : min (wCount w) ((s.ctxRec (wObject w c)).lastSeq.toNat + 1 - (wParam w).toNat) = wCount w := by omega
  have hask : s.verifyAsk c w md (wParam w).toNat (wCount w) none =
      ((s.waitFor c (.verify false md (wParam w).toNat (wCount w) none)).askVerify c false).turnNow := by
    rw [State.verifyAsk, hrec, hfirst, Nat.sub_self, State.modCourse_eq, Course.wait_undone hdone]
    rfl
  rw [State.verifyWord]
  simp only [hobj, hrec, hfirst, hlate, hmin, Bool.not_true, Bool.not_false, Bool.true_and, Bool.false_eq_true, if_false,
    if_neg (Nat.ne_of_gt hpos)]
  rw [State.verifyUnit]
  simp only [hwythe, hdata, if_true, hask]

/-! ### MOVE and LEDGER (R100, R101) -/

/-- A hod's state after a course's descriptors have lost their course. -/
def HodSt.forget (x : HodSt) (c : Nat) : HodSt :=
  let f := fun (e : HodEntry) => if e.issuer = .move c then { e with issuer := .ended } else e
  { x.unwait (.move c) with
    queue := x.queue.map f, dropped := x.dropped.map f
    work := x.work.map fun w => if w.issuer = .move c then { w with issuer := .ended } else w }

theorem State.hod_moveForget (s : State) (c k : Nat) : (s.moveForget c).hod k = (s.hod k).forget c :=
  Tab.look_map s.hods {} (fun _ x => x.forget c) (fun _ => rfl) k

/-- A descriptor of a MOVE is queued on a hod. -/
def HodSt.moved (c a : Nat) (y : HodSt) : HodSt := { y.unwait (.move c) with queue := y.queue ++ [{ addr := a, issuer := .move c }] }

/-- The next descriptor of a MOVE is handed to its hod while that has room (R100, R138). -/
theorem State.moveFeed_room {s : State} {c h handed n : Nat} {w : BitVec 256} (hword : (s.course c).word = some w)
    (hwait : (s.course c).wait = some (.move h handed 0 0 0)) (hmore : handed < wCount w) (hroom : (s.hod h).room = true) :
    s.moveFeed c (n + 1) = ((s.modHod h (·.moved c (bits (wAddr w) 0 35 + 32 * handed))).waitFor c (.move h (handed + 1) 0 0 0)).moveFeed c n := by
  rw [State.moveFeed, hword, hwait]
  simp only [hroom, if_true]
  rw [if_neg (by simpa using hmore), ← hword]
  rfl

theorem State.moveFeed_over {s : State} {c h n : Nat} {w : BitVec 256} (hword : (s.course c).word = some w)
    (hwait : (s.course c).wait = some (.move h (wCount w) 0 0 0)) : s.moveFeed c (n + 1) = s := by
  rw [State.moveFeed, hword, hwait]
  simp

/-- A MOVE of one descriptor on a hod with room hands it over (R100, R138). -/
theorem State.moveWord_one {s : State} {c k : Nat} {w : BitVec 256} (hword : (s.course c).word = some w) (hk : bits (wSel w) 0 5 = k)
    (hone : k ≠ 0x1F) (hroom : (s.hod k).room = true) (hcount : wCount w = 1) : s.moveWord c w =
      ((s.moveForget c).modHod k (·.moved c (bits (wAddr w) 0 35))).waitFor c (.move k 1 0 0 0) := by
  have hfirst : s.moveWord c w = ((s.moveForget c).waitFor c (.move k 0 0 0 0)).moveFeed c (31 + 1) := by
    rw [State.moveWord, hk, if_neg hone]
    rfl
  have hroom' : (((s.moveForget c).waitFor c (.move k 0 0 0 0)).hod k).room = true := by
    change ((s.moveForget c).hod k).room = true
    rw [s.hod_moveForget, HodSt.room, HodSt.forget]
    simpa [HodSt.unwait, HodSt.room] using hroom
  have hwait : ∀ (t : State) (wt : WordWait), (t.course c).word = some w → ((t.waitFor c wt).course c).word = some w := fun t wt h => by
    rw [State.course_waitFor]
    exact h
  have hgo : (((s.moveForget c).waitFor c (.move k 0 0 0 0)).modHod k (·.moved c (bits (wAddr w) 0 35))).waitFor c (.move k 1 0 0 0) =
      ((s.moveForget c).modHod k (·.moved c (bits (wAddr w) 0 35))).waitFor c (.move k 1 0 0 0) := by
    rw [State.waitFor_modHod, State.waitFor_waitFor]
  rw [hfirst, State.moveFeed_room (hwait (s.moveForget c) _ hword) (by rw [State.course_waitFor]) (by omega) hroom', Nat.mul_zero, Nat.add_zero, Nat.zero_add, hgo]
  exact State.moveFeed_over (n := 30) (hwait ((s.moveForget c).modHod k _) _ hword) (by rw [State.course_waitFor, hcount])

theorem State.snapshot_length (s : State) (l : Nat) : (s.snapshot l).length = 48 := by
  simp only [State.snapshot, List.length_append, toLE_length]

/-- LEDGER writes its snapshots and ends (R101). -/
theorem State.ledgerWord_device {s : State} {c : Nat} {w : BitVec 256} (h : s.plainWord c w) (hdev : (wAddr w).getLsbD 39 = false) :
    s.ledgerWord c w = (s.setBytes (bits (wAddr w) 0 35)
      ((List.range (wCount w)).flatMap fun i => s.snapshot (bits (wSel w) 0 8 + i))).wordEnded c := by
  rw [State.ledgerWord, State.writeAt_device _ _ hdev]
  generalize (List.range (wCount w)).flatMap (fun i => s.snapshot (bits (wSel w) 0 8 + i)) = b
  have hp : (s.setBytes (bits (wAddr w) 0 35) b).plainWord c w := h
  exact State.finishWord_good hp (e := { count := wCount w, done := wCount w }) rfl rfl (Nat.le_refl _)

/-! ### The job of a VERIFY (R92, R98) -/

section
variable {s t : State} (hctx : t.ctx = s.ctx) (hwythes : t.wythes = s.wythes) (hsec : t.sec = s.sec)
include hctx

theorem State.ctxRec_congr (c : Nat) : t.ctxRec c = s.ctxRec c := by rw [State.ctxRec, State.ctxRec, hctx]

theorem State.extChain_congr (fuel c : Nat) : t.extChain fuel c = s.extChain fuel c := by
  induction fuel generalizing c with
  | zero => rfl
  | succ n ih => rw [State.extChain, State.extChain, ih, State.ctxRec_congr hctx]

include hwythes

/-- Where a brick stands depends on the context store and the wythes alone (R49, R119). -/
theorem State.findBrick_congr (md : Medium) (w c n : Nat) : t.findBrick md w c n = s.findBrick md w c n := by
  have hrec := State.ctxRec_congr hctx
  have hmember : ∀ m, t.member m = s.member m := fun m => by rw [State.member, State.member, hwythes]
  have hbrick : ∀ l k, t.brickMember w l k = s.brickMember w l k := fun l k => by
    simp only [State.brickMember, State.memberFor, State.striped, hmember]
    rfl
  simp only [State.findBrick, State.repairLba, State.startLba, State.extChain_congr hctx, hrec, hmember, hbrick]

include hsec

/-- So do the checks of a brick, but for the keys (R51). -/
theorem State.verifyOn_congr {w : BitVec 256} (hrec : (wSel w).getLsbD 3 = false) (md : Medium) (o n wy : Nat) :
    t.verifyOn md w o n wy = s.verifyOn md w o n wy := by
  have hctxRec := State.ctxRec_congr hctx
  simp only [State.verifyOn, State.verifyBrick, State.prevDigest, State.genesis, State.wytheList, hwythes, hsec, hrec, Bool.false_eq_true, if_false,
    State.findBrick_congr hctx hwythes, hctxRec]
  rfl
end

/-- The job of a VERIFY's last brick is complete, and the brick passes (R98). -/
theorem State.verifyDone_last {s : State} {c : Nat} {w : BitVec 256} (h : s.plainWord c w) {md : Medium}
    (hwait : (s.course c).wait = some (.verify false md (wParam w).toNat 1 none)) (hcount : wCount w = 1)
    (hrec : (wSel w).getLsbD 3 = false) (hsel : bits (wSel w) 0 2 = 0)
    (hok : s.verifyOn md w (wObject w c) (wParam w).toNat 0 = 0) : s.verifyDone c = s.wordEnded c := by
  obtain ⟨hword, -⟩ := id h
  have hwythe : firstWythe w = 0 := if_neg (by rw [hsel]; decide)
  have hsecond : secondWythe w 0 = false := by rw [secondWythe, hsel]; rfl
  have hnext : s.verifyNext c w md (wParam w).toNat 1 0 none = s.wordEnded c := by
    rw [State.verifyNext]
    simp only [State.verifyOver, hrec, Bool.false_eq_true, if_false]
    refine State.finishWord_good h rfl rfl ?_
    simp [verifyFirst, hcount]
  rw [State.verifyDone, hwait, hword]
  simp only [hwythe, hok, hsecond, Bool.not_false, if_true]
  exact hnext

/-- With no lane and one course, which waits for no job, nothing is tried again (R257). -/
theorem State.retryHeld_quiet {s : State} (hlanes : s.lanes = []) {c : Nat} {x : Course} (hheld : s.courses.held = [(c, x)]) (hx : x.wait = none) :
    s.retryHeld = s.turnNow := by
  have hlane : ∀ l, (s.lane l).sealHeld = false ∧ (s.lane l).signHeld = false := fun l => by
    rw [State.lane, hlanes]
    exact ⟨rfl, rfl⟩
  rw [State.retryHeld_of_no_lane hlane, State.retryVerify, hheld, List.foldl_cons, List.foldl_nil, hx]

/-- Settles O46: each word by the lemma of its function. -/
theorem laneAndObjectWords : Obligations.LaneAndObjectWords := by
  unfold Obligations.LaneAndObjectWords
  intro c w md b o u j s x r l y n k ended hnext hpost hspan hlist hskip hstop hhead hspanEnd htotal hdone hgather hsegs hnextSeq hdecl
  have plain : ∀ {op : Nat}, s.heldWord c op = some w → s.plainWord c w := fun h =>
    ⟨(State.heldWord_eq h).1, hdecl, hspan, hnext, hpost, hstop⟩
  have runs : ∀ {op : Nat} (h : s.heldWord c op = some w) (f : BitVec 256 → State), s.onWord c op f = .next (f w) := fun h f =>
    State.onWord_held h hspanEnd f
  refine ⟨fun hheld hact hing hww hty hready hring => ?ingest, fun hheld hmode hseal => ?sealNow, fun hheld hkind ho hkey => ?cope,
    fun hheld hsel hb hdev hcount hobj hrec hwythe hup => ?append,
    fun hheld hrec hsel hwythe hobj hlast hsome hunit hlen hpos hin => ?read,
    fun hheld hrec hsel hwythe hobj hpos hlast hsome hdata => ?verify,
    fun hwait hword hcount hrec hsel hu hj hlanes hcourses hok => ?verified,
    fun hheld hown hstate hhold hkey hchain => ?raze, fun hheld hk hroom hcount => ?move, fun hheld hpos hin => ?ledger⟩
  case ingest =>
    exact (runs hheld _).trans (congrArg _ (State.ingestWord_idle hact hing hww hty hready hring hskip hdone []))
  case sealNow =>
    refine ⟨_, (runs hheld _).trans (congrArg _ (State.sealWord_now (plain hheld) hmode hseal)), ⟨?_, ?_, ?_, ?_⟩, rfl, rfl⟩
    · rw [State.course_wordEnded, State.course_waitFor]
      rfl
    all_goals rw [State.ctxRec_wordEnded]; rfl
  case cope => exact (runs hheld _).trans (congrArg _ (State.copeWord_waits hkind ho hkey))
  case append =>
    intro m d hroom hz
    have hform := State.appendWord_record (plain hheld) hlist hgather hsel hdev hb hcount hobj hrec hwythe hup [] md
    refine ⟨_, (runs hheld _).trans (congrArg _ (hform.trans (State.recordIssue_room ?_ ?_ c (wObject w c) 1024))), ?_, ?_, rfl, ?_, rfl⟩
    · exact hroom
    · exact hz
    · exact (congrArg Course.wait (State.course_setCourse_same ..) :)
    · exact (congrArg Course.word (State.course_setCourse_same ..) :).trans (State.heldWord_eq hheld).1
    · exact (congrArg MemberSt.copeNext (Tab.look_put_same ..) :)
  case read =>
    obtain ⟨hdev, haddr⟩ := deviceForm (a := wAddr w) (by omega)
    have hform := State.readWord_one (plain hheld) hlist hskip hgather hnextSeq htotal hrec hsel hwythe hobj hlast hsome hunit hlen hpos hdev []
    rw [haddr] at hform
    have hback := s.bytesAt_setBytes_dram (a := (wAddr w).toNat) (b := b) (by omega)
    refine ⟨_, (runs hheld _).trans (congrArg _ hform), ⟨State.course_wordEnded .., ?_, ?_, ?_⟩, ?_, fun a ha => ?_⟩
    · rw [State.ctxRec_wordEnded]; rfl
    · rw [State.ctxRec_wordEnded]; rfl
    · rw [State.ctxRec_wordEnded]; rfl
    · rw [State.bytesAt_wordEnded, ← hlen, hback]
    · rw [State.byteAt_wordEnded, State.byteAt_setBytes_other _ _ _ _ (by omega)]
  case verify =>
    exact (runs hheld _).trans (congrArg _ (State.verifyWord_asks hdone hrec hsel hobj hpos hlast hsome hdata))
  case verified =>
    have hplain : (s.finishJob 14 j).plainWord c w := ⟨hword, hdecl, hspan, hnext, hpost, hstop⟩
    have hver : (s.finishJob 14 j).verifyOn md w (wObject w c) n 0 = 0 := by
      rw [State.verifyOn_congr (s := s) (t := s.finishJob 14 j) rfl rfl rfl hrec]
      exact hok
    have hdoneJob := State.verifyDone_last hplain hwait hcount hrec hsel hver
    have hheld : ((s.finishJob 14 j).wordEnded c).courses.held = [(c.val, x.next (x.addr + 32))] := by
      refine (State.held_wordEnded ..).trans ?_
      change Tab.put s.courses.held c _ = _
      rw [hcourses]
      simp only [Tab.put, Nat.lt_irrefl, if_false, if_true]
      rfl
    have hquiet := State.retryHeld_quiet (s := (s.finishJob 14 j).wordEnded c) hlanes hheld rfl
    generalize ht : (s.finishJob 14 j).wordEnded c = t at hdoneJob hquiet
    have hcourse : t.course c = x.next (x.addr + 32) := by rw [← ht]; exact State.course_wordEnded ..
    have hctx : t.ctxRec c = r.wordOk := by rw [← ht]; exact State.ctxRec_wordEnded ..
    obtain ⟨-, hturnCtx, hturnCourses, -⟩ := t.mortarTurn_eq t.mortar
    have hrec' : t.turnNow.ctxRec c = r.wordOk := (State.ctxRec_congr hturnCtx c).trans hctx
    refine ⟨t.turnNow, ?_, ⟨?_, ?_, ?_, ?_⟩, ?_, ?_⟩
    · change Host.Outcome.next (s.unitDone u) = _
      rw [State.unitDone, hu]
      simp only [hj, hdoneJob, hquiet]
    · exact (congrArg (fun y : CourseStore => y.held.look {} c.val) hturnCourses :).trans hcourse
    · rw [hrec']; rfl
    · rw [hrec']; rfl
    · rw [hrec']; rfl
    · exact (t.mem_mortarTurn _).trans (by rw [← ht]; rfl)
    · refine (t.completed_mortarTurn _ 14).trans ?_
      rw [← ht]
      exact (congrArg InputRow.completed (Tab.look_put_same ..) :)
  case raze =>
    have hform := State.razeWord_own (c := c) hown hstate hhold hkey hchain md
    exact (runs hheld _).trans (congrArg _ hform)
  case move =>
    exact (runs hheld _).trans (congrArg _ (State.moveWord_one (State.heldWord_eq hheld).1 rfl hk hroom hcount))
  case ledger =>
    intro out
    obtain ⟨hdev, haddr⟩ := deviceForm (a := wAddr w) (by omega)
    have hlen : out.length = 48 * wCount w := by
      rw [List.length_flatMap]
      simp only [State.snapshot_length, List.map_const', List.sum_replicate_nat, List.length_range, Nat.mul_comm]
    have hform := State.ledgerWord_device (plain hheld) hdev
    rw [haddr] at hform
    have hback := s.bytesAt_setBytes_dram (a := (wAddr w).toNat) (b := out) (by omega)
    refine ⟨_, (runs hheld _).trans (congrArg _ hform), ⟨State.course_wordEnded .., ?_, ?_, ?_⟩, ?_, fun a ha => ?_⟩
    · rw [State.ctxRec_wordEnded]; rfl
    · rw [State.ctxRec_wordEnded]; rfl
    · rw [State.ctxRec_wordEnded]; rfl
    · rw [State.bytesAt_wordEnded, ← hlen]
      exact hback
    · rw [State.byteAt_wordEnded]
      exact State.byteAt_setBytes_other s (wAddr w).toNat out a (by omega)

end Sys2Proof.Machine

namespace Sys2Proof.Machine

/-! ### The raw words of a course (R103) -/

/-- A single word in device form of a course that carries no span (R83, R85, R86). -/
structure State.RawPlain (s : State) (c : CtxId) (w : BitVec 256) : Prop where
  span : wSpan w = false
  list : wList w = false
  skip : wSkip w = false
  device : (wAddr w).getLsbD 39 = false
  total : (s.course c).total = 0
  gather : (s.course c).gather = []
  segs : (s.course c).segs = []

/-- A transmit: its data are the bytes of its buffer. -/
def State.txOp (s : State) (c : CtxId) (w : BitVec 256) : RawOp :=
  { owner := .course c, op := wOp w, sel := wSel w, param := wParam w, count := wCount w, data := s.devBytes (bits (wAddr w) 0 35) (wCount w)
    base := (s.ctxRec c).hostBase, segs := [] }

/-- A receive: its buffer is where the data go. -/
def State.rxOp (s : State) (c : CtxId) (w : BitVec 256) : RawOp :=
  { owner := .course c, op := wOp w, sel := wSel w, param := wParam w, count := wCount w, data := [], base := (s.ctxRec c).hostBase
    segs := [(wAddr w, wCount w)] }

/-- An NVMe command: the 64 bytes of its entry, and its buffer in PARAM. -/
def State.nvOp (s : State) (c : CtxId) (w : BitVec 256) : RawOp :=
  { owner := .course c, op := wOp w, sel := wSel w, param := wParam w, count := wCount w, base := (s.ctxRec c).hostBase
    data := s.devBytes (bits (wAddr w) 0 35) 64, segs := [((wParam w).setWidth 40, wCount w)] }

section
variable {s : State} {c : CtxId} {w : BitVec 256} (h : s.RawPlain c w)
include h

theorem State.RawPlain.asked : s.asked c w = wCount w := by rw [State.asked, h.total, Nat.zero_add]

theorem State.RawPlain.tx (h1 : wOp w ≠ 0x21) (h2 : wOp w ≠ 0x22) (hrecv : (wSel w).getLsbD 4 = false) (hcheck : s.rawCheck (s.txOp c w) = 0) :
    s.rawWord c w [] = (s.waitFor c .raw).rawStart (s.txOp c w) := by
  have hr : (wOp w == 0x22 || (wOp w != 0x21 && wReceives w)) = false := by
    rw [wReceives, hrecv, beq_eq_false_iff_ne.2 h2, Bool.and_false]; rfl
  simp only [State.rawWord, hr, h.skip, h.span, h.gather, h.segs, State.pieces_single _ _ _ _ _ h.list, beq_eq_false_iff_ne.2 h1, if_neg h1,
    Bool.or_false, Bool.false_eq_true, if_false, Bool.not_false, Bool.not_true, Bool.true_and, Bool.false_and, List.nil_append,
    s.gatherPieces_device _ _ h.device, h.asked]
  exact if_neg (Classical.not_not.2 hcheck)

theorem State.RawPlain.rx (h1 : wOp w ≠ 0x21) (hrecv : wOp w = 0x22 ∨ (wSel w).getLsbD 4 = true) (hcheck : s.rawCheck (s.rxOp c w) = 0) :
    s.rawWord c w [] = (s.waitFor c .raw).rawStart (s.rxOp c w) := by
  have hr : (wOp w == 0x22 || (wOp w != 0x21 && wReceives w)) = true := by
    rw [wReceives, bne_iff_ne.2 h1, Bool.true_and, Bool.or_eq_true, beq_iff_eq]; exact hrecv
  have hcap : (capacity [] == 0) = true := rfl
  simp only [State.rawWord, hr, h.skip, h.span, h.total, h.segs, hcap, State.pieces_single _ _ _ _ _ h.list, beq_eq_false_iff_ne.2 h1, if_neg h1,
    Bool.or_false, Bool.false_eq_true, if_false, if_true, Bool.not_true, Bool.true_and, Bool.false_and, List.nil_append, h.asked]
  exact if_neg (Classical.not_not.2 hcheck)

theorem State.RawPlain.nv (hop : wOp w = 0x21) (hcheck : s.rawCheck (s.nvOp c w) = 0) :
    s.rawWord c w [] = (s.waitFor c .raw).rawStart (s.nvOp c w) := by
  have hread : s.readAt (s.ctxRec c).hostBase [] (wAddr w) 64 = s.devBytes (bits (wAddr w) 0 35) 64 := if_neg (by rw [h.device]; decide)
  have h21 : (wOp w == 0x21) = true := by rw [hop]; rfl
  simp only [State.rawWord, h.skip, h.span, h21, if_pos hop, Bool.or_true, Bool.not_true, Bool.and_false, Bool.false_eq_true, if_false, if_true,
    hread, h.asked]
  exact if_neg (Classical.not_not.2 hcheck)
end

/-- A started word waits for its port with its operation handed over; no context and no byte changes. -/
theorem State.rawStart_waitFor (s : State) (c : CtxId) (q : RawOp) : let t := (s.waitFor c .raw).rawStart q
    t.raws = s.raws ++ [q] ∧ (t.course c).wait = some .raw ∧ (t.course c).word = (s.course c).word ∧ t.ctx = s.ctx ∧
      (q.op ≠ 0x21 → t.nvme = s.nvme) ∧ t.mem = s.mem := by
  intro t
  obtain ⟨hraws, -, hmem, -, hnvme⟩ := (s.waitFor c .raw).rawStart_fields q
  have hcourses : t.courses = (s.waitFor c .raw).courses := ite_keeps State.courses rfl
  have hcourse : t.course c = { s.course c with wait := some .raw } :=
    (congrArg (fun y : CourseStore => y.held.look {} c.val) hcourses :).trans (s.course_waitFor c .raw)
  refine ⟨hraws, ?_, ?_, ite_keeps State.ctx rfl, hnvme, hmem⟩
  · rw [hcourse]
  · rw [hcourse]

/-- A receive that ends with exactly the bytes asked for places them and ends its word well (R103). -/
theorem State.rawOver_exact {s : State} {c : CtxId} {w : BitVec 256} {r : RawOp} {data : Bytes} (h : s.plainWord c w) (hown : r.owner = .course c)
    (hrecv : r.receives = true) (hskip : r.skip = false) {a : BitVec 40} (ha : a.getLsbD 39 = false) (hsegs : r.segs = [(a, r.count)])
    (hpos : 0 < r.count) (hlen : data.length = r.count) :
    s.rawOver r 0 data data.length false =
      { s.setBytes (bits a 0 35) data with raws := s.raws.filter fun x => x.owner != r.owner }.wordEnded c := by
  have hcap : capacity r.segs = r.count := by rw [hsegs]; exact Nat.zero_add _
  have hscat : s.scatter r.base r.segs (data.take r.count) = s.setBytes (bits a 0 35) data := by
    rw [List.take_of_length_le (by omega), hsegs]
    exact s.scatter_device _ ha hlen hpos
  simp only [State.rawOver, hrecv, hskip, hcap, Bool.not_false, Bool.and_true, if_true, Nat.min_self, Bool.false_eq_true, if_false, hscat, hlen,
    Nat.lt_irrefl, and_false, hown, decide_false, Bool.or_false]
  refine State.finishWord_good (w := w) ?_ rfl rfl (Nat.le_refl _)
  exact h

/-- Settles O47: each raw word through the lemma of its direction, and the exact receive through `State.rawOver_exact`. -/
theorem rawWords : Obligations.RawWords := by
  unfold Obligations.RawWords
  intro c w data r s x n base recv buffer tx rx nv waits hspan hlist hskip hdev htotal _ hgather hsegs hspanEnd
  have plain : s.RawPlain c w := ⟨hspan, hlist, hskip, hdev, htotal, hgather, hsegs⟩
  have started : ∀ {op : Nat} (q : RawOp), q.op = wOp w → s.heldWord c op = some w →
      (s.rawCheck q = 0 → s.rawWord c w [] = (s.waitFor c .raw).rawStart q) → waits (s.onWord c op fun v => s.rawWord c v []) q := by
    intro op q hq hheld hstart hcheck
    obtain ⟨hraws, hwait, hword, hctx, hnvme, hmem⟩ := s.rawStart_waitFor c q
    exact ⟨_, (State.onWord_held hheld hspanEnd _).trans (congrArg _ (hstart hcheck)), hraws, hwait, hword, hctx, by rwa [hq] at hnvme, hmem⟩
  have opOf : ∀ {op : Nat}, s.heldWord c op = some w → wOp w = op := fun h => (State.heldWord_eq h).2.2.2.2
  have sends : ∀ {op : Nat}, op ≠ 0x21 → op ≠ 0x22 → s.heldWord c op = some w → recv = false →
      waits (s.onWord c op fun v => s.rawWord c v []) tx := fun h1 h2 hheld hrecv =>
    started tx rfl hheld (plain.tx (by rwa [opOf hheld]) (by rwa [opOf hheld]) hrecv)
  have receives : ∀ {op : Nat}, op ≠ 0x21 → s.heldWord c op = some w → (op = 0x22 ∨ recv = true) →
      waits (s.onWord c op fun v => s.rawWord c v []) rx := fun h1 hheld hrecv =>
    started rx rfl hheld (plain.rx (by rwa [opOf hheld]) (by rwa [opOf hheld]))
  refine ⟨sends (by decide) (by decide), fun h hr => receives (by decide) h (.inr hr), fun h => started nv rfl h (plain.nv (opOf h)),
    fun h => receives (by decide) h (.inl rfl), sends (by decide) (by decide), fun h hr => receives (by decide) h (.inr hr),
    sends (by decide) (by decide), fun h hr => receives (by decide) h (.inr hr), ?arrived⟩
  case arrived =>
    intro hraws hown hop hrecv hrskip hrdata hrsegs hpos hlen hin hrung hword hstop hnext hpost hdecl
    obtain ⟨hdev', haddr⟩ := deviceForm (a := wAddr w) (by omega)
    have hof : s.rawOf (.course c) = some r := by
      rw [State.rawOf, hraws, List.find?_cons, hown]
      simp
    have hover := State.rawOver_exact (s := s.retryOver (rawFunc r) (.course c)) (w := w)
      ⟨hword, hdecl, hspan, hnext, hpost, hstop⟩ hown hrecv hrskip hdev' hrsegs hpos hlen
    have hback := (s.retryOver (rawFunc r) (.course c)).bytesAt_setBytes_dram (a := (wAddr w).toNat) (b := data) (by omega)
    have hexec : exec (.rawTransferComplete (.course c) 0 data.length false data) s =
        .next ((s.retryOver (rawFunc r) (.course c)).rawOver r 0 data data.length false) := by
      change Host.Outcome.next _ = _
      rw [hof]
      simp only [hop, hrung, Bool.false_eq_true, or_self, if_false, ne_eq, not_true_eq_false, hrecv, if_true, hrdata, List.nil_append,
        List.length_nil, Nat.zero_add]
    rw [haddr] at hover
    refine ⟨_, hexec.trans (congrArg _ hover), ?_, State.course_wordEnded .., ?_, ?_, ?_, fun a ha => ?_⟩
    · rw [State.raws_wordEnded]
      change s.raws.filter _ = _
      simp [hraws]
    · rw [State.ctxRec_wordEnded]; rfl
    · rw [State.ctxRec_wordEnded]; rfl
    · rw [State.bytesAt_wordEnded, ← hlen]
      exact hback
    · rw [State.byteAt_wordEnded]
      exact State.byteAt_setBytes_other (s.retryOver (rawFunc r) (.course c)) (wAddr w).toNat data a (by omega)

end Sys2Proof.Machine

namespace Sys2Proof.Machine

/-! ### What raises, publications, EMCY messages and the arbiter leave as it was (R212, R228, R261, R307) -/

/-- The state apart from what a signal can change: the vector unit, its watcher, the engines' latched levels, the router, the mortar
arbiter, and the EMCY part of the dictionary. -/
def State.offSignals (s : State) : State :=
  { s with
    vu := {}, watcher := {}, engines := [], router := {}, mortar := {}
    dict := { s.dict with errorReg := 0, emcyAt := none, emcySuppressed := 0, emcy := [] } }

@[simp] theorem State.offSignals_raise (s : State) (n : Nat) : (s.raise n).offSignals = s.offSignals := rfl

@[simp] theorem State.offSignals_raiseN (s : State) (src n : Nat) : (s.raiseN src n).offSignals = s.offSignals := by
  rw [State.raiseN_eq]
  rfl

@[simp] theorem State.offSignals_publishN (s : State) (c k : Nat) : (s.publishN c k).offSignals = s.offSignals := by
  cases hf : s.router.mayFire c with
  | false => rw [State.publishN_gated hf]; rfl
  | true =>
    cases hb : (s.router.chanAt c).blocking with
    | true => rw [State.publishN_blocked hf hb, State.offSignals_raiseN]; rfl
    | false => rw [State.publishN_fired_eq hf hb]; rfl

@[simp] theorem State.offSignals_publish (s : State) (c : Nat) : (s.publish c).offSignals = s.offSignals := s.offSignals_publishN c 1

@[simp] theorem State.offSignals_publishCore (s : State) (c : Nat) : (s.publishCore c).offSignals = s.offSignals := by
  rw [State.publishCore]
  split
  · rfl
  · exact s.offSignals_publish c

@[simp] theorem State.offSignals_emcy (s : State) (code : BitVec 16) (bit : Nat) (on : Bool) (source : Nat) (status : Status) :
    (s.emcy code bit on source status).offSignals = s.offSignals := rfl

@[simp] theorem State.offSignals_mortarTurn (s : State) (m : Mortar) : (s.mortarTurn m).offSignals = s.offSignals := by
  refine (foldl_keeps State.offSignals _ (fun t i => ?_) _ _).trans rfl
  exact ite_keeps State.offSignals rfl

@[simp] theorem State.offSignals_turnNow (s : State) : s.turnNow.offSignals = s.offSignals := s.offSignals_mortarTurn _

@[simp] theorem State.offSignals_queueJob (s : State) (i : Nat) (j : Job) : (s.queueJob i j).offSignals = s.offSignals := rfl

@[simp] theorem State.offSignals_signal211 (s : State) (on : Bool) : (s.signal211 on).offSignals = s.offSignals := by
  rw [State.signal211, State.offSignals_emcy, State.offSignals_publish, State.offSignals_raise]

section
variable {s t : State} (h : t.offSignals = s.offSignals)
include h

theorem State.lanes_off : t.lanes = s.lanes := (congrArg State.lanes h :)
theorem State.lane_off (l : Nat) : t.lane l = s.lane l := (congrArg (fun u : State => u.lane l) h :)
theorem State.course_off (c : Nat) : t.course c = s.course c := (congrArg (fun u : State => u.course c) h :)
theorem State.courses_off : t.courses = s.courses := (congrArg State.courses h :)
theorem State.ctxRec_off (c : Nat) : t.ctxRec c = s.ctxRec c := (congrArg (fun u : State => u.ctxRec c) h :)
theorem State.ctx_off : t.ctx = s.ctx := (congrArg State.ctx h :)
theorem State.mem_off : t.mem = s.mem := (congrArg State.mem h :)
theorem State.hostMem_off : t.hostMem = s.hostMem := (congrArg State.hostMem h :)
theorem State.holdup_off : t.holdup = s.holdup := (congrArg State.holdup h :)
theorem State.ladder_off : t.ladder = s.ladder := (congrArg State.ladder h :)
theorem State.power_off : t.power = s.power := (congrArg State.power h :)
theorem State.time_off : t.time = s.time := (congrArg State.time h :)
theorem State.wythes_off : t.wythes = s.wythes := (congrArg State.wythes h :)
theorem State.journal_off : t.journal = s.journal := (congrArg State.journal h :)
theorem State.iface_off : t.iface = s.iface := (congrArg State.iface h :)
theorem State.rings_off : t.rings = s.rings := (congrArg State.rings h :)
theorem State.canClose_off (l : Nat) : t.canClose l = s.canClose l := (congrArg (fun u : State => u.canClose l) h :)
theorem State.modLane_off (l : Nat) (f : LaneSt → LaneSt) : (t.modLane l f).offSignals = (s.modLane l f).offSignals :=
  (congrArg (fun u : State => u.modLane l f) h :)
theorem State.setCourse_off (c : Nat) (x : Course) : (t.setCourse c x).offSignals = (s.setCourse c x).offSignals :=
  (congrArg (fun u : State => u.setCourse c x) h :)

end

/-! ### Hold-up-inadequate (R58) and the ladder's outage (R355) -/

/-- The lanes under a judgement of hold-up-inadequate: as they were, or each marked at risk. -/
def State.JudgedLanes (s : State) (ls : Tab LaneSt) : Prop := ls = s.lanes ∨ ls = s.lanes.map fun e => (e.1, e.2.atRisk)

/-- A judgement's outcome: the mark, the time since which no cause holds, and the lanes. -/
def State.judged (s : State) (since : Option (BitVec 48)) (v : BitVec 4) (ls : Tab LaneSt) : State :=
  { s with holdup := { s.holdup with clearSince := since, inadequate := v }, lanes := ls }

/-- A judgement of hold-up-inadequate changes its mark and its time, and marks the lanes (R58). -/
theorem State.judgeInadequate_off (s : State) :
    ∃ since v ls, s.JudgedLanes ls ∧ s.judgeInadequate.offSignals = (s.judged since v ls).offSignals := by
  rw [State.judgeInadequate]
  split
  · exact ⟨_, _, s.lanes, .inl rfl, rfl⟩
  · refine ⟨none, s.causes ||| 1, _, .inr rfl, ?_⟩
    dsimp only
    split
    · rfl
    · exact State.offSignals_signal211 _ true

theorem Tab.look_map_all {α : Type} (t : Tab α) (d : α) (f : α → α) (k : Nat) :
    Tab.look (t.map fun e => (e.1, f e.2)) d k = t.look d k ∨ Tab.look (t.map fun e => (e.1, f e.2)) d k = f (t.look d k) := by
  induction t with
  | nil => exact .inl rfl
  | cons e r ih =>
    rw [List.map_cons, Tab.look, Tab.look]
    split
    · exact .inr rfl
    · exact ih

theorem State.JudgedLanes.lane {s : State} {ls : Tab LaneSt} (h : s.JudgedLanes ls) (l : Nat) :
    ls.look {} l = s.lane l ∨ ls.look {} l = (s.lane l).atRisk := by
  obtain rfl | rfl := h
  · exact .inl rfl
  · exact Tab.look_map_all s.lanes {} LaneSt.atRisk l

theorem Fill.risked_payload (f : Fill) : f.risked.payload = f.payload := by
  rw [Fill.risked]
  split <;> rfl

/-- What a judgement of hold-up-inadequate leaves of a lane: all but the marks of risk. -/
def LaneSt.offRisk (x : LaneSt) : LaneSt :=
  { x with fill := { x.fill with atRisk := false }, nextFill := x.nextFill.map fun f => { f with atRisk := false }
           led := { x.led with atRisk := false } }

theorem LaneSt.offRisk_atRisk (x : LaneSt) : x.atRisk.offRisk = x.offRisk := by
  have hfill : ∀ f : Fill, { f.risked with atRisk := false } = { f with atRisk := false } := fun f => by
    rw [Fill.risked]
    split <;> rfl
  simp only [LaneSt.offRisk, LaneSt.atRisk, hfill, Option.map_map]
  congr 1
  exact congrArg (fun g => x.nextFill.map g) (funext hfill)

/-- A judgement changes no more of a lane than its marks of risk, and nothing but lanes, signals and its own marks (R58). -/
theorem State.judgeInadequate_lane (s : State) (l : Nat) : (s.judgeInadequate.lane l).offRisk = (s.lane l).offRisk := by
  obtain ⟨since, v, ls, hls, h⟩ := s.judgeInadequate_off
  have hlane : s.judgeInadequate.lane l = ls.look {} l := State.lane_off h l
  rw [hlane]
  obtain h1 | h1 := hls.lane l
  · rw [h1]
  · rw [h1, LaneSt.offRisk_atRisk]

theorem State.judgeInadequate_rest (s : State) : s.judgeInadequate.courses = s.courses ∧ s.judgeInadequate.mem = s.mem ∧
    s.judgeInadequate.holdup.lastCourse = s.holdup.lastCourse ∧ s.judgeInadequate.ladder = s.ladder ∧ s.judgeInadequate.ctx = s.ctx := by
  obtain ⟨since, v, ls, hls, h⟩ := s.judgeInadequate_off
  exact ⟨(State.courses_off h).trans rfl, (State.mem_off h).trans rfl, (congrArg (fun u : State => u.holdup.lastCourse) h :),
    (State.ladder_off h).trans rfl, (State.ctx_off h).trans rfl⟩

theorem State.outage_off (s : State) (since : Nat) (external : Bool) :
    ∃ l, (s.outage since external).offSignals = { s with ladder := l }.offSignals :=
  ⟨_, ite_keeps State.offSignals rfl⟩

/-- The end of an outage changes the ladder and signals alone (R355). -/
theorem State.outageEnd_off (s : State) : ∃ l, s.outageEnd.offSignals = { s with ladder := l }.offSignals := by
  rw [State.outageEnd]
  split
  · exact ⟨s.ladder, rfl⟩
  · exact State.outage_off { s with ladder := { s.ladder with owed := none } } _ _

end Sys2Proof.Machine

namespace Sys2Proof.Machine

/-! ### Closing and staging in a lane (R12, R13, R37, R43) -/

/-- The lane whose filling brick has gone into its sealing buffer (R13); `v`: its seal job waits for room. -/
def LaneSt.sealed (x : LaneSt) (q : Brick) (o : ObjChain) (f : Fill) (v : Bool) : LaneSt :=
  { x with sealing := some q, obj := some o, fill := f, refusedSince := 0, sealHeld := v }

@[simp] theorem State.setLane_setLane (s : State) (l : Nat) (x y : LaneSt) : (s.setLane l x).setLane l y = s.setLane l y := by
  simp [State.setLane]

@[simp] theorem State.modLane_modLane (s : State) (l : Nat) (f g : LaneSt → LaneSt) :
    (s.modLane l f).modLane l g = s.modLane l fun x => g (f x) := by
  rw [State.modLane, State.lane_modLane_same, State.modLane, State.setLane_setLane]
  rfl

theorem State.lane_lineOf (s : State) (l k : Nat) : (s.lineOf l).lane k = s.lane k := rfl

theorem State.seal_off (s : State) (l : Nat) (q : Brick) (o : ObjChain) (f : Fill) :
    ∃ v, (s.seal l q o f).offSignals = (s.modLane l (·.sealed q o f v)).offSignals := by
  rw [State.seal, State.requestSeal, State.askSeal]
  split
  · exact ⟨false, (State.offSignals_turnNow _).trans ((State.offSignals_queueJob ..).trans (congrArg _ (State.modLane_modLane ..)))⟩
  · exact ⟨true, (State.offSignals_turnNow _).trans (congrArg _ (State.modLane_modLane ..))⟩

/-- A close of the whole filling brick: the brick that is sealed, and an empty filling buffer (R37). -/
theorem State.closeBrick_off {s : State} {l : Nat} {o : ObjChain} (ho : (s.lane l).obj = some o) (reason : Nat) (last : Bool) :
    ∃ (q : Brick) (f : Fill) (v : Bool), (s.closeBrick l reason last (s.lane l).fill.payload.length).offSignals =
      (s.modLane l (·.sealed q (o.closed (s.lane l).fill.payload.length false) f v)).offSignals ∧
      q.payload = (s.lane l).fill.payload ∧ q.seq = o.nextSeq ∧ q.ctx = o.ctx ∧ q.last = last ∧ q.digest = none ∧ f.payload = [] := by
  rw [State.closeBrick, ho]
  simp only [List.take_length, List.drop_length, List.isEmpty_nil, if_true]
  exact (State.seal_off ..).elim fun v h => ⟨_, _, v, h, rfl, rfl, rfl, rfl, rfl, rfl⟩

theorem State.pumpOne_idle {s : State} {l : Nat} (hacts : (s.lane l).acts = []) (hfull : (s.lane l).full = false) (hdue : (s.lane l).fill.due = none) :
    s.pumpOne l = s := by
  simp only [State.pumpOne, hacts, hfull, hdue, Bool.false_eq_true, if_false, ite_self]

theorem State.pumpOne_blocked {s : State} {l : Nat} (h : s.canClose l = false) : s.pumpOne l = s :=
  if_pos (by rw [h]; rfl)

theorem iterate_fixed {α : Type} {f : α → α} {a : α} (h : f a = a) (n : Nat) : iterate f n a = a := by
  induction n with
  | zero => rfl
  | succ n ih => rw [iterate, h, ih]

theorem Option.not_isNone_isSome {α : Type} (x : Option α) : ¬ (x.isNone = true ∧ x.isSome = true) := by
  rw [Option.isNone_iff_eq_none, Option.isSome_iff_ne_none]
  exact fun h => h.2 h.1

/-- A lane whose next closure is none does not move (R38). -/
theorem State.pump_still {s : State} {l : Nat} (h : s.pumpOne l = s) : s.pump l = s := by
  rw [State.pump, iterate_fixed h]
  exact if_neg (Option.not_isNone_isSome _)

/-- Where nothing is due, nothing closes (R38). -/
theorem State.pump_idle {s : State} {l : Nat} (hacts : (s.lane l).acts = []) (hfull : (s.lane l).full = false) (hdue : (s.lane l).fill.due = none) :
    s.pump l = s := State.pump_still (State.pumpOne_idle hacts hfull hdue)

/-- A lane that is ready to close and whose brick is due closes it, and no second one (R13, R38). -/
theorem State.pump_due {s : State} {l r : Nat} {o : ObjChain} (hcan : s.canClose l = true) (hacts : (s.lane l).acts = [])
    (hfull : (s.lane l).full = false) (hdue : (s.lane l).fill.due = some r) (hne : (s.lane l).fill.payload ≠ [])
    (ho : (s.lane l).obj = some o) (hretry : (s.lane l).openRetry = false) :
    s.pump l = s.closeBrick l r false (s.lane l).fill.payload.length := by
  have hempty : (s.lane l).fill.payload.isEmpty = false := by
    cases hp : (s.lane l).fill.payload with
    | nil => exact absurd hp hne
    | cons => rfl
  have hone : s.pumpOne l = s.closeBrick l r false (s.lane l).fill.payload.length := by
    simp only [State.pumpOne, hcan, hfull, hacts, ho, hdue, hempty, Bool.not_true, Bool.false_eq_true, if_false, Option.isNone_some]
  obtain ⟨q, f, v, hoff, -⟩ := State.closeBrick_off ho r false
  have hlane := (State.lane_off hoff l).trans (State.lane_modLane_same ..)
  have hblocked : (s.closeBrick l r false (s.lane l).fill.payload.length).canClose l = false := by
    rw [State.canClose, hlane]
    rfl
  have hiter : iterate (·.pumpOne l) ((s.lane l).acts.length + 2) s = s.closeBrick l r false (s.lane l).fill.payload.length := by
    rw [hacts]
    change (s.pumpOne l).pumpOne l = _
    rw [hone, State.pumpOne_blocked hblocked]
  have hstill : (s.closeBrick l r false (s.lane l).fill.payload.length).retryOpen l = s.closeBrick l r false (s.lane l).fill.payload.length := by
    refine if_neg ?_
    rw [hlane]
    change ¬ ((s.lane l).openRetry = true)
    rw [hretry]
    decide
  rw [State.pump, hiter, hstill, ite_self]

/-! ### Admission (R61, R93) -/

/-- The lane with an admitted record in its filling buffer (R12). -/
def LaneSt.took (x : LaneSt) (f : Fill) (n : Nat) : LaneSt :=
  { x with fill := f, led := { x.led with accepted := x.led.accepted + BitVec.ofNat 64 n }, inflight := x.inflight + BitVec.ofNat 64 n }

theorem LaneSt.modNewest_fill {x : LaneSt} (h : x.nextFill = none) (g : Fill → Fill) : x.modNewest g = { x with fill := g x.fill } := by
  rw [LaneSt.modNewest]
  split
  next h2 => rw [h] at h2; cases h2
  next => rfl

/-- A record that fits into the brick without filling it is staged behind its payload; nothing closes (R12, R37). -/
theorem State.stage_fits {s : State} {l : Nat} {o : ObjChain} {r : Rec} (halign : (s.lane l).fill.align = 0) (hdue : (s.lane l).fill.due = none)
    (hacts : (s.lane l).acts = []) (hnext : (s.lane l).nextFill = none)
    (hroom : (s.lane l).fill.payload.length + r.bytes.length < (s.lane l).fill.capacity) :
    ∃ f : Fill, f.payload = (s.lane l).fill.payload ++ r.bytes ∧ ((s.stage l o r).lane l).offRisk = ((s.lane l).took f r.bytes.length).offRisk ∧
      (s.stage l o r).courses = s.courses ∧ (s.stage l o r).mem = s.mem := by
  have hwhole : (s.lane l).fill.whole o.sourceType = false := by rw [Fill.whole, halign]; rfl
  have haligns : (s.lane l).fill.aligns r = false := by rw [Fill.aligns, halign]; rfl
  have hnot : ∀ a b : State, (if (s.lane l).sealing.isNone = true ∧ (s.lane l).sealing.isSome = true then a else b) = b := fun a b =>
    if_neg (Option.not_isNone_isSome _)
  have hstage : s.stage l o r = ((s.taken l o r false).pump l).judgeInadequate.outageEnd := by
    simp only [State.stage, hwhole, haligns, Bool.false_and, Bool.false_eq_true, if_false, Bool.or_false, hnot]
  have htaken : ∃ f : Fill, f.payload = (s.lane l).fill.payload ++ r.bytes ∧ f.size = (s.lane l).fill.size ∧ f.due = none ∧
      (s.taken l o r false).lane l = (s.lane l).took f r.bytes.length := by
    refine ⟨(s.lane l).fill.append r s.time.now (s.lane l).led.accepted (decide (o.sourceType ≤ 6)) (s.holdup.inadequate.getLsbD 0), rfl, ?_, ?_, ?_⟩
    · rw [Fill.append]
      dsimp only
      split <;> rfl
    · rw [Fill.append]
      dsimp only
      split <;> exact hdue
    · rw [State.taken, State.lane_lineOf, State.lane_modLane_same]
      dsimp only
      rw [LaneSt.modNewest_fill hnext]
      rfl
  obtain ⟨f, hpay, hsize, hfdue, hlane⟩ := htaken
  have hidle : (s.taken l o r false).pump l = s.taken l o r false := by
    refine State.pump_idle ?_ ?_ ?_
    · rw [hlane]; exact hacts
    · rw [hlane, LaneSt.full]
      have : ¬ ((s.lane l).took f r.bytes.length).fill.capacity ≤ ((s.lane l).took f r.bytes.length).fill.payload.length := by
        change ¬ f.size - 576 ≤ f.payload.length
        rw [hsize, hpay, List.length_append]
        exact Nat.not_le.2 hroom
      rw [decide_eq_false this, Bool.and_false]
    · rw [hlane]; exact hfdue
  obtain ⟨hcourses, hmem, -⟩ := (s.taken l o r false).judgeInadequate_rest
  obtain ⟨ladder, hoff⟩ := (s.taken l o r false).judgeInadequate.outageEnd_off
  refine ⟨f, hpay, ?_, ?_, ?_⟩
  · rw [hstage, hidle, State.lane_off hoff l, ← hlane]
    exact State.judgeInadequate_lane ..
  · rw [hstage, hidle, State.courses_off hoff]
    exact hcourses
  · rw [hstage, hidle, State.mem_off hoff]
    exact hmem

/-- An INGEST with neither SKIP nor a length offers the record to admission (R93). -/
theorem State.ingestRecord_plain {s : State} {l c : Nat} {w : BitVec 256} (hing : (s.lane l).ingest = some c) (hword : (s.course c).word = some w)
    (hskip : wSkip w = false) (htotal : (s.course c).total = 0) (r : Rec) : s.ingestRecord l r =
      if (s.offer l r).2 = 0 then ((s.offer l r).1.ingestAdd l r.bytes.length, true) else ((s.offer l r).1, s.laneType l != 7) := by
  have hsk : s.ingestSkip l = none := by
    simp only [State.ingestSkip, hing, hword, hskip, Bool.false_eq_true, if_false]
  have hover : s.ingestOver l r.bytes.length = false := by
    simp only [State.ingestOver, hing, htotal, ne_eq, not_true_eq_false, decide_false, Bool.false_and]
  simp only [State.ingestRecord, hsk, hover, Bool.false_eq_true, if_false]

/-- An INGEST without a length counts what it has taken (R93). -/
theorem State.ingestAdd_open {s : State} {l c : Nat} (hing : (s.lane l).ingest = some c) (htotal : (s.course c).total = 0) (n : Nat) :
    s.ingestAdd l n = s.setCourse c { s.course c with done := (s.course c).done + n } := by
  have ht : ((s.modCourse c fun x => { x with done := x.done + n }).course c).total = 0 := by
    rw [State.modCourse_eq, State.course_setCourse_same]
    exact htotal
  simp only [State.ingestAdd, hing]
  exact if_neg fun h => h.1 ht

/-! ### RTP packets (R33) -/

theorem State.putReady_idle {s : State} {l : Nat} (hing : (s.lane l).ingest = none) (rs : List Rec) :
    s.putReady l rs = s.modLane l fun x => { x with ready := x.ready ++ rs } := by
  rw [State.putReady]
  generalize ht : (s.modLane l fun x => { x with ready := x.ready ++ rs }) = t
  have hno : (t.lane l).ingest = none := by
    rw [← ht, State.lane_modLane_same]
    exact hing
  rw [State.releaseReady]
  simp only [hno, Option.isSome_none, Bool.false_eq_true, if_false]
  split <;> rfl

theorem State.putReady_nil {s : State} {l : Nat} (h : (s.lane l).ready = []) : s.putReady l [] = s.modLane l fun x => x := by
  have hsame : (s.modLane l fun x => { x with ready := x.ready ++ [] }) = s.modLane l fun x => x := by
    simp only [List.append_nil]
  rw [State.putReady, hsame]
  refine State.releaseReady_none ?_ _ _
  rw [State.lane_modLane_same]
  exact h

theorem State.modLane_congr {s : State} {l : Nat} {f g : LaneSt → LaneSt} (h : f (s.lane l) = g (s.lane l)) : s.modLane l f = s.modLane l g :=
  congrArg (s.setLane l) h

/-- A packet that its window holds changes the window alone (R33). -/
theorem State.rtpTake_held {s : State} {l : Nat} {u : RingUnit} {win : Window} (hready : (s.lane l).ready = [])
    (h : ((s.lane l).window (rtpSsrc u.bytes)).take (s.laneType l) (s.laneCfg l 8) u s.tnow = (win, [], .none)) :
    s.rtpTake l u = s.modLane l fun y => { y with windows := y.windows.put (rtpSsrc u.bytes).toNat win } := by
  rw [LaneSt.window] at h
  rw [State.rtpTake, h]
  dsimp only
  rw [State.putReady_nil, State.modLane_modLane]
  rw [State.lane_modLane_same]
  exact hready

/-- A packet that its window discards as late is counted in the filling brick (R33). -/
theorem State.rtpTake_late {s : State} {l : Nat} {u : RingUnit} {win : Window} (hready : (s.lane l).ready = [])
    (hnext : (s.lane l).nextFill = none)
    (h : ((s.lane l).window (rtpSsrc u.bytes)).take (s.laneType l) (s.laneCfg l 8) u s.tnow = (win, [], .discarded)) :
    s.rtpTake l u = s.modLane l fun y => { y with
      windows := y.windows.put (rtpSsrc u.bytes).toNat win, fill := { y.fill with late := y.fill.late + 1 } } := by
  rw [LaneSt.window] at h
  rw [State.rtpTake, h]
  dsimp only
  rw [State.putReady_nil, State.modLane_modLane]
  · refine State.modLane_congr ?_
    rw [hnext]
    rfl
  · rw [State.lane_modLane_same]
    exact hready

theorem Window.take_held {w : Window} {next : W32} {u : RingUnit} {n : Nat} (hnext : w.next = some next)
    (h1 : 1 ≤ (rtpSeq u.bytes - next.setWidth 16).toNat) (hn : (rtpSeq u.bytes - next.setWidth 16).toNat ≤ n)
    (h3 : (rtpSeq u.bytes - next.setWidth 16).toNat ≤ 3000)
    (hnew : ∀ p ∈ w.held, p.seq ≠ next + BitVec.ofNat 32 (rtpSeq u.bytes - next.setWidth 16).toNat) (t : Nat) (now : BitVec 48) :
    w.take t n u now = ({ w with
      held := holdAt { seq := next + BitVec.ofNat 32 (rtpSeq u.bytes - next.setWidth 16).toNat, unit := u, since := now } w.held }, [], .none) := by
  have hany : (w.held.any fun p => p.seq == next + BitVec.ofNat 32 (rtpSeq u.bytes - next.setWidth 16).toNat) = false := by
    rw [List.any_eq_false]
    exact fun p hp => by simpa using hnew p hp
  have h0 : (rtpSeq u.bytes - next.setWidth 16).toNat ≠ 0 := by omega
  simp only [Window.take, hnext, if_pos h3, hany, Bool.false_eq_true, if_false, if_neg h0, if_pos hn]

theorem Window.take_late {w : Window} {next : W32} {u : RingUnit} {n : Nat} (hnext : w.next = some next)
    (h1 : 65436 ≤ (rtpSeq u.bytes - next.setWidth 16).toNat) (hn : n ≠ 0) (t : Nat) (now : BitVec 48) :
    w.take t n u now = (w, [], .discarded) := by
  have h3 : ¬ (rtpSeq u.bytes - next.setWidth 16).toNat ≤ 3000 := by omega
  simp only [Window.take, hnext, if_neg h3, if_pos h1, if_neg hn]

/-- The next packet of a lane of type 01h to 03h with no record waiting: refused where it is no RTP packet, else treated by its window
(R33, R93). -/
theorem State.takeUnit_rtp {s : State} {l c : Nat} {u : RingUnit} {rest : List RingUnit} (hring : (s.lane l).ring = u :: rest)
    (hing : (s.lane l).ingest = some c) (hready : (s.lane l).ready = []) (hty : s.laneType l = 1 ∨ s.laneType l = 2 ∨ s.laneType l = 3) :
    s.takeUnit l = if !rtpOk u.bytes then (s.modLane l fun y => { y with ring := rest }).addRefused l (paddedLen u.bytes.length)
      else if (s.bind.lookup u.key).isSome then (s.modLane l fun y => { y with ring := rest }).rtpTake l u
      else if s.learner u.key ≠ some l then (s.modLane l fun y => { y with ring := rest }).discard (keyFunc u.key) u.bytes.length
      else
        let r := (s.modLane l fun y => { y with ring := rest }).learn l u.key
        if r.2 then r.1.rtpTake l u else r.1.addRefused l (paddedLen u.bytes.length) := by
  obtain h | h | h := hty <;>
    simp only [State.takeUnit, hring, hing, h, hready, List.isEmpty_nil, Bool.not_true, Bool.false_eq_true, if_false]

theorem contains_rtpType {n : Nat} (h : n = 1 ∨ n = 2 ∨ n = 3) : [1, 2, 3].contains n = true := by
  obtain rfl | rfl | rfl := h <;> rfl

/-- The one held packet of a window put into the order with the missing numbers before it as source gaps (R33). -/
theorem Window.release_one {w : Window} {next : W32} {h : HeldPkt} (hheld : w.held = [h]) (hnext : w.next = some next) (t : Nat) :
    ∃ (win : Window) (p : Rec), w.release t true w.held = (win, [p]) ∧ p.gaps = (h.seq - next).toNat ∧ win.held = [] ∧ win.next = some (h.seq + 1) := by
  rw [hheld, Window.release, hnext]
  exact ⟨_, _, rfl, rfl, rfl, rfl⟩

/-! ### The brick of age (R37) -/

/-- What follows a lane's move while no last course runs and no course is under way: nothing but the end of the records' list (R71, R105). -/
theorem State.laneMoved_quiet {s : State} {l : Nat} (hlast : s.holdup.lastCourse = false) (hheld : s.courses.held = [])
    (hing : (s.lane l).ingest = none) : s.laneMoved l = s.modLane l fun x => { x with doneRecords := [] } := by
  have hstep : s.lcStep = s := if_pos (by rw [hlast]; rfl)
  rw [State.laneMoved, hstep, State.wake, hheld]
  change (s.modLane l fun x => { x with doneRecords := [] }).laneHod l = _
  generalize ht : (s.modLane l fun x => { x with doneRecords := [] }) = t
  have hno : (t.lane l).ingest = none := by
    rw [← ht, State.lane_modLane_same]
    exact hing
  rw [State.laneHod, hno]
  split <;> simp_all

/-- The next frame of a lane of type 05h (R35, R93). -/
theorem State.takeUnit_frame {s : State} {l c : Nat} {u : RingUnit} {rest : List RingUnit} (hty : s.laneType l = 5)
    (hring : (s.lane l).ring = u :: rest) (hing : (s.lane l).ingest = some c) {t : State}
    (h : s.ingestRecord l (frameRecord u (s.lane l).gapNext) = (t, true)) :
    s.takeUnit l = t.modLane l fun y => { y with ring := y.ring.drop 1, gapNext := false } := by
  simp only [State.takeUnit, hring, hing, hty, h, if_true]

/-- A record over the lane's share is refused whole and counted; nothing is staged (R61). -/
theorem State.offer_over {s : State} {l : Nat} {o : ObjChain} {r : Rec} (hdecl : s.holdup.declared = false) (hclosed : s.holdup.closed = false)
    (hacts : (s.lane l).acts = []) (ho : (s.lane l).obj = some o) (hty : o.sourceType ≠ 7) (hpay : (s.lane l).fill.payload = [])
    (hover : (s.lane l).share.toNat < (s.lane l).inflight.toNat + r.bytes.length) :
    s.offer l r = (s.addRefused l r.bytes.length, 0x0401) := by
  have hrefuse : s.refuse l r.bytes.length = s.addRefused l r.bytes.length := by
    simp only [State.refuse, ho, beq_eq_false_iff_ne.2 hty, Bool.false_eq_true, if_false]
  simp only [State.offer, hdecl, hclosed, hacts, ho, hpay, if_pos hover, hrefuse, List.isEmpty_nil, Bool.not_true, Bool.false_and,
    Bool.false_eq_true, if_false]

/-- A record within the share that the brick has room for is staged (R61). -/
theorem State.offer_fits {s : State} {l : Nat} {o : ObjChain} {r : Rec} (hdecl : s.holdup.declared = false) (hclosed : s.holdup.closed = false)
    (hacts : (s.lane l).acts = []) (ho : (s.lane l).obj = some o) (hrec : (s.lane l).openRec = none)
    (hshare : (s.lane l).inflight.toNat + r.bytes.length ≤ (s.lane l).share.toNat)
    (hroom : (s.lane l).fill.payload.length + r.bytes.length < (s.lane l).fill.capacity) :
    s.offer l r = (s.stage l o r, 0) := by
  have h1 : ¬ (s.lane l).share.toNat < (s.lane l).inflight.toNat + r.bytes.length := by omega
  have h2 : decide ((s.lane l).fill.capacity ≤ (s.lane l).fill.payload.length) = false := decide_eq_false (by omega)
  have h3 : decide ((s.lane l).fill.capacity < (s.lane l).fill.payload.length + r.bytes.length) = false := decide_eq_false (by omega)
  simp only [State.offer, hdecl, hclosed, hacts, ho, hrec, gt_iff_lt, if_neg h1, h2, h3, List.isEmpty_nil, Bool.not_true, Bool.false_and,
    Option.isSome_none, Bool.or_self, Bool.false_eq_true, if_false]

/-- Settles O48: arrivals by the branches of `State.unitArrives`, records through `State.offer_fits` and `State.offer_over`, RTP packets
through their window, the brick of age through `State.pump_due`. -/
theorem laneArrivals : Obligations.LaneArrivals := by
  unfold Obligations.LaneArrivals
  intro l key b u rest c o ssrc next h w s y r n f d win
  refine ⟨?unbound, ?closed, ?ringed, ?frame, ?rtp, ?timeout, ?age⟩
  case unbound =>
    intro hfor
    change Host.Outcome.next (s.unitArrives key b false) = _
    rw [State.unitArrives, hfor]
  case closed =>
    intro hfor hact
    change Host.Outcome.next (s.unitArrives key b false) = _
    simp only [State.unitArrives, hfor]
    exact congrArg _ (if_pos (by rw [show (s.lane l).active = false from hact]; rfl))
  case ringed =>
    intro hfor hact hdecl
    have hact' : (!(s.lane l).active) = false := by rw [show (s.lane l).active = true from hact]; rfl
    refine ⟨fun hing => ?_, ?_⟩
    · change Host.Outcome.next (s.unitArrives key b false) = _
      simp only [State.unitArrives, hfor, hact', hdecl, Bool.false_eq_true, if_false]
      refine congrArg _ ?_
      generalize ht : (s.modLane l fun x => { x with ring := x.ring ++ [{ bytes := b, key := key, time := s.time.now }] }) = t
      have hno : (t.lane l).ingest = none := by
        rw [← ht, State.lane_modLane_same]
        exact hing
      rw [State.laneHod, hno]
      split <;> simp_all
    · change Host.Outcome.next (s.unitArrives key b true) = _
      simp only [State.unitArrives, hfor, hact', hdecl, Bool.false_eq_true, if_false, if_true]
  case frame =>
    intro hty hring hing hword hskip htotal hdecl hclosed ho hacts hrec hnext
    have hplain := State.ingestRecord_plain hing hword hskip htotal r
    refine ⟨fun hshare halign hdue hroom => ?_, fun hover hpay hty7 => ?_⟩
    · obtain ⟨g, hgpay, hlane, hcourses, hmem⟩ := State.stage_fits (s := s) (o := o) (r := r) halign hdue hacts hnext hroom
      rw [State.offer_fits hdecl hclosed hacts ho hrec hshare hroom] at hplain
      generalize s.stage l o r = t at hplain hlane hcourses hmem
      have hcourse : ∀ k, t.course k = s.course k := fun k => congrArg (fun z : CourseStore => z.held.look {} k) hcourses
      have hing' : (t.lane l).ingest = some c := (congrArg LaneSt.ingest hlane :).trans hing
      rw [if_pos rfl, State.ingestAdd_open hing' ((congrArg Course.total (hcourse c)).trans htotal)] at hplain
      refine ⟨_, congrArg Host.Outcome.next (State.takeUnit_frame hty hring hing hplain), ?_, ?_, ?_, ?_, ?_, ?_, hmem⟩
      · rw [State.lane_modLane_same, State.lane_setCourse]
        exact (congrArg (fun z : LaneSt => z.ring.drop 1) hlane :).trans (congrArg (List.drop 1) hring)
      · rw [State.lane_modLane_same, State.lane_setCourse]
        exact (congrArg (fun z : LaneSt => z.fill.payload) hlane :).trans hgpay
      · rw [State.lane_modLane_same, State.lane_setCourse]
        exact (congrArg (fun z : LaneSt => z.led.accepted) hlane :)
      · rw [State.lane_modLane_same, State.lane_setCourse]
        exact (congrArg LaneSt.inflight hlane :)
      · rw [State.lane_modLane_same, State.lane_setCourse]
        exact (congrArg (fun z : LaneSt => z.led.refused) hlane :)
      · refine (congrArg Course.done (State.course_setCourse_same ..) :).trans ?_
        rw [hcourse]
    · have hne : (s.laneType l != 7) = true := by rw [hty]; rfl
      rw [State.offer_over hdecl hclosed hacts ho hty7 hpay hover, if_neg (show (0x0401 : Status) ≠ 0 by decide), hne] at hplain
      have hlane : (s.addRefused l n).lane l = { s.lane l with
          led := { (s.lane l).led with refused := (s.lane l).led.refused + BitVec.ofNat 64 n }
          refusedSince := satAdd (s.lane l).refusedSince n } := by
        rw [State.addRefused, State.lane_lineOf, State.lane_modLane_same]
      refine ⟨_, congrArg Host.Outcome.next (State.takeUnit_frame hty hring hing hplain), ?_, ?_, ?_, ?_, ?_, rfl⟩
      · rw [State.lane_modLane_same]
        exact (congrArg (fun z : LaneSt => z.ring.drop 1) hlane :).trans (congrArg (List.drop 1) hring)
      · rw [State.lane_modLane_same]
        exact (congrArg (fun z : LaneSt => z.fill.payload) hlane :).trans hpay
      · rw [State.lane_modLane_same]
        exact (congrArg (fun z : LaneSt => z.led.refused) hlane :)
      · rw [State.lane_modLane_same]
        exact (congrArg (fun z : LaneSt => z.led.accepted) hlane :)
      · rw [State.lane_modLane_same]
        exact (congrArg LaneSt.inflight hlane :)
  case rtp =>
    intro hty hring hing hready
    have htake := State.takeUnit_rtp hring hing hready hty
    have hexec : exec (.rtpPacketReceived l) s = .next (s.takeUnit l) := congrArg Host.Outcome.next (if_pos (contains_rtpType hty))
    refine ⟨fun hok => ?_, fun hok hbound hnext => ⟨fun h1 hn h3 hnew => ?_, fun h1 hn hnf => ?_⟩⟩
    · rw [hexec, htake, if_pos (by rw [hok]; rfl)]
    · rw [hexec, htake, if_neg (by rw [hok]; decide), if_pos hbound, State.rtpTake_held (win := { win with
        held := holdAt { seq := next + BitVec.ofNat 32 d, unit := u, since := s.tnow } win.held })]
      · rw [State.modLane_modLane]
      · rw [State.lane_modLane_same]; exact hready
      · rw [State.lane_modLane_same]
        exact Window.take_held hnext h1 hn h3 hnew _ _
    · rw [hexec, htake, if_neg (by rw [hok]; decide), if_pos hbound, State.rtpTake_late (win := win)]
      · rw [State.modLane_modLane]
      · rw [State.lane_modLane_same]; exact hready
      · rw [State.lane_modLane_same]; exact hnf
      · rw [State.lane_modLane_same]
        exact Window.take_late hnext h1 hn _ _
  case timeout =>
    intro hheld hnext hing
    obtain ⟨win', p, hrel, hgaps, hempty, hafter⟩ := Window.release_one hheld hnext (s.laneType l)
    have hne : ((s.lane l).window ssrc).held.isEmpty = false := by rw [hheld]; rfl
    have hing' : ((s.modLane l fun x => { x with windows := x.windows.put ssrc.toNat win' }).lane l).ingest = none := by
      rw [State.lane_modLane_same]
      exact hing
    have hexec : exec (.reorderTimeout l ssrc) s = .next (s.modLane l fun x => { x with
        windows := x.windows.put ssrc.toNat win', ready := x.ready ++ [p] }) := by
      change Host.Outcome.next _ = _
      have hrel' : ((s.lane l).window ssrc).release (s.laneType l) true ((s.lane l).window ssrc).held = (win', [p]) := hrel
      rw [hne, hrel', if_neg (by decide), State.putReady_idle hing', State.modLane_modLane]
    refine ⟨_, hexec, p, ?_, hgaps, ?_, ?_, rfl⟩
    · rw [State.lane_modLane_same]
    · rw [State.lane_modLane_same]
      exact (congrArg Window.held (Tab.look_put_same ..) :).trans hempty
    · rw [State.lane_modLane_same]
      exact (congrArg Window.next (Tab.look_put_same ..) :).trans hafter
  case age =>
    intro hnf hne hroom hcan ho hacts hretry hing hheld hlast
    have hnewest : (s.lane l).newest.payload.isEmpty = false := by
      rw [LaneSt.newest, show (s.lane l).nextFill = none from hnf]
      cases hp : (s.lane l).fill.payload with
      | nil => exact absurd hp hne
      | cons => simp [hp]
    have hmod : (s.modLane l fun x => x.modNewest fun f => { f with due := some 3 }) =
        s.modLane l fun x => { x with fill := { x.fill with due := some 3 } } := State.modLane_congr (LaneSt.modNewest_fill hnf _)
    have hexec : exec (.brickAgeExpiry l) s =
        .next ((((s.modLane l fun x => { x with fill := { x.fill with due := some 3 } }).pump l).judgeInadequate).laneMoved l) := by
      change Host.Outcome.next _ = _
      rw [hnewest, hmod]
      exact congrArg _ (if_neg (by decide))
    generalize ha : (s.modLane l fun x => { x with fill := { x.fill with due := some 3 } }) = a at hexec
    have hlane : a.lane l = { s.lane l with fill := { (s.lane l).fill with due := some 3 } } := by rw [← ha, State.lane_modLane_same]
    have hfull : (a.lane l).full = false := by
      rw [hlane, LaneSt.full]
      have : ¬ (s.lane l).fill.capacity ≤ (s.lane l).fill.payload.length := Nat.not_le.2 hroom
      exact Bool.and_eq_false_iff.2 (.inr (decide_eq_false this))
    have hcan' : a.canClose l = true := by
      rw [State.canClose, hlane, ← ha]
      exact hcan
    have hoa : (a.lane l).obj = some o := by rw [hlane]; exact ho
    have hpump := State.pump_due (r := 3) hcan' (by rw [hlane]; exact hacts) hfull (by rw [hlane]) (by rw [hlane]; exact hne) hoa
      (by rw [hlane]; exact hretry)
    obtain ⟨q, g, v, hoff, hqpay, hqseq, hqctx, hqlast, hqdig, hgpay⟩ := State.closeBrick_off hoa 3 false
    rw [hpump] at hexec
    generalize a.closeBrick l 3 false (a.lane l).fill.payload.length = e at hexec hoff
    obtain ⟨hcourses, hmem, hlc, -⟩ := e.judgeInadequate_rest
    have hjl := e.judgeInadequate_lane l
    rw [State.lane_off hoff l, State.lane_modLane_same, hlane] at hjl
    rw [hlane] at hqpay
    generalize hj : e.judgeInadequate = j at hexec hcourses hmem hlc hjl
    have hjing : (j.lane l).ingest = none := (congrArg LaneSt.ingest hjl :).trans hing
    have hquiet : j.laneMoved l = j.modLane l fun x => { x with doneRecords := [] } := by
      refine State.laneMoved_quiet ?_ ?_ hjing
      · rw [hlc, State.holdup_off hoff, ← ha]
        exact hlast
      · rw [hcourses, State.courses_off hoff, ← ha]
        exact hheld
    rw [hquiet] at hexec
    refine ⟨_, hexec, q, ?_, hqpay, hqseq, hqctx, hqlast, hqdig, ?_, ?_, ?_, ?_⟩
    · rw [State.lane_modLane_same]
      exact (congrArg LaneSt.sealing hjl :)
    · rw [State.lane_modLane_same]
      exact (congrArg (fun z : LaneSt => z.fill.payload) hjl :).trans hgpay
    · rw [State.lane_modLane_same]
      exact (congrArg LaneSt.writing hjl :)
    · rw [State.lane_modLane_same]
      exact (congrArg (fun z : LaneSt => z.obj.map (·.nextSeq)) hjl :)
    · change j.mem = s.mem
      rw [hmem, State.mem_off hoff, ← ha]
      rfl

end Sys2Proof.Machine

namespace Sys2Proof.Machine

/-! ### What the writes of a lane leave as it was (R48, R119, R126, R429) -/

/-- A lane apart from its ledger, its marks of risk, the records being written, the jobs it holds, and the issue of its writes. -/
def LaneSt.core (x : LaneSt) : LaneSt :=
  { x with
    led := {}, fill := { x.fill with atRisk := false }, nextFill := none, recWrites := [], razeReady := [], doneRecords := []
    sealHeld := false, signHeld := false, tailWait := false, writing := x.writing.map fun b => { b with issued := false, placed := [] } }

/-- The state apart from signals, the members' media, the context store, the journal and the other lanes. -/
def State.core (s : State) (l : Nat) : State :=
  { s.offSignals with
    wythes := { s.wythes with issued := [], member := [] }, ctx := {}, journal := {}, lanes := [(l, (s.lane l).core)] }

theorem State.lane_core (s : State) (l : Nat) : (s.core l).lane l = (s.lane l).core := by
  simp [State.core, State.lane, State.offSignals, Tab.look]

section
variable {s t : State} {l : Nat}

theorem State.core_of_off (h : t.offSignals = s.offSignals) : t.core l = s.core l := (congrArg (fun u : State => u.core l) h :)

theorem State.lane_of_core (h : t.core l = s.core l) : (t.lane l).core = (s.lane l).core := by
  rw [← State.lane_core, h, State.lane_core]

theorem State.mem_of_core (h : t.core l = s.core l) : t.mem = s.mem := (congrArg State.mem h :)
theorem State.courses_of_core (h : t.core l = s.core l) : t.courses = s.courses := (congrArg State.courses h :)
theorem State.holdup_of_core (h : t.core l = s.core l) : t.holdup = s.holdup := (congrArg State.holdup h :)

/-- A change of a lane that its core does not show changes no core. -/
theorem State.core_modLane {e : Nat} {f : LaneSt → LaneSt} (h : ∀ x, (f x).core = x.core) : (s.modLane e f).core l = s.core l := by
  have hlane : ((s.modLane e f).lane l).core = (s.lane l).core := by
    by_cases he : l = e
    · rw [he, State.lane_modLane_same, h]
    · rw [State.lane_modLane_other s he]
  change ({ s.core l with lanes := [(l, ((s.modLane e f).lane l).core)] } : State) = s.core l
  rw [hlane]
  rfl

end

theorem State.core_lineOf (s : State) (e l : Nat) : (s.lineOf e).core l = s.core l := rfl
theorem State.core_offImages (s : State) (l : Nat) : s.offImages.core l = s.core l := rfl
theorem State.core_numbered (s : State) (c l : Nat) : (s.numbered c).core l = s.core l := rfl
theorem State.core_issueRecord (s : State) (m : Nat) (mono : W64) (l : Nat) : (s.issueRecord m mono).core l = s.core l := rfl

/-! Signals and jobs -/

theorem State.core_askSeal (s : State) (e l : Nat) : (s.askSeal e).core l = s.core l := by
  rw [State.askSeal]
  split
  · exact (State.core_of_off (State.offSignals_queueJob ..)).trans (State.core_modLane fun _ => rfl)
  · exact State.core_modLane fun _ => rfl

theorem State.core_askSign (s : State) (e l : Nat) : (s.askSign e).core l = s.core l := by
  rw [State.askSign]
  split
  · exact (State.core_of_off (State.offSignals_queueJob ..)).trans (State.core_modLane fun _ => rfl)
  · exact State.core_modLane fun _ => rfl

theorem State.core_retryHeld (s : State) (l : Nat) : s.retryHeld.core l = s.core l := by
  rw [State.retryHeld]
  refine (State.core_of_off (State.offSignals_turnNow _)).trans ?_
  refine (foldl_keeps (fun u : State => u.core l) _ (fun t e => ?_) _ _).trans
    (foldl_keeps (fun u : State => u.core l) _ (fun t e => ?_) _ _)
  · split
    · exact ite_keeps (fun u : State => u.core l) (State.core_of_off (State.offSignals_queueJob ..))
    · rfl
  · exact (ite_keeps (fun u : State => u.core l) (State.core_askSign ..)).trans
      (ite_keeps (fun u : State => u.core l) (State.core_askSeal ..))

/-! The media and the context store -/

theorem State.core_modMember (s : State) (m : Nat) (f : MemberSt → MemberSt) (l : Nat) : (s.modMember m f).core l = s.core l := rfl
theorem State.core_ssd (s : State) (m : Nat) (c : SsdCmd) (l : Nat) : (s.ssd m c).core l = s.core l := rfl
theorem State.core_ssdWrite (s : State) (m z a : Nat) (b : Bytes) (l : Nat) : (s.ssdWrite m z a b).core l = s.core l := rfl

theorem State.core_finish (s : State) (m n l : Nat) : (s.finish m n).core l = s.core l := by
  rw [State.finish]
  split <;> rfl

theorem State.core_resetZone (s : State) (m n l : Nat) : (s.resetZone m n).core l = s.core l := by
  rw [State.resetZone]
  split <;> rfl

theorem State.core_resetRazed (s : State) (m l : Nat) : (s.resetRazed m).core l = s.core l := by
  rw [State.resetRazed]
  split
  · rfl
  · exact (State.core_modMember ..).trans (foldl_keeps (fun u : State => u.core l) _ (fun t d => t.core_resetZone ..) _ _)

theorem State.core_image (s : State) (c l : Nat) : (s.image c).core l = s.core l := by
  by_cases h : c = 0
  · rw [h, State.image_zero]
  · rw [← State.core_offImages, s.offImages_image h, State.core_offImages, State.core_numbered]

theorem State.core_modCtx (s : State) (c : Nat) (f : CtxRec → CtxRec) (l : Nat) : (s.modCtx c f).core l = s.core l := rfl

theorem State.core_takeFree {s t : State} {r : CtxRec} {c : Nat} (h : s.takeFree r = some (c, t)) (l : Nat) : t.core l = s.core l := by
  rw [State.takeFree] at h
  split at h
  · cases h
  · cases h; rfl

theorem State.core_newExt {s t : State} {c : Nat} {es : List LocEntry} (h : s.newExt c es = some t) (l : Nat) : t.core l = s.core l := by
  rw [State.newExt] at h
  dsimp only at h
  split at h
  · cases h
  next n u hu =>
    cases h
    refine Eq.trans ?_ (State.core_takeFree hu l)
    split
    · exact (State.core_image ..).trans ((State.core_modCtx ..).trans (State.core_image ..))
    · exact (State.core_image ..).trans ((State.core_modCtx ..).trans (State.core_image ..))

theorem State.core_addLoc {s t : State} {c n : Nat} {e : LocEntry} (h : s.addLoc c e n = some t) (l : Nat) : t.core l = s.core l := by
  rw [State.addLoc] at h
  split at h
  · split at h
    · cases h
      exact (State.core_image ..).trans (State.core_modCtx ..)
    · exact State.core_newExt h l
  · exact State.core_newExt h l

theorem State.core_addLocs {s t : State} {c : Nat} {es : List LocEntry} (h : s.addLocs c es = some t) (l : Nat) : t.core l = s.core l := by
  have hfold : ∀ (es : List LocEntry) (a : Option State), (∀ u, a = some u → u.core l = s.core l) → ∀ u,
      es.foldl (fun a e => match a with | none => none | some t => t.addLoc c e (s.extHeld c)) a = some u → u.core l = s.core l := by
    intro es
    induction es with
    | nil => exact fun a ha u hu => ha u hu
    | cons e es ih =>
      refine fun a ha u hu => ih _ (fun v hv => ?_) u hu
      cases a with
      | none => cases hv
      | some b => exact (State.core_addLoc hv l).trans (ha b rfl)
  exact hfold es (some s) (fun u hu => by cases hu; rfl) t h

theorem State.core_placeExtent (s : State) (e : Nat) (b : Brick) (l : Nat) : (s.placeExtent e b).1.core l = s.core l := by
  refine foldl_keeps (fun a : State × Bool × Bool => a.1.core l) _ (fun a m => ?_) _ _
  dsimp only
  split
  · split
    · rfl
    · split
      · exact (State.core_resetRazed ..).trans ((State.core_modMember ..).trans (State.core_finish ..))
      · rfl
  · split <;> rfl

theorem State.core_queueTails (s : State) (e k : Nat) (ms : List Nat) (l : Nat) : (s.queueTails e k ms).core l = s.core l := by
  rw [State.queueTails]
  exact (State.core_lineOf ..).trans (State.core_modLane fun _ => rfl)

theorem LaneSt.core_mapWriting (x : LaneSt) (f : Brick → Brick) (h : ∀ b, { f b with issued := false, placed := [] } = { b with issued := false, placed := [] }) :
    ({ x with writing := x.writing.map f } : LaneSt).core = x.core := by
  simp only [LaneSt.core, Option.map_map]
  congr 1
  exact congrArg (fun g => x.writing.map g) (funext h)

theorem State.core_writeBrick (s : State) (e : Nat) (b : Brick) (w l : Nat) : (s.writeBrick e b w).core l = s.core l := by
  rw [State.writeBrick]
  refine (State.core_modLane fun x => LaneSt.core_mapWriting x (fun v => { v with placed := v.placed ++ [(w, ((s.member (s.brickMember w e b.seq.toNat)).stream.look { zone := 0, next := 0 }
    (s.streamOf e b.ctx)).next)] }) fun _ => rfl).trans ?_
  exact (State.core_modMember ..).trans (State.core_ssdWrite ..)

/-- The issue of a brick's writes changes no more of its lane than the brick's marks and the lane's tails (R48, R119, R429). -/
theorem State.core_issueBrick (s : State) (e l : Nat) : (s.issueBrick e).core l = s.core l := by
  rw [State.issueBrick]
  split
  · rfl
  · split
    · rfl
    · dsimp only
      split
      · exact (State.core_queueTails ..).trans (State.core_placeExtent ..)
      · split
        · exact State.core_placeExtent ..
        · split
          · exact (State.core_of_off (State.offSignals_raise ..)).trans (State.core_placeExtent ..)
          next t ht =>
            refine (State.core_modLane fun x => LaneSt.core_mapWriting x (fun v => { v with issued := true }) fun _ => rfl).trans ?_
            refine (foldl_keeps (fun u : State => u.core l) _ (fun t w => t.core_writeBrick ..) _ _).trans ?_
            exact (State.core_addLocs ht l).trans (State.core_placeExtent ..)

/-! The writes of records -/

theorem State.core_writeLabel (s : State) (m l : Nat) : (s.writeLabel m).core l = s.core l := by
  rw [State.writeLabel]
  refine (State.core_ssdWrite ..).trans ?_
  split
  · rfl
  · exact (State.core_modMember ..).trans (s.core_resetZone ..)

theorem State.core_copingRoom {s t : State} {m : Nat} (h : s.copingRoom m = some t) (l : Nat) : t.core l = s.core l := by
  rw [State.copingRoom] at h
  split at h
  · cases h; rfl
  · rw [State.nextCoping] at h
    dsimp only at h
    split at h
    · cases h
    · cases h
      refine (State.core_writeLabel ..).trans ((State.core_modMember ..).trans ?_)
      split
      · exact State.core_finish ..
      · rfl

theorem State.core_writeRecord (s : State) (m : Nat) (mono : W64) (b : Bytes) (l : Nat) : (s.writeRecord m mono b).core l = s.core l := by
  rw [State.writeRecord]
  exact (State.core_issueRecord ..).trans (State.core_ssdWrite ..)

theorem State.core_issueRecords (s : State) (seq : Nat) (mono : W64) (bytes : Bytes) (l : Nat) : (s.issueRecords seq mono bytes).1.core l = s.core l := by
  unfold State.issueRecords
  extract_lets ms r
  have hroom : r.1.core l = s.core l := by
    refine foldl_keeps (fun a : State × Bool => a.1.core l) _ (fun a m => ?_) _ _
    split
    next h => exact State.core_copingRoom h l
    · exact State.core_of_off (State.offSignals_raise ..)
  clear_value r
  split
  · exact (foldl_keeps (fun u : State => u.core l) (fun t m => t.writeRecord m mono bytes) (fun t m => t.core_writeRecord m mono bytes l) _ _).trans hroom
  · exact hroom

theorem State.core_issueRecordsOf (s : State) (e l : Nat) : (s.issueRecordsOf e).core l = s.core l := by
  refine foldl_keeps (fun u : State => u.core l) _ (fun t w => ?_) _ _
  have hr := t.core_issueRecords w.seq.toNat w.mono w.bytes l
  generalize t.issueRecords w.seq.toNat w.mono w.bytes = r at hr
  dsimp only
  split
  · rfl
  · split
    · refine (State.core_modLane fun x => ?_).trans hr
      rfl
    · exact hr

theorem State.core_recordsDone (s : State) (e l : Nat) : (s.recordsDone e).core l = s.core l := by
  refine foldl_keeps (fun u : State => u.core l) _ (fun t w => ?_) _ _
  refine ite_keeps (fun u : State => u.core l) ?_
  rw [State.recordDone]
  exact (State.core_lineOf ..).trans (State.core_modLane fun _ => rfl)

end Sys2Proof.Machine

namespace Sys2Proof.Machine

/-! ### A lane with nothing else to do -/

/-- No course is under way, no last course runs, nothing is owed or filling, no INGEST runs: nothing follows a lane's move. -/
structure State.Quiet (s : State) (l : Nat) : Prop where
  held : s.courses.held = []
  acts : (s.lane l).acts = []
  payload : (s.lane l).fill.payload = []
  size : 576 < (s.lane l).fill.size
  ingest : (s.lane l).ingest = none
  last : s.holdup.lastCourse = false

section
variable {s t : State} {l : Nat}

theorem State.Quiet.of_core (q : s.Quiet l) (h : t.core l = s.core l) : t.Quiet l := by
  have hl := State.lane_of_core h
  obtain ⟨held, acts, payload, size, ingest, last⟩ := q
  refine ⟨?_, ?_, ?_, ?_, ?_, ?_⟩
  · rw [State.courses_of_core h]; exact held
  · exact (congrArg LaneSt.acts hl :).trans acts
  · exact (congrArg (fun x : LaneSt => x.fill.payload) hl :).trans payload
  · exact Nat.lt_of_lt_of_eq size (congrArg (fun x : LaneSt => x.fill.size) hl :).symm
  · exact (congrArg LaneSt.ingest hl :).trans ingest
  · rw [State.holdup_of_core h]; exact last

/-- A change of the lane that leaves what it fills, owes and ingests leaves it quiet. -/
theorem State.Quiet.modLane (q : s.Quiet l) {f : LaneSt → LaneSt} (hacts : (f (s.lane l)).acts = (s.lane l).acts)
    (hfill : (f (s.lane l)).fill = (s.lane l).fill) (hing : (f (s.lane l)).ingest = (s.lane l).ingest) : (s.modLane l f).Quiet l := by
  obtain ⟨held, acts, payload, size, ingest, last⟩ := q
  have hl := s.lane_modLane_same l f
  refine ⟨held, ?_, ?_, ?_, ?_, last⟩
  · rw [hl, hacts, acts]
  · rw [hl, hfill, payload]
  · rw [hl, hfill]; exact size
  · rw [hl, hing, ingest]

theorem State.Quiet.pump (q : s.Quiet l) : s.pump l = s := by
  refine State.pump_still ?_
  have hfull : (s.lane l).full = false := by
    have : ¬ (s.lane l).fill.capacity ≤ 0 := Nat.not_le.2 (Nat.sub_pos_of_lt q.size)
    rw [LaneSt.full, q.payload, List.length_nil, decide_eq_false this, Bool.and_false]
  simp only [State.pumpOne, hfull, q.acts, q.payload, List.isEmpty_nil, Bool.false_eq_true, if_false, if_true]
  split
  · rfl
  · split
    · rfl
    · split <;> rfl

theorem State.Quiet.judge (q : s.Quiet l) : s.judgeInadequate.Quiet l := by
  have hl := s.judgeInadequate_lane l
  obtain ⟨hcourses, -, hlast, -⟩ := s.judgeInadequate_rest
  obtain ⟨held, acts, payload, size, ingest, last⟩ := q
  refine ⟨?_, ?_, ?_, ?_, ?_, ?_⟩
  · rw [hcourses]; exact held
  · exact (congrArg LaneSt.acts hl :).trans acts
  · exact (congrArg (fun x : LaneSt => x.fill.payload) hl :).trans payload
  · exact Nat.lt_of_lt_of_eq size (congrArg (fun x : LaneSt => x.fill.size) hl :).symm
  · exact (congrArg LaneSt.ingest hl :).trans ingest
  · rw [hlast]; exact last

theorem State.Quiet.moved (q : s.Quiet l) : s.laneMoved l = s.modLane l fun x => { x with doneRecords := [] } :=
  State.laneMoved_quiet q.last q.held q.ingest

/-- What closes a lane's step on a quiet lane: the judgement, and the end of the records' list. -/
theorem State.Quiet.closing (q : s.Quiet l) : ((s.pump l).judgeInadequate).laneMoved l =
    s.judgeInadequate.modLane l fun x => { x with doneRecords := [] } := by
  rw [q.pump, q.judge.moved]

end

theorem State.judgeInadequate_done (s : State) (l : Nat) :
    ((s.judgeInadequate.modLane l fun x => { x with doneRecords := [] }).lane l).offRisk = { (s.lane l).offRisk with doneRecords := [] } := by
  rw [State.lane_modLane_same, ← State.judgeInadequate_lane]
  rfl

/-! ### Sealing (R41, R44, R48) -/

theorem State.toWriting_none {s : State} {l : Nat} (hw : (s.lane l).writing = none) (hs : (s.lane l).sealing = none) : s.toWriting l = s := by
  rw [State.toWriting, hw, hs]

/-- A digested brick goes into the free writing buffer, and its writes are issued (R13, R48). -/
theorem State.toWriting_digested {s : State} {l : Nat} {b : Brick} (hw : (s.lane l).writing = none) (hs : (s.lane l).sealing = some b)
    (hd : b.digest.isSome = true) : s.toWriting l = (s.modLane l fun x => { x with sealing := none, writing := some b }).issueBrick l := by
  rw [State.toWriting, hw, hs]
  exact if_pos hd

/-- The lane whose sealing buffer holds the digested brick, the digest joined to the object's chain (R41, R44). -/
def LaneSt.digested (x : LaneSt) (b : Brick) (d : Digest) : LaneSt :=
  { x.modChain b.ctx fun o => { o with prevDigest := d } with sealing := some { b with digest := some d } }

/-- The pass over a data brick of a quiet lane with a free writing buffer: the brick moves on with its digest (R41, R44, R48). -/
theorem State.sealDone_quiet {s : State} {l i : Nat} {j : Job} {b : Brick} (hgap : b.gapStatus = 0) (hw : (s.lane l).writing = none)
    (q : s.Quiet l) :
    ((s.sealDone l i j b).lane l).sealing = none ∧
    (∃ p : Brick, ((s.sealDone l i j b).lane l).writing = some p ∧ p.digest = some (Config.sha384 (b.header ++ b.payload)) ∧
      p.payload = b.payload ∧ p.seq = b.seq) ∧
    ((s.sealDone l i j b).lane l).obj = (s.lane l).obj.map (fun o => if o.ctx = b.ctx then { o with prevDigest := Config.sha384 (b.header ++ b.payload) } else o) ∧
    (s.sealDone l i j b).mem = s.mem := by
  rw [State.sealDone]
  dsimp only
  generalize hd : Config.sha384 (b.header ++ b.payload) = d
  have hgapSealed : ∀ t : State, t.gapSealed l b = t := fun t => if_pos hgap
  rw [hgapSealed]
  generalize ha : ((s.finishJob i j).modLane l fun x => { x.modChain b.ctx (fun o => { o with prevDigest := d }) with
    sealing := some { b with digest := some d } }) = a
  have hal : a.lane l = (s.lane l).digested b d := by
    rw [← ha, State.lane_modLane_same]
    rfl
  have hamem : a.mem = s.mem := by rw [← ha]; rfl
  have hq : a.Quiet l := by
    rw [← ha]
    refine ⟨q.held, ?_, ?_, ?_, ?_, q.last⟩
    · rw [State.lane_modLane_same]
      exact (congrArg (List.map _) q.acts :)
    · rw [State.lane_modLane_same]
      exact q.payload
    · rw [State.lane_modLane_same]
      exact q.size
    · rw [State.lane_modLane_same]
      exact q.ingest
  have hcore := a.core_retryHeld l
  generalize a.retryHeld = c at hcore
  have hcl := State.lane_of_core hcore
  rw [hal] at hcl
  have hcw : (c.lane l).writing = none := by
    have := (congrArg LaneSt.writing hcl :)
    exact Option.map_eq_none_iff.1 (this.trans (congrArg (Option.map _) hw :))
  have hcs : (c.lane l).sealing = some { b with digest := some d } := (congrArg LaneSt.sealing hcl :)
  rw [State.toWriting_digested hcw hcs rfl]
  have hcore2 := (c.modLane l fun x => { x with sealing := none, writing := some { b with digest := some d } }).core_issueBrick l l
  have hq2 := ((hq.of_core hcore).modLane (f := fun x => { x with sealing := none, writing := some { b with digest := some d } })
    rfl rfl rfl).of_core hcore2
  generalize (c.modLane l fun x => { x with sealing := none, writing := some { b with digest := some d } }).issueBrick l = e at hcore2 hq2
  have hel := State.lane_of_core hcore2
  rw [State.lane_modLane_same] at hel
  have hlast := e.judgeInadequate_done l
  have hmem : (e.judgeInadequate.modLane l fun x => { x with doneRecords := [] }).mem = s.mem :=
    (e.judgeInadequate_rest.2.1).trans ((State.mem_of_core hcore2).trans ((State.mem_of_core hcore).trans hamem))
  rw [hq2.closing]
  generalize (e.judgeInadequate.modLane l fun x => { x with doneRecords := [] }) = t at hlast hmem
  have hwriting : (t.lane l).writing = (e.lane l).writing := (congrArg LaneSt.writing hlast :)
  obtain ⟨p, hp, hstrip⟩ := Option.map_eq_some_iff.1 (congrArg LaneSt.writing hel :)
  refine ⟨?_, ⟨p, hwriting.trans hp, ?_, ?_, ?_⟩, ?_, hmem⟩
  · exact (congrArg LaneSt.sealing hlast :).trans (congrArg LaneSt.sealing hel :)
  · exact (congrArg Brick.digest hstrip :)
  · exact (congrArg Brick.payload hstrip :)
  · exact (congrArg Brick.seq hstrip :)
  · exact (congrArg LaneSt.obj hlast :).trans ((congrArg LaneSt.obj hel :).trans (congrArg LaneSt.obj hcl :))

/-! ### The completed writes (R48, R54) -/

theorem State.lane_headLine (s : State) (f : JHead → JHead) (k : Nat) : (s.headLine f).lane k = s.lane k := rfl
theorem State.ctxRec_lineOf (s : State) (l k : Nat) : (s.lineOf l).ctxRec k = s.ctxRec k := rfl
theorem State.ctxRec_setLane (s : State) (l k : Nat) (x : LaneSt) : (s.setLane l x).ctxRec k = s.ctxRec k := rfl
theorem State.ctxRec_modLane (s : State) (l k : Nat) (f : LaneSt → LaneSt) : (s.modLane l f).ctxRec k = s.ctxRec k := rfl

theorem State.Quiet.headLine {s : State} {l : Nat} (q : s.Quiet l) (f : JHead → JHead) : (s.headLine f).Quiet l :=
  ⟨q.held, q.acts, q.payload, q.size, q.ingest, q.last⟩

theorem State.Quiet.lineOf {s : State} {l : Nat} (q : s.Quiet l) (k : Nat) : (s.lineOf k).Quiet l :=
  ⟨q.held, q.acts, q.payload, q.size, q.ingest, q.last⟩

theorem State.recordsDone_none {s : State} {l : Nat} (h : (s.lane l).recWrites = []) : s.recordsDone l = s := by
  rw [State.recordsDone, h]
  rfl

theorem State.brickComplete_one {s : State} {b : Brick} {w k : Nat} (hw : s.wytheList = [w]) (hb : b.written = [(w, k)]) :
    s.brickComplete b = true := by
  simp [State.brickComplete, hw, hb]

/-- What a brick's durability leaves of its lane and gives to it (R12, R54), for a brick that is not the last of its object. -/
theorem State.brickDurable_plain {s : State} {l : Nat} {b : Brick} (hlast : b.last = false) (hcope : (s.lane l).copeBricks = 0) :
    ∃ (y : LaneSt) (places : List (Nat × Nat)), s.brickDurable l b = ((s.modCtx b.ctx fun r => r.brickDone b places).setLane l y).lineOf l ∧
      y.writing = none ∧ y.sealing = (s.lane l).sealing ∧ y.recWrites = (s.lane l).recWrites ∧
      y.inflight = (s.lane l).inflight - BitVec.ofNat 64 b.payload.length ∧
      y.led.durable = (s.lane l).led.durable + BitVec.ofNat 64 b.payload.length ∧ y.led.lastSeq = b.seq ∧
      ((s.lane l).acts = [] → y.acts = []) ∧ y.fill = (s.lane l).fill ∧ y.ingest = (s.lane l).ingest := by
  rw [State.brickDurable]
  simp only [hlast, hcope, Bool.false_eq_true, if_false, ne_eq, not_true_eq_false, false_and, LaneSt.modChain, JEntry.brickDone]
  exact ⟨_, _, rfl, rfl, rfl, rfl, rfl, rfl, rfl, fun h => (congrArg (List.map _) h :), rfl, rfl⟩

/-- The one configured wythe has written the lane's brick, which is not the last of its object: it is DURABLE (R48, R54). -/
theorem State.brick_durable {s : State} {l w lba : Nat} {b : Brick} (hw : s.wytheList = [w]) (hwr : (s.lane l).writing = some b)
    (hissued : b.issued = true) (hwritten : b.written = []) (hlast : b.last = false) (hseal : (s.lane l).sealing = none)
    (hrec : (s.lane l).recWrites = []) (hcope : (s.lane l).copeBricks = 0) (q : s.Quiet l) :
    let t := (((s.brickWritten l w lba).settle l).judgeInadequate).laneMoved l
    (t.lane l).writing = none ∧ (t.lane l).led.durable = (s.lane l).led.durable + BitVec.ofNat 64 b.payload.length ∧
      (t.lane l).inflight = (s.lane l).inflight - BitVec.ofNat 64 b.payload.length ∧ (t.lane l).led.lastSeq = b.seq ∧
      (t.ctxRec b.ctx).lastSeq = b.seq ∧ (t.ctxRec b.ctx).objPayload = (s.ctxRec b.ctx).objPayload + BitVec.ofNat 64 b.payload.length := by
  intro t
  have hb1 : ∃ k, (s.brickWritten l w lba) = s.modLane l fun x => { x with writing := some { b with written := [(w, k)] } } := by
    refine ⟨s.writtenAt (s.brickMember w l b.seq.toNat) w lba b.placed, ?_⟩
    rw [State.brickWritten]
    refine State.modLane_congr ?_
    simp only [hwr, Option.map_some, hissued, hwritten, List.any_nil, Bool.not_false, Bool.and_self, if_true, List.nil_append]
  obtain ⟨k, hb1⟩ := hb1
  have ht : t = (((s.brickWritten l w lba).settle l).judgeInadequate).laneMoved l := rfl
  clear_value t
  obtain ⟨b1, hb1, hissued1, hwritten1, hlast1, hseq1, hctx1, hpay1⟩ : ∃ b1 : Brick, (s.brickWritten l w lba = s.modLane l fun x => { x with
      writing := some b1 }) ∧ b1.issued = true ∧ b1.written = [(w, k)] ∧ b1.last = false ∧ b1.seq = b.seq ∧ b1.ctx = b.ctx ∧ b1.payload = b.payload :=
    ⟨_, hb1, hissued, rfl, hlast, rfl, rfl, rfl⟩
  rw [hb1] at ht
  generalize hs1 : (s.modLane l fun x => { x with writing := some b1 }) = s1 at ht
  have hl1 : s1.lane l = { s.lane l with writing := some b1 } := by rw [← hs1, State.lane_modLane_same]
  have hcomplete : s1.brickComplete b1 = true := State.brickComplete_one (w := w) (k := k) (by rw [← hs1]; exact hw) hwritten1
  obtain ⟨y, places, hdur, hyw, hys, hyr, hyi, hyd, hyl, hya, hyf, hying⟩ := State.brickDurable_plain (s := s1) (l := l) (b := b1)
    hlast1 (by rw [hl1]; exact hcope)
  generalize hu : ((s1.modCtx b1.ctx fun r => r.brickDone b1 places).setLane l y).lineOf l = u at hdur
  have hul : u.lane l = y := by rw [← hu, State.lane_lineOf, State.lane_setLane_same]
  have hqu : u.Quiet l := by
    refine ⟨?_, ?_, ?_, ?_, ?_, ?_⟩
    · rw [← hu, ← hs1]; exact q.held
    · rw [hul]; exact hya (by rw [hl1]; exact q.acts)
    · rw [hul, hyf, hl1]; exact q.payload
    · rw [hul, hyf, hl1]; exact q.size
    · rw [hul, hying, hl1]; exact q.ingest
    · rw [← hu, ← hs1]; exact q.last
  have hsettle : s1.settle l = u.pump l := by
    have hwriting : (s1.lane l).writing = some b1 := by rw [hl1]
    rw [State.settle, hwriting]
    simp only [hissued1, hcomplete, Bool.and_self, if_true, hdur]
    rw [State.recordsDone_none (by rw [hul, hyr, hl1]; exact hrec), State.toWriting_none (by rw [hul, hyw]) (by rw [hul, hys, hl1]; exact hseal)]
  rw [hsettle, hqu.closing] at ht
  have hlane := u.judgeInadequate_done l
  have hctx : t.ctx = u.ctx := by rw [ht]; exact u.judgeInadequate_rest.2.2.2.2
  rw [← ht, hul] at hlane
  have hrecord : t.ctxRec b.ctx = (s.ctxRec b.ctx).brickDone b1 places := by
    rw [State.ctxRec_congr hctx, ← hctx1, ← hu, State.ctxRec_lineOf, State.ctxRec_setLane, State.ctxRec_modCtx_same, ← hs1, State.ctxRec_modLane]
  refine ⟨(congrArg LaneSt.writing hlane :).trans hyw, (congrArg (fun x : LaneSt => x.led.durable) hlane :).trans (hyd.trans ?_),
    (congrArg LaneSt.inflight hlane :).trans (hyi.trans ?_), (congrArg (fun x : LaneSt => x.led.lastSeq) hlane :).trans (hyl.trans ?_), ?_, ?_⟩
  · rw [hl1, hpay1]
  · rw [hl1, hpay1]
  · rw [hseq1]
  · rw [hrecord]; exact hseq1
  · rw [hrecord, ← hpay1]; rfl

/-- The one configured wythe has written the lane's one record: it is DURABLE (R48, R76). -/
theorem State.record_durable {s : State} {l w lba : Nat} {r : RecWrite} (hw : s.wytheList = [w]) (hwr : (s.lane l).writing = none)
    (hseal : (s.lane l).sealing = none) (hrec : (s.lane l).recWrites = [r]) (hissued : r.issued = true) (hwritten : r.written = [])
    (q : s.Quiet l) :
    let t := (((s.recordWritten l w lba).settle l).judgeInadequate).laneMoved l
    (t.lane l).recWrites = [] ∧ (t.lane l).led.recordSeq = r.seq ∧ (t.lane l).led.lastRecord = Config.sha384 r.bytes := by
  intro t
  have ht : t = (((s.recordWritten l w lba).settle l).judgeInadequate).laneMoved l := rfl
  clear_value t
  have hfind : (s.lane l).recWrites.find? (fun r => r.issued && !r.written.contains w) = some r := by
    rw [hrec, List.find?_cons, hissued, hwritten]
    rfl
  obtain ⟨f, hf⟩ : ∃ f, s.recordWritten l w lba = (s.modLane l fun x => { x with recWrites := [{ r with written := [w] }] }).headLine f := by
    rw [State.recordWritten, hfind]
    refine ⟨_, congrArg (fun u : State => u.headLine _) (State.modLane_congr ?_)⟩
    simp [hrec, hwritten]
  rw [hf] at ht
  generalize hs1 : (s.modLane l fun x => { x with recWrites := [{ r with written := [w] }] }).headLine f = s1 at ht
  have hl1 : s1.lane l = { s.lane l with recWrites := [{ r with written := [w] }] } := by
    rw [← hs1, State.lane_headLine, State.lane_modLane_same]
  have hw1 : s1.wytheList = [w] := by rw [← hs1]; exact hw
  have hq1 : s1.Quiet l := by
    rw [← hs1]
    exact State.Quiet.headLine (q.modLane rfl rfl rfl) f
  have hdone : s1.recordsDone l = s1.recordDone l { r with written := [w] } := by
    rw [State.recordsDone, hl1]
    exact if_pos (by simp [hw1])
  have hul : (s1.recordDone l { r with written := [w] }).lane l = { s.lane l with
      recWrites := [], razeReady := if r.kind = 4 then (s.lane l).razeReady ++ [(r.ctx, r.seq)] else (s.lane l).razeReady
      doneRecords := (s.lane l).doneRecords ++ [(r.seq, r.bytes)]
      led := { (s.lane l).led with recordSeq := r.seq, lastRecord := Config.sha384 r.bytes } } := by
    rw [State.recordDone, State.lane_lineOf, State.lane_modLane_same, hl1]
    simp
  have hqu : (s1.recordDone l { r with written := [w] }).Quiet l := by
    rw [State.recordDone]
    exact State.Quiet.lineOf (hq1.modLane rfl rfl rfl) l
  generalize s1.recordDone l { r with written := [w] } = u at hdone hul hqu
  have hsettle : s1.settle l = u.pump l := by
    have hwriting : (s1.lane l).writing = none := by rw [hl1]; exact hwr
    rw [State.settle, hwriting]
    simp only [hdone]
    rw [State.toWriting_none (by rw [hul]; exact hwr) (by rw [hul]; exact hseal)]
  rw [hsettle, hqu.closing] at ht
  have hlane := u.judgeInadequate_done l
  rw [← ht, hul] at hlane
  exact ⟨(congrArg LaneSt.recWrites hlane :), (congrArg (fun x : LaneSt => x.led.recordSeq) hlane :),
    (congrArg (fun x : LaneSt => x.led.lastRecord) hlane :)⟩

end Sys2Proof.Machine

namespace Sys2Proof.Machine

/-! ### Taking a context for an object (R117, R122, R123, R126) -/

theorem State.lane_image (s : State) (c l : Nat) : (s.image c).lane l = s.lane l := by
  by_cases h : c = 0
  · rw [h, State.image_zero]
  · have hoff : ∀ t : State, t.offImages.lane l = t.lane l := fun _ => rfl
    have hnum : (s.numbered c).lane l = s.lane l := rfl
    rw [← hoff, s.offImages_image h, hoff, hnum]

theorem State.time_image (s : State) (c : Nat) : (s.image c).time = s.time := by
  by_cases h : c = 0
  · rw [h, State.image_zero]
  · have hoff : ∀ t : State, t.offImages.time = t.time := fun _ => rfl
    have hnum : (s.numbered c).time = s.time := rfl
    rw [← hoff, s.offImages_image h, hoff, hnum]

theorem State.ctxFree_image (s : State) (c : Nat) : (s.image c).ctx.free = s.ctx.free := by
  by_cases h : c = 0
  · rw [h, State.image_zero]
  · exact s.free_image h

/-- An image gives a record its number alone (R126). -/
theorem State.ctxRec_image_number (s : State) (c k : Nat) : ∃ n, (s.image c).ctxRec k = { s.ctxRec k with imageSeq := n } := by
  by_cases h : c = 0
  · rw [h, State.image_zero]
    exact ⟨(s.ctxRec k).imageSeq, rfl⟩
  · by_cases hk : k = c
    · rw [hk, s.ctxRec_image h]
      exact ⟨_, rfl⟩
    · rw [s.ctxRec_image_other h hk]
      exact ⟨(s.ctxRec k).imageSeq, rfl⟩

/-- The context store after a context is taken from the free list (R123). -/
def State.withTaken (s : State) (c : Nat) (r : CtxRec) (fr : List (Nat × Nat)) : State :=
  { s with ctx := { s.ctx.set c r with free := fr } }

theorem State.takeFree_some {s : State} {k : Nat} {fr : List (Nat × Nat)} (hfree : freeTake s.ctx.free = some (k, fr)) (r : CtxRec) :
    s.takeFree r = some (k, s.withTaken k { r with gen := (s.ctxRec k).gen } fr) := by
  rw [State.takeFree, hfree]
  rfl

/-- A lane's object gets the head of the free list, with its record, once the table is restored (R122, R123). -/
theorem State.takeObject_some {s : State} {l k : Nat} {fr : List (Nat × Nat)} (hdone : s.ctx.restoreDone = true)
    (hfree : freeTake s.ctx.free = some (k, fr)) :
    ∃ (o : ObjChain) (t : State), s.takeObject l = some (o, t) ∧ o.ctx = k ∧ t.core l = s.core l ∧ t.lane l = s.lane l ∧ t.time = s.time ∧
      t.ctx.free = fr ∧ (t.ctxRec k).state = 2 ∧ (t.ctxRec k).lane = BitVec.ofNat 8 l := by
  generalize hr : ({ state := 2, lane := BitVec.ofNat 8 l, sourceType := BitVec.ofNat 8 (s.laneCfg l 1)
                     retClass := BitVec.ofNat 8 (s.laneCfg l 0xB), openTime := s.time.now, openMono := s.mono
                     tile := BitVec.ofNat 4 (1 + l % 11) } : CtxRec) = r
  have hstate : r.state = 2 := by rw [← hr]
  have hlane : r.lane = BitVec.ofNat 8 l := by rw [← hr]
  obtain ⟨u, htake, hucore, hul, hut, hufree, hurec⟩ : ∃ u : State, s.takeFree r = some (k, u) ∧ u.core l = s.core l ∧ u.lane l = s.lane l ∧
      u.time = s.time ∧ u.ctx.free = fr ∧ u.ctxRec k = { r with gen := (s.ctxRec k).gen } := by
    refine ⟨_, State.takeFree_some hfree r, rfl, rfl, rfl, rfl, ?_⟩
    exact s.ctx.get_set_same k _
  have hobj : ∃ o : ObjChain, s.takeObject l = some (o, u.image k) ∧ o.ctx = k := by
    rw [State.takeObject, State.takeObjectAt, hdone, hr, htake]
    exact ⟨_, rfl, rfl⟩
  obtain ⟨o, ho, hctx⟩ := hobj
  obtain ⟨n, hn⟩ := u.ctxRec_image_number k k
  refine ⟨o, u.image k, ho, hctx, (u.core_image k l).trans hucore, (u.lane_image k l).trans hul, (u.time_image k).trans hut,
    (u.ctxFree_image k).trans hufree, ?_, ?_⟩
  · rw [hn, hurec]; exact hstate
  · rw [hn, hurec]; exact hlane

/-! ### Opening (R30, R60, R130, R428) -/

theorem State.lane_reshare (s : State) (l : Nat) : ∃ v, s.reshare.lane l = { s.lane l with share := v } := by
  let f : Nat × LaneSt → LaneSt := fun e => { e.2 with
    share := if e.2.active then BitVec.ofNat 64 (s.holdup.horizon.toNat * s.weight e.1 /
      s.activeLanes.foldl (fun n l => n + s.weight l) 0) else 0 }
  have hmap : ∀ t : Tab LaneSt, ∃ v, Tab.look (t.map fun e => (e.1, f e)) {} l = { t.look {} l with share := v } := fun t => by
    induction t with
    | nil => exact ⟨0, rfl⟩
    | cons e r ih =>
      rw [List.map_cons, Tab.look, Tab.look]
      split
      · exact ⟨_, rfl⟩
      · exact ih
  exact hmap s.lanes

theorem ite_both {α β : Type} {g : α → β} {p : Prop} [Decidable p] {a b : α} {v : β} (ha : g a = v) (hb : g b = v) :
    g (if p then a else b) = v := by
  split
  · exact ha
  · exact hb

/-- A context's record apart from the count of its bindings. -/
def CtxRec.offBindings (r : CtxRec) : CtxRec := { r with bindings := 0 }

theorem State.ctxRec_modCtx_keeps (s : State) (c k : Nat) {f : CtxRec → CtxRec} (h : ∀ r, (f r).offBindings = r.offBindings) :
    ((s.modCtx c f).ctxRec k).offBindings = (s.ctxRec k).offBindings := by
  by_cases hk : k = c
  · rw [hk, State.ctxRec_modCtx_same, h]
  · rw [State.ctxRec_modCtx_other s hk]

/-- The bindings' table and the counts of the contexts that it names follow a retarget; no other field of a record changes (R130). -/
theorem State.retarget_ctxRec (s : State) (l c k : Nat) : ((s.retarget l c).ctxRec k).offBindings = (s.ctxRec k).offBindings := by
  refine (foldl_keeps (fun t : State => (t.ctxRec k).offBindings) _ (fun t c => ?_) _ _).trans rfl
  refine (?_ : ((t.countBindings c).ctxRec k).offBindings = _)
  rw [State.countBindings]
  split
  · rfl
  · exact t.ctxRec_modCtx_keeps c k fun _ => rfl

theorem State.free_modCtx (s : State) (c : Nat) (f : CtxRec → CtxRec) : (s.modCtx c f).ctx.free = s.ctx.free := s.ctx.free_set c _

theorem State.retarget_free (s : State) (l c : Nat) : (s.retarget l c).ctx.free = s.ctx.free := by
  refine (foldl_keeps (fun t : State => t.ctx.free) _ (fun t c => ?_) _ _).trans rfl
  exact ite_both (g := fun t : State => t.ctx.free) rfl (t.free_modCtx c _)

theorem State.countBindings_eq (s : State) (c : Nat) : s.countBindings c = { s with ctx := (s.countBindings c).ctx } := by
  rw [State.countBindings]
  split <;> rfl

/-- A retarget leaves all but the bindings and the context store alone (R130). -/
theorem State.retarget_keeps (s : State) (l c : Nat) : (s.retarget l c).lanes = s.lanes ∧ (s.retarget l c).courses = s.courses ∧
    (s.retarget l c).holdup = s.holdup ∧ (s.retarget l c).time = s.time := by
  have hcount : ∀ t c, (State.countBindings t c).lanes = t.lanes ∧ (t.countBindings c).courses = t.courses ∧
      (t.countBindings c).holdup = t.holdup ∧ (t.countBindings c).time = t.time := fun t c => by
    rw [t.countBindings_eq c]
    exact ⟨rfl, rfl, rfl, rfl⟩
  rw [State.retarget]
  refine ⟨?_, ?_, ?_, ?_⟩
  · exact (foldl_keeps State.lanes _ (fun t c => (hcount t c).1) _ _)
  · exact (foldl_keeps State.courses _ (fun t c => (hcount t c).2.1) _ _)
  · exact (foldl_keeps State.holdup _ (fun t c => (hcount t c).2.2.1) _ _)
  · exact (foldl_keeps State.time _ (fun t c => (hcount t c).2.2.2) _ _)

/-! #### The lane opened -/

/-- An opened lane, with a share (R60, R428). -/
def LaneSt.openedWith (x : LaneSt) (span : Nat) (now : BitVec 48) (share : W64) : LaneSt :=
  { x with active := true, openStatus := 0, span := span, spanSince := now, share := share }

theorem State.opened_keeps (s : State) (l : Nat) (o : ObjChain) : (∃ span now share, (s.opened l o).lane l = (s.lane l).openedWith span now share) ∧
    (s.opened l o).courses = s.courses ∧ (s.opened l o).holdup = s.holdup ∧ (s.opened l o).time = s.time ∧
    (s.opened l o).ctx.free = s.ctx.free ∧ ∀ k, ((s.opened l o).ctxRec k).offBindings = (s.ctxRec k).offBindings := by
  rw [State.opened]
  generalize hu : (s.modLane l fun x => { x with active := true, openStatus := 0, span := s.laneCfg l 0xD, spanSince := s.tnow }) = u
  obtain ⟨hlanes, hcourses, hholdup, htime⟩ := u.retarget_keeps l o.ctx
  have hfree := u.retarget_free l o.ctx
  have hrec := u.retarget_ctxRec l o.ctx
  generalize u.retarget l o.ctx = v at hlanes hcourses hholdup htime hfree hrec
  obtain ⟨share, hshare⟩ := v.lane_reshare l
  have hlane : v.lane l = u.lane l := congrArg (fun t : Tab LaneSt => t.look {} l) hlanes
  refine ⟨⟨s.laneCfg l 0xD, s.tnow, share, ?_⟩, ?_, ?_, ?_, ?_, fun k => ?_⟩
  · rw [hshare, hlane, ← hu, State.lane_modLane_same]
    rfl
  · exact hcourses.trans (by rw [← hu]; rfl)
  · exact hholdup.trans (by rw [← hu]; rfl)
  · exact htime.trans (by rw [← hu]; rfl)
  · exact hfree.trans (by rw [← hu]; rfl)
  · exact (hrec k).trans (by rw [← hu]; rfl)

theorem State.ctx_modLane (s : State) (l : Nat) (f : LaneSt → LaneSt) : (s.modLane l f).ctx = s.ctx := rfl

theorem State.setTails_keeps (s : State) (l c : Nat) : ((s.setTails l c).lane l).obj = (s.lane l).obj ∧
    ((s.setTails l c).lane l).acts = (s.lane l).acts ∧ (s.setTails l c).ctx = s.ctx := by
  rw [State.setTails, State.lane_modLane_same]
  exact ⟨rfl, rfl, rfl⟩

/-- A lane that may open, with no object and nothing owed, opens with an object in the head of the free list (R30, R123, R428). -/
theorem State.openLane_opens {s : State} {l k : Nat} {fr : List (Nat × Nat)} (hact : (s.lane l).active = false) (hcheck : s.openCheck l = 0)
    (hdone : s.ctx.restoreDone = true) (hobj : (s.lane l).obj = none) (hacts : (s.lane l).acts = []) (hssd : s.wythes.ssdsReady = false)
    (hfree : freeTake s.ctx.free = some (k, fr)) :
    ((s.openLane l).lane l).active = true ∧ ((s.openLane l).lane l).openStatus = 0 ∧ ((s.openLane l).lane l).obj.map (·.ctx) = some k ∧
      ((s.openLane l).ctxRec k).state = 2 ∧ ((s.openLane l).ctxRec k).lane = BitVec.ofNat 8 l ∧ (s.openLane l).ctx.free = fr := by
  obtain ⟨o, b, htake, hctx, -, hbl, -, hbfree, hbstate, hblane⟩ := State.takeObject_some hdone hfree
  have hstreams : s.openStreams l (s.laneCfg l 0xB) = some s := if_pos (by rw [hssd]; rfl)
  have hstands : (s.lane l).standsOpen = false := by rw [LaneSt.standsOpen, hobj]; rfl
  obtain ⟨d, hd, hdobj, hdctx⟩ : ∃ d : State, s.openLane l = (d.opened l o).lineOf l ∧ (d.lane l).obj = some o ∧ d.ctx = b.ctx := by
    rw [State.openLane]
    simp only [hact, hcheck, hdone, hstands, hstreams, Bool.false_eq_true, if_false, ne_eq, not_true_eq_false, Bool.not_true]
    rw [htake]
    obtain ⟨hto, hta, htc⟩ := b.setTails_keeps l (s.laneCfg l 0xB)
    have hset : ∀ (p : Prop) [Decidable p], ((if p then b.setTails l (s.laneCfg l 0xB) else b).lane l).obj = (b.lane l).obj ∧
        ((if p then b.setTails l (s.laneCfg l 0xB) else b).lane l).acts = (b.lane l).acts ∧
        (if p then b.setTails l (s.laneCfg l 0xB) else b).ctx = b.ctx := fun p _ => by
      split
      · exact ⟨hto, hta, htc⟩
      · exact ⟨rfl, rfl, rfl⟩
    obtain ⟨h1, h2, h3⟩ := hset (((b.lane l).older.isEmpty && (b.lane l).obj.isNone) = true)
    refine ⟨_, rfl, ?_, h3⟩
    rw [State.lane_modLane_same, if_pos]
    rw [h1, h2, hbl, hobj, hacts]
    rfl
  obtain ⟨⟨span, now, share, hlane⟩, -, -, -, hfree', hrec⟩ := d.opened_keeps l o
  have hdrec : d.ctxRec k = b.ctxRec k := State.ctxRec_congr hdctx k
  rw [hd]
  refine ⟨?_, ?_, ?_, ?_, ?_, ?_⟩
  · rw [State.lane_lineOf, hlane]; rfl
  · rw [State.lane_lineOf, hlane]; rfl
  · rw [State.lane_lineOf, hlane]
    change (d.lane l).obj.map _ = _
    rw [hdobj]
    exact congrArg some hctx
  · rw [State.ctxRec_lineOf]
    exact (congrArg CtxRec.state (hrec k) :).trans (by rw [hdrec]; exact hbstate)
  · rw [State.ctxRec_lineOf]
    exact (congrArg CtxRec.lane (hrec k) :).trans (by rw [hdrec]; exact hblane)
  · exact hfree'.trans ((congrArg CtxStore.free hdctx).trans hbfree)

/-! ### The end of a span (R30) -/

/-- The object renewed where a context is free and the streams need none: the close of the old one is owed, and the lane's share stays to
be filled by the new one (R30, R123). -/
theorem State.renew_owes {s : State} {l k : Nat} {fr : List (Nat × Nat)} (hdone : s.ctx.restoreDone = true) (hssd : s.wythes.ssdsReady = false)
    (hfree : freeTake s.ctx.free = some (k, fr)) : ∃ (n : ObjChain) (span : Nat) (now : BitVec 48) (share : W64), n.ctx = k ∧
      (s.renew l).lane l = ({ s.lane l with acts := (s.lane l).acts ++ [.object (some n)], openRetry := false } : LaneSt).openedWith span now share ∧
      (s.renew l).courses = s.courses ∧ (s.renew l).holdup = s.holdup ∧ (s.renew l).time = s.time := by
  obtain ⟨n, t, htake, hctx, hcore, hl, htime, -⟩ := State.takeObject_some (l := l) hdone hfree
  have hstreams : s.openStreams l (s.laneCfg l 0xB) = some s := if_pos (by rw [hssd]; rfl)
  rw [State.renew, hstreams]
  dsimp only
  rw [htake]
  dsimp only
  have hcourses0 := State.courses_of_core hcore
  have hholdup0 := State.holdup_of_core hcore
  obtain ⟨⟨span, now, share, hlane⟩, hcourses, hholdup, htime', -⟩ :=
    (t.modLane l fun x => { x with acts := x.acts ++ [.object (some n)], openRetry := false }).opened_keeps l n
  refine ⟨n, span, now, share, hctx, ?_, hcourses.trans hcourses0, hholdup.trans hholdup0, htime'.trans htime⟩
  rw [hlane, State.lane_modLane_same, hl]

theorem State.ctxRec_closeCtx (s : State) (c : Nat) : ((s.closeCtx c).ctxRec c).state = 3 := by
  rw [State.closeCtx, State.ctxRec_modCtx_same]

theorem State.lane_closeCtx (s : State) (c l : Nat) : (s.closeCtx c).lane l = s.lane l := rfl

/-- An object whose close is owed closes with its LAST brick, and the next one has the filling buffer (R30, R429). -/
theorem State.actOne_object {s : State} {l : Nat} {o n : ObjChain} (ho : (s.lane l).obj = some o) (hnf : (s.lane l).nextFill = none) :
    ∃ (p : Brick) (f : Fill) (y : LaneSt), (s.actOne l (.object (some n))).lane l = { y with
        sealing := some p, obj := some n, fill := f, nextFill := none } ∧ p.last = true ∧ p.ctx = o.ctx ∧ p.seq = o.nextSeq ∧
      p.payload = (s.lane l).fill.payload ∧ f.payload = [] ∧ y.ingest = (s.lane l).ingest ∧ y.openRetry = (s.lane l).openRetry ∧
      (s.actOne l (.object (some n))).courses = s.courses ∧ (s.actOne l (.object (some n))).holdup.lastCourse = s.holdup.lastCourse ∧
      ((s.actOne l (.object (some n))).ctxRec o.ctx).state = 3 := by
  have hsome : (s.lane l).obj.isNone = false := by rw [ho]; rfl
  obtain ⟨p, f, v, hoff, hpay, hseq, hctx, hlast, -, -⟩ := State.closeBrick_off ho 4 true
  have hact : s.actOne l (.object (some n)) = (s.closeBrick l 4 true (s.lane l).fill.payload.length).handOver l (some n) := by
    rw [State.actOne]
    simp only [hsome, Bool.false_eq_true, if_false]
  rw [hact]
  generalize s.closeBrick l 4 true (s.lane l).fill.payload.length = e at hoff
  have hel := State.lane_off hoff l
  rw [State.lane_modLane_same] at hel
  have heobj : (e.lane l).obj = some (o.closed (s.lane l).fill.payload.length false) := by rw [hel]; rfl
  have henf : (e.lane l).nextFill.getD (e.newFill l) = e.newFill l := by
    rw [hel]
    change (s.lane l).nextFill.getD _ = _
    rw [hnf]
    rfl
  refine ⟨p, e.newFill l, { e.lane l with older := (e.lane l).older ++ [o.closed (s.lane l).fill.payload.length false] }, ?_, hlast, hctx, hseq,
    hpay, rfl, ?_, ?_, ?_, ?_, ?_⟩
  · rw [State.handOver]
    simp only [heobj, henf]
    rw [State.lane_modLane_same, State.lane_closeCtx, hel]
    rfl
  · rw [hel]; rfl
  · rw [hel]; rfl
  · rw [State.handOver]
    simp only [heobj]
    exact (State.courses_off hoff :)
  · rw [State.handOver]
    simp only [heobj]
    exact (congrArg (fun t : State => t.holdup.lastCourse) hoff :)
  · rw [State.handOver]
    simp only [heobj]
    rw [State.ctxRec_modLane]
    exact e.ctxRec_closeCtx o.ctx

/-- An object whose span has passed closes with its LAST brick behind a new one in a context of its own (R30). -/
theorem State.span_over {s : State} {l k : Nat} {fr : List (Nat × Nat)} {o : ObjChain} (ho : (s.lane l).obj = some o)
    (hnf : (s.lane l).nextFill = none) (hroom : (s.lane l).fill.payload.length < (s.lane l).fill.capacity) (hcan : s.canClose l = true)
    (hacts : (s.lane l).acts = []) (hing : (s.lane l).ingest = none) (hheld : s.courses.held = []) (hlast : s.holdup.lastCourse = false)
    (hdone : s.ctx.restoreDone = true) (hssd : s.wythes.ssdsReady = false) (hfree : freeTake s.ctx.free = some (k, fr)) :
    let t := ((s.renew l).pump l).laneMoved l
    ∃ p : Brick, (t.lane l).sealing = some p ∧ p.last = true ∧ p.ctx = o.ctx ∧ p.seq = o.nextSeq ∧ p.payload = (s.lane l).fill.payload ∧
      (t.lane l).obj.map (·.ctx) = some k ∧ (t.lane l).fill.payload = [] ∧ (t.ctxRec o.ctx).state = 3 := by
  intro t
  have ht : t = ((s.renew l).pump l).laneMoved l := rfl
  clear_value t
  obtain ⟨n, span, now, share, hctx, hul, hucourses, huholdup, hutime⟩ := State.renew_owes (l := l) hdone hssd hfree
  generalize s.renew l = u at ht hul hucourses huholdup hutime
  rw [hacts] at hul
  have hucan : u.canClose l = true := by
    rw [State.canClose, hul, hutime]
    exact hcan
  have hfull : (u.lane l).full = false := by
    rw [hul]
    exact Bool.and_eq_false_iff.2 (.inr (decide_eq_false (Nat.not_le.2 hroom)))
  have huacts : (u.lane l).acts = [.object (some n)] := by rw [hul]; rfl
  obtain ⟨p, f, y, hel, hplast, hpctx, hpseq, hppay, hfpay, hying, hyretry, hecourses, hehold, herec⟩ :=
    State.actOne_object (s := u.modLane l fun x => { x with acts := [] }) (l := l) (o := o) (n := n)
      (by rw [State.lane_modLane_same, hul]; exact ho) (by rw [State.lane_modLane_same, hul]; exact hnf)
  have hone : u.pumpOne l = (u.modLane l fun x => { x with acts := [] }).actOne l (.object (some n)) := by
    simp only [State.pumpOne, hucan, hfull, huacts, Bool.not_true, Bool.false_eq_true, if_false]
  generalize (u.modLane l fun x => { x with acts := [] }).actOne l (.object (some n)) = e at *
  have hblocked : e.canClose l = false := by
    rw [State.canClose, hel]
    rfl
  have hiter : iterate (·.pumpOne l) ((u.lane l).acts.length + 2) u = e := by
    rw [huacts]
    change iterate (·.pumpOne l) 2 (u.pumpOne l) = e
    rw [hone]
    exact iterate_fixed (State.pumpOne_blocked hblocked) 2
  have hstill : e.retryOpen l = e := by
    refine if_neg ?_
    rw [hel]
    change ¬ (y.openRetry = true)
    rw [hyretry, State.lane_modLane_same, hul]
    exact Bool.false_ne_true
  have hpump : u.pump l = e := by
    rw [State.pump, hiter, hstill, ite_self]
  have hquiet : e.laneMoved l = e.modLane l fun x => { x with doneRecords := [] } := by
    refine State.laneMoved_quiet ?_ ?_ ?_
    · exact hehold.trans ((congrArg Holdup.lastCourse huholdup).trans hlast)
    · exact (congrArg CourseStore.held (hecourses.trans hucourses)).trans hheld
    · rw [hel]
      change y.ingest = none
      rw [hying, State.lane_modLane_same, hul]
      exact hing
  rw [hpump, hquiet] at ht
  have htl : t.lane l = { e.lane l with doneRecords := [] } := by rw [ht, State.lane_modLane_same]
  refine ⟨p, ?_, hplast, hpctx, hpseq, hppay.trans ?_, ?_, ?_, ?_⟩
  · rw [htl, hel]
  · rw [State.lane_modLane_same, hul]; rfl
  · rw [htl, hel]; exact congrArg some hctx
  · rw [htl, hel]; exact hfpay
  · rw [ht, State.ctxRec_modLane]; exact herec

end Sys2Proof.Machine

namespace Sys2Proof.Machine

/-! ### Coping records (R45 to R47) -/

theorem State.requestSign_off (s : State) (l : Nat) : ∃ v, (s.requestSign l).offSignals = (s.modLane l fun x => { x with signHeld := v }).offSignals := by
  rw [State.requestSign, State.askSign]
  split
  · exact ⟨false, (State.offSignals_turnNow _).trans (State.offSignals_queueJob ..)⟩
  · exact ⟨true, State.offSignals_turnNow _⟩

/-- A record of the lane's object is formed where the slot has a key: it waits for its signature (R45 to R47, R332). -/
theorem State.formRecord_own {s : State} {l : Nat} {o : ObjChain} (ho : (s.lane l).obj = some o) (hkey : s.slotHoldsKey (s.laneCfg l 0xA) = true)
    {q : RecReq} (hq : q.read = none) (hctx : q.ctx = o.ctx) :
    ∃ p : RecWait, ((s.formRecord l q).lane l).rec1 = some p ∧ p.seq = (s.lane l).signedSeq + 1 ∧ p.req = q ∧
      ((s.formRecord l q).lane l).cadenceDue = false ∧ (s.formRecord l q).mem = s.mem := by
  have hchain : (s.lane l).chainOf q.ctx = some o := by
    rw [LaneSt.chainOf, ho]
    exact if_pos hctx.symm
  rw [State.formRecord]
  simp only [hq, hchain, hkey, Bool.not_true, Bool.false_eq_true, if_false]
  obtain ⟨v, hoff⟩ := State.requestSign_off (s.modLane l fun x => { x.mapChains (fun o => { o with durableSince := 0 }) with
    rec1 := some { req := q, seq := (s.lane l).signedSeq + 1
                   body := s.recordBody l q (s.ledgerRead l o) ((s.lane l).signedSeq + 1) (s.laneCfg l 0xA)
                     (BitVec.ofNat 32 (s.cfg (0x4840 + s.laneCfg l 0xA) 1))
                   slot := s.laneCfg l 0xA, epoch := BitVec.ofNat 32 (s.cfg (0x4840 + s.laneCfg l 0xA) 1) }
    cadenceDue := false, bricksSince := 0, copeSince := s.tnow, restartRec := false
    copeBricks := s.laneCfg l 6, copePeriod := s.laneCfg l 7
    led := { (x.mapChains (fun o => { o with durableSince := 0 })).led with atRisk := s.holdup.inadequate.getLsbD 0 } }) l
  have hlane := State.lane_off hoff l
  rw [State.lane_modLane_same, State.lane_modLane_same] at hlane
  refine ⟨_, (congrArg LaneSt.rec1 hlane).trans rfl, rfl, rfl, (congrArg LaneSt.cadenceDue hlane).trans rfl, (State.mem_off hoff).trans rfl⟩

theorem State.slotHoldsKey_modLane (s : State) (l n : Nat) (f : LaneSt → LaneSt) : (s.modLane l f).slotHoldsKey n = s.slotHoldsKey n := rfl
theorem State.laneCfg_modLane (s : State) (l k n : Nat) (f : LaneSt → LaneSt) : (s.modLane l f).laneCfg k n = s.laneCfg k n := rfl

/-- A cadence point on a lane without a waiting record: a record of KIND 01h waits for its signature (R45). -/
theorem State.cadence_free {s : State} {l : Nat} {o : ObjChain} (ho : (s.lane l).obj = some o) (hrec : (s.lane l).rec1 = none)
    (hqueue : (s.lane l).recQueue = []) (hscan : (s.lane l).scanned = true) (hmono : s.time.mono.isSome = true)
    (hkey : s.slotHoldsKey (s.laneCfg l 0xA) = true) :
    ∃ p : RecWait, ((s.cadence l).lane l).rec1 = some p ∧ p.seq = (s.lane l).signedSeq + 1 ∧ p.req.kind = 1 ∧ p.req.ctx = o.ctx ∧
      ((s.cadence l).lane l).cadenceDue = false ∧ (s.cadence l).mem = s.mem := by
  have hsome : (s.lane l).obj.isNone = false := by rw [ho]; rfl
  have hcad : s.cadence l = (s.modLane l fun x => { x with cadenceDue := true }).nextRecord l := by
    rw [State.cadence]
    simp only [hsome, Bool.false_eq_true, if_false]
    refine congrArg (fun t : State => t.nextRecord l) (State.modLane_congr ?_)
    rw [hrec]
    rfl
  have hnext : (s.modLane l fun x => { x with cadenceDue := true }).nextRecord l =
      (s.modLane l fun x => { x with cadenceDue := false }).formRecord l { kind := 1, ctx := o.ctx } := by
    have hmono' : (s.modLane l fun x => { x with cadenceDue := true }).time.mono.isNone = false := by
      change s.time.mono.isNone = false
      rw [← Option.not_isSome, hmono]
      rfl
    rw [State.nextRecord]
    simp only [State.lane_modLane_same, hrec, hqueue, hscan, ho, hmono', Option.isSome_none, Bool.false_eq_true, not_true_eq_false, or_self, if_false,
      State.modLane_modLane]
  rw [hcad, hnext]
  obtain ⟨p, hp, hseq, hreq, hdue, hmem⟩ := State.formRecord_own (s := s.modLane l fun x => { x with cadenceDue := false }) (l := l) (o := o)
    (q := { kind := 1, ctx := o.ctx }) (by rw [State.lane_modLane_same]; exact ho) hkey rfl rfl
  refine ⟨p, hp, ?_, ?_, ?_, hdue, hmem.trans rfl⟩
  · rw [hseq, State.lane_modLane_same]
  · rw [hreq]
  · rw [hreq]

theorem State.nextRecord_waits {s : State} {l : Nat} (h : (s.lane l).rec1.isSome = true) : s.nextRecord l = s := if_pos (.inl h)

theorem State.nextRecord_none {s : State} {l : Nat} (hqueue : (s.lane l).recQueue = []) (hdue : (s.lane l).cadenceDue = false) :
    s.nextRecord l = s := by
  rw [State.nextRecord]
  split
  · rfl
  · rw [hqueue, hdue]

/-- A cadence point while a record waits is merged into the next and counted (R45). -/
theorem State.cadence_merged {s : State} {l : Nat} {o : ObjChain} {r : RecWait} (ho : (s.lane l).obj = some o) (hrec : (s.lane l).rec1 = some r) :
    s.cadence l = s.modLane l fun x => { x with cadenceDue := true, copeMerged := satAdd x.copeMerged 1 } := by
  have hsome : (s.lane l).obj.isNone = false := by rw [ho]; rfl
  have hmod : (s.modLane l fun x => { x with cadenceDue := true, copeMerged := if x.rec1.isSome then satAdd x.copeMerged 1 else x.copeMerged }) =
      s.modLane l fun x => { x with cadenceDue := true, copeMerged := satAdd x.copeMerged 1 } :=
    State.modLane_congr (by rw [hrec]; rfl)
  rw [State.cadence]
  simp only [hsome, Bool.false_eq_true, if_false]
  rw [hmod]
  refine State.nextRecord_waits ?_
  rw [State.lane_modLane_same]
  exact (congrArg Option.isSome hrec :)

/-- The lane whose waiting record is signed (R46, R47). -/
def LaneSt.signedBy (x : LaneSt) (r : RecWait) (d : Digest) (ws : List RecWrite) : LaneSt :=
  { x with rec1 := none, signedSeq := r.seq, signedDigest := d, recWrites := ws }

/-- The one record that a quiet lane waits for is signed: its number and digest are the chain's (R46 to R48). -/
theorem State.record_signed {s : State} {l i : Nat} {j : Job} {r : RecWait} (hqueue : (s.lane l).recQueue = [])
    (hdue : (s.lane l).cadenceDue = false) (hseal : (s.lane l).sealing = none) (hwr : (s.lane l).writing = none) (q : s.Quiet l) :
    let t := ((((s.finishJob i j).signed l r).retryHeld).settle l).laneMoved l
    (t.lane l).rec1 = none ∧ (t.lane l).signedSeq = r.seq ∧
      (t.lane l).signedDigest = Config.sha384 (r.body ++ toBE 96 (Config.ecdsaSign (s.scalarOf r.slot r.epoch) r.body).toNat) := by
  intro t
  have ht : t = ((((s.finishJob i j).signed l r).retryHeld).settle l).laneMoved l := rfl
  clear_value t
  generalize hd : Config.sha384 (r.body ++ toBE 96 (Config.ecdsaSign (s.scalarOf r.slot r.epoch) r.body).toNat) = d
  obtain ⟨u, ws, hu, hsigned⟩ : ∃ (u : State) (ws : List RecWrite), u = (s.finishJob i j).modLane l (·.signedBy r d ws) ∧
      (s.finishJob i j).signed l r = (u.issueRecordsOf l).nextRecord l := by
    refine ⟨_, (s.lane l).recWrites ++ [{ kind := r.req.kind, ctx := r.req.ctx, seq := r.seq
                                          bytes := r.body ++ toBE 96 (Config.ecdsaSign (s.scalarOf r.slot r.epoch) r.body).toNat
                                          mono := BitVec.ofNat 64 (fieldAt r.body 0xD8 8) }], rfl, ?_⟩
    rw [State.signed, ← hd]
    exact congrArg (fun v : State => (v.issueRecordsOf l).nextRecord l) (State.modLane_congr rfl)
  have hul : u.lane l = (s.lane l).signedBy r d ws := by
    rw [hu, State.lane_modLane_same]
    rfl
  have hqu : u.Quiet l := by
    rw [hu]
    exact State.Quiet.modLane (s := s.finishJob i j) ⟨q.held, q.acts, q.payload, q.size, q.ingest, q.last⟩ rfl rfl rfl
  have hcore := u.core_issueRecordsOf l l
  generalize u.issueRecordsOf l = v at hcore hsigned
  have hvl := State.lane_of_core hcore
  rw [hul] at hvl
  have hnone : v.nextRecord l = v := State.nextRecord_none ((congrArg LaneSt.recQueue hvl :).trans hqueue) ((congrArg LaneSt.cadenceDue hvl :).trans hdue)
  have hcore2 : (v.retryHeld.recordsDone l).core l = u.core l := (State.core_recordsDone ..).trans ((State.core_retryHeld ..).trans hcore)
  have hq2 := hqu.of_core hcore2
  have hcore1 : v.retryHeld.core l = u.core l := (State.core_retryHeld ..).trans hcore
  rw [hsigned, hnone] at ht
  have hw1 : (v.retryHeld.lane l).writing = none := by
    have h1 := State.lane_of_core hcore1
    rw [hul] at h1
    exact Option.map_eq_none_iff.1 ((congrArg LaneSt.writing h1 :).trans (congrArg (Option.map _) hwr :))
  have hl2 := State.lane_of_core hcore2
  rw [hul] at hl2
  have hsettle : v.retryHeld.settle l = v.retryHeld.recordsDone l := by
    rw [State.settle, hw1]
    dsimp only
    rw [State.toWriting_none, hq2.pump]
    · exact Option.map_eq_none_iff.1 ((congrArg LaneSt.writing hl2 :).trans (congrArg (Option.map _) hwr :))
    · exact (congrArg LaneSt.sealing hl2 :).trans hseal
  rw [hsettle, hq2.moved] at ht
  generalize v.retryHeld.recordsDone l = e at ht hl2
  rw [ht, State.lane_modLane_same]
  exact ⟨(congrArg LaneSt.rec1 hl2 :), (congrArg LaneSt.signedSeq hl2 :), (congrArg LaneSt.signedDigest hl2 :)⟩

/-! ### Retention and razing (R52, R125) -/

/-- A record with cause n pending. -/
def CtxRec.pend (r : CtxRec) (n : Nat) : CtxRec := { r with pending := r.pending ||| BitVec.ofNat 16 (2 ^ n) }

/-- A cause of a context whose course runs is pending, and resumes nothing (R106, R107). -/
theorem State.cause_running {s : State} {c n : Nat} (hcourse : (s.ctxRec c).course = true) (hsus : (s.ctxRec c).suspended = false) :
    ∃ m, s.cause c n = ({ s with courses := { s.courses with merged := m } } : State).setCtx c ((s.ctxRec c).pend n) := by
  have hset : ∀ t : State, (t.setCtx c ((s.ctxRec c).pend n)).tryResume c = t.setCtx c ((s.ctxRec c).pend n) := fun t =>
    State.tryResume_of_not_suspended (.inr (by rw [State.ctxRec_setCtx_same]; exact hsus))
  rw [State.cause, if_neg (by rw [hcourse]; exact Bool.false_ne_true)]
  dsimp only
  split
  · exact ⟨s.courses.merged, hset s⟩
  · exact ⟨_, hset _⟩

theorem CtxStore.sweptFor_set (t : CtxStore) (c : Nat) (r : CtxRec) : (t.set c r).sweptFor = t.sweptFor := (congrArg CtxStore.sweptFor (t.apart_set c r) :)

theorem Tab.any_put {α : Type} (t : Tab α) (k : Nat) (v : α) {p : Nat × α → Bool} (h : p (k, v) = true) : (t.put k v).any p = true := by
  induction t with
  | nil => simp [Tab.put, h]
  | cons e r ih =>
    rw [Tab.put]
    split
    · simp [h]
    · split
      · simp [h]
      · simp [ih]

/-- The one context whose deadline has passed gets cause 1, once (R125). -/
theorem State.sweep_one {s : State} {c : Nat} (hlist : s.ctxList = [c]) (hdue : s.sweepDue c = true) (hmem : s.memberList = [])
    (hsus : (s.ctxRec c).suspended = false) : (s.sweep.ctxRec c).pending = (s.ctxRec c).pending ||| 2 ∧ s.sweep.sweepDue c = false := by
  have hcourse : (s.ctxRec c).course = true := by
    rw [State.sweepDue] at hdue
    simp only [Bool.and_eq_true] at hdue
    exact hdue.1.1.1.2
  generalize hu : ({ s with ctx := { s.ctx with sweptFor := s.ctx.sweptFor.put c (s.ctxRec c).deadline } } : State) = u
  have hrec : u.ctxRec c = s.ctxRec c := by rw [← hu]; rfl
  obtain ⟨m, hcause⟩ := State.cause_running (s := u) (c := c) (n := 1) (by rw [hrec]; exact hcourse) (by rw [hrec]; exact hsus)
  have hone : s.sweepOne c = u.cause c 1 := by rw [← hu]; rfl
  have hnil : (u.cause c 1).memberList = [] := by
    rw [hcause, ← hu]
    exact hmem
  have hsweep : s.sweep = u.cause c 1 := by
    rw [State.sweep, hlist, List.filter_cons, if_pos hdue, List.filter_nil]
    change List.foldl _ (s.sweepOne c) (s.sweepOne c).memberList = _
    rw [hone, hnil]
    rfl
  have hnew : s.sweep.ctxRec c = (s.ctxRec c).pend 1 := by rw [hsweep, hcause, State.ctxRec_setCtx_same, hrec]
  have hswept : s.sweep.ctx.sweptFor = s.ctx.sweptFor.put c (s.ctxRec c).deadline := by
    rw [hsweep, hcause]
    refine (CtxStore.sweptFor_set ..).trans ?_
    rw [← hu]
  refine ⟨by rw [hnew]; rfl, ?_⟩
  have hany : (s.ctx.sweptFor.put c (s.ctxRec c).deadline).any (fun e => e.1 == c && e.2 == (s.ctxRec c).deadline) = true :=
    Tab.any_put _ _ _ (by simp)
  rw [State.sweepDue, hswept, hnew]
  exact Bool.and_eq_false_iff.2 (.inr (by rw [show ((s.ctxRec c).pend 1).deadline = (s.ctxRec c).deadline from rfl, hany]; rfl))

theorem State.membersOf_ne_nil (s : State) (w : Nat) : s.membersOf w ≠ [] := by
  rw [State.membersOf]
  split <;> exact List.cons_ne_nil _ _

theorem State.memberList_nil (s : State) : s.memberList = [] ↔ s.wytheList = [] := by
  rw [State.memberList, List.flatMap_eq_nil_iff]
  refine ⟨fun h => ?_, fun h => ?_⟩
  · cases hw : s.wytheList with
    | nil => rfl
    | cons w r => exact absurd (h w (by rw [hw]; exact List.mem_cons_self)) (s.membersOf_ne_nil w)
  · rw [h]
    exact fun _ hx => absurd hx List.not_mem_nil

theorem State.wytheList_image (s : State) (c : Nat) : (s.image c).wytheList = s.wytheList := by
  by_cases h : c = 0
  · rw [h, State.image_zero]
  · have hoff : ∀ t : State, t.offImages.wytheList = t.wytheList := fun _ => rfl
    have hnum : (s.numbered c).wytheList = s.wytheList := rfl
    rw [← hoff, s.offImages_image h, hoff, hnum]

/-- The razing record of a course's own object is DURABLE: the object is razed and the course goes on (R52, R99). -/
theorem State.razed_own {s : State} {c : Nat} {x : Course} {w : BitVec 256} (hmem : s.memberList = []) (hdecl : s.holdup.declared = false)
    (hheld : s.courses.held = [(c, x)]) (hwait : x.wait = some (.raze c)) (hword : x.word = some w) (hstop : x.stop = false)
    (hnext : wNext w = true) (hpost : wPost w = false) (hspan : wSpan w = false) (seq : W64) :
    ((s.razed c seq).ctxRec c).state = 4 ∧ ((s.razed c seq).ctxRec c).lastStatus = 0 ∧ (s.razed c seq).lanes.look {} = s.lanes.look {} ∧
      (s.razed c seq).course c = x.next (x.addr + 32) := by
  generalize ha : (s.modCtx c fun r => { r with state := 4 }).image c = a
  have hacourses : a.courses = s.courses := by
    rw [← ha]
    exact (State.courses_of_core (State.core_image _ c 0)).trans rfl
  have haheld : a.courses.held = [(c, x)] := by rw [hacourses]; exact hheld
  have hacourse : a.course c = x := by
    rw [State.course, haheld]
    simp [Tab.look]
  have hadecl : a.holdup.declared = false := by
    rw [← ha]
    exact (congrArg Holdup.declared (State.holdup_of_core (State.core_image _ c 0)) :).trans hdecl
  have hamem : a.memberList = [] := by
    rw [State.memberList_nil, ← ha, State.wytheList_image]
    exact (State.memberList_nil s).1 hmem
  have harec : (a.ctxRec c).state = 4 := by
    rw [← ha]
    obtain ⟨n, hn⟩ := (s.modCtx c fun r => { r with state := 4 }).ctxRec_image_number c c
    rw [hn, State.ctxRec_modCtx_same]
  have halanes : a.lanes.look {} = s.lanes.look {} := by
    rw [← ha]
    exact funext fun k => (State.lane_image _ c k :)
  have hplain : a.plainWord c w := by
    refine ⟨?_, hadecl, hspan, hnext, hpost, ?_⟩
    · rw [hacourse]; exact hword
    · rw [hacourse]; exact hstop
  have hrazed : s.razed c seq = a.wordEnded c := by
    rw [State.razed, ha]
    have hfind : a.courses.held.find? (fun e => e.2.wait == some (.raze c)) = some (c, x) := by
      rw [haheld, List.find?_cons, hwait]
      simp
    simp only [hamem, List.foldl_nil, hfind, Option.map_some, if_true]
    exact State.finishWord_good hplain rfl rfl (Nat.le_refl _)
  rw [hrazed]
  refine ⟨?_, ?_, ?_, ?_⟩
  · rw [State.ctxRec_wordEnded]; exact harec
  · rw [State.ctxRec_wordEnded]; rfl
  · rw [State.lanes_wordEnded]; exact halanes
  · rw [State.course_wordEnded, hacourse]

/-- Settles O49: each event of a lane through the lemma of its function. -/
theorem laneProgress : Obligations.LaneProgress := by
  unfold Obligations.LaneProgress
  intro l b i k lba j fr o w r wr c word s y quiet
  have still : quiet → s.Quiet l := fun ⟨held, acts, payload, size, _, ingest, last⟩ => ⟨held, acts, payload, size, ingest, last⟩
  refine ⟨fun hjob hseal hdig hgap hwr hq ho hctx => ?sealed, fun hw hwr hissued hwritten hlast hseal hrec hcope hq => ?brick,
    fun hw hwr hseal hrec hissued hwritten hq => ?record, rfl, fun htail => ?line, fun hact hcheck => ?refused,
    fun hact hcheck hdone hobj hacts hssd hfree => ?opens,
    fun hact hspan ho hnf hroom hcan hacts hing hheld hlast hdone hssd hfree => ?span,
    fun ho hrec hqueue hscan hmono hkey => ?cadence, fun ho hrec => ?merged,
    fun hjob hrec hqueue hdue hseal hwr hq => ?signed, fun hlist hdue hmem hsus => ?sweep,
    fun hlanes hready hmem hdecl hheld hstop hnext hpost hspan => ?razed⟩
  case sealed =>
    have hexec : exec (.sealComplete l) s = .next (s.sealDone l i j b) := by
      change execSealComplete l s = _
      rw [execSealComplete, hjob, hseal]
      exact congrArg _ (if_pos (by rw [hdig]; rfl))
    obtain ⟨h1, ⟨p, hp, hpd, hpp, hps⟩, hobj, hmem⟩ := State.sealDone_quiet (i := i) (j := j) hgap hwr (still hq)
    refine ⟨_, hexec, h1, ⟨p, hp, hpd, hpp, hps, ?_, hmem⟩⟩
    rw [hobj, ho, Option.map_some, if_pos hctx, Option.map_some]
  case brick => exact ⟨(((s.brickWritten l w lba).settle l).judgeInadequate).laneMoved l, rfl, State.brick_durable hw hwr hissued hwritten hlast hseal hrec hcope (still hq)⟩
  case record => exact ⟨(((s.recordWritten l w lba).settle l).judgeInadequate).laneMoved l, rfl, State.record_durable hw hwr hseal hrec hissued hwritten (still hq)⟩
  case line => exact congrArg Host.Outcome.next (if_neg (by rw [show (s.lane l).tailWait = false from htail]; decide))
  case refused =>
    change Host.Outcome.next (s.openLane l) = _
    rw [State.openLane, if_neg (by rw [show (s.lane l).active = false from hact]; decide), if_pos hcheck]
  case opens => exact ⟨s.openLane l, rfl, State.openLane_opens hact hcheck hdone hobj hacts hssd hfree⟩
  case span =>
    refine ⟨_, congrArg Host.Outcome.next (if_pos ?_), State.span_over ho hnf hroom hcan hacts hing hheld hlast hdone hssd hfree⟩
    rw [Bool.and_eq_true]
    exact ⟨hact, bne_iff_ne.2 hspan⟩
  case cadence => exact ⟨s.cadence l, rfl, State.cadence_free ho hrec hqueue hscan hmono hkey⟩
  case merged => exact congrArg Host.Outcome.next (State.cadence_merged ho hrec)
  case signed =>
    intro bytes
    refine ⟨_, ?_, State.record_signed (i := i) (j := j) (r := r) hqueue hdue hseal hwr (still hq)⟩
    change execCopingRecordSigned l s = _
    rw [execCopingRecordSigned, hjob, hrec]
  case sweep => exact ⟨s.sweep, rfl, State.sweep_one hlist hdue hmem hsus⟩
  case razed =>
    have hfind : (s.lanes.find? fun e => e.2.razeReady.any (·.1 == c.val)) = some (l.val, y) := by
      rw [hlanes, List.find?_cons, show y.razeReady = _ from hready]
      simp
    have hseq : ((y.razeReady.find? (·.1 == c.val)).map (·.2)).getD 0 = r.seq := by
      rw [show y.razeReady = _ from hready]
      simp
    obtain ⟨hstate, hstatus, hl, hcourse⟩ := State.razed_own (s := s.modLane l fun x => { x with razeReady := x.razeReady.filter (·.1 != c.val) })
      (c := c) hmem hdecl hheld rfl rfl hstop hnext hpost hspan r.seq
    refine ⟨_, ?_, hstate, hstatus, ?_, ?_, ?_⟩
    · change execRazeRecordDurable c s = _
      rw [execRazeRecordDurable, hfind]
      simp only [hseq]
    · refine (congrArg (fun f : Nat → LaneSt => (f l.val).razeReady) hl :).trans ?_
      refine (congrArg LaneSt.razeReady (s.lane_modLane_same l _) :).trans ?_
      change List.filter _ y.razeReady = []
      rw [show y.razeReady = _ from hready]
      simp
    · rw [hcourse]; rfl
    · rw [hcourse]; rfl

end Sys2Proof.Machine

namespace Sys2Proof.Machine

/-! ### Functions of the ladder (R342) -/

@[simp] theorem State.func_modFunc_same (s : State) (f : Nat) (g : FuncSt → FuncSt) : (s.modFunc f g).func f = g (s.func f) :=
  Tab.look_modify_same _ _ _ _

theorem State.inRung2_eq (s : State) (f : Nat) : s.inRung2 f = (s.func f).busy.isSome := rfl

theorem State.func_raise (s : State) (n f : Nat) : (s.raise n).func f = s.func f := rfl

/-- What an entry at a rung counts for its function (R343). -/
def FuncSt.counted (x : FuncSt) : Nat → FuncSt
  | 1 => { x with rung1 := satAdd x.rung1 1 }
  | 2 => { x with rung2 := satAdd x.rung2 1 }
  | 3 => { x with rung3 := satAdd x.rung3 1 }
  | _ => { x with rung4 := satAdd x.rung4 1 }

theorem State.func_countRung_same (s : State) (f rung : Nat) : (s.countRung f rung).func f = (s.func f).counted rung := by
  simp only [State.countRung, State.func, State.modFunc, Tab.look_modify_same]
  rfl

/-! ### Outages (R355) -/

/-- The ladder with other outage figures. -/
def Ladder.outageSet (x : Ladder) (total : W64) (days : Tab Nat) (owed : Option (Nat × Bool)) : Ladder :=
  { x with outageTotal := total, outageDays := days, owed := owed }

theorem ite_or_ite {α : Type} (c : Prop) [Decidable c] (a b : α) : (if c then a else b) = b ∨ (if c then a else b) = a := by
  split
  · exact .inr rfl
  · exact .inl rfl

/-- An outage that ends changes the outage figures, and raises source 255 or nothing (R355). -/
theorem State.outage_shape (s : State) (since : Nat) (external : Bool) : ∃ days,
    let t := { s with ladder := s.ladder.outageSet (s.ladder.outageTotal + BitVec.ofNat 64 ((s.aon - since) / 76800)) days s.ladder.owed }
    s.outage since external = t ∨ s.outage since external = t.raise 255 := ⟨_, ite_or_ite _ _ _⟩

theorem State.outageEnd_shape (s : State) : ∃ total days owed,
    let t := { s with ladder := s.ladder.outageSet total days owed }
    s.outageEnd = t ∨ s.outageEnd = t.raise 255 := by
  rw [State.outageEnd]
  split
  · exact ⟨s.ladder.outageTotal, s.ladder.outageDays, s.ladder.owed, .inl rfl⟩
  · obtain ⟨days, h⟩ := State.outage_shape { s with ladder := { s.ladder with owed := none } } ‹_› ‹_›
    exact ⟨_, days, none, h⟩

/-- A raise of another source leaves the arrivals of source 243 and an awake watcher. -/
theorem State.raise_quiet {s : State} (hawake : s.watcher.asleep = false) :
    (s.raise 255).watcher.asleep = false ∧ ((s.raise 255).vu.row 243).arrivals = (s.vu.row 243).arrivals := by
  rw [State.raise_awake hawake]
  exact ⟨hawake, congrArg SrcRow.arrivals (VectorUnit.row_arrive_other s.vu (by decide) (by decide))⟩

theorem SrcRow.arrivals_arrive (r : SrcRow) : r.arrive.arrivals = r.arrivals + 1 := by
  rw [SrcRow.arrive]
  repeat' split
  all_goals rfl

/-- A raise counts one arrival of its source (R211). -/
theorem State.raise_counts {s : State} (hawake : s.watcher.asleep = false) (n : Nat) :
    ((s.raise n).vu.row n).arrivals = (s.vu.row n).arrivals + 1 := by
  rw [State.vu_raise hawake, VectorUnit.row_arrive_same, SrcRow.arrivals_arrive]

/-! ### A decision for rung 3 or 4 (R343, R347, R349) -/

/-- What the end of the outage of an earlier rung leaves: the ladder's other fields, the time, the dictionary's values. -/
theorem State.outageEnd_keeps (s : State) :
    s.outageEnd.ladder.func = s.ladder.func ∧ s.outageEnd.aon = s.aon ∧ s.outageEnd.manyCycles = s.manyCycles ∧
    (s.watcher.asleep = false → s.outageEnd.watcher.asleep = false ∧ (s.outageEnd.vu.row 243).arrivals = (s.vu.row 243).arrivals) := by
  obtain ⟨total, days, owed, h | h⟩ := s.outageEnd_shape
  · rw [h]
    exact ⟨rfl, rfl, rfl, fun hawake => ⟨hawake, rfl⟩⟩
  · rw [h]
    exact ⟨rfl, rfl, rfl, fun hawake => State.raise_quiet hawake⟩

/-- The rung of a decision. -/
def decidedRung (four : Bool) : Nat := if four then 4 else 3

theorem State.ladder_decided (s : State) (f : Nat) (st : Status) (external four hot : Bool) :
    let a := ((s.countRung f (decidedRung four)).noteFault f (decidedRung four) external st).outageEnd
    (s.decided f st external four hot).ladder.warm =
      some { rung4 := four, since := a.aon, external := external, f := f, hot := hot, hold := four && a.manyCycles } ∧
    (s.decided f st external four hot).ladder.func =
      a.ladder.func.map (fun (e : Nat × FuncSt) => (e.1, { e.2 with busy := none, retries := [] })) ∧
    (s.decided f st external four hot).vu = a.vu ∧ (s.decided f st external four hot).watcher = a.watcher := ⟨rfl, rfl, rfl, rfl⟩

/-- A decision for a rung: what is under way, its count, and no arrival at source 243 (R343). -/
theorem State.decided_facts (s : State) (f : Nat) (st : Status) (external four hot : Bool) :
    let d := s.decided f st external four hot
    d.ladder.warm = some { rung4 := four, since := s.aon, external := external, f := f, hot := hot, hold := four && s.manyCycles } ∧
    (d.func f).rung3 = ((s.func f).counted (decidedRung four)).rung3 ∧ (d.func f).rung4 = ((s.func f).counted (decidedRung four)).rung4 ∧
    (s.watcher.asleep = false → d.watcher.asleep = false ∧ (d.vu.row 243).arrivals = (s.vu.row 243).arrivals) := by
  intro d
  have hcount := s.func_countRung_same f (decidedRung four)
  obtain ⟨hwarm, hfunc, hvu, hwatch⟩ := s.ladder_decided f st external four hot
  obtain ⟨hf, haon, hmany, hquiet⟩ := ((s.countRung f (decidedRung four)).noteFault f (decidedRung four) external st).outageEnd_keeps
  rw [hf] at hfunc
  have hd : d.func f = (s.func f).counted (decidedRung four) ∨
      d.func f = { (s.func f).counted (decidedRung four) with busy := none, retries := [] } := by
    rw [← hcount]
    show Tab.look d.ladder.func {} f = _ ∨ Tab.look d.ladder.func {} f = _
    rw [hfunc]
    exact Tab.look_map_all (s.countRung f (decidedRung four)).ladder.func {} (fun x => { x with busy := none, retries := [] }) f
  refine ⟨?_, ?_, ?_, fun hawake => ?_⟩
  · rw [hwarm, haon, hmany]
    rfl
  · obtain h | h := hd <;> rw [h]
  · obtain h | h := hd <;> rw [h]
  · rw [hwatch, hvu]
    exact hquiet hawake

/-! ### Quieting before a warm reset (R145, R347) -/

/-- The state apart from what the steps before a warm reset clear: memory, engines, tiles, lanes, hods and lane lines. -/
def State.offWork (s : State) : State :=
  { s with mem := [], engines := [], tiles := [], lanes := [], hods := [], journal := { s.journal with line := [] } }

theorem State.offWork_wipeHod (s : State) (h : Nat) : (s.wipeHod h).offWork = s.offWork := by
  rw [State.wipeHod]
  split
  · next w _ => cases w.issuer <;> rfl
  · rfl

theorem State.offWork_refuseHeld (s : State) (l : Nat) : (s.refuseHeld l).offWork = s.offWork := by
  rw [State.refuseHeld]
  split <;> rfl

theorem State.offWork_refuseRing (s : State) (l : Nat) : (s.refuseRing l).offWork = s.offWork := by
  rw [State.refuseRing]
  repeat' split
  all_goals rfl

theorem State.offWork_refuseAll (s : State) : s.refuseAll.offWork = s.offWork :=
  foldl_keeps State.offWork _ (fun t l => ((t.refuseRing l).offWork_refuseHeld l).trans (t.offWork_refuseRing l)) _ _

theorem State.offWork_wipeEngines (s : State) (t : Nat) : (s.wipeEngines t).offWork = s.offWork :=
  foldl_keeps State.offWork (fun (u : State) e => u.modEng e Engine.wiped) (fun _ _ => rfl) _ _

theorem State.offWork_wipeShared (s : State) (t : Nat) : (s.wipeShared t).offWork = s.offWork := rfl

theorem State.offWork_wipeProgram (s : State) (t : Nat) : (s.wipeProgram t).offWork = s.offWork := rfl

theorem State.offWork_setTilePower (s : State) (t : Nat) (p : TilePower) : (s.setTilePower t p).offWork = s.offWork := rfl

theorem State.offWork_tileOff (s : State) (t : Nat) : (s.tileOff t).offWork = s.offWork := by
  rw [State.tileOff, State.offWork_setTilePower, State.offWork_wipeProgram, State.offWork_wipeShared, State.offWork_wipeEngines]

theorem State.offWork_tilesOff (s : State) : s.tilesOff.offWork = s.offWork := foldl_keeps State.offWork _ (fun t i => t.offWork_tileOff (i + 1)) _ _

section
variable {s t : State} (h : t.offWork = s.offWork)
include h

theorem State.ladder_work : t.ladder = s.ladder := (congrArg State.ladder h :)
theorem State.holdup_work : t.holdup = s.holdup := (congrArg State.holdup h :)
theorem State.vu_work : t.vu = s.vu := (congrArg State.vu h :)
theorem State.journalNow_work : t.journal.now = s.journal.now := (congrArg (fun u : State => u.journal.now) h :)

end

/-- The journal's header marked with the ladder, source 243 raised, admission closed (R347). -/
def State.markLadder (d : State) : State :=
  let a := (d.headLine fun h => { h with ladder := true }).raise 243
  { a with holdup := { a.holdup with closed := true } }

/-- The state in which a decided rung 3 or 4 resets the device: marked, its hods and lanes quiet, its tiles cold (R347). -/
def State.quieted (d : State) : State := ((List.range 22).foldl (fun (t : State) i => t.wipeHod (i + 2)) d.markLadder).refuseAll.tilesOff

theorem State.offWork_quieted (d : State) : d.quieted.offWork = d.markLadder.offWork := by
  rw [State.quieted, State.offWork_tilesOff, State.offWork_refuseAll]
  exact foldl_keeps State.offWork _ (fun t i => t.offWork_wipeHod (i + 2)) _ _

theorem State.quieted_facts (d : State) :
    d.quieted.ladder = d.ladder ∧ d.quieted.holdup.closed = true ∧ d.quieted.journal.now.ladder = true ∧
    (d.watcher.asleep = false → (d.quieted.vu.row 243).arrivals = (d.vu.row 243).arrivals + 1) := by
  have hb := d.offWork_quieted
  rw [State.ladder_work hb, State.holdup_work hb, State.vu_work hb, State.journalNow_work hb]
  exact ⟨rfl, rfl, rfl, fun hawake => State.raise_counts (s := d.headLine fun h => { h with ladder := true }) hawake 243⟩

/-- An expiry of the device watchdog resets the device without the last course (R348, R350). -/
theorem State.climb_watchdog {s : State} (hlast : s.holdup.lastCourse = false)
    (hfew : (s.within (s.cfg 0x5000 2) s.ladder.rung3At).length < s.cfg 0x5000 3) :
    s.climb 0x6F 0 false true false = (s.decided 0x6F 0 false false false).quieted.warmReset := by
  rw [State.climb, decide_eq_false (by omega), State.deviceRung, if_neg (by rw [hlast]; exact Bool.false_ne_true),
    if_neg (by decide)]
  generalize s.decided 0x6F 0 false false false = d
  rfl

/-! ### The clauses of a fault (R341, R343) -/

theorem exec_fault_plain (f : Func) (op : FaultOp) (st : Status) (ext : Bool) (s : State) :
    exec (.fault f op st ext false) s = .next (s.fault f op st ext) := rfl

/-- A fault with an operation to repeat begins rung 1 (R343). -/
theorem State.fault_rung1 {s : State} {f : Nat} {op : FaultOp} (st : Status) (ext : Bool) (hseen : s.faultSeen f = true)
    (hfree : s.inRung2 f = false) (hwarm : s.ladder.warm = none) (hop : op ≠ .none) :
    s.fault f op st ext = (s.countRung f 1).modFunc f fun x => { x with retries := x.retries ++ [{
      op := op, status := st, external := ext, limit := s.tries f, window := s.cfg (0x5100 + f) 2, backoff := s.cfg (0x5100 + f) 3 }] } := by
  simp only [State.fault, hseen, hfree, hwarm, hop, Bool.not_true, Option.isSome_none, Bool.or_self, if_false, Bool.false_eq_true]

theorem fault_beginsRung1 {s : State} {f : Func} {op : FaultOp} (st : Status) (ext : Bool) (hseen : s.faultSeen f = true)
    (hfree : s.inRung2 f = false) (hwarm : s.ladder.warm = none) (hop : op ≠ .none) :
    ∃ u, exec (.fault f op st ext false) s = .next u ∧ (u.func f).rung1 = satAdd (s.func f).rung1 1 ∧
      (u.func f).retries = (s.func f).retries ++ [{ op := op, status := st, external := ext, limit := s.tries f
                                                    window := s.cfg (0x5100 + f) 2, backoff := s.cfg (0x5100 + f) 3 }] ∧
      u.mem = s.mem ∧ u.courses = s.courses := by
  refine ⟨_, congrArg Host.Outcome.next (State.fault_rung1 st ext hseen hfree hwarm hop), ?_⟩
  rw [State.func_modFunc_same, State.func_countRung_same]
  exact ⟨rfl, rfl, rfl, rfl⟩

theorem State.fault_joins {s : State} {f : Nat} (op : FaultOp) (st : Status) (ext : Bool) (hseen : s.faultSeen f = true)
    (hbusy : s.inRung2 f = true ∨ s.ladder.warm.isSome = true) : s.fault f op st ext = s.joinFault := by
  rw [State.fault, hseen, Bool.not_true, if_neg Bool.false_ne_true, if_pos (by rw [Bool.or_eq_true]; exact hbusy)]

theorem State.fault_unseen {s : State} {f : Nat} (op : FaultOp) (st : Status) (ext : Bool) (hseen : s.faultSeen f = false) :
    s.fault f op st ext = s := by
  rw [State.fault, hseen]
  rfl

/-- A fault without an operation begins rung 2 while the function's entries are few (R343). -/
theorem State.fault_rung2 {s : State} {f : Nat} (st : Status) (ext : Bool) (hseen : s.faultSeen f = true) (hfree : s.inRung2 f = false)
    (hwarm : s.ladder.warm = none) (hlast : s.holdup.lastCourse = false) (hhas : hasRung2 f = true)
    (hfew : (s.within (s.cfg (0x5100 + f) 2) (s.func f).recent).length < s.cfg 0x5000 1) :
    s.fault f .none st ext = s.rung2 f st ext (s.cfg (0x5100 + f) 2) := by
  rw [State.fault, hseen, hfree, hwarm]
  simp only [Bool.not_true, Option.isSome_none, Bool.or_self, if_false, if_true, Bool.false_eq_true, State.escalate, hhas, hfew, hlast,
    decide_true, Bool.or_true, Bool.and_self]

/-- With nothing that uses the function, the end of its users changes nothing but its retries (R345). -/
theorem State.breakUsers_unused {s : State} {f : Nat} (st : Status) (hraws : s.raws = []) (hnvme : s.nvme = []) (hlanes : s.lanes = [])
    (hretries : (s.func f).retries = []) : s.breakUsers f st = s.modFunc f fun x => { x with retries := [] } := by
  rw [State.breakUsers, hraws, hretries]
  simp only [List.filter_nil, List.map_nil, List.foldl_nil, State.appending, State.ingesting, hnvme, hlanes, List.filterMap_nil, ite_self,
    List.append_nil]

/-- A reset of a function that is no tile leaves the ladder, the vector unit and device memory (R342). -/
theorem State.resetBegin_keeps {s : State} {f : Nat} (hf : 0x0C ≤ f) :
    (s.resetBegin f).ladder = s.ladder ∧ (s.resetBegin f).vu = s.vu ∧ (s.resetBegin f).mem = s.mem := by
  rw [State.resetBegin, if_neg (by omega)]
  repeat' split
  all_goals exact ⟨rfl, rfl, rfl⟩

/-- A function's last entry at rung 2, and its beginning (R343, R345). -/
def FuncSt.entered (x : FuncSt) (recent : List Nat) (now : Nat) (external : Bool) : FuncSt :=
  { x with recent := recent, busy := some (now, external) }

theorem State.rung2_eq (s : State) (f : Nat) (st : Status) (external : Bool) (window : Nat) :
    let a := ((s.countRung f 2).noteFault f 2 external st).raise 243
    s.rung2 f st external window =
      ((a.breakUsers f 0x0901).modFunc f fun x => x.entered (a.within window x.recent ++ [a.aon]) a.aon external).resetBegin f := rfl

/-- Rung 2 of a function that nothing uses: counted, busy, source 243 raised (R343, R345). -/
theorem State.rung2_facts {s : State} {f : Nat} (st : Status) (ext : Bool) (window : Nat) (hf : 0x0C ≤ f) (hraws : s.raws = [])
    (hnvme : s.nvme = []) (hlanes : s.lanes = []) (hretries : (s.func f).retries = []) :
    let u := s.rung2 f st ext window
    (u.func f).rung2 = satAdd (s.func f).rung2 1 ∧ (u.func f).busy = some (s.aon, ext) ∧ u.mem = s.mem ∧
    (s.watcher.asleep = false → (u.vu.row 243).arrivals = (s.vu.row 243).arrivals + 1) := by
  intro u
  have hu : u = s.rung2 f st ext window := rfl
  have hcount := s.func_countRung_same f 2
  have hrest : (s.countRung f 2).raws = s.raws ∧ (s.countRung f 2).nvme = s.nvme ∧ (s.countRung f 2).lanes = s.lanes ∧
      (s.countRung f 2).aon = s.aon ∧ (s.countRung f 2).mem = s.mem ∧ (s.countRung f 2).watcher = s.watcher ∧ (s.countRung f 2).vu = s.vu :=
    ⟨rfl, rfl, rfl, rfl, rfl, rfl, rfl⟩
  rw [State.rung2_eq] at hu
  generalize s.countRung f 2 = c at hu hcount hrest
  obtain ⟨hr, hn, hl, haon, hmem, hwatch, hvu⟩ := hrest
  have hcount' : ((c.noteFault f 2 ext st).raise 243).func f = (s.func f).counted 2 := hcount
  rw [State.breakUsers_unused (s := (c.noteFault f 2 ext st).raise 243) 0x0901 (hr.trans hraws) (hn.trans hnvme) (hl.trans hlanes) (by rw [hcount']; exact hretries)] at hu
  obtain ⟨hladder', hvu', hmem'⟩ := State.resetBegin_keeps hf (s := ((((c.noteFault f 2 ext st).raise 243).modFunc f
    fun x => { x with retries := [] }).modFunc f fun x =>
      x.entered (((c.noteFault f 2 ext st).raise 243).within window x.recent ++ [((c.noteFault f 2 ext st).raise 243).aon])
        ((c.noteFault f 2 ext st).raise 243).aon ext))
  rw [← hu] at hladder' hvu' hmem'
  have hfunc : u.func f = Tab.look u.ladder.func {} f := rfl
  rw [hladder'] at hfunc
  have hsame := hfunc.trans (State.func_modFunc_same _ f _)
  rw [State.func_modFunc_same, hcount'] at hsame
  refine ⟨by rw [hsame]; rfl, ?_, hmem'.trans hmem, fun hawake => ?_⟩
  · rw [hsame, ← haon]
    rfl
  · rw [hvu', ← hvu]
    exact State.raise_counts (s := c.noteFault f 2 ext st) (by rw [← hawake, ← hwatch]; rfl) 243

/-! ### Retries and the end of a rung 2 (R343, R345) -/

theorem State.busBack_other (s : State) (f : Nat) {op : FaultOp} (h : op ≠ .own) : s.busBack f op = s := if_neg fun hc => h hc.2.2

theorem State.resetEnd_usb (s : State) {f : Nat} (h : HostRead) (hlow : 0x28 ≤ f) (hhigh : f ≤ 0x2F) : s.resetEnd f h = s := by
  rw [State.resetEnd, if_neg (by omega), if_neg (by omega), if_neg (by omega), if_neg (by omega), if_neg (by omega), if_neg (by omega),
    if_neg (by omega), if_neg (by omega)]

/-- A rung 2 of a function whose end does nothing further: the function is free, its outage counted (R345, R355). -/
theorem rung2Complete_usb {s : State} {f : Func} (h : HostRead) {since : Nat} {ext : Bool} (hbusy : (s.func f).busy = some (since, ext))
    (hlow : 0x28 ≤ f.val) (hhigh : f.val ≤ 0x2F) :
    ∃ u, exec (.rung2Complete f h) s = .next u ∧ u.inRung2 f = false ∧
      u.ladder.outageTotal = s.ladder.outageTotal + BitVec.ofNat 64 ((s.aon - since) / 76800) ∧ u.mem = s.mem := by
  have hexec : exec (.rung2Complete f h) s = .next ((s.modFunc f fun x => { x with busy := none }).outage since ext) := by
    rw [exec_rung2Complete, execRung2Complete, hbusy]
    simp only [State.resetEnd_usb _ h hlow hhigh]
  refine ⟨_, hexec, ?_⟩
  have hfree : (s.modFunc f fun x => { x with busy := none }).inRung2 f = false := by rw [State.inRung2_eq, State.func_modFunc_same]; rfl
  obtain ⟨days, hout | hout⟩ := (s.modFunc f fun x => { x with busy := none }).outage_shape since ext
  · rw [hout]
    exact ⟨hfree, rfl, rfl⟩
  · rw [hout]
    exact ⟨hfree, rfl, rfl⟩

/-! ### Kicks (R350, R351) -/

theorem State.ladderWrite_kick (s : State) (m : Master) (e : Eng) (v be : W32) :
    s.ladderWrite m (0x1200 + 4 * e) v be = if s.fw m || m.val == e.val then some (s.kickEwd e) else none := by
  have he := e.isLt
  rw [State.ladderWrite, if_pos ⟨by omega, by omega⟩, show (0x1200 + 4 * e.val - 0x1200) / 4 = e.val by omega]

theorem State.ladderWrite_dwd (s : State) (m : Master) (v be : W32) :
    s.ladderWrite m 4 v be = if s.fw m then some s.kickDwd else none := by
  rw [State.ladderWrite, if_neg (by decide)]
  cases s.fw m <;> rfl

theorem State.ladderWrite_awd (s : State) (m : Master) (v be : W32) :
    s.ladderWrite m 8 v be = if s.fw m then some s.kickAwd else none := by
  rw [State.ladderWrite, if_neg (by decide)]
  cases s.fw m <;> rfl

/-- A confirmation of the image that runs changes the security block alone (R327). -/
theorem State.ladder_confirmImage (s : State) : s.confirmImage.ladder = s.ladder ∧ s.confirmImage.aon = s.aon := by
  rw [State.confirmImage]
  repeat' split
  all_goals exact ⟨rfl, rfl⟩

theorem State.kickAwd_facts (s : State) : s.kickAwd.ladder = { s.ladder with awdBoot := false, awdSince := s.aon } ∧
    (s.ladder.awdBoot = false → s.kickAwd.sec = s.sec) := by
  obtain ⟨hladder, haon⟩ := s.ladder_confirmImage
  rw [State.kickAwd]
  cases hboot : s.ladder.awdBoot with
  | true => exact ⟨by simp only [if_true, hladder, haon], fun h => nomatch h⟩
  | false => exact ⟨rfl, fun _ => rfl⟩

/-! ### Watchdogs (R350, R353) -/

/-- A power cycle of a decided rung 4: the core is off, the fuses stay (R349, R404). -/
theorem State.cutPower_facts (s : State) (hold : Bool) :
    (s.cutPower hold).power.phase = .cycle hold ∧ (s.cutPower hold).power.railEn = 0 ∧ (s.cutPower hold).power.nextCause = 2 ∧
    (s.cutPower hold).ladder.warm = none ∧ (s.cutPower hold).engines = [] ∧ (s.cutPower hold).sec.fuse = s.sec.fuse ∧
    ∀ f, ((s.cutPower hold).func f).rung4 = (s.func f).rung4 := by
  refine ⟨rfl, rfl, rfl, rfl, rfl, rfl, fun f => ?_⟩
  have h : (s.cutPower hold).func f = s.func f ∨ (s.cutPower hold).func f = { s.func f with retries := [], busy := none } :=
    Tab.look_map_all s.ladder.func {} (fun x => { x with retries := [], busy := none }) f
  obtain h | h := h <;> rw [h]

theorem State.warmReset_cut {s : State} {w : Warm} (h : s.ladder.warm = some w) (hfour : w.rung4 = true) :
    s.warmReset = s.cutPower w.hold := by
  rw [State.warmReset, h]
  simp only [hfour, if_true]

theorem State.warmReset_start {s : State} {w : Warm} (h : s.ladder.warm = some w) (hthree : w.rung4 = false) (hcool : w.hot = false) :
    s.warmReset = s.start 3 := by
  rw [State.warmReset, h]
  simp only [hthree, hcool, Bool.false_eq_true, if_false]

/-- The warm reset of an always-on watchdog's expiry is a power cycle (R349, R350). -/
theorem State.awdExpiry_facts (s : State) :
    let u := (s.decided 0x6F 0 false true false).warmReset
    u.power.phase = .cycle s.manyCycles ∧ (u.func 0x6F).rung4 = satAdd (s.func 0x6F).rung4 1 ∧ u.power.railEn = 0 ∧ u.engines = [] := by
  intro u
  have hu : u = (s.decided 0x6F 0 false true false).warmReset := rfl
  obtain ⟨hwarm, -, hrung, -⟩ := s.decided_facts 0x6F 0 false true false
  rw [State.warmReset_cut hwarm rfl] at hu
  obtain ⟨hphase, hrails, -, -, hengines, -, hfunc⟩ := (s.decided 0x6F 0 false true false).cutPower_facts (true && s.manyCycles)
  rw [← hu] at hphase hrails hengines hfunc
  exact ⟨hphase, (hfunc 0x6F).trans hrung, hrails, hengines⟩

/-- While watchdogs rest none expires (R74, R350). -/
theorem watchdogs_rest {s : State} (e : Eng) (t : Tile) (h : s.watchdogsRest = true) :
    exec (.engineWatchdogExpiry e) s = .next s ∧ exec (.tileWatchdogExpiry t) s = .next s ∧
    exec .deviceWatchdogExpiry s = .next s ∧ exec .alwaysOnWatchdogExpiry s = .next s := by
  simp only [exec_engineWatchdogExpiry, exec_tileWatchdogExpiry, exec_deviceWatchdogExpiry, exec_alwaysOnWatchdogExpiry,
    execEngineWatchdogExpiry, execTileWatchdogExpiry, execDeviceWatchdogExpiry, execAlwaysOnWatchdogExpiry, h, Bool.true_or, if_true,
    and_self]

/-- An engine's watchdog expires only with a limit (R350). -/
theorem exec_engineWatchdogExpiry_watched {s : State} (e : Eng) (hrest : s.watchdogsRest = false)
    (hphase : s.power.phase = .run ∨ s.power.phase = .park) : exec (.engineWatchdogExpiry e) s =
      .next (if s.ladder.ewdLimit.look 0 e = 0 then s else (s.raise 241).fault (e.val / 8) .none 0 false) := by
  have hp : (s.power.phase == Phase.run || s.power.phase == Phase.park) = true := by
    rw [Bool.or_eq_true, beq_iff_eq, beq_iff_eq]
    exact hphase
  simp only [exec_engineWatchdogExpiry, execEngineWatchdogExpiry, hrest, hp, Bool.not_true, Bool.or_self, Bool.false_or, beq_iff_eq]
  rfl

theorem exec_tileWatchdogExpiry_run {s : State} (t : Tile) (hrest : s.watchdogsRest = false) (hphase : s.power.phase = .run) :
    exec (.tileWatchdogExpiry t) s = .next (if s.coursesOn t = [] then s else (s.raise 242).fault t .none 0 false) := by
  simp only [exec_tileWatchdogExpiry, execTileWatchdogExpiry, hrest, hphase, Bool.false_or, bne_self_eq_false, List.isEmpty_iff]

theorem exec_deviceWatchdogExpiry_run {s : State} (hrest : s.watchdogsRest = false) (hphase : s.power.phase = .run)
    (hlimit : s.ladder.dwdLimit ≠ 0) (hwarm : s.ladder.warm = none) :
    exec .deviceWatchdogExpiry s = .next (s.climb 0x6F 0 false true false) := by
  rw [exec_deviceWatchdogExpiry, execDeviceWatchdogExpiry, if_neg]
  simpa [hrest, hphase, hwarm] using hlimit

theorem exec_alwaysOnWatchdogExpiry_run {s : State} (hrest : s.watchdogsRest = false) (hphase : s.power.phase = .run)
    (hwarm : s.ladder.warm = none) : exec .alwaysOnWatchdogExpiry s = .next (s.decided 0x6F 0 false true false).warmReset := by
  rw [exec_alwaysOnWatchdogExpiry, execAlwaysOnWatchdogExpiry, hrest, hphase, hwarm]
  rfl

/-- The device watchdog's expiry: decided rung 3, without the last course (R348, R350). -/
theorem deviceWatchdog_resets {s : State} (hrest : s.watchdogsRest = false) (hphase : s.power.phase = .run)
    (hlimit : s.ladder.dwdLimit ≠ 0) (hwarm : s.ladder.warm = none) (hlast : s.holdup.lastCourse = false)
    (hfew : (s.within (s.cfg 0x5000 2) s.ladder.rung3At).length < s.cfg 0x5000 3) :
    ∃ b : State, exec .deviceWatchdogExpiry s = .next b.warmReset ∧ (b.func 0x6F).rung3 = satAdd (s.func 0x6F).rung3 1 ∧
      (∃ q : Warm, b.ladder.warm = some q ∧ q.rung4 = false ∧ q.f = 0x6F ∧ q.since = s.aon) ∧ b.holdup.closed = true ∧
      b.journal.now.ladder = true ∧ (s.watcher.asleep = false → (b.vu.row 243).arrivals = (s.vu.row 243).arrivals + 1) := by
  refine ⟨(s.decided 0x6F 0 false false false).quieted, ?_, ?_⟩
  · rw [exec_deviceWatchdogExpiry_run hrest hphase hlimit hwarm, State.climb_watchdog hlast hfew]
  · obtain ⟨hq, hrung, -, hquiet⟩ := s.decided_facts 0x6F 0 false false false
    generalize s.decided 0x6F 0 false false false = d at hq hrung hquiet
    obtain ⟨hladder, hclosed, hhead, harr⟩ := d.quieted_facts
    have hfunc : d.quieted.func 0x6F = Tab.look d.quieted.ladder.func {} 0x6F := rfl
    rw [hladder] at hfunc
    refine ⟨(congrArg FuncSt.rung3 hfunc).trans hrung, ⟨_, (congrArg Ladder.warm hladder).trans hq, rfl, rfl, rfl⟩, hclosed, hhead,
      fun hawake => ?_⟩
    obtain ⟨hawake', hsame⟩ := hquiet hawake
    rw [harr hawake', hsame]

/-- Settles O52: a fault begins rung 1 or 2 or joins (`fault_rung1`, `rung2_facts`, `fault_joins`), a reset is that of its decision
(`decided_facts`, `cutPower_facts`), and each watchdog is a fault, a rung 3 or a power cycle. -/
theorem faultsAndWatchdogs : Obligations.FaultsAndWatchdogs := by
  intro f op st ext h r rest since w e t m v s x retry counted joined
  refine ⟨fun hseen hfree hwarm hop => fault_beginsRung1 st ext hseen hfree hwarm hop, fun hseen hfree hwarm hlast hhas hf hfew hraws hnvme hlanes hretries =>
    ⟨s.rung2 f st ext (s.cfg (0x5100 + f) 2), ?_, ?rung2⟩, fun hseen hbusy => ?_, fun hseen => ?_, fun htake => ⟨fun hop => ?_, fun hmore => ?_⟩,
    fun hbusy hlow hhigh => rung2Complete_usb h hbusy hlow hhigh, fun hwarm hfour => ⟨s.cutPower w.hold, ?_, ?cut⟩,
    fun hwarm hthree hcool => ?_, fun hwarm => ?_, fun hrest hphase => ⟨fun hl => ?_, fun hl => ?_⟩,
    fun hrest hphase => ⟨fun hc => ?_, fun hc => ?_, fun hlimit hwarm hlast hfew => deviceWatchdog_resets hrest hphase hlimit hwarm hlast hfew,
      fun hwarm => ⟨_, exec_alwaysOnWatchdogExpiry_run hrest hphase hwarm, s.awdExpiry_facts⟩⟩,
    fun hrest => watchdogs_rest e t hrest, fun hm => ?_, fun hm hne => ?_, fun hm => ?_, fun hm => ⟨s.kickAwd, ?_, s.kickAwd_facts⟩,
    fun hm => ⟨?_, ?_⟩⟩
  · rw [exec_fault_plain, State.fault_rung2 st ext hseen hfree hwarm hlast hhas hfew]
  case rung2 =>
    obtain ⟨hrung, hbusy, hmem, harr⟩ := State.rung2_facts st ext (s.cfg (0x5100 + f) 2) hf hraws hnvme hlanes hretries
    exact ⟨hrung, hbusy, by rw [State.inRung2_eq, hbusy]; rfl, harr, hmem⟩
  · rw [exec_fault_plain, State.fault_joins op st ext hseen hbusy]
    rfl
  · rw [exec_fault_plain, State.fault_unseen op st ext hseen]
  · rw [exec_retryBackoffExpiry, execRetryBackoffExpiry, htake]
    simp only [if_true, State.busBack_other _ _ hop]
    rfl
  · rw [exec_retryBackoffExpiry, execRetryBackoffExpiry, htake]
    simp only [Bool.false_eq_true, if_false, if_pos hmore]
    rfl
  · rw [exec_lcRung3LimitExpiry, execLcRung3LimitExpiry, hwarm, Option.isSome_some, if_pos rfl, State.warmReset_cut hwarm hfour]
  case cut =>
    obtain ⟨hphase, hrails, hcause, hnone, hengines, hfuse, -⟩ := s.cutPower_facts w.hold
    exact ⟨hphase, hrails, hcause, hnone, hengines, hfuse⟩
  · rw [exec_lcRung3LimitExpiry, execLcRung3LimitExpiry, hwarm, Option.isSome_some, if_pos rfl, State.warmReset_start hwarm hthree hcool]
  · rw [exec_lcRung3LimitExpiry, execLcRung3LimitExpiry, hwarm]
    rfl
  · rw [exec_engineWatchdogExpiry_watched e hrest hphase, if_neg hl]
  · rw [exec_engineWatchdogExpiry_watched e hrest hphase, if_pos hl]
  · rw [exec_tileWatchdogExpiry_run t hrest hphase, if_neg hc]
  · rw [exec_tileWatchdogExpiry_run t hrest hphase, if_pos hc]
  · rw [exec_ewdKick, execEwdKick, State.ladderWrite_kick, if_pos (by simpa using hm)]
    rfl
  · rw [exec_ewdKick, execEwdKick, State.ladderWrite_kick, if_neg (by simp [hm, hne])]
    rfl
  · rw [exec_dwdKick, execDwdKick, State.ladderWrite_dwd, if_pos hm]
    rfl
  · rw [exec_awdKick, execAwdKick, State.ladderWrite_awd, if_pos hm]
    rfl
  · rw [exec_dwdKick, execDwdKick, State.ladderWrite_dwd, hm]
    rfl
  · rw [exec_awdKick, execAwdKick, State.ladderWrite_awd, hm]
    rfl

end Sys2Proof.Machine

namespace Sys2Proof.Machine

/-! ### A request that is served at once (R301, R304, R305) -/

/-- A request that the device serves at once; a life-cycle transition restarts behind it (R305, R337). -/
theorem State.request_asked {s : State} {p : Path} (hask : s.asks p = true) (i n : Nat) (v : Option Bytes) : s.request p i n v =
    (s.fresh.serveCall { path := p, idx := BitVec.ofNat 16 i, sub := BitVec.ofNat 8 n, val := v }).lcRestart := by
  simp only [State.asks, Bool.and_eq_true, Bool.or_eq_true, bne_iff_ne, ne_eq] at hask
  obtain ⟨⟨hserving, -⟩, hpath⟩ := hask
  have hready : s.dict.ready = true := (Bool.and_eq_true _ _ ▸ hserving :).1
  have hgo : ¬ (p = .canopen ∧ (!s.dict.ready || !s.usdoServed) = true) := by
    rintro ⟨hp, hb⟩
    rw [hready] at hb
    exact hpath.elim (fun h => h hp) fun hu => by rw [hu] at hb; exact absurd hb (by decide)
  have hfresh : ({ s with reply := [] } : State) = s.fresh := rfl
  have hserve : s.fresh.serving = true := hserving
  rw [State.request, if_neg hgo, State.arrive]
  simp only [hfresh, hserve, if_true, State.serveOne]

theorem State.sec_sendAnswer (s : State) (p : Path) (a : Answer) : (s.sendAnswer p a).sec = s.sec := by
  rw [State.sendAnswer, State.noteStatus]
  split <;> rfl

theorem State.lcRestart_off {s : State} (h : s.sec.restarting = false) : s.lcRestart = s := by
  rw [State.lcRestart, h]
  rfl

section
variable {s t : State} {p : Path} {i n : Nat} {v : Option Bytes} (hask : s.asks p = true) (hi : i < 2 ^ 16) (hn : n < 2 ^ 8)
include hask hi hn

/-- A request that the device serves, with its one answer (R304, R305). -/
theorem State.request_answered {a : Answer} (h : s.fresh.perform p i n v = (t, some a)) (hr : t.sec.restarting = false) :
    s.request p i n v = t.sendAnswer p a := by
  rw [State.request_asked hask]
  simp only [State.serveCall, BitVec.toNat_ofNat, Nat.mod_eq_of_lt hi, Nat.mod_eq_of_lt hn, h]
  exact State.lcRestart_off (by rw [State.sec_sendAnswer]; exact hr)

/-- A request that the device serves now and answers later (R304, R311). -/
theorem State.request_deferred (h : s.fresh.perform p i n v = (t, none)) (hr : t.sec.restarting = false) : s.request p i n v = t := by
  rw [State.request_asked hask]
  simp only [State.serveCall, BitVec.toNat_ofNat, Nat.mod_eq_of_lt hi, Nat.mod_eq_of_lt hn, h]
  exact State.lcRestart_off hr

/-- A request whose answer the device's restart follows (R305, R337). -/
theorem State.request_restarts {a : Answer} (h : s.fresh.perform p i n v = (t, some a)) (hr : t.sec.restarting = true) :
    s.request p i n v = (t.sendAnswer p a).start 6 := by
  rw [State.request_asked hask]
  simp only [State.serveCall, BitVec.toNat_ofNat, Nat.mod_eq_of_lt hi, Nat.mod_eq_of_lt hn, h]
  rw [State.lcRestart, State.sec_sendAnswer, hr, if_pos rfl]

end

theorem State.asks_restarting {s : State} {p : Path} (h : s.asks p = true) : s.sec.restarting = false := by
  simp only [State.asks, Bool.and_eq_true, Bool.not_eq_true'] at h
  exact h.1.2

/-- A read of an entry, answered. -/
theorem exec_dictRead_answered {s t : State} {p : Path} {idx : BitVec 16} {sub : BitVec 8} {a : Answer} (hask : s.asks p = true)
    (h : s.fresh.dictRead p idx.toNat sub.toNat = (t, some a)) (hr : t.sec.restarting = false) :
    exec (.dictRead p idx sub) s = .next (t.sendAnswer p a) :=
  congrArg Host.Outcome.next (State.request_answered hask idx.isLt sub.isLt h hr)

/-- A write of an entry, answered. -/
theorem exec_dictWrite_answered {s t : State} {p : Path} {idx : BitVec 16} {sub : BitVec 8} {v : Bytes} {a : Answer} (hask : s.asks p = true)
    (h : s.fresh.dictWrite p idx.toNat sub.toNat v = (t, some a)) (hr : t.sec.restarting = false) :
    exec (.dictWrite p idx sub v) s = .next (t.sendAnswer p a) :=
  congrArg Host.Outcome.next (State.request_answered hask idx.isLt sub.isLt h hr)

/-! ### The order of the checks (R299, R301, R302) -/

theorem findEntry_listed {i n : Nat} {e : DEntry} (h : dictEntry i n = some e) : findEntry i n = .ok e := by
  rw [findEntry, h]

theorem findEntry_noIndex {i n : Nat} (h : dictEntry i n = none) (hindex : indexExists i = false) :
    findEntry i n = .error (refused 0x06020000) := by
  rw [findEntry, h, hindex]
  rfl

theorem findEntry_noSub {i n : Nat} (h : dictEntry i n = none) (hindex : indexExists i = true) (hn : n ≠ 0) :
    findEntry i n = .error (refused 0x06090011) := by
  rw [findEntry, h, hindex]
  simp only [Bool.not_true, Bool.false_eq_true, if_false, if_neg hn]

section
variable {s : State} {p : Path} {i n : Nat} {v : Bytes} {e : DEntry}

theorem State.writeCheck_ended (h : s.sec.fuse.lc = 4) : s.writeCheck p i n v = refused 0x08000022 := by
  rw [State.writeCheck, if_pos h]

theorem State.writeCheck_missing {a : Answer} (hlc : s.sec.fuse.lc ≠ 4) (h : findEntry i n = .error a) : s.writeCheck p i n v = a := by
  rw [State.writeCheck, if_neg hlc, h]

/-- A write of an entry that is there passes access, role, the entry's own rules and those against other values (R301). -/
theorem State.writeCheck_found (hlc : s.sec.fuse.lc ≠ 4) (h : findEntry i n = .ok e) : s.writeCheck p i n v =
    (s.accessCheck e i n).andThen ((s.roleCheck p i n v).andThen ((e.check i n v).andThen ((s.presentCheck i n v).andThen (s.groupCheck i n v)))) := by
  rw [State.writeCheck, if_neg hlc, h]

theorem Answer.andThen_refused {a : Answer} (h : a.good = false) (b : Answer) : a.andThen b = a := by
  rw [Answer.andThen, h]
  rfl

theorem Answer.andThen_accepted (b : Answer) : accepted.andThen b = b := rfl

theorem State.writeCheck_readOnly (hlc : s.sec.fuse.lc ≠ 4) (h : findEntry i n = .ok e) (hacc : e.acc = .ro ∨ e.acc = .const) :
    s.writeCheck p i n v = refused 0x06010002 := by
  have ha : s.accessCheck e i n = refused 0x06010002 := by
    rw [State.accessCheck]
    obtain hacc | hacc := hacc
    · simp only [hacc]
    · simp only [hacc]
  rw [State.writeCheck_found hlc h, ha, Answer.andThen_refused rfl]

/-- A writable entry: the first refusal is that of the role, then that of the entry's rules. -/
theorem State.writeCheck_writable (hlc : s.sec.fuse.lc ≠ 4) (h : findEntry i n = .ok e) (hacc : e.acc = .rw) : s.writeCheck p i n v =
    (s.roleCheck p i n v).andThen ((e.check i n v).andThen ((s.presentCheck i n v).andThen (s.groupCheck i n v))) := by
  have ha : s.accessCheck e i n = accepted := by rw [State.accessCheck, hacc]
  rw [State.writeCheck_found hlc h, ha, Answer.andThen_accepted]

theorem State.roleCheck_noSession (hrole : s.role p < writeRole i n v) (hservice : writeRole i n v = 3)
    (hnone : ∀ q ∈ s.dict.session, q.1 ≠ pathNum p) : s.roleCheck p i n v = refused 0x08000000 := by
  have hno : ¬ s.dict.session.any (·.1 == pathNum p) = true := by
    rw [List.any_eq_true]
    rintro ⟨q, hq, hpath⟩
    exact hnone q hq (beq_iff_eq.1 hpath)
  rw [State.roleCheck, if_neg (by omega), if_pos ⟨hservice, hno⟩]

theorem State.roleCheck_low (hrole : s.role p < writeRole i n v)
    (h : writeRole i n v ≠ 3 ∨ s.dict.session.any (·.1 == pathNum p) = true) : s.roleCheck p i n v = refused 0x06010000 := by
  rw [State.roleCheck, if_neg (by omega), if_neg]
  rintro ⟨h3, hno⟩
  exact h.elim (fun h => h h3) hno

theorem State.roleCheck_met (hrole : writeRole i n v ≤ s.role p) : s.roleCheck p i n v = accepted := by
  rw [State.roleCheck, if_pos hrole]

theorem DEntry.check_length (h : e.ty.fits v = false) : e.check i n v = refused 0x06070010 := by
  rw [DEntry.check, h]
  rfl

/-- A role too low refuses the write of a writable entry (R302). -/
theorem State.writeCheck_role {a : Answer} (hlc : s.sec.fuse.lc ≠ 4) (h : findEntry i n = .ok e) (hacc : e.acc = .rw)
    (hrole : s.roleCheck p i n v = a) (hbad : a.good = false) : s.writeCheck p i n v = a := by
  rw [State.writeCheck_writable hlc h hacc, hrole, Answer.andThen_refused hbad]

/-- A value of a wrong length refuses the write of a writable entry (R300, R301). -/
theorem State.writeCheck_length (hlc : s.sec.fuse.lc ≠ 4) (h : findEntry i n = .ok e) (hacc : e.acc = .rw)
    (hrole : writeRole i n v ≤ s.role p) (hfits : e.ty.fits v = false) : s.writeCheck p i n v = refused 0x06070010 := by
  rw [State.writeCheck_writable hlc h hacc, State.roleCheck_met hrole, Answer.andThen_accepted, DEntry.check_length hfits,
    Answer.andThen_refused rfl]

end

/-! ### Reads (R301) -/

theorem State.dictRead_value {s : State} {p : Path} {i n : Nat} {e : DEntry} (h : findEntry i n = .ok e) (hacc : e.acc ≠ .wo)
    (hlisted : (dictEntry i n).isSome = true) (h1 : i ≠ 0x1001) (h2 : i ≠ 0x4801) (h3 : i ≠ 0x4820) :
    s.dictRead p i n = (s, some { data := s.dictValue p i n }) := by
  have hno : (dictEntry i n).isNone = false := by rw [Option.isNone_eq_false_iff]; exact hlisted
  rw [State.dictRead, h]
  simp only [hacc, h1, h2, h3, hno, Bool.false_eq_true, false_and, if_false]

theorem State.dictRead_writeOnly {s : State} {p : Path} {i n : Nat} {e : DEntry} (h : findEntry i n = .ok e) (hacc : e.acc = .wo) :
    s.dictRead p i n = (s, some (refused 0x06010001)) := by
  rw [State.dictRead, h]
  simp only [hacc, if_true]
  rfl

theorem State.dictRead_missing {s : State} {p : Path} {i n : Nat} {a : Answer} (h : findEntry i n = .error a) :
    s.dictRead p i n = (s, some a) := by
  rw [State.dictRead, h]
  rfl

/-- A read of the error register clears it but for the hold-up bit (R307). -/
theorem State.dictRead_errorRegister (s : State) (p : Path) : s.dictRead p 0x1001 0 =
    ({ s with dict := { s.dict with errorReg := s.dict.errorReg &&& 4 } }, some { data := [s.dict.errorReg] }) := by
  have hvalue : s.dictValue p 0x1001 0 = toLE 1 s.dict.errorReg.toNat := rfl
  have hbyte : toLE 1 s.dict.errorReg.toNat = [s.dict.errorReg] := by
    simp [toLE]
  obtain ⟨e, he, hacc⟩ : ∃ e, dictEntry 0x1001 0 = some e ∧ e.acc ≠ .wo := ⟨_, rfl, by decide⟩
  rw [State.dictRead, findEntry_listed he]
  simp only [hacc, he, if_false, hvalue, hbyte]
  rfl

/-! ### Writes (R301) -/

theorem State.dictWrite_refused {s : State} {p : Path} {i n : Nat} {v : Bytes} {a : Answer} (h : s.writeCheck p i n v = a)
    (hbad : a.good = false) : s.dictWrite p i n v = (s, some a) := by
  rw [State.dictWrite, h]
  simp only [hbad, Bool.false_eq_true, if_false]
  rfl

theorem State.dictWrite_passed {s : State} {p : Path} {i n : Nat} {v : Bytes} (h : (s.writeCheck p i n v).good = true) :
    s.dictWrite p i n v = s.writeEntryOf p i n v := by
  rw [State.dictWrite]
  exact if_pos h

/-- An entry that its value alone owns is set (R301). -/
theorem State.writeEntryOf_value (s : State) (p : Path) {i : Nat} (n : Nat) (v : Bytes)
    (hi : i = 0x2000 ∨ (0x6800 ≤ i ∧ i < 0x6900) ∨ i = 0x5810) : s.writeEntryOf p i n v = (s.setDict i n v).ok := by
  obtain rfl | hi | rfl := hi
  · rfl
  · unfold State.writeEntryOf
    rw [if_neg (by omega), if_neg (by omega), if_neg (by omega), if_neg (by omega), if_neg (by omega), if_neg (by omega)]
    split
    · omega
    · omega
    · omega
    · rfl
  · rfl

theorem State.dictBytes_setDict_same (s : State) (i n : Nat) (v : Bytes) : (s.setDict i n v).dictBytes i n = v := Tab.look_put_same _ _ _ _

theorem State.dictBytes_setDict_other (s : State) {i n j k : Nat} (v : Bytes) (h : dictKey j k ≠ dictKey i n) :
    (s.setDict i n v).dictBytes j k = s.dictBytes j k := Tab.look_put_other _ _ _ h

/-- An answer without data of a request served. -/
theorem State.reply_sendAnswer {s : State} (p : Path) (h : s.reply = []) : (s.sendAnswer p accepted).reply = [{ dest := pathNum p }] := by
  rw [State.sendAnswer, State.noteStatus]
  split
  · exact congrArg (· ++ _) h
  · exact congrArg (· ++ _) h

/-- The state apart from its answers and the last status of each path. -/
def State.offReply (s : State) : State := { s with reply := [], dict := { s.dict with lastStatus := [] } }

theorem State.offReply_sendAnswer (s : State) (p : Path) (a : Answer) : (s.sendAnswer p a).offReply = s.offReply := by
  rw [State.sendAnswer, State.noteStatus]
  split <;> rfl

/-! ### Object requests (R318) -/

/-- The value of an object request. -/
def objectBytes (c gen k : Nat) : Bytes := toLE 3 c ++ toLE 2 gen ++ toLE 1 k ++ [0, 0]

theorem fieldAt_objectBytes {c gen k : Nat} (hc : c < 2 ^ 24) (hg : gen < 2 ^ 16) (hk : k < 2 ^ 8) :
    fieldAt (objectBytes c gen k) 0 3 = c ∧ fieldAt (objectBytes c gen k) 3 2 = gen ∧ fieldAt (objectBytes c gen k) 5 1 = k := by
  simp only [objectBytes, fieldAt, slice, toLE, leNat, List.range, List.range.loop, List.map, List.getD, List.cons_append, List.nil_append]
  simp
  omega

/-- What the execution of an object's action keeps: the dictionary's counters, the security block, the answers, device memory. -/
structure State.ActKeeps (s u : State) : Prop where
  requests : u.dict.requests = s.dict.requests
  restarting : u.sec.restarting = s.sec.restarting
  reply : u.reply = s.reply
  mem : u.mem = s.mem

section
variable {s : State} {p : Path} {c : CtxId} {gen : BitVec 16} {k : Nat}

theorem State.objectRow_eq (s : State) (p : Path) (c : CtxId) (gen : BitVec 16) (k : Nat) :
    s.objectRow p c gen k = s.request p 0x6F00 1 (some (objectBytes c gen.toNat k)) := rfl

/-- An object request that passes the checks reaches its owner (R301, R318). -/
theorem State.objectRow_answered {t : State} {a : Answer} (hask : s.asks p = true)
    (hcheck : (s.fresh.writeCheck p 0x6F00 1 (objectBytes c gen.toNat k)).good = true)
    (h : s.fresh.objectRequest (objectBytes c gen.toNat k) = (t, some a)) (hr : t.sec.restarting = false) :
    s.objectRow p c gen k = t.sendAnswer p a := by
  have hperform : s.fresh.perform p 0x6F00 1 (some (objectBytes c gen.toNat k)) = s.fresh.objectRequest (objectBytes c gen.toNat k) :=
    State.dictWrite_passed hcheck
  exact State.request_answered hask (by decide) (by decide) (hperform.trans h) hr

theorem State.objectRequest_eq (s : State) (c : CtxId) (gen : BitVec 16) (hk : k < 2 ^ 8) :
    s.objectRequest (objectBytes c gen.toNat k) =
      if !s.handleOk c gen then s.staleRef.no (refusedBy 0x0505)
      else if (s.objectAct c k).2 = 0 then
        ({ (s.objectAct c k).1 with dict := { (s.objectAct c k).1.dict with requests := (s.objectAct c k).1.dict.requests + 1 } } : State).ok
      else (s.objectAct c k).1.no (refusedBy (s.objectAct c k).2) := by
  obtain ⟨hc, hg, hact⟩ := fieldAt_objectBytes (c := c) (gen := gen.toNat) (k := k) (by have := c.isLt; omega) gen.isLt hk
  rw [State.objectRequest]
  simp only [hc, hg, hact, BitVec.ofNat_toNat, BitVec.setWidth_eq]

/-- A stale handle refuses an object request, and counts (R124). -/
theorem State.objectRow_stale (hk : k < 2 ^ 8) (hask : s.asks p = true)
    (hcheck : (s.fresh.writeCheck p 0x6F00 1 (objectBytes c gen.toNat k)).good = true) (hgen : (s.ctxRec c).gen ≠ gen) :
    s.objectRow p c gen k = s.fresh.staleRef.sendAnswer p { abort := 0x08000020, status := 0x0505 } := by
  have hbad : s.fresh.handleOk c gen = false := beq_eq_false_iff_ne.2 hgen
  refine State.objectRow_answered hask hcheck ?_ (State.asks_restarting hask)
  rw [State.objectRequest_eq _ _ _ hk, hbad]
  rfl

/-- An action that its object refuses (R318). -/
theorem State.objectRow_refused {st : Status} (hk : k < 2 ^ 8) (hask : s.asks p = true)
    (hcheck : (s.fresh.writeCheck p 0x6F00 1 (objectBytes c gen.toNat k)).good = true) (hgen : (s.ctxRec c).gen = gen)
    (hact : s.fresh.objectAct c k = (s.fresh, st)) (hst : st ≠ 0) :
    s.objectRow p c gen k = s.fresh.sendAnswer p { abort := 0x08000020, status := st } := by
  have hgood : s.fresh.handleOk c gen = true := beq_iff_eq.2 hgen
  refine State.objectRow_answered hask hcheck ?_ (State.asks_restarting hask)
  rw [State.objectRequest_eq _ _ _ hk, hgood, hact]
  exact if_neg hst

/-- An action that succeeds is answered, and counted in REQUESTS (R318). -/
theorem State.objectRow_served {u : State} (hk : k < 2 ^ 8) (hask : s.asks p = true)
    (hcheck : (s.fresh.writeCheck p 0x6F00 1 (objectBytes c gen.toNat k)).good = true) (hgen : (s.ctxRec c).gen = gen)
    (hact : s.fresh.objectAct c k = (u, 0)) (hkeep : s.fresh.ActKeeps u) :
    ∃ t, s.objectRow p c gen k = t ∧ t.ctx = u.ctx ∧ t.courses = u.courses ∧ t.dict.requests = s.dict.requests + 1 ∧
      t.reply = [{ dest := pathNum p }] ∧ t.mem = s.mem := by
  have hgood : s.fresh.handleOk c gen = true := beq_iff_eq.2 hgen
  have hobj : s.fresh.objectRequest (objectBytes c gen.toNat k) =
      ({ u with dict := { u.dict with requests := u.dict.requests + 1 } }, some accepted) := by
    rw [State.objectRequest_eq _ _ _ hk, hgood, hact]
    rfl
  refine ⟨_, State.objectRow_answered hask hcheck hobj (hkeep.restarting.trans (State.asks_restarting hask)), ?_⟩
  have hoff := State.offReply_sendAnswer { u with dict := { u.dict with requests := u.dict.requests + 1 } } p accepted
  refine ⟨(congrArg State.ctx hoff :), (congrArg State.courses hoff :), (congrArg (fun t : State => t.dict.requests) hoff :).trans ?_,
    State.reply_sendAnswer p (hkeep.reply.trans rfl), (congrArg State.mem hoff :).trans hkeep.mem⟩
  exact congrArg (· + 1) hkeep.requests

end

/-! ### The actions (R123, R318) -/

section
variable {s : State} {c : Nat}

theorem State.image_actKeeps (s : State) (hc : c ≠ 0) : s.ActKeeps (s.image c) where
  requests := (congrArg (fun t : State => t.dict.requests) (s.offImages_image hc) :)
  restarting := (congrArg (fun t : State => t.sec.restarting) (s.offImages_image hc) :)
  reply := (congrArg State.reply (s.offImages_image hc) :)
  mem := s.mem_image hc

/-- A hold of a free object without a course is set or cleared, and its claim given back (R122, R318). -/
theorem State.holdReq_object (hc : c ≠ 0) (hcourse : (s.ctxRec c).course = false) (hstate : (s.ctxRec c).state = 2 ∨ (s.ctxRec c).state = 3)
    (hclaim : s.claimable c = true) (hset : ∀ e ∈ s.courses.held, e.1 ≠ c → s.ctx.setOf e.1 ≠ s.ctx.setOf c) (m : Nat) (on : Bool) :
    ∃ u, s.holdReq m c on = (u, 0) ∧ (u.ctxRec c).hold = on ∧ (u.ctxRec c).claimed = false ∧ (u.ctxRec c).state = (s.ctxRec c).state ∧
      s.ActKeeps u := by
  have ht := State.tryClaim_claimable hclaim m none
  generalize hv : ({ s with ctx := (s.ctx.access c).claimed c m none } : State) = v at ht
  have hrec : v.ctxRec c = { s.ctxRec c with claimed := true, claimId := BitVec.ofNat 8 m } := by
    rw [← hv]
    exact ((s.ctx.access c).get_claimed_same c m none).trans (by rw [CtxStore.get_access_same]; rfl)
  have hkey : v.ctx.cacheKey = s.ctx.cacheKey := by
    rw [← hv]
    exact ((s.ctx.access c).cacheKey_set c _).trans (congrArg CtxStore.cacheKey (s.ctx.apart_access c) :)
  have hcourses : v.courses = s.courses := by rw [← hv]
  have hkeeps : s.ActKeeps v := by rw [← hv]; exact ⟨rfl, rfl, rfl, rfl⟩
  have hnot4 : (v.ctxRec c).state ≠ 4 := by
    rw [hrec]
    obtain h | h := hstate <;> simp only [h] <;> decide
  have hobj : v.holdsObject c = true := by
    rw [State.holdsObject, hrec]
    simp only [Bool.or_eq_true, beq_iff_eq]
    exact hstate
  generalize hd : (v.modCtx c fun r => { r with hold := on }) = d
  have hdrec : d.ctxRec c = { v.ctxRec c with hold := on } := by rw [← hd, State.ctxRec_modCtx_same]
  obtain ⟨hicourses, himem, hikey, n, hirec⟩ := d.image_keeps c
  have hidle : ((d.image c).ctxRec c).course = false := by rw [hirec, hdrec, hrec]; exact hcourse
  have hdkey : d.ctx.cacheKey = s.ctx.cacheKey := by rw [← hd]; exact (v.ctx.cacheKey_set c _).trans hkey
  have hdcourses : d.courses = s.courses := by rw [← hd]; exact hcourses
  have hrelease : (d.image c).release c = (d.image c).releaseClaim c := by
    refine State.release_quiet (.inl hidle) (State.setWaiters_none fun z hz hne => ?_)
    rw [hicourses, hdcourses] at hz
    rw [CtxStore.setOf, CtxStore.setOf, hikey, hdkey]
    exact hset z hz hne
  have hfinal : ((d.image c).releaseClaim c).ctxRec c = { (d.image c).ctxRec c with claimed := false, claimId := 0 } :=
    (d.image c).ctx.get_released_same c
  refine ⟨(d.image c).releaseClaim c, ?_, ?_, ?_, ?_, ?_⟩
  · rw [State.holdReq, if_neg hc, ht]
    simp only [hnot4, hobj, hd, hrelease, if_false, Bool.not_true, Bool.false_eq_true]
    rw [if_neg (by rw [hfinal, hidle]; simp)]
  · rw [hfinal, hirec, hdrec]
  · rw [hfinal]
  · rw [hfinal, hirec, hdrec, hrec]
  · have hi := State.image_actKeeps d hc
    have hdk : s.ActKeeps d := by rw [← hd]; exact ⟨hkeeps.requests, hkeeps.restarting, hkeeps.reply, hkeeps.mem⟩
    exact ⟨hi.requests.trans hdk.requests, hi.restarting.trans hdk.restarting, hi.reply.trans hdk.reply, hi.mem.trans hdk.mem⟩

theorem State.requestStatus_cause {n : Nat} (hn : n = 2 → s.razes c = false ∧ (s.ctxRec c).state ≠ 4) : s.requestStatus c n = s.causeStatus c := by
  rw [State.requestStatus, if_neg, if_neg]
  · rintro ⟨-, h2, h4⟩
    exact (hn h2).2 h4
  · rintro ⟨-, h2, hr⟩
    rw [(hn h2).1] at hr
    exact Bool.false_ne_true hr

/-- A cause asked of a running course is pending (R106, R318). -/
theorem State.signalReq_running {n : Nat} (hn : n = 2 → s.razes c = false ∧ (s.ctxRec c).state ≠ 4) (hc : c ≠ 0)
    (hcourse : (s.ctxRec c).course = true) (hsus : (s.ctxRec c).suspended = false) :
    ∃ u, s.signalReq c n = (u, 0) ∧ (u.ctxRec c).pending = (s.ctxRec c).pending ||| BitVec.ofNat 16 (2 ^ n) ∧
      u.courses.held = s.courses.held ∧ s.ActKeeps u := by
  have hst : s.requestStatus c n = 0 := by rw [State.requestStatus_cause hn, State.causeStatus, if_neg hc, if_pos hcourse]
  obtain ⟨m, hm⟩ := State.cause_running (n := n) hcourse hsus
  refine ⟨s.cause c n, by rw [State.signalReq, if_pos hst], ?_⟩
  rw [hm, State.ctxRec_setCtx_same]
  exact ⟨rfl, rfl, rfl, rfl, rfl, rfl⟩

theorem State.signalReq_noCourse {n : Nat} (hn : n = 2 → s.razes c = false ∧ (s.ctxRec c).state ≠ 4) (hc : c ≠ 0)
    (hcourse : (s.ctxRec c).course = false) : s.signalReq c n = (s, 0x0504) := by
  have hst : s.requestStatus c n = 0x0504 := by
    rw [State.requestStatus_cause hn, State.causeStatus, if_neg hc, if_neg (by rw [hcourse]; exact Bool.false_ne_true)]
  rw [State.signalReq, hst]
  rfl

/-- A course at work on a word of its own stops at its word boundary (R111, R318). -/
theorem State.stopReq_running (hc : c ≠ 0) (hcourse : (s.ctxRec c).course = true) (hsus : (s.ctxRec c).suspended = false)
    (hwait : (s.course c).wait = none) (hword : (s.course c).word.isSome = true) :
    s.stopReq c = (s.modCourse c fun x => { x with stop := true }, 0) := by
  have hst : s.stopStatus c = 0 := by
    rw [State.stopStatus, State.causeStatus, if_neg hc, if_pos hcourse, hsus]
    rfl
  have hnone : (s.course c).word.isNone = false := by rw [Option.isNone_eq_false_iff]; exact hword
  rw [State.stopReq, if_pos hst, State.stopCourse]
  simp only [hsus, hwait, hnone, Bool.false_eq_true, if_false]

end

/-! ### The obligation -/

/-- A request that is no datagram waits behind those that wait already (R305). -/
theorem State.hold_call {s : State} (q : DictReq) (hphase : s.power.phase = .run ∨ s.power.phase = .park) :
    s.hold (.call q) = { s with dict := { s.dict with held := s.dict.held ++ [.call q] } } := by
  have hany : s.dict.held.any (HeldReq.call q).repeats = false := List.any_eq_false.2 fun _ _ h => by simp [HeldReq.repeats] at h
  have hpower : (s.power.phase == Phase.run || s.power.phase == Phase.park) = true := by
    rw [Bool.or_eq_true, beq_iff_eq, beq_iff_eq]
    exact hphase
  rw [State.hold, hany, hpower]
  rfl

/-- A request that is held (R305, R311). -/
theorem exec_dictRead_held {s : State} {p : Path} {idx : BitVec 16} {sub : BitVec 8} (hserving : s.serving = false) (hp : p ≠ .canopen)
    (hphase : s.power.phase = .run ∨ s.power.phase = .park) :
    exec (.dictRead p idx sub) s = .next { s.fresh with
      dict := { s.dict with held := s.dict.held ++ [.call { path := p, idx := idx, sub := sub, val := none }] } } := by
  have hgo : ¬ (p = .canopen ∧ (!s.dict.ready || !s.usdoServed) = true) := fun h => hp h.1
  have harrive : s.arrive (.call { path := p, idx := idx, sub := sub, val := none }) =
      s.fresh.hold (.call { path := p, idx := idx, sub := sub, val := none }) := 
    if_neg (by rw [show ({ s with reply := [] } : State).serving = false from hserving]; exact Bool.false_ne_true)
  rw [exec_dictRead, execDictRead, State.request, if_neg hgo]
  simp only [BitVec.ofNat_toNat, BitVec.setWidth_eq, harrive]
  exact congrArg Host.Outcome.next (State.hold_call (s := s.fresh) _ hphase)

/-- Path 0 is silent while USDO is not served (R305, R306). -/
theorem State.request_silent {s : State} (i n : Nat) (v : Option Bytes) (h : s.usdoServed = false) : s.request .canopen i n v = s := by
  rw [State.request, h, if_pos]
  exact ⟨rfl, by rw [Bool.not_false, Bool.or_true]⟩

section
variable {p : Path} {idx : BitVec 16} {sub : BitVec 8} {v : Bytes} {s : State} (hask : s.asks p = true)
include hask

theorem exec_dictWrite_refused {a : Answer} (h : s.fresh.writeCheck p idx.toNat sub.toNat v = a) (hbad : a.good = false) :
    exec (.dictWrite p idx sub v) s = .next (s.fresh.sendAnswer p a) :=
  exec_dictWrite_answered hask (State.dictWrite_refused h hbad) (State.asks_restarting hask)

theorem exec_dictRead_same {a : Answer} (h : s.fresh.dictRead p idx.toNat sub.toNat = (s.fresh, some a)) :
    exec (.dictRead p idx sub) s = .next (s.fresh.sendAnswer p a) :=
  exec_dictRead_answered hask h (State.asks_restarting hask)

/-- An accepted write of an entry that its value alone owns (R301). -/
theorem exec_dictWrite_value (h : (s.fresh.writeCheck p idx.toNat sub.toNat v).good = true)
    (hi : idx.toNat = 0x2000 ∨ (0x6800 ≤ idx.toNat ∧ idx.toNat < 0x6900) ∨ idx.toNat = 0x5810) :
    ∃ t, exec (.dictWrite p idx sub v) s = .next t ∧ t.dictBytes idx.toNat sub.toNat = v ∧
      (∀ j k, dictKey j k ≠ dictKey idx.toNat sub.toNat → t.dictBytes j k = s.dictBytes j k) ∧ t.reply = [{ dest := pathNum p }] ∧
      t.mem = s.mem ∧ t.engines = s.engines := by
  have hoff := State.offReply_sendAnswer (s.fresh.setDict idx.toNat sub.toNat v) p accepted
  refine ⟨_, exec_dictWrite_answered hask ((State.dictWrite_passed h).trans (State.writeEntryOf_value _ _ _ _ hi))
    (State.asks_restarting hask), ?_, fun j k hjk => ?_, State.reply_sendAnswer p rfl, (congrArg State.mem hoff :), (congrArg State.engines hoff :)⟩
  · exact (congrArg (fun t : State => t.dictBytes idx.toNat sub.toNat) hoff :).trans (State.dictBytes_setDict_same ..)
  · exact (congrArg (fun t : State => t.dictBytes j k) hoff :).trans (State.dictBytes_setDict_other _ _ hjk)

end

/-- Settles O57: a request served is answered (`request_answered`) with what the order of the checks leaves, and an object request with
what its action does (`objectRow_served`, `objectRow_refused`, `objectRow_stale`). -/
theorem dictionaryRequests : Obligations.DictionaryRequests := by
  intro p idx sub v e c gen s i n z read write no check r ask stale served held caused
  have hstale : ∀ k, k < 2 ^ 8 → stale k (.next (s.objectRow p c gen k)) := fun k hk ⟨hask, hcheck⟩ hgen =>
    congrArg Host.Outcome.next (State.objectRow_stale hk hask hcheck hgen)
  have hheld : ∀ k on, k < 2 ^ 8 → (∀ u : State, u.objectAct c k = u.holdReq 0 c on) → held k (.next (s.objectRow p c gen k)) on := by
    intro k on hk hact ⟨hask, hcheck⟩ hgen hc hcourse hstate hclaim hset
    obtain ⟨u, hu, hhold, hfree, hsame, hkeep⟩ :=
      State.holdReq_object (s := s.fresh) (fun h => hc (Fin.ext h)) hcourse hstate hclaim hset 0 on
    obtain ⟨t, ht, hctx, -, hreq, hreply, hmem⟩ := State.objectRow_served hk hask hcheck hgen ((hact _).trans hu) hkeep
    have hrec : t.ctxRec c = u.ctxRec c := congrArg (fun x : CtxStore => x.get c) hctx
    exact ⟨t, congrArg Host.Outcome.next ht, by dsimp only; rw [hrec]; exact ⟨hhold, hfree, hsame⟩, hreq, hreply, hmem⟩
  have hcaused : ∀ k n, k < 2 ^ 8 → (∀ u : State, u.objectAct c k = u.signalReq c n) → caused k n (.next (s.objectRow p c gen k)) := by
    intro k n hk hact ⟨hask, hcheck⟩ hgen hc hn
    have hc' : c.val ≠ 0 := fun h => hc (Fin.ext h)
    refine ⟨fun hcourse hsus => ?_, fun hcourse => ?_⟩
    · obtain ⟨u, hu, hpending, hheld', hkeep⟩ := State.signalReq_running (s := s.fresh) hn hc' hcourse hsus
      obtain ⟨t, ht, hctx, hcourses, hreq, hreply, hmem⟩ := State.objectRow_served hk hask hcheck hgen ((hact _).trans hu) hkeep
      have hrec : t.ctxRec c = u.ctxRec c := congrArg (fun x : CtxStore => x.get c) hctx
      exact ⟨t, congrArg Host.Outcome.next ht, by dsimp only; rw [hrec, hcourses]; exact ⟨hpending, hheld'⟩, hreq, hreply, hmem⟩
    · have hu := State.signalReq_noCourse (s := s.fresh) hn hc' hcourse
      exact congrArg Host.Outcome.next (State.objectRow_refused hk hask hcheck hgen ((hact _).trans hu) (by decide))
  refine ⟨fun hserving hp hphase => exec_dictRead_held hserving hp hphase, fun hserved hp => ?silent,
    fun hask => ⟨fun hfind => ⟨fun hacc hlisted h1 h2 h3 => ?value, fun hacc => ?writeOnly, fun hlc hacc => ?readOnly,
      fun hlc hacc => ⟨fun hrole h3 hnone => ?noSession, fun hrole h => ?lowRole, fun hrole hfits => ?length⟩⟩,
      fun hi hn => ?errorRegister, fun hindex hentry => ⟨?noIndexRead, fun hlc => ?noIndexWrite⟩, fun hindex hn hentry => ?noSub,
      fun hlc => ?ended, fun hbad => exec_dictWrite_refused hask rfl hbad, fun hgood hi => exec_dictWrite_value hask hgood hi⟩,
    hstale 1 (by decide), hstale 2 (by decide), hstale 3 (by decide), hstale 4 (by decide), hstale 5 (by decide), hstale 6 (by decide),
    hheld 1 true (by decide) fun _ => rfl, hheld 2 false (by decide) fun _ => rfl, hcaused 3 2 (by decide) fun _ => rfl,
    hcaused 4 7 (by decide) fun _ => rfl, hcaused 5 4 (by decide) fun _ => rfl, ?stop⟩
  case silent =>
    subst hp
    exact ⟨congrArg Host.Outcome.next (State.request_silent _ _ _ hserved), congrArg Host.Outcome.next (State.request_silent _ _ _ hserved)⟩
  case value => exact exec_dictRead_same hask (State.dictRead_value hfind hacc hlisted h1 h2 h3)
  case writeOnly => exact exec_dictRead_same hask (State.dictRead_writeOnly hfind hacc)
  case readOnly => exact exec_dictWrite_refused hask (State.writeCheck_readOnly hlc hfind hacc) rfl
  case noSession => exact exec_dictWrite_refused hask (State.writeCheck_role hlc hfind hacc (State.roleCheck_noSession hrole h3 hnone) rfl) rfl
  case lowRole => exact exec_dictWrite_refused hask (State.writeCheck_role hlc hfind hacc (State.roleCheck_low hrole h) rfl) rfl
  case length => exact exec_dictWrite_refused hask (State.writeCheck_length hlc hfind hacc hrole hfits) rfl
  case errorRegister =>
    refine exec_dictRead_answered hask ?_ (State.asks_restarting hask)
    rw [show idx.toNat = 0x1001 from hi, show sub.toNat = 0 from hn]
    exact State.dictRead_errorRegister _ _
  case noIndexRead => exact exec_dictRead_same hask (State.dictRead_missing (findEntry_noIndex hentry hindex))
  case noIndexWrite => exact exec_dictWrite_refused hask (State.writeCheck_missing hlc (findEntry_noIndex hentry hindex)) rfl
  case noSub => exact exec_dictRead_same hask (State.dictRead_missing (findEntry_noSub hentry hindex hn))
  case ended => exact exec_dictWrite_refused hask (State.writeCheck_ended hlc) rfl
  case stop =>
    rintro ⟨hask, hcheck⟩ hgen hc hcourse hsus hwait hword
    have hu := State.stopReq_running (s := s.fresh) (c := c) (fun h => hc (Fin.ext h)) hcourse hsus hwait hword
    obtain ⟨t, ht, hctx, hcourses, hreq, hreply, hmem⟩ := State.objectRow_served (by decide) hask hcheck hgen hu ⟨rfl, rfl, rfl, rfl⟩
    have hrec : t.ctxRec c = s.ctxRec c := congrArg (fun x : CtxStore => x.get c) hctx
    have hstop : t.course c = { s.course c with stop := true } :=
      (congrArg (fun x : CourseStore => x.held.look {} c) hcourses :).trans (Tab.look_put_same _ _ _ _)
    exact ⟨t, congrArg Host.Outcome.next ht, ⟨hstop, by rw [hrec]; exact hcourse⟩, hreq, hreply, hmem⟩

end Sys2Proof.Machine

namespace Sys2Proof.Machine

/-! ### What no tile's change of power touches: the hold-up controller, the rails, and the arrivals of the device's own sources -/

/-- A source that neither the arbiter nor a publication nor a drop raises (R213, R225, R228, R261). -/
def Calm (n : Nat) : Prop := 207 ≤ n ∧ n ≠ 224 ∧ n ≠ 225 ∧ n ≠ 247

/-- The hold-up controller, the power state, whether the watcher counts in place of the unit, and the arrivals of source n. -/
def State.steady (n : Nat) (s : State) : Holdup × Power × Bool × W32 := (s.holdup, s.power, s.watcher.asleep, (s.vu.row n).arrivals)

/-- What each step of a fold over a list's members keeps, the fold keeps. -/
theorem foldl_keeps_mem {α β γ : Type} (g : β → γ) (f : β → α → β) {l : List α} (h : ∀ b, ∀ a ∈ l, g (f b a) = g b) (b : β) :
    g (l.foldl f b) = g b := by
  induction l generalizing b with
  | nil => rfl
  | cons a l ih =>
    exact (ih (fun b a ha => h b a (List.mem_cons_of_mem _ ha)) _).trans (h b a List.mem_cons_self)

theorem Watcher.asleep_count (w : Watcher) (n : Nat) : (w.count n).asleep = w.asleep := by
  rw [Watcher.count]
  repeat' split
  all_goals rfl

theorem Watcher.asleep_arrive (w : Watcher) (n : Nat) : (w.arrive n).asleep = w.asleep := by
  rw [Watcher.arrive]
  split
  · rw [Watcher.asleep_count, Watcher.asleep_count]
  · exact w.asleep_count n

theorem State.steady_eq {n : Nat} {s t : State} (hh : t.holdup = s.holdup) (hp : t.power = s.power)
    (hw : t.watcher.asleep = s.watcher.asleep) (hv : (t.vu.row n).arrivals = (s.vu.row n).arrivals) : t.steady n = s.steady n := by
  rw [State.steady, State.steady, hh, hp, hw, hv]

/-- A raise of another source (R211). -/
theorem State.steady_raise {n k : Nat} (s : State) (h : n ≠ k) (h2 : n ≠ 247) : (s.raise k).steady n = s.steady n := by
  cases hw : s.watcher.asleep with
  | true =>
    refine State.steady_eq rfl rfl ?_ ?_
    · simp only [State.raise, hw, if_true, Watcher.asleep_arrive]
    · simp only [State.raise, hw, if_true]
  | false =>
    refine State.steady_eq rfl rfl ?_ ?_
    · simp only [State.raise, hw, Bool.false_eq_true, if_false]
    · rw [State.vu_raise hw, VectorUnit.row_arrive_other _ h h2]

section
variable {n : Nat} (hn : Calm n)
include hn

theorem State.steady_raiseN {k : Nat} (s : State) (h : n ≠ k) (m : Nat) : (s.raiseN k m).steady n = s.steady n := by
  induction m generalizing s with
  | zero => rfl
  | succ m ih => exact (ih (s.raise k)).trans (s.steady_raise h hn.2.2.2)

theorem State.steady_publishN (s : State) (c k : Nat) : (s.publishN c k).steady n = s.steady n := by
  rw [State.publishN]
  split
  · rfl
  · split
    · exact State.steady_raiseN hn _ hn.2.1 k
    · rw [markSubscribers_eq]
      exact State.steady_raiseN hn _ hn.2.2.1 _

theorem State.steady_publish (s : State) (c : Nat) : (s.publish c).steady n = s.steady n := s.steady_publishN hn c 1

theorem State.steady_publishCore (s : State) (c : Nat) : (s.publishCore c).steady n = s.steady n := by
  rw [State.publishCore]
  split
  · rfl
  · exact s.steady_publish hn c

theorem State.steady_mortarTurn (s : State) (m : Mortar) : (s.mortarTurn m).steady n = s.steady n := by
  refine (foldl_keeps_mem (State.steady n) _ (fun t i hi => ?_) _).trans rfl
  have hlow := List.mem_range.1 hi
  have h207 := hn.1
  exact ite_keeps (State.steady n) (t.steady_raise (by omega) hn.2.2.2)

end

/-! ### Images, claims, courses (R106, R122, R126) -/

theorem State.steady_image (n : Nat) (s : State) (c : Nat) : (s.image c).steady n = s.steady n := by
  by_cases h : c = 0
  · rw [h, s.image_zero]
  · exact (congrArg (State.steady n) (s.offImages_image h) :)

theorem State.steady_tryResume (n : Nat) (s : State) (c : Nat) : (s.tryResume c).steady n = s.steady n := by
  rw [State.tryResume]
  split
  · rfl
  · split
    · rfl
    · dsimp only
      split
      · rfl
      · next t ht =>
        rw [State.tryClaim] at ht
        split at ht
        · cases ht
          rfl
        · cases ht

theorem State.steady_release (n : Nat) (s : State) (c : Nat) : (s.release c).steady n = s.steady n := by
  rw [State.release]
  refine (foldl_keeps (State.steady n) _ (fun t k => t.steady_tryResume n k) _ _).trans ?_
  exact (s.releaseClaim c).steady_tryResume n c

theorem State.steady_releaseTaken (n : Nat) (s : State) (c : Nat) : (s.releaseTaken c).steady n = s.steady n :=
  foldl_keeps (State.steady n) _ (fun t k => t.steady_release n k) _ _

theorem State.steady_writeAt (n : Nat) (s : State) (base : W64) (a : BitVec 40) (b : Bytes) : (s.writeAt base a b).steady n = s.steady n := by
  rw [State.writeAt]
  split <;> rfl

theorem State.steady_entryDone (n : Nat) (s : State) (e : EntryRef) (d : RingDone) : (s.entryDone e d).steady n = s.steady n := by
  rw [State.entryDone]
  split <;> rfl

theorem State.steady_completeStart (n : Nat) (s : State) (c : Nat) (st : Status) (d : W64) : (s.completeStart c st d).steady n = s.steady n := by
  rw [State.completeStart]
  split
  · rfl
  · exact s.steady_entryDone n _ _

theorem State.steady_dropCourse (n : Nat) (s : State) (c : Nat) (st : Status) (d : W64) : (s.dropCourse c st d).steady n = s.steady n := by
  rw [State.dropCourse]
  have h : ∀ u : State, ((u.image c).releaseTaken c).steady n = u.steady n := fun u =>
    (State.steady_releaseTaken n _ c).trans (u.steady_image n c)
  split
  · exact (h _).trans (s.steady_completeStart n c st d)
  · exact (h _).trans (s.steady_completeStart n c st d)

section
variable {n : Nat} (hn : Calm n)
include hn

theorem State.steady_postStatus (s : State) (c kind : Nat) (addr : BitVec 40) (op : Nat) (v : WordResult) :
    (s.postStatus c kind addr op v).steady n = s.steady n := by
  rw [State.postStatus]
  split
  · exact (State.steady_publishCore hn _ _).trans (s.steady_writeAt n _ _ _)
  · exact s.steady_writeAt n _ _ _

theorem State.steady_endCourse (s : State) (c : Nat) (addr : BitVec 40) (op : Nat) (v : WordResult) :
    (s.endCourse c addr op v).steady n = s.steady n :=
  ((s.postStatus c 1 addr op v).steady_dropCourse n c v.status v.detail).trans (s.steady_postStatus hn c 1 addr op v)

theorem State.steady_afterWord (s : State) (c : Nat) (w : BitVec 256) (v : WordResult) : (s.afterWord c w v).steady n = s.steady n := by
  rw [State.afterWord]
  split
  · exact s.steady_endCourse hn ..
  · split
    · exact s.steady_endCourse hn ..
    · split
      · exact s.steady_endCourse hn ..
      · split
        · split
          · exact s.steady_postStatus hn ..
          · rfl
        · rfl

theorem State.steady_spanOn (s : State) (c : Nat) (w : BitVec 256) (f : Course → Course) (v : WordResult) :
    (s.spanOn c w f v).steady n = s.steady n := by
  rw [State.spanOn]
  split
  · exact s.steady_endCourse hn ..
  · split
    · exact s.steady_postStatus hn ..
    · rfl

theorem State.steady_finishWord (s : State) (c : Nat) (e : WordEnd) : (s.finishWord c e).steady n = s.steady n := by
  rw [State.finishWord]
  split
  · rfl
  · split
    · rfl
    · split
      · exact s.steady_spanOn hn ..
      · exact State.steady_afterWord hn _ ..

theorem State.steady_dropVerify (s : State) (c : Nat) : (s.dropVerify c).steady n = s.steady n := by
  rw [State.dropVerify]
  split
  · exact s.steady_mortarTurn hn _
  · rfl

theorem State.steady_forgetWord (s : State) (c : Nat) : (s.forgetWord c).steady n = s.steady n := s.steady_dropVerify hn c

theorem State.steady_breakWord (s : State) (c : Nat) (st : Status) (d : W64) : (s.breakWord c st d).steady n = s.steady n := by
  have hf := s.steady_forgetWord hn c
  rw [State.breakWord]
  split
  · split
    · exact hf
    · refine (State.steady_finishWord hn _ _ _).trans ?_
      split
      · exact (State.steady_release n _ _).trans hf
      · exact hf
  · exact hf
  · exact hf

/-! ### A tile's power (R124, R147, R346, R362) -/

theorem State.steady_breakTile (s : State) (t : Nat) : (s.breakTile t).steady n = s.steady n :=
  foldl_keeps (State.steady n) _ (fun u c => u.steady_breakWord hn c 0x0901 0) _ _

theorem State.steady_ingestEnd (s : State) (l : Nat) (st : Status) (long : Bool) : (s.ingestEnd l st long).steady n = s.steady n := by
  rw [State.ingestEnd]
  split
  · rfl
  · exact State.steady_finishWord hn _ _ _

theorem State.steady_laneHod (s : State) (l : Nat) : (s.laneHod l).steady n = s.steady n := by
  rw [State.laneHod]
  split
  · split
    · dsimp only
      split
      · exact s.steady_ingestEnd hn ..
      · split <;> rfl
    · rfl
  · rfl

theorem State.steady_laneRetry (s : State) : s.laneRetry.steady n = s.steady n :=
  foldl_keeps (State.steady n) _ (fun t l => t.steady_laneHod hn l) _ _

end

section
variable (n : Nat) (s : State) (t : Nat)

theorem State.steady_refuseHeld (l : Nat) : (s.refuseHeld l).steady n = s.steady n := by
  rw [State.refuseHeld]
  split <;> rfl

theorem State.steady_refuseTile : (s.refuseTile t).steady n = s.steady n :=
  foldl_keeps (State.steady n) _ (fun u l => u.steady_refuseHeld n l) _ _

theorem State.steady_modEngs (f : Engine → Engine) : ((enginesOf t).foldl (fun (u : State) e => u.modEng e f) s).steady n = s.steady n :=
  foldl_keeps (State.steady n) (fun (u : State) e => u.modEng e f) (fun _ _ => rfl) _ _

theorem State.steady_setTilePower (p : TilePower) : (s.setTilePower t p).steady n = s.steady n := rfl

theorem State.steady_wipeShared : (s.wipeShared t).steady n = s.steady n := rfl

theorem State.steady_wipeProgram : (s.wipeProgram t).steady n = s.steady n := rfl

theorem State.steady_sliceReset : (s.sliceReset t).steady n = s.steady n := rfl

theorem State.steady_dropLines : (s.dropLines t).steady n = s.steady n := rfl

theorem State.steady_modTile (f : TileSt → TileSt) : (s.modTile t f).steady n = s.steady n := rfl

theorem State.steady_setBytes (a : Nat) (b : Bytes) : (s.setBytes a b).steady n = s.steady n := rfl

theorem State.steady_hostWrite (a : Nat) (b : Bytes) : (s.hostWrite a b).steady n = s.steady n := rfl

theorem State.steady_modPair (q : Nat) (f : Pair → Pair) : (s.modPair q f).steady n = s.steady n := rfl

theorem State.steady_dropRaws (q : Nat) : (s.dropRaws q).steady n = s.steady n := rfl

theorem State.steady_wipeEngines : (s.wipeEngines t).steady n = s.steady n := s.steady_modEngs n t _

theorem State.steady_tileOff : (s.tileOff t).steady n = s.steady n := by
  rw [State.tileOff, State.steady_setTilePower, State.steady_wipeProgram, State.steady_wipeShared, State.steady_wipeEngines]

theorem State.steady_tileBank : (s.tileBank t).steady n = s.steady n := by
  rw [State.tileBank, State.steady_setTilePower, State.steady_modEngs]

theorem State.steady_dropClaims : (s.dropClaims t).steady n = s.steady n :=
  (foldl_keeps (State.steady n) _ (fun u c => u.steady_release n c) _ _ : _ = (s.dropLines t).steady n)

theorem State.steady_tileUnbank : (s.tileUnbank t).steady n = s.steady n := State.steady_dropClaims n _ t

theorem State.steady_loadRec (tiles : List Nat) (r : LoadRec) : (s.loadRec tiles r).steady n = s.steady n := by
  rw [State.loadRec]
  split
  · exact s.steady_setBytes n _ _
  · exact foldl_keeps (State.steady n) _ (fun u t => u.steady_setBytes n _ _) _ _

theorem State.steady_reloadTile : (s.reloadTile t).steady n = s.steady n :=
  foldl_keeps (State.steady n) _ (fun u r => u.steady_loadRec n [t] r) _ _

theorem State.steady_epochPair (q : Nat) : (s.epochPair q).steady n = s.steady n := by
  rw [State.epochPair]
  have h : ∀ f, ((s.modPair q f).dropRaws q).steady n = s.steady n := fun f => by rw [State.steady_dropRaws, State.steady_modPair]
  split
  · rw [State.writeShadow, State.steady_hostWrite, h]
  · exact h _

theorem State.steady_epochAdvance : (s.epochAdvance t).steady n = s.steady n :=
  foldl_keeps (State.steady n) _ (fun u q => u.steady_epochPair n q) _ _

end

section
variable {n : Nat} (hn : Calm n) (s : State) (t : Nat)
include hn

theorem State.steady_tileCold : (s.tileCold t).steady n = s.steady n :=
  (State.steady_tileOff n _ t).trans ((State.steady_refuseTile n _ t).trans (s.steady_breakTile hn t))

theorem State.steady_tileReturn : (s.tileReturn t).steady n = s.steady n := by
  rw [State.tileReturn, State.steady_laneRetry hn, State.steady_setTilePower, State.steady_modEngs, State.steady_epochAdvance,
    State.steady_sliceReset, State.steady_dropClaims, State.steady_modTile, State.steady_reloadTile]

theorem State.steady_applyTilePwr : (s.applyTilePwr t).steady n = s.steady n := by
  rw [State.applyTilePwr]
  split
  · exact s.steady_tileReturn hn t
  · exact s.steady_tileUnbank n t
  · split
    · exact s.steady_tileBank n t
    · rfl
  · rw [State.steady_setTilePower, s.steady_tileReturn hn t]
  · exact s.steady_tileCold hn t
  · exact s.steady_tileCold hn t
  · rfl

end

end Sys2Proof.Machine

namespace Sys2Proof.Machine

/-! ### What a signal and a judgement leave of a source's arrivals (R62, R211) -/

/-- Whether the watcher counts in place of the unit, and the arrivals of source n. -/
def State.arrived (n : Nat) (s : State) : Bool × W32 := (s.watcher.asleep, (s.vu.row n).arrivals)

theorem State.arrived_of_steady {n : Nat} {s t : State} (h : t.steady n = s.steady n) : t.arrived n = s.arrived n :=
  congrArg (fun x : Holdup × Power × Bool × W32 => x.2.2) h

theorem State.holdup_of_steady {n : Nat} {s t : State} (h : t.steady n = s.steady n) : t.holdup = s.holdup := congrArg Prod.fst h

theorem State.power_of_steady {n : Nat} {s t : State} (h : t.steady n = s.steady n) : t.power = s.power :=
  congrArg (fun x : Holdup × Power × Bool × W32 => x.2.1) h

/-- One arrival of source n behind which nothing arrives there (R211). -/
theorem State.arrived_counted {n : Nat} {s t u : State} (hu : u.arrived n = (t.raise n).arrived n) (ht : t.arrived n = s.arrived n)
    (hawake : s.watcher.asleep = false) : (u.vu.row n).arrivals = (s.vu.row n).arrivals + 1 := by
  have hw : t.watcher.asleep = false := (congrArg Prod.fst ht :).trans hawake
  rw [show (u.vu.row n).arrivals = ((t.raise n).vu.row n).arrivals from congrArg Prod.snd hu, State.raise_counts hw,
    show (t.vu.row n).arrivals = (s.vu.row n).arrivals from congrArg Prod.snd ht]

section
variable {n : Nat} (hn : Calm n)
include hn

theorem State.arrived_emcy_publish (s : State) (c : Nat) (code : BitVec 16) (bit : Nat) (on : Bool) (source : Nat) (status : Status) :
    ((s.publish c).emcy code bit on source status).arrived n = s.arrived n := State.arrived_of_steady (s.steady_publish hn c)

theorem State.arrived_judgeInadequate (h : n ≠ 211) (s : State) : s.judgeInadequate.arrived n = s.arrived n := by
  rw [State.judgeInadequate]
  split
  · rfl
  · dsimp only
    split
    · rfl
    · exact (State.arrived_emcy_publish hn _ _ _ _ _ _ _).trans ((State.arrived_of_steady (State.steady_raise _ h hn.2.2.2)).trans rfl)

end

theorem calm_bank : Calm 211 ∧ Calm 212 ∧ Calm 214 := by
  refine ⟨?_, ?_, ?_⟩ <;> exact ⟨by decide, by decide, by decide, by decide⟩

/-! ### The horizon (R58, R60) -/

/-- The share of an active lane (R60). -/
theorem State.share_reshare {s : State} {l : Nat} (h : (s.lane l).active = true) : (s.reshare.lane l).share =
    BitVec.ofNat 64 (s.holdup.horizon.toNat * s.weight l / s.activeLanes.foldl (fun n k => n + s.weight k) 0) := by
  let f : Nat × LaneSt → LaneSt := fun e => { e.2 with
    share := if e.2.active then BitVec.ofNat 64 (s.holdup.horizon.toNat * s.weight e.1 /
      s.activeLanes.foldl (fun n l => n + s.weight l) 0) else 0 }
  have hmap : ∀ t : Tab LaneSt, (t.look {} l).active = true → (Tab.look (t.map fun e => (e.1, f e)) {} l).share =
      BitVec.ofNat 64 (s.holdup.horizon.toNat * s.weight l / s.activeLanes.foldl (fun n k => n + s.weight k) 0) := fun t => by
    induction t with
    | nil => exact fun h => absurd h Bool.false_ne_true
    | cons e r ih =>
      rw [List.map_cons, Tab.look, Tab.look]
      split
      · next hk => exact fun hactive => by rw [← hk]; exact if_pos hactive
      · exact ih
  exact hmap s.lanes h

/-- An update of the horizon (R58, R60). -/
theorem State.horizonUpdate_facts (s : State) (v : Nat) (t : Int) (l : Nat) :
    let a := { s with holdup := { s.holdup with vbank := BitVec.ofNat 16 v, tbank := BitVec.ofInt 16 t } }
    let u := s.horizonUpdate v t
    u.holdup.vbank = BitVec.ofNat 16 v ∧ u.mem = s.mem ∧
    u.holdup.horizon = (if s.inRung2 0x66 then 0 else BitVec.ofNat 64 (a.horizonAt v)) ∧
    ((s.lane l).active = true → (u.lane l).share =
      BitVec.ofNat 64 (u.holdup.horizon.toNat * s.weight l / s.activeLanes.foldl (fun n k => n + s.weight k) 0)) ∧
    (u.lane l).inflight = (s.lane l).inflight := by
  intro a u
  have hu : u = s.horizonUpdate v t := rfl
  rw [State.horizonUpdate] at hu
  generalize hx : BitVec.ofNat 32 ((a.eUse v).over 1000000).floor.toNat = x at hu
  generalize hy : (if s.inRung2 0x66 then (0 : W64) else BitVec.ofNat 64 (a.horizonAt v)) = y at hu ⊢
  generalize hb : ({ a with holdup := { a.holdup with eUsable := x, horizon := y } } : State) = b at hu
  have hlanes : b.lanes = s.lanes := by rw [← hb]
  have hlane : b.lane l = s.lane l := congrArg (fun t : Tab LaneSt => t.look {} l) hlanes
  have hweight : ∀ k, b.weight k = s.weight k := fun k => by rw [← hb]; rfl
  have hactive : b.activeLanes = s.activeLanes := by rw [State.activeLanes, State.activeLanes, hlanes]
  have hhorizon : b.holdup.horizon = y ∧ b.holdup.vbank = BitVec.ofNat 16 v ∧ b.mem = s.mem := by rw [← hb]; exact ⟨rfl, rfl, rfl⟩
  obtain ⟨hbh, hbv, hbm⟩ := hhorizon
  obtain ⟨since, mark, ls, -, hoff⟩ := b.reshare.judgeInadequate_off
  have hholdup : u.holdup = { b.holdup with clearSince := since, inadequate := mark } := by rw [hu]; exact State.holdup_off hoff
  have hmem : u.mem = b.mem := by rw [hu]; exact (State.mem_off hoff).trans rfl
  have hul : (u.lane l).offRisk = (b.reshare.lane l).offRisk := by rw [hu]; exact State.judgeInadequate_lane _ l
  refine ⟨by rw [hholdup]; exact hbv, hmem.trans hbm, by rw [hholdup]; exact hbh, fun h => ?_, ?_⟩
  · have hshare := State.share_reshare (s := b) (l := l) (by rw [hlane]; exact h)
    rw [show (u.lane l).share = (b.reshare.lane l).share from (congrArg LaneSt.share hul :), hshare, hholdup, hactive]
    simp only [hweight]
  · obtain ⟨w, hw⟩ := b.lane_reshare l
    rw [show (u.lane l).inflight = (b.reshare.lane l).inflight from (congrArg LaneSt.inflight hul :), hw, ← hlane]

/-! ### Bank tests (R63) -/

theorem Frac.floor_over (a b : Nat) (h : 0 < b) : (Frac.over { num := a } b).floor.toNat = a / b := by
  rw [Frac.over, if_neg (by omega), Frac.floor]
  simp only [Nat.one_mul]
  rw [← Int.natCast_ediv, Int.toNat_natCast]

theorem capacitance_eq {microC milliV : Nat} (h : 0 < milliV) : capacitance microC milliV = microC / milliV := Frac.floor_over _ _ h

theorem seriesRes_eq {microV milliA : Nat} (h : 0 < milliA) : seriesRes microV milliA = 1000 * microV / milliA := by
  have hfloor := Frac.floor_over (1000 * microV) milliA h
  rw [Int.natCast_mul] at hfloor
  exact hfloor

theorem State.testValid_iff (s : State) (c esr : Nat) :
    s.testValid c esr = true ↔ s.cfg 0x4000 1 ≤ 5 * c ∧ c ≤ 5 * s.cfg 0x4000 1 ∧ 1000 ≤ esr ∧ esr ≤ 2000000 := by
  simp only [State.testValid, Bool.and_eq_true, decide_eq_true_eq, and_assoc]

/-- A bank test that is not valid (R63). -/
theorem State.bankTested_invalid {s : State} {c esr : Nat} (h : s.testValid c esr = false) :
    s.bankTested c esr = ({ s with holdup := { s.holdup with bankUse := .idle, tested := true } } : State).raise 213 := by
  rw [State.bankTested, h]
  rfl

/-- A valid bank test (R62, R63). -/
theorem State.bankTested_valid {s : State} {c esr : Nat} (h : s.testValid c esr = true) :
    let u := s.bankTested c esr
    u.holdup.cMeas = some (BitVec.ofNat 32 c) ∧ u.holdup.esrMeas = BitVec.ofNat 32 esr ∧ u.holdup.tMeas = s.holdup.tbank ∧
    u.holdup.testTime = s.time.now ∧ u.holdup.bankUse = .idle ∧
    (s.watcher.asleep = false → (u.vu.row 212).arrivals = (s.vu.row 212).arrivals + 1) := by
  intro u
  have hu : u = s.bankTested c esr := rfl
  rw [State.bankTested, h] at hu
  simp only [Bool.not_true, Bool.false_eq_true, if_false] at hu
  generalize hd : ({ s with holdup := { s.holdup with
    bankUse := .idle, tested := true, cMeas := some (BitVec.ofNat 32 c), esrMeas := BitVec.ofNat 32 esr, tMeas := s.holdup.tbank
    testTime := s.time.now, weakBank := _ } } : State) = d at hu
  have hpublish := (d.raise 212).steady_publish calm_bank.2.1 261
  obtain ⟨since, mark, ls, -, hoff⟩ := ((d.raise 212).publish 261).judgeInadequate_off
  have hholdup : u.holdup = { d.holdup with clearSince := since, inadequate := mark } := by
    rw [hu, State.holdup_off hoff]
    exact congrArg (fun x : Holdup => { x with clearSince := since, inadequate := mark }) (State.holdup_of_steady hpublish)
  have hdh : d.holdup.cMeas = some (BitVec.ofNat 32 c) ∧ d.holdup.esrMeas = BitVec.ofNat 32 esr ∧ d.holdup.tMeas = s.holdup.tbank ∧
      d.holdup.testTime = s.time.now ∧ d.holdup.bankUse = .idle := by
    rw [← hd]
    exact ⟨rfl, rfl, rfl, rfl, rfl⟩
  rw [hholdup]
  refine ⟨hdh.1, hdh.2.1, hdh.2.2.1, hdh.2.2.2.1, hdh.2.2.2.2, fun hawake => ?_⟩
  refine State.arrived_counted (t := d) ?_ (by rw [← hd]; rfl) hawake
  rw [hu, State.arrived_judgeInadequate calm_bank.2.1 (by decide)]
  exact State.arrived_of_steady hpublish

/-! ### The drill (R65) -/

/-- A member apart from the bytes of its drill. -/
def MemberSt.offDrill (b : MemberSt) : MemberSt := { b with drillBytes := 0 }

/-- What fixes the sizes of a drill: the configuration and the members apart from their drills. -/
structure State.SameDrill (s u : State) : Prop where
  vals : u.dict.vals = s.dict.vals
  member : ∀ k, (u.member k).offDrill = (s.member k).offDrill
  configured : u.wythes.configured = s.wythes.configured

theorem State.SameDrill.membersOf {s u : State} (h : s.SameDrill u) (w : Nat) : u.membersOf w = s.membersOf w := by
  have hentry : (u.member (2 * w + 1)).entry = (s.member (2 * w + 1)).entry := (congrArg MemberSt.entry (h.member _) :)
  rw [State.membersOf, State.membersOf, State.striped, State.striped, hentry]

theorem State.SameDrill.size {s u : State} (h : s.SameDrill u) (m : Nat) : u.drillSize m = s.drillSize m := by
  have hzone : (u.member m).zoneLbas = (s.member m).zoneLbas := (congrArg MemberSt.zoneLbas (h.member m) :)
  have hlba : (u.member m).lba = (s.member m).lba := (congrArg MemberSt.lba (h.member m) :)
  have hcfg : u.cfg 0x4005 2 = s.cfg 0x4005 2 := by rw [State.cfg, State.cfg, State.dictBytes, State.dictBytes, h.vals]
  rw [State.drillSize, State.drillSize, h.membersOf, hzone, hlba, hcfg]

theorem State.SameDrill.list {s u : State} (h : s.SameDrill u) : u.memberList = s.memberList := by
  have hmembers : u.membersOf = s.membersOf := funext h.membersOf
  rw [State.memberList, State.memberList, State.wytheList, State.wytheList, hmembers, h.configured]

/-- A member's drill of n bytes. -/
def State.fillerOf (u : State) (m n : Nat) : State :=
  ((u.ssd m (.filler (2 * (u.member m).z + 2) n)).modMember m fun b => { b with drillBytes := n }).ssd m .flush

theorem State.member_fillerOf_same (u : State) (m n : Nat) : (u.fillerOf m n).member m = { u.member m with drillBytes := n } :=
  Tab.look_put_same (u.ssd m (.filler (2 * (u.member m).z + 2) n)).wythes.member {} m _

theorem State.member_fillerOf_other (u : State) {m k : Nat} (h : k ≠ m) (n : Nat) : (u.fillerOf m n).member k = u.member k :=
  Tab.look_put_other (u.ssd m (.filler (2 * (u.member m).z + 2) n)).wythes.member {} _ h

theorem State.SameDrill.fillerOf {s u : State} (h : s.SameDrill u) (m n : Nat) : s.SameDrill (u.fillerOf m n) where
  vals := h.vals
  configured := h.configured
  member k := by
    rw [← h.member k]
    by_cases hk : k = m
    · rw [hk, State.member_fillerOf_same]
      rfl
    · rw [State.member_fillerOf_other _ hk]

theorem State.drillMember_eq (u : State) (m : Nat) : u.drillMember m = u.fillerOf m (u.drillSize m) := rfl

/-- The members of a drill have their bytes (R65). -/
theorem State.drillMembers_facts {s : State} (l : List Nat) {u : State} (h : s.SameDrill u) :
    s.SameDrill (l.foldl State.drillMember u) ∧ ∀ m, m ∈ l ∨ (u.member m).drillBytes = s.drillSize m →
      ((l.foldl State.drillMember u).member m).drillBytes = s.drillSize m := by
  induction l generalizing u with
  | nil => exact ⟨h, fun m hm => hm.resolve_left List.not_mem_nil⟩
  | cons a l ih =>
    have hstep := u.drillMember_eq a
    rw [h.size] at hstep
    obtain ⟨hfold, hall⟩ := ih (hstep ▸ h.fillerOf a (s.drillSize a))
    refine ⟨hfold, fun m hm => hall m ?_⟩
    by_cases hma : m = a
    · exact .inr (by rw [hma, hstep, State.member_fillerOf_same])
    · obtain hm | hm := hm
      · exact .inl ((List.mem_cons.1 hm).resolve_left hma)
      · exact .inr (by rw [hstep, State.member_fillerOf_other _ hma]; exact hm)

theorem State.steady_drillMember (n : Nat) (s : State) (m : Nat) : (s.drillMember m).steady n = s.steady n := rfl

theorem State.steady_tilesOff (n : Nat) (s : State) : s.tilesOff.steady n = s.steady n :=
  foldl_keeps (State.steady n) _ (fun t i => t.steady_tileOff n (i + 1)) _ _

theorem State.steady_lcPower (n : Nat) (s : State) : s.lcPower.steady n = s.steady n :=
  foldl_keeps (State.steady n) (fun (t : State) m => t.ssd m (.powerState (t.cfg 0x5800 3))) (fun _ _ => rfl) _ _

theorem State.SameDrill.lcPower {s u : State} (h : s.SameDrill u) : s.SameDrill u.lcPower := by
  have hkeep := foldl_keeps (fun v : State => (v.dict.vals, v.member, v.wythes.configured))
    (fun (t : State) m => t.ssd m (.powerState (t.cfg 0x5800 3))) (fun _ _ => rfl) u.memberList u
  obtain ⟨hvals, hrest⟩ := Prod.mk.injEq .. ▸ hkeep
  obtain ⟨hmember, hconf⟩ := Prod.mk.injEq .. ▸ hrest
  exact ⟨hvals.trans h.vals, fun k => (congrArg (fun g : Nat → MemberSt => (g k).offDrill) hmember :).trans (h.member k),
    hconf.trans h.configured⟩

theorem State.SameDrill.of_work {s t : State} (h : t.offWork = s.offWork) : s.SameDrill t :=
  ⟨(congrArg (fun u : State => u.dict.vals) h :), fun k => (congrArg (fun u : State => (u.member k).offDrill) h :),
    (congrArg (fun u : State => u.wythes.configured) h :)⟩

theorem State.SameDrill.trans {s t u : State} (h : s.SameDrill t) (h2 : t.SameDrill u) : s.SameDrill u :=
  ⟨h2.vals.trans h.vals, fun k => (h2.member k).trans (h.member k), h2.configured.trans h.configured⟩

theorem State.SameDrill.shed (s : State) : s.SameDrill s.shed := by
  have h := State.SameDrill.of_work s.offWork_tilesOff
  rw [State.shed]
  generalize s.tilesOff = a at h ⊢
  exact ⟨h.vals, h.member, h.configured⟩

/-- The power configuration of the last course: rails 9 to 11 fall (R70, R367). -/
theorem State.shed_facts (s : State) : s.shed.holdup = s.holdup ∧ s.shed.power.railEn = s.power.railEn &&& 0x1FF := by
  have h := s.steady_tilesOff 214
  rw [State.shed]
  generalize s.tilesOff = a at h ⊢
  have hholdup := State.holdup_of_steady h
  exact ⟨hholdup, congrArg (fun p : Power => p.railEn &&& 0x1FF) (State.power_of_steady h)⟩

/-- A drill that begins (R65, R70, R71). -/
theorem State.drillBegin_facts (s : State) :
    let u := s.drillBegin
    u.holdup = { s.holdup with bankUse := .drill, drillAsked := false } ∧ u.power.railEn = s.power.railEn &&& 0x1FF ∧
    ∀ m ∈ s.memberList, (u.member m).drillBytes = s.drillSize m := by
  intro u
  have hu : u = s.drillBegin := rfl
  rw [State.drillBegin] at hu
  generalize ha : ({ s with holdup := { s.holdup with bankUse := .drill, drillAsked := false } } : State) = a at hu
  have hsame : s.SameDrill a := by rw [← ha]; exact ⟨rfl, fun _ => rfl, rfl⟩
  have hb := (hsame.trans (State.SameDrill.shed a)).lcPower
  obtain ⟨hholdup, hrails⟩ := a.shed_facts
  have hpower := a.shed.steady_lcPower 214
  generalize a.shed.lcPower = b at hu hb hpower
  rw [hb.list] at hu
  have hfold := foldl_keeps (State.steady 214) State.drillMember (fun t m => t.steady_drillMember 214 m) s.memberList b
  rw [← hu] at hfold
  refine ⟨?_, ?_, fun m hm => ?_⟩
  · rw [State.holdup_of_steady hfold, State.holdup_of_steady hpower]
    exact hholdup.trans (by rw [← ha])
  · rw [State.power_of_steady hfold, State.power_of_steady hpower]
    exact hrails.trans (by rw [← ha])
  · rw [hu]
    exact (State.drillMembers_facts s.memberList hb).2 m (.inl hm)

theorem State.steady_resetZone (n : Nat) (s : State) (m z : Nat) : (s.resetZone m z).steady n = s.steady n := by
  rw [State.resetZone]
  split <;> rfl

theorem State.steady_setEb (n : Nat) (s : State) (eb : Nat) : (s.setEb eb).steady n = s.steady n := by
  have hset : ∀ (t : State) (i k : Nat) (b : Bytes), (t.setDict i k b).steady n = t.steady n := fun _ _ _ _ => rfl
  rw [State.setEb]
  split
  · split
    · exact hset _ _ _ _
    · rfl
  · exact foldl_keeps (State.steady n) _ (fun t k => hset t _ _ _) _ _

/-- A drill that ends: its result, every rail on, source 214 (R65). -/
theorem State.drilled_facts (s : State) (nanoJ : Nat) (hn : 0 < s.drillWritten) :
    let u := s.drilled nanoJ
    u.holdup = { s.holdup with
      bankUse := .idle, drillDue := false, drillTime := s.time.now, ebMeas := BitVec.ofNat 32 (nanoJ * 1000 / s.drillWritten) } ∧
    u.power.railEn = 0xFFF ∧ (s.watcher.asleep = false → (u.vu.row 214).arrivals = (s.vu.row 214).arrivals + 1) := by
  intro u
  have hu : u = s.drilled nanoJ := rfl
  have hmeas : (Frac.over { num := nanoJ * 1000 } s.drillWritten).floor.toNat = nanoJ * 1000 / s.drillWritten := by
    have hfloor := Frac.floor_over (nanoJ * 1000) s.drillWritten hn
    rw [Int.natCast_mul] at hfloor
    exact hfloor
  rw [State.drilled, hmeas] at hu
  generalize nanoJ * 1000 / s.drillWritten = x at hu ⊢
  generalize hx : Nat.max 2000 (Nat.min 100000 (5 * x / 4)) = y at hu
  generalize ha : ({ s with holdup := { s.holdup with
    bankUse := .idle, drillDue := false, drillTime := s.time.now, ebMeas := BitVec.ofNat 32 x } } : State) = a at hu
  have hfold := foldl_keeps (State.steady 214) (fun (t : State) m =>
    (t.resetZone m (2 * (t.member m).z + 2)).modMember m fun b => { b with drillBytes := 0 })
    (fun t m => t.steady_resetZone 214 m _) a.memberList a
  generalize a.memberList.foldl (fun (t : State) m =>
    (t.resetZone m (2 * (t.member m).z + 2)).modMember m fun b => { b with drillBytes := 0 }) a = b at hu hfold
  have heb := b.steady_setEb 214 y
  generalize b.setEb y = c at hu heb
  have hleave := foldl_keeps (State.steady 214) (fun (t : State) i => t.applyTilePwr (i + 1))
    (fun t i => t.steady_applyTilePwr calm_bank.2.2 (i + 1)) (List.range 11)
    { c.raise 214 with power := { (c.raise 214).power with railEn := 0xFFF } }
  have hu' : u = (List.range 11).foldl (fun (t : State) i => t.applyTilePwr (i + 1))
    { c.raise 214 with power := { (c.raise 214).power with railEn := 0xFFF } } := hu
  rw [← hu'] at hleave
  refine ⟨?_, ?_, fun hawake => ?_⟩
  · rw [State.holdup_of_steady hleave]
    exact ((State.holdup_of_steady heb).trans (State.holdup_of_steady hfold)).trans (by rw [← ha])
  · rw [State.power_of_steady hleave]
  · refine State.arrived_counted (t := c) ((State.arrived_of_steady hleave).trans rfl) ?_ hawake
    exact (State.arrived_of_steady (heb.trans hfold)).trans (by rw [← ha]; rfl)

/-! ### The charge ledger (R67) -/

/-- One current sample enters one term of the ledger (R67). -/
theorem State.charge_facts (s : State) (i : Int) :
    let u := s.charge i
    let h := s.journal.now
    u.holdup.chargeRem + 1000 * (s.holdup.chargeRem + 10 * i).tdiv 1000 = s.holdup.chargeRem + 10 * i ∧
    u.journal.now.qStored = u.journal.now.qIn - u.journal.now.qOut - u.journal.now.qLeak ∧ u.journal.now.qLeak = h.qLeak ∧
    u.journal.now.qIn - u.journal.now.qOut = h.qIn - h.qOut + BitVec.ofInt 64 ((s.holdup.chargeRem + 10 * i).tdiv 1000) ∧ u.mem = s.mem := by
  intro u h
  generalize hq : (s.holdup.chargeRem + 10 * i).tdiv 1000 = q
  have hrem : u.holdup.chargeRem = s.holdup.chargeRem + 10 * i - 1000 * q := by rw [← hq]; rfl
  have hin : u.journal.now.qIn = if 0 ≤ q then h.qIn + BitVec.ofInt 64 q else h.qIn := by rw [← hq]; rfl
  have hout : u.journal.now.qOut = if 0 ≤ q then h.qOut else h.qOut + BitVec.ofInt 64 (-q) := by rw [← hq]; rfl
  refine ⟨by rw [hrem]; omega, rfl, rfl, ?_, rfl⟩
  rw [hin, hout]
  rw [BitVec.ofInt_neg]
  generalize BitVec.ofInt 64 q = x
  split
  · bv_omega
  · bv_omega

theorem leak_closes (x k w : W64) : x - (k + ((x - k) + -w)) = w := by bv_omega

/-- A leakage check brings the stored charge to what the bank holds (R67). -/
theorem State.leakage_facts (s : State) (v : Nat)
    (hledger : s.journal.now.qStored = s.journal.now.qIn - s.journal.now.qOut - s.journal.now.qLeak) :
    let u := s.leakage v
    u.journal.now.qStored = BitVec.ofInt 64 (s.bankC.mul { num := 1000 * v }).floor ∧ u.journal.now.qIn = s.journal.now.qIn ∧
    u.journal.now.qOut = s.journal.now.qOut ∧ u.journal.now.qStored = u.journal.now.qIn - u.journal.now.qOut - u.journal.now.qLeak := by
  intro u
  have hu : u = s.leakage v := rfl
  rw [State.leakage] at hu
  generalize (s.bankC.mul { num := 1000 * v }).floor = want at hu ⊢
  have hjournal : u.journal = (s.headLine fun h => { h with
      qLeak := h.qLeak + BitVec.ofInt 64 (s.journal.now.qStored.toInt - want)
      qStored := h.qIn - h.qOut - (h.qLeak + BitVec.ofInt 64 (s.journal.now.qStored.toInt - want)) }).journal := by
    rw [hu]
    split <;> rfl
  rw [hjournal]
  refine ⟨?_, rfl, rfl, rfl⟩
  have hsub : s.journal.now.qIn - s.journal.now.qOut - (s.journal.now.qLeak + BitVec.ofInt 64 (s.journal.now.qStored.toInt - want)) =
      BitVec.ofInt 64 want := by
    rw [Int.sub_eq_add_neg, BitVec.ofInt_add, BitVec.ofInt_toInt, BitVec.ofInt_neg, hledger]
    exact leak_closes _ _ _
  exact hsub

/-! ### The obligation -/

/-- Hold-up-inadequate clears on H at 1.25 times the brick sizes (R62). -/
theorem holdupInadequate_clears {s : State} (hset : s.holdup.inadequate.getLsbD 0 = true) (hcauses : s.causes = 0)
    (hhorizon : 5 * s.brickSum ≤ 4 * s.holdup.horizon.toNat) :
    ∃ u, exec .holdupInadequateClear s = .next u ∧ u.holdup = { s.holdup with inadequate := 0 } ∧
      (s.watcher.asleep = false → (u.vu.row 211).arrivals = (s.vu.row 211).arrivals + 1) := by
  have hgo : (s.holdup.inadequate.getLsbD 0 && decide (s.causes = 0) && decide (4 * s.holdup.horizon.toNat ≥ 5 * s.brickSum)) = true := by
    rw [hset, decide_eq_true hcauses, decide_eq_true hhorizon]
    rfl
  refine ⟨_, congrArg Host.Outcome.next (if_pos hgo), ?_⟩
  generalize hd : ({ s with holdup := { s.holdup with inadequate := 0 } } : State) = d
  have hpublish := (d.raise 211).steady_publish calm_bank.1 260
  refine ⟨(State.holdup_of_steady hpublish).trans (by rw [← hd]; rfl), fun hawake => ?_⟩
  exact State.arrived_counted (t := d) (State.arrived_of_steady hpublish) (by rw [← hd]; rfl) hawake

/-- A bank test that is due, on an idle bank (R63). -/
theorem exec_bankTestStart_due {s : State} {why : BankDue} {v mA : Nat} (hidle : s.holdup.bankUse = .idle)
    (hdeclared : s.holdup.declared = false) (hdue : s.testDue why v = true) : exec (.bankTestStart why ⟨v, mA⟩) s =
      .next (if v < 4000 ∨ mA < 2000 then s.raise 213 else { s with holdup := { s.holdup with bankUse := .test } }) := by
  have hgo : (s.holdup.bankUse != .idle || s.holdup.declared || !s.testDue why v) = false := by
    rw [hidle, hdeclared, hdue]
    rfl
  exact congrArg Host.Outcome.next (if_neg (by rw [hgo]; exact Bool.false_ne_true))

theorem exec_bankTestComplete_test {s : State} {microC milliV microV milliA : Nat} (htest : s.holdup.bankUse = .test) (hv : 0 < milliV)
    (ha : 0 < milliA) : exec (.bankTestComplete ⟨microC, milliV⟩ ⟨microV, milliA⟩) s =
      .next (s.bankTested (microC / milliV) (1000 * microV / milliA)) := by
  rw [← capacitance_eq hv, ← seriesRes_eq ha]
  exact congrArg Host.Outcome.next (if_pos (by rw [htest]; rfl))

theorem exec_drillStart_asked {s : State} (hidle : s.holdup.bankUse = .idle) (hdeclared : s.holdup.declared = false)
    (hride : s.holdup.ride = none) (hasked : s.holdup.drillAsked = true) : exec .drillStart s = .next s.drillBegin := by
  refine congrArg Host.Outcome.next (if_pos ?_)
  rw [hidle, hdeclared, hride, hasked]
  rfl

theorem exec_drillComplete_drill {s : State} {drawn idle : Nat} (hdrill : s.holdup.bankUse = .drill) :
    exec (.drillComplete ⟨drawn, idle⟩) s = .next (s.drilled (drawn - idle)) :=
  congrArg Host.Outcome.next (if_pos (by rw [hdrill]; rfl))

/-- Settles O50: the horizon of an update (`horizonUpdate_facts`), the bank's tests, the drill, whose end moves no bank or rail while
the tiles return (`steady_applyTilePwr`), and the two updates of the charge ledger. -/
theorem horizonAndBank : Obligations.HorizonAndBank := by
  intro v mA microC milliV microV milliA drawn idle why t i l s a total h c esr n due counted
  have hdue : due → s.testDue why v = true := fun hd => by
    cases why with
    | ignition =>
      obtain ⟨h1, h2, h3⟩ := hd
      rw [State.testDue, h1, h2, decide_eq_true h3]
      rfl
    | periodic => exact beq_iff_eq.2 hd
    | thermistor => exact decide_eq_true hd
  refine ⟨⟨s.horizonUpdate v t, rfl, s.horizonUpdate_facts v t l⟩, holdupInadequate_clears, fun hidle hdecl hd hv hm => ?start,
    fun hidle hdecl hd hlow => ?defer, fun htest hv hm => ⟨fun h1 h2 h3 h4 => ⟨s.bankTested c esr, exec_bankTestComplete_test htest hv hm, ?valid⟩, fun hbad => ?invalid⟩,
    rfl, fun hidle hdecl hride hasked => ⟨s.drillBegin, exec_drillStart_asked hidle hdecl hride hasked, s.drillBegin_facts⟩,
    fun hdrill hn hle => ⟨s.drilled (drawn - idle), exec_drillComplete_drill hdrill, s.drilled_facts _ hn⟩, rfl,
    ⟨s.charge i, rfl, s.charge_facts i⟩, fun hchg hledger => ⟨s.leakage v, ?leak, s.leakage_facts v hledger⟩⟩
  case start => rw [exec_bankTestStart_due hidle hdecl (hdue hd), if_neg (by omega)]
  case defer => rw [exec_bankTestStart_due hidle hdecl (hdue hd), if_pos hlow]
  case valid => exact State.bankTested_valid ((s.testValid_iff _ _).2 ⟨h1, h2, h3, h4⟩)
  case invalid =>
    have hno : s.testValid c esr = false := by
      rw [Bool.eq_false_iff]
      intro hyes
      obtain ⟨h1, h2, h3, h4⟩ := (s.testValid_iff _ _).1 hyes
      omega
    rw [exec_bankTestComplete_test htest hv hm, State.bankTested_invalid hno]
  case leak => rw [exec_leakageCheck, execLeakageCheck, hchg]; rfl

end Sys2Proof.Machine

namespace Sys2Proof.Machine

/-- A start checks the journal's header as applied, whatever the check before it gave (R77). -/
theorem State.journalValid_startWipe (s : State) : (s.startWipe 4).journal.valid = (s.journal.applyAll (s.time.mono.getD 0)).head.ok := rfl

/-- A device behind LC_DONE whose supply is back and whose journal failed its check at the last start, with a header that is good now. -/
def invalidJournal : State where
  power := { phase := .run }
  holdup := { declared := true, lcOver := true, supplyBack := some 0 }
  journal := { valid := false }

/-- Refutes O51: the restart's clause says that the journal behind the start is the journal with its lines applied, though a start also
checks MAGIC, VERSION and ENTRY_LEN anew (R77). In `invalidJournal` the check had failed and now passes. -/
theorem not_supplyAndRestart : ¬ Obligations.SupplyAndRestart := by
  unfold Obligations.SupplyAndRestart
  intro h
  obtain ⟨-, -, -, hrestart, -⟩ := h 0 0 0 0 invalidJournal
  obtain ⟨-, w, hw, -, -, -, -, -, -, -, -, hjournal, -⟩ :=
    hrestart (by decide +kernel) (by decide +kernel) (by decide +kernel) (by decide +kernel)
  have hvalid := congrArg Journal.valid hjournal
  rw [← hw, State.journalValid_startWipe] at hvalid
  revert hvalid
  decide +kernel

end Sys2Proof.Machine

namespace Sys2Proof.Machine

/-- A released engine has no entry behind it whose first instruction is still to begin (R218). -/
theorem Engine.entered_released (x : Engine) : x.released.entered = false := rfl

/-- Engine 0, halted by HALT_REQ right behind an interrupt entry, in a tile that runs. -/
def haltedBehindEntry : State where
  engines := [(0, { run := .halted false, haltReq := true, entered := true })]

/-- Refutes O53: the clause of RELEASE keeps the engine's mark that an entry has left no boundary before its first instruction (R218),
though a release restarts the engine at START_PC and clears it. `haltedBehindEntry` is halted with the mark set; master 98 releases it. -/
theorem not_powerAndRunControl : ¬ Obligations.PowerAndRunControl := by
  unfold Obligations.PowerAndRunControl
  intro h
  obtain ⟨-, -, -, -, -, hmaster, -⟩ := h 98 0 0 0 0 0 false false 0 haltedBehindEntry
  obtain ⟨-, -, -, -, -, -, -, -, hrelease, -⟩ := hmaster (by decide +kernel)
  have heq := hrelease false (by decide +kernel) (by decide +kernel)
  injection heq with hstate
  have hmark := congrArg (fun u : State => (u.eng 0).entered) hstate
  revert hmark
  decide +kernel

end Sys2Proof.Machine

namespace Sys2Proof.Machine

/-! ### What is on, as propositions (R361, R378) -/

theorem State.coreOn_iff (s : State) : s.coreOn = true ↔ s.power.phase = .run ∨ s.power.phase = .park := by
  rw [State.coreOn, Bool.or_eq_true, beq_iff_eq, beq_iff_eq]

theorem State.linkOn_iff (s : State) (k : Nat) : s.linkOn k = true ↔ s.power.phase = .run ∨ (s.power.phase = .park ∧ k = 4) := by
  rw [State.linkOn, Bool.or_eq_true, Bool.and_eq_true, beq_iff_eq, beq_iff_eq, beq_iff_eq]

/-! ### Frames (R378 to R380) -/

/-- A frame at a port that does not receive, or has no mode, has no effect (log entry 102). -/
theorem execEthFrame_off {p : Fin 10} (frame : Bytes) (full rtsp : Bool) {s : State}
    (hoff : ¬ (s.receiving (0x10 + p) = true ∧ s.iface.ethMode.look 0 p ≠ 0)) : execEthFrameReceived p frame full rtsp s = .next s := by
  rw [execEthFrameReceived, if_pos]
  rw [Bool.or_eq_true, Bool.not_eq_true', beq_iff_eq]
  exact (Decidable.not_and_iff_or_not.mp hoff).imp eq_false_of_ne_true Decidable.not_not.mp

/-- What happens to a frame of a class at a port that receives (R380). -/
def State.frameTaken (s : State) (p : Nat) (e : Ether) (full : Bool) (n : Nat) : FrameClass → State
  | .discard => s.discard (0x10 + p) n
  | .ptp => s
  | .udp key peer src dst b zero => s.udpArrives p e key peer src dst b zero full n
  | .tile0 => s.toTile0 p e.bare
  | .other => s.frameLeft p e.bare n

theorem State.endRaws_idle {s : State} (f : Nat) (st : Status) (hraws : s.raws = []) : s.endRaws f st = s := by
  rw [State.endRaws, hraws]
  rfl

section
variable {p : Fin 10} {s : State} (hon : s.receiving (0x10 + p) = true ∧ s.iface.ethMode.look 0 p ≠ 0)
include hon

theorem State.ethOn : (!s.receiving (0x10 + p) || s.iface.ethMode.look 0 p == 0) = false := by
  rw [hon.1, beq_eq_false_iff_ne.mpr hon.2]
  rfl

/-- A frame that cannot be read is discarded and counted (R378). -/
theorem execEthFrame_unread (frame : Bytes) (full rtsp : Bool) (hread : readEther frame = none) :
    execEthFrameReceived p frame full rtsp s = .next (s.discard (0x10 + p) frame.length) := by
  rw [execEthFrameReceived, State.ethOn hon, if_neg Bool.false_ne_true, hread]

/-- A frame at a port that receives goes the way of its class (R380). -/
theorem execEthFrame_class (frame : Bytes) (full rtsp : Bool) {e : Ether} (hread : readEther frame = some e) {c : FrameClass}
    (hclass : classify p (if s.ptpOn p then s.time.profile else 0) rtsp e = c) :
    execEthFrameReceived p frame full rtsp s = .next (s.frameTaken p e full frame.length c) := by
  rw [execEthFrameReceived, State.ethOn hon, if_neg Bool.false_ne_true, hread]
  simp only [hclass]
  cases c <;> rfl

/-- A link that comes up raises its source (R395). -/
theorem execEthLink_up (cut : Nat) (hdown : s.iface.ethUp.getLsbD p = false) : execEthLinkChange p true cut s =
    .next { s.raise (128 + p) with iface := { s.iface with ethUp := s.iface.ethUp ||| BitVec.ofNat 10 (2 ^ p.val) } } := by
  simp only [execEthLinkChange, State.ethOn hon, hdown, Bool.false_or, beq_iff_eq, Bool.false_eq_true, if_false, if_true]
  rfl

/-- With no raw operation waiting, a link that goes down raises its source and counts what it cut (R395, R397). -/
theorem execEthLink_down (cut : Nat) (hup : s.iface.ethUp.getLsbD p = true) (hraws : s.raws = []) : execEthLinkChange p false cut s =
    .next { s.raise (128 + p) with
      iface := { s.iface with ethUp := s.iface.ethUp &&& ~~~(BitVec.ofNat 10 (2 ^ p.val))
                              discards := s.iface.discards.modify 0 (0x10 + p) (satAdd · cut) } } := by
  simp only [execEthLinkChange, State.ethOn hon, hup, Bool.false_or, beq_iff_eq, Bool.true_eq_false, Bool.false_eq_true, if_false]
  exact congrArg Host.Outcome.next (State.endRaws_idle _ _ hraws)

end

theorem execEthLink_same (p : Fin 10) (cut : Nat) (s : State) : execEthLinkChange p (s.iface.ethUp.getLsbD p) cut s = .next s := by
  simp only [execEthLinkChange, beq_self_eq_true, Bool.or_true, if_true]

/-! ### UDP datagrams (R378, R380) -/

section
variable {s : State} {key : BitVec 320} (hfree : s.laneFor key = none) (p : Nat) (e : Ether) (peer src dst : Nat) (b : Bytes) (zero full : Bool)
  (n : Nat)

theorem State.udp_bound {l : Nat} (hlane : s.laneFor key = some l) :
    s.udpArrives p e key peer src dst b zero full n = s.unitArrives key b full := by
  rw [State.udpArrives, hlane, Option.isSome_some, if_pos rfl]

include hfree

theorem State.udp_bumund (hdst : dst = 47110) (hon : s.cfg 0x5811 1 / 2 ^ p % 2 = 1) :
    s.udpArrives p e key peer src dst b zero full n = s.bumundArrives peer p b zero := by
  rw [State.udpArrives, hfree, if_neg (by decide), if_pos ⟨hdst, hon⟩]

theorem State.udp_tile0 (hdst : dst = 68) (hkey : bits key 0 8 = 1) :
    s.udpArrives p e key peer src dst b zero full n = s.toTile0 p e.bare := by
  rw [State.udpArrives, hfree, if_neg (by decide), if_neg (by omega), if_pos ⟨hdst, hkey⟩]

theorem State.udp_left (h1 : dst ≠ 47110) (h2 : dst ≠ 68) (hrtcp : rtcpKey key src dst b = none) :
    s.udpArrives p e key peer src dst b zero full n = s.frameLeft p e.bare n := by
  rw [State.udpArrives, hfree, if_neg (by decide), if_neg (fun h => h1 h.1), if_neg (fun h => h2 h.1), hrtcp]
  rfl

end

theorem State.frameLeft_unwanted {s : State} {p : Nat} (bare : Bytes) (n : Nat) (hraw : s.rawWaits 0x20 p = none) :
    s.frameLeft p bare n = s.discard (0x10 + p) n := by
  rw [State.frameLeft, hraw]

/-! ### PCIe links (R384, R387, R395) -/

theorem State.raise_linkSource (s : State) (k : Fin 5) : s.raise (linkSource k) = s.raise (if k.val = 4 then 148 else 144 + k.val) := rfl

/-- A link that comes up raises its source; only the endpoint's, where a rung 2 owes it, makes the recovery scan (R295, R395). -/
theorem execPcieLinkUp_plain {s : State} {k : Fin 5} (h : HostRead) (hrun : s.power.phase = .run ∨ (s.power.phase = .park ∧ k.val = 4))
    (hdown : s.iface.linkDown.getLsbD k = true) (hscan : k.val ≠ 4 ∨ s.rings.scanOwed = false) : execPcieLinkUp k h s =
    .next { s.raise (linkSource k) with iface := { s.iface with linkDown := s.iface.linkDown &&& ~~~(BitVec.ofNat 5 (2 ^ k.val)) } } := by
  simp only [execPcieLinkUp, (s.linkOn_iff k).mpr hrun, hdown, Bool.not_true, Bool.or_self, Bool.false_eq_true, if_false]
  split
  · next h4 =>
    have howed : s.rings.scanOwed = false := hscan.resolve_left fun hne => hne h4
    rw [State.recoverOwed, if_neg]
    · rfl
    · simp only [State.raise, howed, Bool.false_and, Bool.false_eq_true, not_false_eq_true]
  · rfl

/-- The state in which a lost link's fault is taken: the link down, its source raised. -/
def State.linkLost (s : State) (k : Fin 5) : State :=
  { s with iface := { s.iface with linkDown := s.iface.linkDown ||| BitVec.ofNat 5 (2 ^ k.val) } }.raise (linkSource k)

/-- With no raw operation and no APPEND under way, a lost link is a fault of its function (R387). -/
theorem execPcieLinkDown_idle {s : State} {k : Fin 5} (hrun : s.power.phase = .run ∨ (s.power.phase = .park ∧ k.val = 4))
    (hup : s.iface.linkDown.getLsbD k = false) (hraws : s.raws = []) (hnvme : s.nvme = []) :
    execPcieLinkDown k s = .next ((s.linkLost k).fault (0x20 + k) .none 0x0701 true) := by
  have hends : ((s.linkLost k).endRaws (0x20 + k) 0x0701).endAppends k 0x0701 = s.linkLost k := by
    rw [State.endRaws_idle (s := s.linkLost k) _ _ hraws, State.endAppends, State.appending, show (s.linkLost k).nvme = [] from hnvme]
    rfl
  simp only [execPcieLinkDown, (s.linkOn_iff k).mpr hrun, hup, Bool.not_true, Bool.or_self, Bool.false_eq_true, if_false]
  rw [← State.linkLost, hends, ite_self]

theorem State.faultSeen_link {s : State} (k : Fin 5) (hrun : s.power.phase = .run ∨ (s.power.phase = .park ∧ k.val = 4)) :
    s.faultSeen (0x20 + k) = true := by
  have hk := k.isLt
  obtain h | ⟨h, -⟩ := hrun <;> simp [State.faultSeen, isFunc, h] <;> omega

theorem hasRung2_link (k : Fin 5) : hasRung2 (0x20 + k) = true := by
  revert k
  decide

/-- A reset of a PCIe port's function takes its link down (R345, R384). -/
theorem State.iface_resetBegin_link (s : State) (k : Fin 5) :
    (s.resetBegin (0x20 + k)).iface = { s.iface with linkDown := s.iface.linkDown ||| BitVec.ofNat 5 (2 ^ k.val) } := by
  have hk := k.isLt
  rw [State.resetBegin, if_neg (by omega), if_neg (by omega), if_pos (by omega), Nat.add_sub_cancel_left]

/-- Rung 2 of a PCIe port that nothing uses takes its link down (R345, R384). -/
theorem State.iface_rung2_link {s : State} (k : Fin 5) (st : Status) (ext : Bool) (window : Nat) (hraws : s.raws = []) (hnvme : s.nvme = [])
    (hlanes : s.lanes = []) (hretries : (s.func (0x20 + k)).retries = []) :
    (s.rung2 (0x20 + k) st ext window).iface = { s.iface with linkDown := s.iface.linkDown ||| BitVec.ofNat 5 (2 ^ k.val) } := by
  have hcount : (s.countRung (0x20 + k) 2).func (0x20 + k) = (s.func (0x20 + k)).counted 2 := s.func_countRung_same _ 2
  have hc : (s.countRung (0x20 + k) 2).raws = s.raws ∧ (s.countRung (0x20 + k) 2).nvme = s.nvme ∧
      (s.countRung (0x20 + k) 2).lanes = s.lanes ∧ (s.countRung (0x20 + k) 2).iface = s.iface := ⟨rfl, rfl, rfl, rfl⟩
  rw [State.rung2_eq, State.iface_resetBegin_link]
  generalize s.countRung (0x20 + k) 2 = c at hcount hc
  obtain ⟨hr, hn, hl, hi⟩ := hc
  have hold : (((c.noteFault (0x20 + k) 2 ext st).raise 243).func (0x20 + k)).retries = [] := (congrArg FuncSt.retries hcount).trans hretries
  rw [State.breakUsers_unused (s := (c.noteFault (0x20 + k) 2 ext st).raise 243) 0x0901 (hr.trans hraws) (hn.trans hnvme) (hl.trans hlanes) hold,
    ← hi]
  rfl

/-- A lost link whose port is in rung 2, or under a warm reset, joins what is under way (R343, R387). -/
theorem State.linkLost_joins {s : State} {k : Fin 5} (hrun : s.power.phase = .run ∨ (s.power.phase = .park ∧ k.val = 4))
    (hbusy : s.inRung2 (0x20 + k) = true ∨ s.ladder.warm.isSome = true) :
    (s.linkLost k).fault (0x20 + k) .none 0x0701 true = (s.linkLost k).joinFault :=
  State.fault_joins (s := s.linkLost k) _ _ _ (State.faultSeen_link (s := s.linkLost k) k hrun) hbusy

/-- A lost link begins rung 2 of its port while the port's entries are few (R343, R387). -/
theorem State.linkLost_rung2 {s : State} {k : Fin 5} (hrun : s.power.phase = .run ∨ (s.power.phase = .park ∧ k.val = 4))
    (hfree : s.inRung2 (0x20 + k) = false) (hwarm : s.ladder.warm = none) (hlast : s.holdup.lastCourse = false)
    (hfew : (s.within (s.cfg (0x5100 + (0x20 + k)) 2) (s.func (0x20 + k)).recent).length < s.cfg 0x5000 1) :
    (s.linkLost k).fault (0x20 + k) .none 0x0701 true =
      (s.linkLost k).rung2 (0x20 + k) 0x0701 true (s.cfg (0x5100 + (0x20 + k)) 2) :=
  State.fault_rung2 (s := s.linkLost k) _ _ (State.faultSeen_link (s := s.linkLost k) k hrun) hfree hwarm hlast (hasRung2_link k) hfew

/-- Settles O54: a frame goes the way of its class (`execEthFrame_class`), a link's change raises its source, and a lost PCIe link is a
fault of its port, whose rung 2 leaves the link down (`State.iface_rung2_link`). -/
theorem ethernetAndLinks : Obligations.EthernetAndLinks := by
  intro p k frame b full rtsp zero key peer src dst l cut e h g s i core run on dropped toTile got kind link bit mask src144
  refine ⟨fun hoff => execEthFrame_off frame full rtsp hoff, fun hon hread => execEthFrame_unread hon frame full rtsp hread,
    fun hon hread => ?classes, fun hon hdown => execEthLink_up hon cut hdown, fun hon hup hraws => execEthLink_down hon cut hup hraws,
    fun hsame => ?_, fun hcore => ?_, fun hcore => ?_, fun hrun hdown hscan => execPcieLinkUp_plain h hrun hdown hscan, fun hup => ?_, fun hdown => ?_,
    fun hrun hup hraws hnvme hlanes hg => ?lost, fun hcore hg hcc => ?_, fun hcc => ?_⟩
  case classes =>
    have hgot {c : FrameClass} (hc : kind = c) : got = .next (s.frameTaken p e full frame.length c) :=
      execEthFrame_class hon frame full rtsp hread hc
    refine ⟨fun hc => hgot hc, fun hc => hgot hc, fun hc => hgot hc, fun hc hraw => ?_, fun hc => ⟨fun hl => ?_, fun hl hd hcfg => ?_,
      fun hl hd hk => ?_, fun hl h1 h2 hr hraw => ?_⟩⟩
    · rw [hgot hc, State.frameTaken, State.frameLeft_unwanted _ _ hraw]
      rfl
    · exact ⟨_, (hgot hc).trans (congrArg Host.Outcome.next (State.udp_bound p e peer src dst b zero full frame.length hl)), rfl⟩
    · exact ⟨_, (hgot hc).trans (congrArg Host.Outcome.next (State.udp_bumund hl p e peer src dst b zero full frame.length hd hcfg)), rfl⟩
    · exact (hgot hc).trans (congrArg Host.Outcome.next (State.udp_tile0 hl p e peer src dst b zero full frame.length hd hk))
    · rw [hgot hc, State.frameTaken, State.udp_left hl p e peer src dst b zero full frame.length h1 h2 hr, State.frameLeft_unwanted _ _ hraw]
      rfl
  · rw [← hsame]
    exact execEthLink_same p cut s
  · rw [exec_mdioTransactionComplete, execMdioTransactionComplete, if_pos (s.coreOn_iff.mpr hcore)]
  · rw [exec_mdioTransactionComplete, execMdioTransactionComplete, if_neg (mt s.coreOn_iff.mp hcore)]
  · rw [exec_pcieLinkUp, execPcieLinkUp, if_pos (by rw [hup]; exact Bool.or_true _)]
  · rw [exec_pcieLinkDown, execPcieLinkDown, if_pos (by rw [hdown]; exact Bool.or_true _)]
  case lost =>
    rw [hg]
    refine ⟨fun hbusy => ⟨(s.linkLost k).joinFault, ?_, rfl, rfl, rfl⟩, fun hfree hwarm hlast hretries hfew =>
      ⟨(s.linkLost k).rung2 (0x20 + k) 0x0701 true (s.cfg (0x5100 + (0x20 + k)) 2), ?_, ?iface, ?_⟩⟩
    · rw [exec_pcieLinkDown, execPcieLinkDown_idle hrun hup hraws hnvme, State.linkLost_joins hrun hbusy]
    · rw [exec_pcieLinkDown, execPcieLinkDown_idle hrun hup hraws hnvme, State.linkLost_rung2 hrun hfree hwarm hlast hfew]
    case iface =>
      rw [State.iface_rung2_link (s := s.linkLost k) k _ _ _ hraws hnvme hlanes hretries]
      have hmask : i.linkDown ||| mask ||| mask = i.linkDown ||| mask := by rw [BitVec.or_assoc, BitVec.or_self]
      exact congrArg (fun m => { s.iface with linkDown := m }) hmask
    · obtain ⟨hrung, hb, hmem, -⟩ := State.rung2_facts (s := s.linkLost k) (f := 0x20 + k) 0x0701 true (s.cfg (0x5100 + (0x20 + k)) 2)
        (by omega) hraws hnvme hlanes hretries
      exact ⟨hb, by rw [State.inRung2_eq, hb]; rfl, hrung, hmem⟩
  · refine ⟨s.fault g .none 0 true, ?_, exec_fault_plain g .none 0 true s⟩
    rw [exec_pcieRefclkLoss, execPcieRefclkLoss, if_pos (by rw [s.coreOn_iff.mpr hcore, hcc]; rfl), hg]
  · rw [exec_pcieRefclkLoss, execPcieRefclkLoss, if_neg (by rw [hcc, Bool.and_false]; exact Bool.false_ne_true)]

end Sys2Proof.Machine

namespace Sys2Proof.Machine

/-- Without REFCLK the capture filter of a GPIO line in PARK does not run: its edge has no effect (R237, R394). -/
theorem State.gpioOn_parkedUnclocked {s : State} (n : Nat) (hpark : s.power.phase = .park) (hclock : s.power.refclkOk = false) :
    s.gpioOn n = false := by
  rw [State.gpioOn, hpark, hclock]
  exact Bool.and_false _

theorem exec_gpioEdge_off {s : State} (n : Fin 32) (rising : Bool) (hoff : s.gpioOn n = false) : exec (.gpioEdge n rising) s = .next s := by
  rw [exec_gpioEdge, execGpioEdge, hoff]
  rfl

/-- A device in PARK with no good REFCLK, line 0 among GPIO_WAKE. -/
def parkedUnclocked : State where
  power := { phase := .park, refclkOk := false }
  dict := { vals := [(dictKey 0x5870 5, [1, 0, 0, 0])] }

/-- Refutes O55: its GPIO clause asks a good REFCLK of DEEP alone, and takes an edge of a GPIO_WAKE line to publish in every PARK; the model
asks it in PARK too. In `parkedUnclocked` the edge of line 0 has no effect, where the clause sets the line's level. -/
theorem not_outsideUnits : ¬ Obligations.OutsideUnits := by
  unfold Obligations.OutsideUnits
  intro h
  obtain ⟨-, -, -, -, -, -, -, -, -, -, -, -, -, -, -, hgpio, -⟩ :=
    h 0 0 0 0 [] [] 0 [] (.course 0) 0 0 0 { owner := .course 0, op := 0, sel := 0, param := 0, count := 0 } 0 0 true true 0 0 0 0 0 parkedUnclocked
  have heq := hgpio (by decide +kernel) (by decide +kernel)
  rw [exec_gpioEdge_off 0 true (State.gpioOn_parkedUnclocked 0 rfl rfl)] at heq
  injection heq with hstate
  have hlevel := congrArg (fun u : State => u.iface.gpio) hstate
  revert hlevel
  decide +kernel

end Sys2Proof.Machine

namespace Sys2Proof.Machine

/-! ### Corrections and the selected source (R382, R383) -/

theorem TimeSt.correct_slewed (x : TimeSt) {off : Int} (h : off.natAbs ≤ 1000000) : x.correct off = { x with slew := -off * 768 } := by
  rw [TimeSt.correct, if_neg (by omega)]

/-- A candidate that is chosen is the selected source. -/
theorem TimeSt.selected_choose (x : TimeSt) (pps : Bool) : (x.choose pps).selected = some pps := by
  cases pps
  · by_cases hp : x.profile = 1 <;> simp [TimeSt.choose, TimeSt.code, TimeSt.selected, hp]
  · rfl

theorem TimeSt.selected_holdover {x : TimeSt} (h : x.source = 4) : x.selected = none := by
  rw [TimeSt.selected, h]
  rfl

/-! ### What the steps of the time service do to the time (R383) -/

/-- The state at another time. -/
def State.withTime (s : State) (x : TimeSt) : State := { s with time := x }

theorem State.time_publish (s : State) (c : Nat) : (s.publish c).time = s.time := State.time_off (s.offSignals_publish c)

theorem State.mem_publish (s : State) (c : Nat) : (s.publish c).mem = s.mem := State.mem_off (s.offSignals_publish c)

section
variable (s : State) {x : TimeSt} {pps : Bool} (off : Int)

/-- An offset below 1 ms of the selected source, or of a candidate while nothing is selected, is slewed (R383; log entry 50). -/
theorem State.measured_slews (h : x.selected = some pps ∨ x.selected = none) (hoff : off.natAbs ≤ 1000000) :
    (s.withTime x).measured pps off = s.withTime { x with slew := -off * 768 } :=
  (if_pos h).trans (congrArg s.withTime (x.correct_slewed hoff))

theorem State.time_showOffset_selected {s : State} (h : s.time.selected = some pps) :
    (s.showOffset pps off).time = { s.time with offset := BitVec.ofInt 32 off } := congrArg State.time (if_pos h)

theorem State.showOffset_other {s : State} (h : s.time.selected = none) : s.showOffset pps off = s := by
  rw [State.showOffset, h]
  rfl

/-- While nothing is selected, a candidate's offset is slewed and not shown (R383, R398; log entry 50). -/
theorem State.measured_unselected (pps : Bool) (h : x.selected = none) (hoff : off.natAbs ≤ 1000000) :
    ((s.withTime x).measured pps off).showOffset pps off = s.withTime { x with slew := -off * 768 } := by
  rw [State.measured_slews s off (.inr h) hoff]
  exact State.showOffset_other off h

/-- A candidate that locks where nothing is selected becomes the source (R383). -/
theorem State.time_timeHolds_chosen (pps : Bool) (h : x.selected = none) : ((s.withTime x).timeHolds pps).time = x.choose pps := by
  rw [State.timeHolds]
  simp only [State.withTime, h]
  exact State.time_publish _ _

/-- The selected source that loses its lock leaves the service in holdover (R383). -/
theorem State.time_timeLost_selected (h : x.selected = some pps) : ((s.withTime x).timeLost pps).time =
    { x with preferSince := if s.ppsFirst == pps then none else x.preferSince, source := 4, lastLock := some x.now } := by
  rw [State.timeLost]
  simp only [State.withTime, h, if_true]
  exact State.time_publish _ _

end

theorem State.mem_timeHolds (s : State) (pps : Bool) : (s.timeHolds pps).mem = s.mem := by
  rw [State.timeHolds]
  repeat' split
  · exact State.mem_publish _ 262
  all_goals rfl

theorem State.mem_timeLost (s : State) (pps : Bool) : (s.timeLost pps).mem = s.mem := by
  rw [State.timeLost]
  split
  · exact State.mem_publish _ 263
  · rfl

theorem State.mem_measured (s : State) (pps : Bool) (off : Int) : (s.measured pps off).mem = s.mem := ite_keeps State.mem rfl

theorem State.mem_showOffset (s : State) (pps : Bool) (off : Int) : (s.showOffset pps off).mem = s.mem := ite_keeps State.mem rfl

/-! ### Sync messages (R382, R383) -/

/-- The time with a Sync counted, and its lock judged. -/
def TimeSt.synced (x : TimeSt) (run : Nat) (lock : Bool) : TimeSt :=
  { x with ptpRun := run, ptpLocked := lock, todGiven := x.todGiven || lock }

/-- The state in which a Sync's lock is held or lost. -/
def State.synced (s : State) (run : Nat) (lock : Bool) (off : Int) : State := (s.withTime (s.time.synced run lock)).measured false off

section
variable {s : State} {off : Int}

/-- A Sync while the candidate has no lock and gets none. -/
theorem State.ptpSync_free (hfree : s.time.ptpLocked = false) (hoff : off.natAbs ≤ 1000) (hrun : s.time.ptpRun < 7) :
    s.ptpSync off = (s.synced (s.time.ptpRun + 1) false off).showOffset false off := by
  rw [State.ptpSync, if_pos hoff, hfree]
  simp only [Bool.false_eq_true, if_false, decide_eq_false (show ¬ 8 ≤ s.time.ptpRun + 1 by omega)]
  rfl

/-- The Sync that gives the candidate its lock. -/
theorem State.ptpSync_eighth (hfree : s.time.ptpLocked = false) (hoff : off.natAbs ≤ 1000) (hrun : s.time.ptpRun = 7) :
    s.ptpSync off = ((s.synced 8 true off).timeHolds false).showOffset false off := by
  rw [State.ptpSync, if_pos hoff, hfree, hrun]
  rfl

/-- A Sync that takes the lock. -/
theorem State.ptpSync_far (hheld : s.time.ptpLocked = true) (hlow : 100000 < off.natAbs) :
    s.ptpSync off = ((s.synced 0 false off).timeLost false).showOffset false off := by
  rw [State.ptpSync, if_neg (show ¬ off.natAbs ≤ 1000 by omega), hheld]
  rw [if_pos rfl, decide_eq_false (show ¬ off.natAbs ≤ 100000 by omega)]
  rfl

/-- A Sync that gives no lock yet, while nothing is selected, counts and slews (R383). -/
theorem State.ptpSync_counts (hsel : s.time.selected = none) (hfree : s.time.ptpLocked = false) (hoff : off.natAbs ≤ 1000)
    (hrun : s.time.ptpRun < 7) : s.ptpSync off = { s with time := { s.time with ptpRun := s.time.ptpRun + 1, slew := -off * 768 } } := by
  rw [State.ptpSync_free hfree hoff hrun, State.synced,
    State.measured_unselected s off (x := s.time.synced (s.time.ptpRun + 1) false) false hsel (by omega), TimeSt.synced, Bool.or_false, ← hfree]
  rfl

/-- The eighth good Sync in a row locks, and the candidate is the source where nothing is selected (R383). -/
theorem State.time_ptpSync_locks (hsel : s.time.selected = none) (hfree : s.time.ptpLocked = false) (hoff : off.natAbs ≤ 1000)
    (hrun : s.time.ptpRun = 7) : (s.ptpSync off).time =
      { (({ s.time.synced 8 true with slew := -off * 768 } : TimeSt).choose false) with offset := BitVec.ofInt 32 off } := by
  rw [State.ptpSync_eighth hfree hoff hrun, State.synced,
    State.measured_slews s off (x := s.time.synced 8 true) (.inr hsel) (by omega)]
  have hchosen := State.time_timeHolds_chosen s (x := { s.time.synced 8 true with slew := -off * 768 }) false hsel
  rw [State.time_showOffset_selected off ((congrArg TimeSt.selected hchosen).trans (TimeSt.selected_choose _ _)), hchosen]

/-- A Sync more than 100 µs off takes the lock of the selected source: holdover (R383). -/
theorem State.time_ptpSync_loses (hsel : s.time.selected = some false) (hheld : s.time.ptpLocked = true) (hlow : 100000 < off.natAbs)
    (hhigh : off.natAbs ≤ 1000000) : ∃ prefer, (s.ptpSync off).time =
      { s.time.synced 0 false with slew := -off * 768, preferSince := prefer, source := 4, lastLock := some s.time.now } := by
  rw [State.ptpSync_far hheld hlow, State.synced, State.measured_slews s off (x := s.time.synced 0 false) (.inl hsel) hhigh]
  have hlost := State.time_timeLost_selected s (x := { s.time.synced 0 false with slew := -off * 768 }) (pps := false) hsel
  rw [State.showOffset_other off ((congrArg TimeSt.selected hlost).trans (TimeSt.selected_holdover rfl))]
  exact ⟨_, hlost⟩

end

theorem State.mem_ptpSync (s : State) (off : Int) : (s.ptpSync off).mem = s.mem := by
  rw [State.ptpSync, State.mem_showOffset]
  repeat' split
  all_goals simp only [State.mem_timeHolds, State.mem_timeLost, State.mem_measured]

theorem exec_ptpMessage_on {s : State} {p : Fin 10} (hon : s.ptpOn p = true) (off : Int) :
    exec (.ptpMessage p (.sync off)) s = .next (s.ptpSync off) :=
  congrArg Host.Outcome.next (if_neg (by rw [hon]; exact Bool.false_ne_true))

theorem exec_ptpMessage_off {s : State} {p : Fin 10} (hoff : s.ptpOn p = false) (m : PtpMsg) : exec (.ptpMessage p m) s = .next s :=
  congrArg Host.Outcome.next (if_pos (by rw [hoff]; rfl))

/-! ### PPS edges (R383, R394) -/

/-- The time with an accepted edge counted, and its lock judged. -/
def TimeSt.edged (x : TimeSt) (run : Nat) (lock : Bool) : TimeSt := { x with ppsRun := run, ppsLocked := lock }

theorem State.mem_ppsAccepted (s : State) (off : Int) : (s.ppsAccepted off).mem = s.mem := by
  rw [State.ppsAccepted, State.mem_showOffset]
  split
  · rw [State.mem_timeHolds, State.mem_measured]
  · rw [State.mem_measured]

section
variable {s : State} {off : Int} (hsel : s.time.selected = none) (hfree : s.time.ppsLocked = false) (hoff : off.natAbs ≤ 1000000)
include hsel hfree hoff

/-- An accepted edge that gives no lock yet, while nothing is selected, counts and slews (R383). -/
theorem State.ppsAccepted_counts (hrun : s.time.ppsRun < 3) :
    s.ppsAccepted off = s.withTime { s.time with ppsRun := s.time.ppsRun + 1, slew := -off * 768 } := by
  have heq : s.ppsAccepted off = ((s.withTime (s.time.edged (s.time.ppsRun + 1) false)).measured true off).showOffset true off := by
    rw [State.ppsAccepted, hfree]
    simp only [decide_eq_false (show ¬ 4 ≤ s.time.ppsRun + 1 by omega), Bool.false_or, Bool.false_and, Bool.false_eq_true, if_false]
    rfl
  rw [heq, State.measured_unselected s off (x := s.time.edged (s.time.ppsRun + 1) false) true hsel hoff, TimeSt.edged, ← hfree]

/-- The fourth accepted edge in a row locks once a time of day is given, and PPS is the source where nothing is selected (R383). -/
theorem State.time_ppsAccepted_locks (hrun : s.time.ppsRun = 3) (htod : s.time.todGiven = true) : (s.ppsAccepted off).time =
    { (({ s.time.edged 4 true with slew := -off * 768 } : TimeSt).choose true) with offset := BitVec.ofInt 32 off } := by
  have heq : s.ppsAccepted off = (((s.withTime (s.time.edged 4 true)).measured true off).timeHolds true).showOffset true off := by
    have hlock : (s.time.ppsLocked || decide (4 ≤ s.time.ppsRun + 1) && s.time.todGiven) = true := by
      rw [hfree, hrun, htod]
      rfl
    rw [State.ppsAccepted, hlock, hrun]
    rfl
  rw [heq, State.measured_slews s off (x := s.time.edged 4 true) (.inr hsel) hoff]
  have hchosen := State.time_timeHolds_chosen s (x := { s.time.edged 4 true with slew := -off * 768 }) true hsel
  rw [State.time_showOffset_selected off ((congrArg TimeSt.selected hchosen).trans (TimeSt.selected_choose _ _)), hchosen]

end

/-- What no accepted edge changes beyond its slew: the time of day, a TOD_SET value that waits, and whether a time of day was given. -/
def TimeSt.givenPart (x : TimeSt) : BitVec 80 × Option (BitVec 80) × Bool × Nat := (x.now, x.todNext, x.todGiven, x.ppsRun)

theorem State.givenPart_timeHolds (s : State) (pps : Bool) : (s.timeHolds pps).time.givenPart = s.time.givenPart := by
  rw [State.timeHolds]
  repeat' split
  · rw [State.time_raise, State.time_publish]
    rfl
  all_goals rfl

theorem State.givenPart_showOffset (s : State) (pps : Bool) (off : Int) : (s.showOffset pps off).time.givenPart = s.time.givenPart :=
  ite_keeps (fun u : State => u.time.givenPart) rfl

/-- An accepted edge below 1 ms off keeps the time of day and counts in the run (R383). -/
theorem State.givenPart_ppsAccepted (s : State) {off : Int} (hoff : off.natAbs ≤ 1000000) :
    (s.ppsAccepted off).time.givenPart = (s.time.now, s.time.todNext, s.time.todGiven, s.time.ppsRun + 1) := by
  have hmeasured : ∀ x : TimeSt, ((s.withTime x).measured true off).time.givenPart = x.givenPart := fun x =>
    ite_keeps (fun u : State => u.time.givenPart) ((congrArg TimeSt.givenPart (x.correct_slewed hoff) :).trans rfl)
  rw [State.ppsAccepted, State.givenPart_showOffset]
  split
  · rw [State.givenPart_timeHolds]
    exact hmeasured (s.time.edged _ _)
  · exact hmeasured (s.time.edged _ _)

/-! ### What an edge comes to (R237, R383, R394) -/

theorem exec_ppsEdge_core {s : State} (hcore : s.power.phase = .run ∨ s.power.phase = .park) :
    exec .ppsEdge s = .next (s.eventOutput 64).ppsTaken := by
  rw [exec_ppsEdge, execPpsEdge]
  obtain h | h := hcore <;> rw [h]

theorem exec_ppsEdge_off {s : State} (hcore : ¬ (s.power.phase = .run ∨ s.power.phase = .park)) (hdeep : s.power.phase ≠ .deep) :
    exec .ppsEdge s = .next s := by
  rw [exec_ppsEdge, execPpsEdge]
  split
  · next h => exact absurd (.inl h) hcore
  · next h => exact absurd (.inr h) hcore
  · next h => exact absurd h hdeep
  · rfl

/-- An event output changes signals alone (R227). -/
theorem State.offSignals_eventOutput (s : State) (o : Nat) : (s.eventOutput o).offSignals = s.offSignals := by
  rw [State.eventOutput]
  exact ite_keeps State.offSignals (s.offSignals_publish _)

section
variable {s u : State} (hsame : u.offSignals = s.offSignals)
include hsame

theorem State.cfg_off (i n : Nat) : u.cfg i n = s.cfg i n := (congrArg (fun t : State => t.cfg i n) hsame :)

/-- A TOD_SET value that names a whole second applies at the edge, with no offset left (R383, R397). -/
theorem State.ppsTaken_set {v : BitVec 80} (hnext : s.time.todNext = some v) (hv : bits v 48 32 = 0) :
    u.ppsTaken.time.givenPart = (v, none, true, s.time.ppsRun + 1) ∧ u.ppsTaken.mem = s.mem := by
  have htime : u.time = s.time := State.time_off hsame
  have hoff : secondOffset v = 0 := by
    rw [secondOffset, hv]
    rfl
  rw [State.ppsTaken, htime, hnext]
  dsimp only
  rw [hoff, State.mem_ppsAccepted, State.givenPart_ppsAccepted _ (Nat.zero_le _), State.mem_off hsame]
  exact ⟨rfl, rfl⟩

theorem State.ppsTaken_edge (hnext : s.time.todNext = none) : u.ppsTaken = u.ppsEdge := by
  rw [State.ppsTaken, State.time_off hsame, hnext]

/-- An edge outside PPS_WINDOW is rejected and counted (R383). -/
theorem State.ppsEdge_rejected (hfar : s.cfg 0x5820 6 * 1000 < (secondOffset s.time.now).natAbs) :
    u.ppsEdge.time = { s.time with ppsRun := 0, ppsRejected := satAdd s.time.ppsRejected 1 } ∧ u.ppsEdge.mem = s.mem := by
  rw [State.ppsEdge, State.time_off hsame, State.cfg_off hsame, if_pos hfar, State.time_raise, State.mem_raise, State.mem_off hsame]
  exact ⟨rfl, rfl⟩

theorem State.ppsEdge_accepted (hnear : (secondOffset s.time.now).natAbs ≤ s.cfg 0x5820 6 * 1000) :
    u.ppsEdge = u.ppsAccepted (secondOffset s.time.now) := by
  rw [State.ppsEdge, State.time_off hsame, State.cfg_off hsame, if_neg (by omega)]

end

/-! ### Losses (R383) -/

theorem exec_ptpSyncTimeout_free {s : State} (hfree : s.time.ptpLocked = false) :
    exec .ptpSyncTimeout s = .next (s.withTime { s.time with ptpRun := 0 }) := by
  rw [exec_ptpSyncTimeout, execPtpSyncTimeout, if_neg (by rw [hfree]; exact Bool.false_ne_true)]
  exact congrArg (fun b => Host.Outcome.next (s.withTime { s.time with ptpRun := 0, ptpLocked := b })) hfree.symm

theorem exec_ppsLoss_free {s : State} (hfree : s.time.ppsLocked = false) :
    exec .ppsLoss s = .next (s.withTime { s.time with ppsRun := 0 }) := by
  rw [exec_ppsLoss, execPpsLoss, if_neg (by rw [hfree]; exact Bool.false_ne_true)]
  exact congrArg (fun b => Host.Outcome.next (s.withTime { s.time with ppsRun := 0, ppsLocked := b })) hfree.symm

theorem exec_ptpSyncTimeout_lost {s : State} (hheld : s.time.ptpLocked = true) :
    exec .ptpSyncTimeout s = .next ((s.withTime { s.time with ptpRun := 0, ptpLocked := false }).timeLost false) := by
  rw [exec_ptpSyncTimeout, execPtpSyncTimeout, if_pos hheld]
  rfl

theorem exec_ppsLoss_lost {s : State} (hheld : s.time.ppsLocked = true) :
    exec .ppsLoss s = .next ((s.withTime { s.time with ppsRun := 0, ppsLocked := false }).timeLost true) := by
  rw [exec_ppsLoss, execPpsLoss, if_pos hheld]
  rfl

/-! ### TOD_SET (R301, R383) -/

/-- A write of a dictionary entry that passes its checks is answered as its owner answers (R301, R304). -/
theorem State.request_written {s t : State} {p : Path} {i n : Nat} {v : Bytes} {a : Answer} (hask : s.asks p = true)
    (hi : i < 2 ^ 16) (hn : n < 2 ^ 8) (hgood : (s.fresh.writeCheck p i n v).good = true)
    (h : s.fresh.writeEntryOf p i n v = (t, some a)) (hr : t.sec.restarting = false) :
    s.request p i n (some v) = t.sendAnswer p a :=
  State.request_answered hask hi hn ((State.dictWrite_passed hgood).trans h) hr

/-- SERVICE may write any time of day (R301, R302). -/
theorem State.writeCheck_todSet {s : State} {p : Path} {v : Bytes} (hrole : s.role p = 3) (hlc : s.sec.fuse.lc ≠ 4) (hv : v.length = 10) :
    (s.writeCheck p 0x5820 7 v).good = true := by
  have hcheck : (DEntry.wo (.octets 10 10)).check 0x5820 7 v = accepted := by
    simp only [DEntry.check, DEntry.wo, DType.fits, hv]
    rfl
  rw [State.writeCheck_found hlc (findEntry_listed rfl), State.roleCheck_met (by rw [hrole]; exact Nat.le_refl 3), hcheck]
  rfl

/-- Settles O56: locks and holdover are `time_ptpSync_locks`, `time_ppsAccepted_locks` and `time_timeLost_selected`; an edge is taken on
the time that its publication leaves as it was (`offSignals_eventOutput`). -/
theorem timeService : Obligations.TimeService := by
  intro p path off g v b s x core sync edge e set
  have hsame : (s.eventOutput 64).offSignals = s.offSignals := s.offSignals_eventOutput 64
  refine ⟨fun hoff => exec_ptpMessage_off hoff _, fun hon hsel hfree hoff => ⟨fun hrun => ?_, fun hrun => ?_⟩,
    fun hon hheld hsel hlow hhigh => ?_, fun hon => ⟨?_, fun hg => ?_, ?_⟩, fun hfree => ?_, fun hheld hsel => ?_, fun hdeep hclock => ?_,
    fun hcore hdeep => exec_ppsEdge_off hcore hdeep, fun hcore hnext hv => ?_, fun hcore hnext hfar => ?_,
    fun hcore hnext hnear hoff hsel hfree => ⟨fun hrun => ?_, fun hrun htod => ?_⟩, fun hfree => ?_, fun hheld hsel => ?_, fun hsrc => ?_,
    fun hsrc => ?_, fun hask hrole hlc hv => ?_⟩
  · exact (exec_ptpMessage_on hon off).trans (congrArg Host.Outcome.next (State.ptpSync_counts hsel hfree hoff hrun))
  · refine ⟨_, exec_ptpMessage_on hon off, ?_⟩
    rw [State.time_ptpSync_locks hsel hfree hoff hrun]
    exact ⟨rfl, rfl, Bool.or_true _, rfl, rfl, rfl, s.mem_ptpSync off⟩
  · obtain ⟨prefer, htime⟩ := State.time_ptpSync_loses hsel hheld hlow hhigh
    refine ⟨_, exec_ptpMessage_on hon off, ?_⟩
    rw [htime]
    exact ⟨rfl, rfl, rfl, rfl, s.mem_ptpSync off⟩
  · rw [exec_ptpMessage, execPtpMessage, hon]
    rfl
  · rw [exec_ptpMessage, execPtpMessage, hon]
    simp only [Bool.not_true, Bool.false_eq_true, if_false, if_neg hg]
  · rw [exec_ptpMessage, execPtpMessage, hon]
    simp only [Bool.not_true, Bool.false_eq_true, if_false, if_true]
  · exact exec_ptpSyncTimeout_free hfree
  · refine ⟨_, exec_ptpSyncTimeout_lost hheld, ?_⟩
    rw [State.time_timeLost_selected s (x := { s.time with ptpRun := 0, ptpLocked := false }) (pps := false) hsel]
    exact ⟨rfl, rfl, rfl, State.mem_timeLost _ _⟩
  · simp only [edge, exec_ppsEdge, execPpsEdge, hdeep, hclock, if_true]
  · obtain ⟨hgiven, hmem⟩ := State.ppsTaken_set hsame hnext hv
    injection hgiven with hnow hgiven
    injection hgiven with hleft hgiven
    injection hgiven with htod hrun
    exact ⟨_, exec_ppsEdge_core hcore, hnow, hleft, htod, hrun, hmem⟩
  · refine ⟨_, exec_ppsEdge_core hcore, ?_⟩
    rw [State.ppsTaken_edge hsame hnext]
    exact State.ppsEdge_rejected hsame hfar
  · refine ⟨_, exec_ppsEdge_core hcore, ?_⟩
    have htime : (s.eventOutput 64).time = s.time := State.time_off hsame
    rw [State.ppsTaken_edge hsame hnext, State.ppsEdge_accepted hsame hnear, State.mem_ppsAccepted, State.mem_off hsame,
      State.ppsAccepted_counts (by rw [htime]; exact hsel) (by rw [htime]; exact hfree) hoff (by rw [htime]; exact hrun), htime]
    exact ⟨rfl, rfl⟩
  · refine ⟨_, exec_ppsEdge_core hcore, ?_⟩
    have htime : (s.eventOutput 64).time = s.time := State.time_off hsame
    rw [State.ppsTaken_edge hsame hnext, State.ppsEdge_accepted hsame hnear, State.mem_ppsAccepted, State.mem_off hsame,
      State.time_ppsAccepted_locks (by rw [htime]; exact hsel) (by rw [htime]; exact hfree) hoff (by rw [htime]; exact hrun)
        (by rw [htime]; exact htod), htime]
    exact ⟨rfl, rfl, rfl, rfl, rfl⟩
  · exact exec_ppsLoss_free hfree
  · refine ⟨_, exec_ppsLoss_lost hheld, ?_⟩
    rw [State.time_timeLost_selected s (x := { s.time with ppsRun := 0, ppsLocked := false }) (pps := true) hsel]
    exact ⟨rfl, rfl, rfl, State.mem_timeLost _ _⟩
  · rw [exec_holdoverExpiry, execHoldoverExpiry, if_pos hsrc]
  · rw [exec_holdoverExpiry, execHoldoverExpiry, if_neg hsrc]
  · exact congrArg Host.Outcome.next (State.request_written hask (by decide) (by decide) (State.writeCheck_todSet (s := s.fresh) hrole hlc hv) rfl
      (State.asks_restarting hask))

end Sys2Proof.Machine

namespace Sys2Proof.Machine

/-! ### Lanes without a source (R30) -/

/-- No lane has a SOURCE_TYPE. -/
def State.sourceless (s : State) : Prop := ∀ l, l < 256 → s.laneCfg l 1 = 0

theorem State.sourceless_setDict {s : State} (h : s.sourceless) {i n : Nat} (v : Bytes) (hi : i < 0x3000 ∨ 0x3100 ≤ i) (hn : n < 256) :
    (s.setDict i n v).sourceless := fun l hl => by
  have hkey : dictKey (0x3000 + l) 1 ≠ dictKey i n := by
    simp only [dictKey]
    omega
  rw [← h l hl]
  exact congrArg leNat (State.dictBytes_setDict_other s v hkey)

theorem State.sourceless_filter {s : State} (h : s.sourceless) (g : Nat → Bool) :
    ((List.range 256).filter fun l => s.laneCfg l 1 != 0 && g l) = [] :=
  List.filter_eq_nil_iff.mpr fun l hl => by
    rw [h l (List.mem_range.mp hl)]
    exact Bool.false_ne_true

/-- With no lane and no source, a change of the wythes comes to a judgement of hold-up-inadequate alone (R48). -/
theorem State.wytheSettle_idle {s : State} (h : s.sourceless) (hlanes : s.lanes = []) : s.wytheSettle = s.judgeInadequate := by
  have hnone : ((List.range 256).filter fun l => s.laneCfg l 1 != 0) = [] :=
    List.filter_eq_nil_iff.mpr fun l hl => by
      rw [h l (List.mem_range.mp hl)]
      exact Bool.false_ne_true
  rw [State.wytheSettle, hlanes]
  simp only [List.map_nil, List.foldl_nil, hnone]

theorem State.epochWrite_idle {s : State} (h : s.sourceless) (n : Nat) (v : Bytes) : s.epochWrite n v = s.setDict (0x4840 + n) 1 v := by
  rw [State.epochWrite, State.sourceless_filter h]
  rfl

/-! ### Who owns the write of an entry (R301) -/

theorem State.writeEntryOf_key (s : State) (p : Path) (l : Lane) (n : Fin 4) (v : Bytes) :
    s.writeEntryOf p (0x3200 + l) (n + 1) v = s.keyWrite l (n + 1) v := by
  have hl := l.isLt
  have hn := n.isLt
  unfold State.writeEntryOf
  rw [if_neg (by omega), if_neg (by omega), if_pos (by omega), Nat.add_sub_cancel_left]

theorem State.writeEntryOf_epoch (s : State) (p : Path) {n : Nat} (hn : n < 8) (v : Bytes) :
    s.writeEntryOf p (0x4840 + n) 1 v = (s.epochWrite n v).ok := by
  unfold State.writeEntryOf State.securityWrite
  rw [if_neg (by omega), if_neg (by omega), if_neg (by omega), if_neg (by omega), if_pos (by omega), if_pos (by omega),
    Nat.add_sub_cancel_left]

/-! ### Keys (R134) -/

/-- The state apart from the binding table but its order, the context store, the security block and signals. -/
def State.offBind (s : State) : State :=
  { s with bind := { order := s.bind.order }, draws := 0, ctx := {}, sec := { restarting := s.sec.restarting } }.offSignals

theorem State.offBind_rekeyStart (s : State) : s.rekeyStart.offBind = s.offBind := rfl

theorem State.offBind_rekeyCheck (s : State) : s.rekeyCheck.offBind = s.offBind := by
  rw [State.rekeyCheck, State.rekeyIfFull]
  repeat' split
  all_goals rfl

theorem State.offBind_countBindings (s : State) (c : Nat) : (s.countBindings c).offBind = s.offBind := by
  rw [s.countBindings_eq c]
  rfl

/-- An insertion changes the binding table alone, but for a re-key that it starts and the bindings that a context counts (R130, R133). -/
theorem State.offBind_bindInsert (s : State) (e : BindEntry) : (s.bindInsert e).2.offBind = s.offBind := by
  rw [State.bindInsert]
  dsimp only
  split
  · rfl
  · split
    · exact (State.offBind_rekeyCheck _).trans ((State.offBind_countBindings _ _).trans rfl)
    · rfl

theorem State.keyBinds_frame (s : State) {k : BitVec 320} (h : keyFunc k < 0x28) : s.keyBinds k = s := if_neg (by omega)

/-- A key that another binding holds is refused (R134). -/
theorem State.keyWrite_taken {s : State} {l n : Nat} {v : Bytes} {e : BindEntry} (hv : v ≠ []) (hold : s.dictBytes (0x3200 + l) n ≠ v)
    (hfound : s.bind.lookup (keyOfBytes v) = some e) (hconf : e.learned = false) :
    s.keyWrite l n v = s.no (refused 0x08000021) := by
  rw [State.keyWrite, if_neg (by rwa [List.isEmpty_iff]), if_neg hold, hfound]
  simp only [hconf, Bool.false_and, Bool.false_eq_true, if_false]

/-- The state with a new key of a frame flow bound to lane l (R134). -/
def State.keyBound (s : State) (l n : Nat) (v : Bytes) : State :=
  ((s.bindInsert (s.laneEntry l (keyOfBytes v))).2.orderAdd l (keyOfBytes v)).setDict (0x3200 + l) n v

/-- A new key of an open lane with room is inserted and comes last in the lane's order (R134). -/
theorem State.keyWrite_new {s : State} {l n : Nat} {v : Bytes} (hv : v ≠ []) (hold : s.dictBytes (0x3200 + l) n = [])
    (hfree : s.bind.lookup (keyOfBytes v) = none) (hroom : (s.bind.order.look [] l).length < 8) (hopen : (s.lane l).active = true)
    (hfunc : keyFunc (keyOfBytes v) < 0x28) (hfits : (s.bindInsert (s.laneEntry l (keyOfBytes v))).1 = true) :
    s.keyWrite l n v = (s.keyBound l n v).ok := by
  have hlane : ((s.keyBound l n v).lane l).active = true := by
    rw [← hopen]
    exact (congrArg (fun u : State => (u.lane l).active) (s.offBind_bindInsert (s.laneEntry l (keyOfBytes v))) :)
  have hins : s.keyInsert l n v = ((((s.keyBound l n v).keyBinds (keyOfBytes v)).tryOpen l)).ok := by
    rw [State.keyInsert, hold]
    simp only [List.isEmpty_nil, Bool.and_true, decide_eq_false (show ¬ 8 ≤ (s.bind.order.look [] l).length by omega), hfits, Bool.not_true,
      Bool.false_eq_true, if_false, if_true]
    rfl
  rw [State.keyWrite, if_neg (by rwa [List.isEmpty_iff]), if_neg (by rw [hold]; exact Ne.symm hv), hfree]
  dsimp only
  rw [hins, State.keyBinds_frame _ hfunc, State.tryOpen, if_pos hlane]

theorem State.order_keyBound (s : State) (l n : Nat) (v : Bytes) :
    (s.keyBound l n v).bind.order.look [] l = s.bind.order.look [] l ++ [keyOfBytes v] := by
  have horder : (s.bindInsert (s.laneEntry l (keyOfBytes v))).2.bind.order = s.bind.order :=
    (congrArg (fun u : State => u.bind.order) (s.offBind_bindInsert (s.laneEntry l (keyOfBytes v))) :)
  rw [← horder]
  exact Tab.look_put_same _ _ _ _

/-! ### Answers of a write (R301, R304) -/

section
variable {s : State} {p : Path} {i n : Nat} {v : Bytes} (hok : s.asks p = true ∧ (s.fresh.writeCheck p i n v).good = true)
  (hi : i < 2 ^ 16) (hn : n < 2 ^ 8)
include hok hi hn

/-- A write that passes its checks is answered as its owner answers (R301, R304). -/
theorem State.request_ok {t : State} {a : Answer} (h : s.fresh.writeEntryOf p i n v = (t, some a)) (hr : t.sec.restarting = s.sec.restarting) :
    s.request p i n (some v) = t.sendAnswer p a :=
  State.request_written hok.1 hi hn hok.2 h (hr.trans (State.asks_restarting hok.1))

/-- A store that a write begins is answered later (R311). -/
theorem State.request_stores {t : State} (h : s.fresh.writeEntryOf p i n v = (t, none)) (hr : t.sec.restarting = s.sec.restarting) :
    s.request p i n (some v) = t :=
  State.request_deferred hok.1 hi hn ((State.dictWrite_passed hok.2).trans h) (hr.trans (State.asks_restarting hok.1))

end

/-- A path's request and its answer: no other field of the state. -/
theorem State.mem_sendAnswer (s : State) (p : Path) (a : Answer) : (s.sendAnswer p a).mem = s.mem := (congrArg State.mem (s.offReply_sendAnswer p a) :)

theorem State.dictBytes_sendAnswer (s : State) (p : Path) (a : Answer) (i n : Nat) : (s.sendAnswer p a).dictBytes i n = s.dictBytes i n :=
  (congrArg (fun u : State => u.dictBytes i n) (s.offReply_sendAnswer p a) :)

/-! ### The wythe set (R48, R316) -/

section
variable {p : Path} {w : BitVec 8} {s : State} (hok : s.asks p = true ∧ (s.fresh.writeCheck p 0x5800 1 [w]).good = true)
include hok

theorem wytheSetWrite_declared (hdeclared : s.holdup.declared = true) :
    exec (.wytheSetWrite p w) s = .next (s.fresh.sendAnswer p (refusedBy 0x0402)) :=
  congrArg Host.Outcome.next (State.request_ok hok (by decide) (by decide) (if_pos hdeclared) rfl)

/-- The state with WYTHE_SET written. -/
def State.wytheSet (s : State) (w : BitVec 8) : State :=
  { s.setDict 0x5800 1 [w] with wythes := { s.wythes with configured := s.wythes.configured &&& BitVec.ofNat 2 (leNat [w]) } }

/-- With no lane and no source, WYTHE_SET clears what it names no longer, and is answered (R48, R316). -/
theorem wytheSetWrite_idle (hfree : s.holdup.declared = false) (hidle : s.sourceless) (hlanes : s.lanes = []) :
    ∃ t, exec (.wytheSetWrite p w) s = .next t ∧ t.wythes.configured = s.wythes.configured &&& w.setWidth 2 ∧ t.dictBytes 0x5800 1 = [w] ∧
      t.reply = [{ dest := pathNum p }] := by
  obtain ⟨since, r, ls, -, hoff⟩ := (s.fresh.wytheSet w).judgeInadequate_off
  have hidle' : (s.fresh.wytheSet w).sourceless := State.sourceless_setDict (s := s.fresh) hidle [w] (by omega) (by decide)
  have hwrite : s.fresh.writeEntryOf p 0x5800 1 [w] = (s.fresh.wytheSet w).judgeInadequate.ok := by
    refine (if_neg (by rw [show s.fresh.holdup.declared = false from hfree]; exact Bool.false_ne_true) :
      s.fresh.wytheWrite 0x5800 1 [w] = _).trans ?_
    exact congrArg State.ok (State.wytheSettle_idle hidle' hlanes)
  refine ⟨_, congrArg Host.Outcome.next (State.request_ok hok (by decide) (by decide) hwrite (congrArg (fun u : State => u.sec.restarting) hoff :)),
    ?_, ?_, State.reply_sendAnswer p (congrArg State.reply hoff :)⟩
  · have hset : BitVec.ofNat 2 (leNat [w]) = w.setWidth 2 := by
      rw [← BitVec.ofNat_toNat]
      simp [leNat]
    rw [← hset]
    exact (congrArg (fun u : State => u.wythes.configured) (State.offReply_sendAnswer _ p accepted) :).trans
      (congrArg (fun u : State => u.wythes.configured) hoff :)
  · rw [State.dictBytes_sendAnswer]
    exact (congrArg (fun u : State => u.dictBytes 0x5800 1) hoff :).trans (State.dictBytes_setDict_same s.fresh 0x5800 1 [w])

end

/-! ### Keys and epochs (R134, R331) -/

section
variable {p : Path} {l : Lane} {n : Fin 4} {v : Bytes} {s : State}
  (hok : s.asks p = true ∧ (s.fresh.writeCheck p (0x3200 + l) (n + 1) v).good = true) (hv : v ≠ [])
include hok hv

theorem exec_keyWrite_taken {e : BindEntry} (hfound : s.bind.lookup (keyOfBytes v) = some e) (hconf : e.learned = false)
    (hold : s.dictBytes (0x3200 + l) (n + 1) ≠ v) : exec (.keyWrite p l n v) s = .next (s.fresh.sendAnswer p (refused 0x08000021)) :=
  have hl := l.isLt
  have hn := n.isLt
  congrArg Host.Outcome.next (State.request_ok hok (by omega) (by omega)
    ((State.writeEntryOf_key _ p l n v).trans (State.keyWrite_taken (s := s.fresh) hv hold hfound hconf)) rfl)

/-- A key of a frame flow is bound behind its lane's keys (R134). -/
theorem exec_keyWrite_new (hfree : s.bind.lookup (keyOfBytes v) = none) (hold : s.dictBytes (0x3200 + l) (n + 1) = [])
    (hroom : (s.bind.order.look [] l).length < 8) (hopen : (s.lane l).active = true) (hfunc : keyFunc (keyOfBytes v) < 0x28)
    (hfits : (s.fresh.bindInsert (s.fresh.laneEntry l (keyOfBytes v))).1 = true) :
    ∃ t, exec (.keyWrite p l n v) s = .next t ∧ t.dictBytes (0x3200 + l) (n + 1) = v ∧
      t.bind.order.look [] l = s.bind.order.look [] l ++ [keyOfBytes v] ∧ t.reply = [{ dest := pathNum p }] ∧ t.mem = s.mem := by
  have hl := l.isLt
  have hn := n.isLt
  have hoff := s.fresh.offBind_bindInsert (s.fresh.laneEntry l (keyOfBytes v))
  have hmem : (s.fresh.keyBound l (n + 1) v).mem = s.mem := (congrArg State.mem hoff :)
  refine ⟨_, congrArg Host.Outcome.next (State.request_ok hok (by omega) (by omega)
    ((State.writeEntryOf_key _ p l n v).trans (State.keyWrite_new (s := s.fresh) hv hold hfree hroom hopen hfunc hfits))
    (congrArg (fun u : State => u.sec.restarting) hoff :)), ?_, ?_, State.reply_sendAnswer p (congrArg State.reply hoff :),
    (State.mem_sendAnswer _ _ _).trans hmem⟩
  · rw [State.dictBytes_sendAnswer]
    exact State.dictBytes_setDict_same _ _ _ _
  · exact (congrArg (fun u : State => u.bind.order.look [] l) (State.offReply_sendAnswer _ p accepted) :).trans
      (s.fresh.order_keyBound l (n + 1) v)

end

/-- Slots 8 to 15 have no entry (R299). -/
theorem State.writeCheck_noSlot {s : State} {p : Path} {slot : Fin 16} {v : Bytes} (hlc : s.sec.fuse.lc ≠ 4) (hslot : 8 ≤ slot.val) :
    s.writeCheck p (0x4840 + slot) 1 v = refused 0x06020000 := by
  have hmissing : ∀ slot : Fin 16, 8 ≤ slot.val →
      (dictEntry (0x4840 + slot) 1).isNone = true ∧ indexExists (0x4840 + slot) = false := by decide
  obtain ⟨hentry, hindex⟩ := hmissing slot hslot
  exact State.writeCheck_missing hlc (findEntry_noIndex (Option.isNone_iff_eq_none.mp hentry) hindex)

theorem exec_epochWrite_noSlot {s : State} {p : Path} {slot : Fin 16} (x : BitVec 32) (hask : s.asks p = true) (hlc : s.sec.fuse.lc ≠ 4)
    (hslot : 8 ≤ slot.val) : exec (.epochWrite p slot x) s = .next (s.fresh.sendAnswer p (refused 0x06020000)) :=
  have hlt := slot.isLt
  congrArg Host.Outcome.next (State.request_answered hask (by omega) (by decide)
    (State.dictWrite_refused (State.writeCheck_noSlot (s := s.fresh) hlc hslot) rfl) (State.asks_restarting hask))

/-- With no lane that waits for it, an epoch is set (R331). -/
theorem exec_epochWrite_idle {s : State} {p : Path} {slot : Fin 16} {x : BitVec 32}
    (hok : s.asks p = true ∧ (s.fresh.writeCheck p (0x4840 + slot) 1 (toLE 4 x.toNat)).good = true) (hidle : s.sourceless) :
    exec (.epochWrite p slot x) s = .next ((s.fresh.setDict (0x4840 + slot) 1 (toLE 4 x.toNat)).sendAnswer p accepted) := by
  have hlt := slot.isLt
  have hslot : slot.val < 8 := by
    refine Classical.byContradiction fun hno => ?_
    have hlc : s.fresh.sec.fuse.lc ≠ 4 := fun hlc => by
      have hgood := hok.2
      rw [State.writeCheck_ended hlc] at hgood
      exact absurd hgood (by decide)
    have hgood := hok.2
    rw [State.writeCheck_noSlot hlc (by omega)] at hgood
    exact absurd hgood (by decide)
  exact congrArg Host.Outcome.next (State.request_ok hok (by omega) (by decide)
    ((State.writeEntryOf_epoch _ p hslot _).trans (congrArg State.ok (State.epochWrite_idle (s := s.fresh) hidle _ _))) rfl)

/-! ### Stores (R311, R312) -/

/-- The state in which a store is begun (R311, R312). -/
def State.storeBegun (s : State) (p : Path) (load : Bool) : State :=
  { s with sec := { s.sec with storing := some (s.copyBytes s.nextCopy.2 (s.configEntries load), s.nextCopy.1, p) } }

theorem State.askStore_blank {s : State} (p : Path) (load : Bool) (h : s.sec.fuse.lc = 0) : s.askStore p load = s.no (refused 0x08000022) := if_pos h

theorem State.askStore_declared {s : State} (p : Path) (load : Bool) (h : s.sec.fuse.lc ≠ 0) (hdecl : s.holdup.declared = true) :
    s.askStore p load = s.no (refusedBy 0x0402) := by
  rw [State.askStore, if_neg h, if_pos hdecl]

theorem State.askStore_begins {s : State} (p : Path) (load : Bool) (h : s.sec.fuse.lc ≠ 0) (hdecl : s.holdup.declared = false) :
    s.askStore p load = (s.storeBegun p load, none) := by
  rw [State.askStore, if_neg h, if_neg (by rw [hdecl]; exact Bool.false_ne_true)]
  rfl

/-- The state behind a store, and whether the copy was verified (R311, R312). -/
def State.storeOver (s : State) (copy : Nat) (b : Bytes) : State :=
  { s.fresh with sec := { s.sec with storing := none, config := s.sec.config.put copy b } }

theorem State.serveAll_idle {s : State} (h : s.dict.held = []) : s.serveAll = s := by
  rw [State.serveAll, h]
  rfl

theorem State.storeAnswer_plain {s : State} {p : Path} (a : Answer) (hpath : pathNum p ≠ 1) (hmail : s.dict.mailOwed = none) :
    s.storeAnswer p a = s.sendAnswer p a := by
  cases p with
  | host => rw [State.storeAnswer, hmail]
  | bumund peer => exact absurd rfl hpath
  | canopen => rfl
  | firmware => rfl

theorem State.held_sendAnswer (s : State) (p : Path) (a : Answer) : (s.sendAnswer p a).dict.held = s.dict.held :=
  (congrArg (fun u : State => u.dict.held) (s.offReply_sendAnswer p a) :)

section
variable {s : State} {c : Bytes} {copy : Nat} {p : Path} (hstore : s.sec.storing = some (c, copy, p)) (hheld : s.dict.held = [])
  (hpath : pathNum p ≠ 1) (hkey : s.dict.keyPending = none) (hmail : s.dict.mailOwed = none)
include hstore hheld hpath hkey hmail

/-- A copy read back and verified is answered, with nothing waiting behind it (R311). -/
theorem exec_configStoreComplete_good : exec (.configStoreComplete true) s = .next ((s.storeOver copy c).sendAnswer p accepted) := by
  have hover : (s.storeOver copy c).keyStored true = s.storeOver copy c := by
    rw [State.keyStored, show (s.storeOver copy c).dict.keyPending = none from hkey]
  rw [exec_configStoreComplete, execConfigStoreComplete, hstore]
  refine congrArg Host.Outcome.next ?_
  refine (congrArg (fun u : State => (u.storeAnswer p accepted).serveAll) hover).trans ?_
  rw [State.storeAnswer_plain (s := s.storeOver copy c) accepted hpath hmail, State.serveAll_idle]
  exact (State.held_sendAnswer _ _ _).trans hheld

/-- A copy that fails is empty, raises source 250, and its store is answered with 0707h (R311). -/
theorem exec_configStoreComplete_failed :
    exec (.configStoreComplete false) s = .next (((s.storeOver copy []).raise 250).sendAnswer p (refusedBy 0x0707)) := by
  have hover : (s.storeOver copy []).keyStored false = s.storeOver copy [] := by
    rw [State.keyStored, show (s.storeOver copy []).dict.keyPending = none from hkey]
  rw [exec_configStoreComplete, execConfigStoreComplete, hstore]
  refine congrArg Host.Outcome.next ?_
  refine (congrArg (fun u : State => ((u.raise 250).storeAnswer p (refusedBy 0x0707)).serveAll) hover).trans ?_
  rw [State.storeAnswer_plain (s := (s.storeOver copy []).raise 250) _ hpath hmail, State.serveAll_idle]
  exact (State.held_sendAnswer _ _ _).trans hheld

end

/-! ### Sessions (R303, R335) -/

/-- A challenge is the next block of the DRBG, and stands for its path (R303). -/
theorem State.challenge_drawn {s : State} {p : Path} (h : s.sec.trngOk = true ∨ s.sec.generated < 2 ^ 20) : s.challenge p =
    ({ s.drbgNext with dict := { s.dict with challenge := s.dict.challenge.put (pathNum p) (toBE 48 s.drbgBlock.toNat) } },
      some { data := toBE 48 s.drbgBlock.toNat }) := by
  rw [State.challenge, if_neg]
  · rfl
  · rw [Bool.and_eq_true, Bool.not_eq_true', decide_eq_true_eq]
    rintro ⟨hbad, hmany⟩
    exact h.elim (fun hgood => by rw [hgood] at hbad; exact absurd hbad (by decide)) (by omega)

theorem State.challenge_dry {s : State} {p : Path} (h : s.sec.trngOk = false) (hmany : 2 ^ 20 ≤ s.sec.generated) :
    s.challenge p = s.no (refused 0x05040000) := by
  rw [State.challenge, h, decide_eq_true hmany]
  rfl

theorem State.dictRead_challenge (s : State) (p : Path) : s.dictRead p 0x4801 1 = s.challenge p := rfl

section
variable {s : State} {p : Path} {v : Bytes}

theorem State.response_unasked (hlc : s.sec.fuse.lc = 1) (hnone : s.dict.challenge.find? (·.1 == pathNum p) = none) :
    s.response p v = (s.raise 251).no (refused 0x08000000) := by
  rw [State.response, hlc, hnone]
  rfl

/-- A response to a challenge, by a key that is present and not revoked, opens its path's session where its signature verifies (R303, R335). -/
theorem State.response_judged {c : Bytes} (hlc : s.sec.fuse.lc = 1 ∨ s.sec.fuse.lc = 2 ∨ s.sec.fuse.lc = 3)
    (hfound : s.dict.challenge.find? (·.1 == pathNum p) = some (pathNum p, c)) (hk : (v.getD 0 0).toNat ≤ 3)
    (hsigner : s.dictBytes 0x4802 ((v.getD 0 0).toNat + 1) ≠ []) (hvalid : s.cfg 0x4802 5 / 2 ^ (v.getD 0 0).toNat % 2 = 0)
    (hpath : pathNum p ≠ 1) : s.response p v =
      if Config.ecdsaVerify (s.dictBytes 0x4802 ((v.getD 0 0).toNat + 1)) (s.challengeText p (v.getD 0 0) c) (slice v 1 96) then
        ({ s with dict := { s.dict with
             challenge := s.dict.challenge.del (pathNum p)
             session := s.dict.session.put (pathNum p) ((v.getD 0 0).toNat, pathPeer p) } } : State).ok
      else (s.raise 251).no (refused 0x08000000) := by
  have hphase : (s.sec.fuse.lc == 1 || s.sec.fuse.lc == 2 || s.sec.fuse.lc == 3) = true := by
    simpa [or_assoc] using hlc
  rw [State.response, hphase]
  simp only [Bool.not_true, Bool.false_eq_true, if_false, hfound, List.isEmpty_iff, hsigner, or_false,
    if_neg (show ¬ 3 < (v.getD 0 0).toNat by omega), hvalid, hpath, false_and, Nat.zero_ne_one]
  cases Config.ecdsaVerify (s.dictBytes 0x4802 ((v.getD 0 0).toNat + 1)) (s.challengeText p (v.getD 0 0) c) (slice v 1 96) <;> rfl

end

/-- KEYS_REVOKED ends the sessions of the keys it names (R315). -/
theorem exec_keysRevoked_ends {s : State} {p : Path} {w : BitVec 8}
    (hok : s.asks p = true ∧ (s.fresh.writeCheck p 0x4802 5 [w]).good = true) :
    ∃ t, exec (.keysRevoked p w) s = .next t ∧ t.dictBytes 0x4802 5 = [w] ∧
      t.dict.session = s.dict.session.filter (fun q => w.toNat / 2 ^ q.2.1 % 2 == 0) ∧ t.reply = [{ dest := pathNum p }] ∧ t.mem = s.mem := by
  refine ⟨_, congrArg Host.Outcome.next (State.request_ok hok (by decide) (by decide) (a := accepted) (t := s.fresh.revoke [w]) rfl rfl), ?_, ?_,
    State.reply_sendAnswer p rfl, State.mem_sendAnswer _ _ _⟩
  · rw [State.dictBytes_sendAnswer]
    exact State.dictBytes_setDict_same s.fresh _ _ _
  · have hw : leNat [w] = w.toNat := by simp [leNat]
    refine (congrArg (fun u : State => u.dict.session) (State.offReply_sendAnswer _ p accepted) :).trans ?_
    rw [← hw]
    rfl

/-- A challenge asked for is drawn and answered (R303). -/
theorem exec_challenge_drawn {s : State} {p : Path} (hask : s.asks p = true) (h : s.sec.trngOk = true ∨ s.sec.generated < 2 ^ 20) :
    let b := toBE 48 (Config.drbg s.sec.drawn).toNat
    ∃ t, exec (.challenge p) s = .next t ∧ t.dict.challenge = s.dict.challenge.put (pathNum p) b ∧ t.sec.drawn = s.sec.drawn + 1 ∧
      t.reply = [{ dest := pathNum p, data := b }] ∧ t.dict.session = s.dict.session ∧ t.mem = s.mem := by
  intro b
  have hoff := State.offReply_sendAnswer
    ({ s.fresh.drbgNext with dict := { s.dict with challenge := s.dict.challenge.put (pathNum p) b } }) p { data := b }
  refine ⟨_, congrArg Host.Outcome.next (State.request_answered hask (by decide) (by decide) (State.challenge_drawn (s := s.fresh) h)
    (State.asks_restarting hask)), (congrArg (fun u : State => u.dict.challenge) hoff :), (congrArg (fun u : State => u.sec.drawn) hoff :), ?_,
    (congrArg (fun u : State => u.dict.session) hoff :), (congrArg State.mem hoff :)⟩
  rw [State.sendAnswer, State.noteStatus]
  split <;> rfl

/-- Settles O58: a write that passes its checks is answered as its owner answers (`State.request_ok`), and each owner's outcome is a lemma
of its own (`keyWrite_new`, `askStore_begins`, `exec_configStoreComplete_good`, `response_judged`). -/
theorem storesKeysAndSessions : Obligations.StoresKeysAndSessions := by
  intro p l n slot v c w x copy e s z d path key i bound ok yes no idle r signer opens
  refine ⟨fun hok => ⟨fun hd => wytheSetWrite_declared hok hd, fun hd hidle hlanes => wytheSetWrite_idle hok hd hidle hlanes⟩,
    fun hok hv => ⟨fun hfound hconf hold => exec_keyWrite_taken hok hv hfound hconf hold,
      fun hfree hold hroom hopen hfunc hfits => exec_keyWrite_new hok hv hfree hold hroom hopen hfunc hfits⟩,
    fun hok hidle => exec_epochWrite_idle hok hidle, fun hask hlc hslot => exec_epochWrite_noSlot x hask hlc hslot,
    fun hok => exec_keysRevoked_ends hok, fun hok => ⟨fun hlc => ?_, fun hlc hd => ?_, fun hlc hd => ?_⟩, fun hok hlc hd => ?_,
    fun hstore hheld hpath hkey hmail => ⟨exec_configStoreComplete_good hstore hheld hpath hkey hmail,
      exec_configStoreComplete_failed hstore hheld hpath hkey hmail⟩, fun hnone => ⟨?_, ?_⟩,
    fun hask => ⟨fun h => exec_challenge_drawn hask h, fun hbad hmany => ?_⟩, ?response, fun hok hlc hnone => ?_, fun hok => ?_, rfl, rfl⟩
  · exact congrArg Host.Outcome.next (State.request_ok hok (by decide) (by decide) (State.askStore_blank (s := s.fresh) p false hlc) rfl)
  · exact congrArg Host.Outcome.next (State.request_ok hok (by decide) (by decide) (State.askStore_declared (s := s.fresh) p false hlc hd) rfl)
  · exact congrArg Host.Outcome.next (State.request_stores hok (by decide) (by decide) (State.askStore_begins (s := s.fresh) p false hlc hd) rfl)
  · exact congrArg Host.Outcome.next (State.request_stores hok (by decide) (by decide) (State.askStore_begins (s := s.fresh) p true hlc hd) rfl)
  · rw [exec_configStoreComplete, execConfigStoreComplete, hnone]
  · rw [exec_configStoreComplete, execConfigStoreComplete, hnone]
  · exact congrArg Host.Outcome.next (State.request_answered hask (by decide) (by decide) (State.challenge_dry (s := s.fresh) hbad hmany)
      (State.asks_restarting hask))
  case response =>
    rintro ⟨hok, hlc, hfound, hk, hsigner, hvalid, hpath⟩
    have hjudged := State.response_judged (s := s.fresh) (v := v) hlc hfound hk hsigner hvalid hpath
    split
    · next hsigned =>
      exact congrArg Host.Outcome.next (State.request_ok hok (by decide) (by decide) (hjudged.trans (if_pos hsigned)) rfl)
    · next hsigned =>
      exact congrArg Host.Outcome.next (State.request_ok hok (by decide) (by decide) (hjudged.trans (if_neg hsigned)) rfl)
  · exact congrArg Host.Outcome.next (State.request_ok hok (by decide) (by decide) (State.response_unasked (s := s.fresh) hlc hnone) rfl)
  · exact congrArg Host.Outcome.next (State.request_ok hok (by decide) (by decide) (a := accepted) (t := s.fresh.endSession (pathNum p)) rfl rfl)

end Sys2Proof.Machine

namespace Sys2Proof.Machine

/-- A device that serves Bumund on port 0, with a peer that was never answered and has a WRITE of two bytes under way, the first one there. -/
def midWrite : State where
  power := { phase := .run }
  dict := { ready := true, vals := [(dictKey 0x5811 1, [1, 0])], peers := [{ id := 0, write := some (0, 0, 2, [0]) }] }

/-- A WRITE's first piece of an empty value: BMND, version 1, op 2, all else 0 (R308). -/
def firstPiece : Bytes := [0x42, 0x4D, 0x4E, 0x44, 1, 2] ++ List.replicate 26 0

/-- Refutes O59: a piece at OFFSET 0 that comes while a WRITE of the same peer is under way is out of order and ends it (R309), and the
clause for the first piece of a WRITE asks for no answer before it, not that no WRITE is under way. In `midWrite` the piece leaves none. -/
theorem not_canopenAndBumund : ¬ Obligations.CanopenAndBumund := by
  unfold Obligations.CanopenAndBumund
  intro h
  obtain ⟨-, -, -, -, -, -, -, -, -, -, hserved, -⟩ := h 0 0 0 [] firstPiece [] 0 0 (.segmentUp 0) {} 0 0 false 0 midWrite
  obtain ⟨-, -, -, hpiece⟩ := hserved (by decide +kernel) (by decide +kernel) (by decide +kernel) (by decide +kernel)
  obtain ⟨t, ht, hwrite, -⟩ := hpiece (by decide +kernel) (by decide +kernel) (by decide +kernel) (by decide +kernel) (by decide +kernel)
  injection ht with hstate
  rw [← hstate] at hwrite
  revert hwrite
  decide +kernel

end Sys2Proof.Machine

namespace Sys2Proof.Machine

theorem leNat_single (w : BitVec 8) : leNat [w] = w.toNat := by simp [leNat]

/-! ### Entropy (R322, R323; log entry 115) -/

theorem exec_trngTestFailure_on {s : State} (h : s.power.phase.powered = true) : exec .trngTestFailure s = .next s.trngFails :=
  congrArg Host.Outcome.next (if_pos h)

theorem exec_trngTestFailure_off {s : State} (h : ¬ s.power.phase.powered = true) :
    exec .trngTestFailure s = .next { s with sec := { s.sec with trngBad := true } } :=
  congrArg Host.Outcome.next (if_neg h)

theorem exec_trngRetest_good {s : State} (pass : Bool) (h : s.sec.trngOk = true) : exec (.trngRetest pass) s = .next s :=
  congrArg Host.Outcome.next (if_pos h)

section
variable {s : State} (hbad : s.sec.trngOk = false)
include hbad

theorem exec_trngRetest_off (pass : Bool) (h : ¬ s.power.phase.powered = true) :
    exec (.trngRetest pass) s = .next { s with sec := { s.sec with trngBad := !pass } } := by
  rw [exec_trngRetest, execTrngRetest, if_neg (by rw [hbad]; exact Bool.false_ne_true), if_pos (by rw [eq_false_of_ne_true h]; rfl)]

theorem exec_trngRetest_on (pass : Bool) (h : s.power.phase.powered = true) : exec (.trngRetest pass) s =
    .next (if pass then { s with sec := { s.sec with trngOk := true, trngBad := false } } else s.trngFails) := by
  rw [exec_trngRetest, execTrngRetest, if_neg (by rw [hbad]; exact Bool.false_ne_true), if_neg (by rw [h]; exact Bool.false_ne_true)]

end

/-! ### Fuses (R328, R340) -/

/-- The state with other fuses in its security block. -/
def State.withFuse (s : State) (f : Fuses) : State := { s with sec := { s.sec with fuse := f } }

section
variable {s : State} {w : BitVec 8} {r : Running} (hrun : s.sec.running = some r)
include hrun

/-- The key of the running image is not revoked (R328). -/
theorem State.bootRevoke_running (hkey : (w.setWidth 4).getLsbD r.key = true) : s.bootRevoke [w] = s.no (refusedBy 0x0806) := by
  rw [State.bootRevoke, leNat_single, hrun, BitVec.ofNat_toNat]
  exact if_pos hkey

/-- Nor is the last key (R328). -/
theorem State.bootRevoke_last (hkey : (w.setWidth 4).getLsbD r.key = false)
    (hlast : s.sec.fuse.bootKeys (s.sec.fuse.bootRevoked ||| w.setWidth 4) = []) : s.bootRevoke [w] = s.no (refused 0x06090030) := by
  rw [State.bootRevoke, leNat_single, hrun, BitVec.ofNat_toNat]
  simp only [hkey, Bool.false_eq_true, if_false, hlast, List.isEmpty_nil, if_true]

theorem State.bootRevoke_burns (hkey : (w.setWidth 4).getLsbD r.key = false)
    (hleft : s.sec.fuse.bootKeys (s.sec.fuse.bootRevoked ||| w.setWidth 4) ≠ []) :
    s.bootRevoke [w] = (s.withFuse { s.sec.fuse with bootRevoked := s.sec.fuse.bootRevoked ||| w.setWidth 4 }).ok := by
  rw [State.bootRevoke, leNat_single, hrun, BitVec.ofNat_toNat]
  simp only [hkey, Bool.false_eq_true, if_false, List.isEmpty_iff, hleft]
  rfl

/-- The security floor rises to what the running image meets (R328). -/
theorem State.floorWrite_burns (hlow : s.sec.fuse.secFloor ≤ w.toNat) (hhigh : w.toNat ≤ r.secEpoch) :
    s.floorWrite [w] = (s.withFuse { s.sec.fuse with secFloor := w.toNat }).ok := by
  rw [State.floorWrite, leNat_single, hrun]
  exact if_neg (by dsimp only; omega)

theorem State.floorWrite_refused (h : w.toNat < s.sec.fuse.secFloor ∨ r.secEpoch < w.toNat) :
    s.floorWrite [w] = s.no (refused 0x06090030) := by
  rw [State.floorWrite, leNat_single, hrun]
  exact if_pos h

end

theorem State.digestWrite_burns {s : State} {n : Nat} (v : Bytes) (h : s.sec.fuse.bootDigest.look 0 n = 0) : s.digestWrite n v =
    (s.withFuse { s.sec.fuse with bootDigest := s.sec.fuse.bootDigest.put n (BitVec.ofNat 384 (beNat v)) }).ok :=
  if_neg fun hne => hne h

theorem State.writeEntryOf_digest (s : State) (p : Path) (n : Fin 4) (v : Bytes) :
    s.writeEntryOf p 0x4870 (n + 1) v = s.digestWrite n v := by
  match n with
  | 0 | 1 | 2 | 3 => rfl

theorem Sec.restarting_writeBoot (x : Sec) (slotB : Bool) (trial : BitVec 8) : (x.writeBoot slotB trial).restarting = x.restarting := by
  rw [Sec.writeBoot]
  split <;> rfl

/-- ACTIVATE of a verified image records it for a trial boot (R320, R326). -/
theorem State.activate_verified {s : State} (h : s.imageStatus (s.slotImage s.inactive) (s.storedNumber 0x7000 4) = 0) :
    s.activate = ({ s with sec := s.sec.writeBoot s.inactive 1 } : State).ok := if_pos h

/-! ### The life cycle (R336, R337) -/

section
variable {s : State} {v : Bytes}

/-- What a request must say: reserved bytes 0, the device's serial number, a transition of R336. -/
def State.rightfulLc (s : State) (v : Bytes) : Prop :=
  fieldAt v 1 3 = 0 ∧ fieldAt v 4 4 = s.sec.fuse.serial.toNat ∧ lcTransition s.sec.fuse.lc (fieldAt v 0 1) = true

theorem State.lcRequest_wrong (h : ¬ s.rightfulLc v) : s.lcRequest v = s.no (refused 0x06090030) := by
  refine if_pos ?_
  rw [Bool.not_eq_true']
  refine Classical.byContradiction fun hno => ?_
  rw [not_or, not_or, Classical.not_not, Classical.not_not, Bool.not_eq_false] at hno
  exact h hno

variable (h : s.rightfulLc v)
include h

theorem State.lcRequest_rightful : s.lcRequest v =
    if s.holdup.declared then s.no (refusedBy 0x0402)
    else if ¬ (fieldAt v 0 1 ≠ 1 ∨ (s.sec.fuse.serial ≠ 0 ∧ s.sec.fuse.bootKeys s.sec.fuse.bootRevoked ≠ [])) ∨
        (List.range 256).any (fun l => s.laneCfg l 1 != 0 || (s.lane l).inflight != 0) then s.no (refusedBy 0x0805)
    else (s.lcBurn (fieldAt v 0 1)).ok := by
  obtain ⟨hzero, hserial, hstep⟩ := h
  rw [State.lcRequest, if_neg]
  rw [hstep]
  rintro (hne | hne | hne)
  · exact hne hzero
  · exact hne hserial
  · exact absurd hne Bool.false_ne_true

theorem State.lcRequest_declared (hd : s.holdup.declared = true) : s.lcRequest v = s.no (refusedBy 0x0402) := by
  rw [State.lcRequest_rightful h, if_pos hd]

variable (hd : s.holdup.declared = false)
include hd

/-- A device without a serial number does not leave BLANK (R336). -/
theorem State.lcRequest_unserialled (htarget : fieldAt v 0 1 = 1) (hserial : s.sec.fuse.serial = 0) :
    s.lcRequest v = s.no (refusedBy 0x0805) := by
  rw [State.lcRequest_rightful h, if_neg (by rw [hd]; exact Bool.false_ne_true), if_pos]
  exact .inl fun hor => hor.elim (fun hne => hne htarget) fun hne => hne.1 hserial

/-- A rightful request of an idle device, whose preconditions hold, burns its transition (R336, R337). -/
theorem State.lcRequest_burns (hidle : ∀ l, l < 256 → s.laneCfg l 1 = 0 ∧ (s.lane l).inflight = 0)
    (hpre : fieldAt v 0 1 ≠ 1 ∨ (s.sec.fuse.serial ≠ 0 ∧ s.sec.fuse.bootKeys s.sec.fuse.bootRevoked ≠ [])) :
    s.lcRequest v = (s.lcBurn (fieldAt v 0 1)).ok := by
  have hbusy : ¬ (List.range 256).any (fun l => s.laneCfg l 1 != 0 || (s.lane l).inflight != 0) = true := by
    rw [List.any_eq_true]
    rintro ⟨l, hl, hb⟩
    obtain ⟨hcfg, hflight⟩ := hidle l (List.mem_range.mp hl)
    rw [hcfg, hflight] at hb
    exact absurd hb (by decide)
  rw [State.lcRequest_rightful h, if_neg (by rw [hd]; exact Bool.false_ne_true), if_neg (not_or.mpr ⟨Classical.not_not.mpr hpre, hbusy⟩)]

end

/-- Provisioning draws the two secrets and changes no other fuse (R329). -/
theorem State.provision_shape (s : State) : ∃ scalar secret,
    s.provision = s.drbgNext.drbgNext.drbgNext.burn fun f => { f with identity := scalar, secret := secret } := ⟨_, _, rfl⟩

theorem State.serial_provision (s : State) : s.provision.sec.fuse.serial = s.sec.fuse.serial := by
  obtain ⟨scalar, secret, h⟩ := s.provision_shape
  rw [h]
  rfl

theorem Fuses.serial_finish (f : Fuses) : f.finish.serial = f.serial := by
  rw [Fuses.finish]
  repeat' split
  all_goals rfl

/-- The fuses behind the steps of a transition (R337). -/
theorem State.fuse_lcBurn (s : State) (target : Nat) : (s.lcBurn target).sec.fuse =
    ({ (if target = 1 then (s.raise 254).provision else s.raise 254).sec.fuse with lc := target } : Fuses).finish := rfl

/-- The fuses behind the transition out of BLANK (R329, R337). -/
theorem State.lcBurn_manufacturing (s : State) :
    (s.lcBurn 1).sec.fuse.lc = 1 ∧ (s.lcBurn 1).sec.fuse.serial = s.sec.fuse.serial ∧ (s.lcBurn 1).sec.config = [] ∧
      (s.lcBurn 1).sec.restarting = true := by
  refine ⟨rfl, ?_, rfl, rfl⟩
  rw [State.fuse_lcBurn, Fuses.serial_finish, if_pos rfl]
  exact State.serial_provision (s.raise 254)

/-- The fuses behind the transition to ENDED: both secrets are destroyed (R337). -/
theorem State.lcBurn_ended (s : State) :
    (s.lcBurn 4).sec.fuse.lc = 4 ∧ (s.lcBurn 4).sec.fuse.identityDestroyed = true ∧ (s.lcBurn 4).sec.fuse.sealDestroyed = true ∧
      (s.lcBurn 4).sec.config = [] ∧ (s.lcBurn 4).sec.restarting = true := ⟨rfl, rfl, rfl, rfl, rfl⟩

/-! ### Attestation (R334) -/

theorem State.dictRead_attestation {s : State} (p : Path) (h : s.hasIdentity = true) :
    s.dictRead p 0x4820 1 = (s, some { data := s.attestation (pathNum p) }) := if_pos h

theorem State.dictRead_noIdentity {s : State} (p : Path) (h : s.hasIdentity = false) :
    s.dictRead p 0x4820 1 = s.no (refused 0x08000022) := if_neg (by rw [h]; exact Bool.false_ne_true)

/-- An accepted transition is answered, and the restart follows the answer (R337). -/
theorem State.request_lcBurn {s : State} {p : Path} {v : Bytes} (hok : s.asks p = true ∧ (s.fresh.writeCheck p 0x4830 1 v).good = true)
    {target : Nat} (h : s.fresh.lcRequest v = (s.fresh.lcBurn target).ok) :
    s.request p 0x4830 1 (some v) = ((s.fresh.lcBurn target).sendAnswer p accepted).start 6 :=
  State.request_restarts hok.1 (by decide) (by decide) ((State.dictWrite_passed hok.2).trans h) rfl

/-- Settles O60: entropy by its tests, each fuse by the lemma of its owner's write (`bootRevoke_burns`, `floorWrite_burns`,
`digestWrite_burns`), the life cycle by `lcRequest_burns` and `request_lcBurn`. -/
theorem entropyImagesAndLifeCycle : Obligations.EntropyImagesAndLifeCycle := by
  intro p n v w r g s z x f ok yes no on source fails burnt all target asked rightful idle
  have hn := n.isLt
  refine ⟨fun hon => exec_trngTestFailure_on hon, fun hoff => exec_trngTestFailure_off hoff,
    fun hbad => ⟨?_, fun hon => ⟨exec_trngRetest_on hbad true hon, exec_trngRetest_on hbad false hon⟩,
      fun hoff => ⟨exec_trngRetest_off hbad true hoff, exec_trngRetest_off hbad false hoff⟩⟩, fun hg hbad => ?_, fun hgood => ?_,
    fun hgood => ⟨exec_trngRetest_good true hgood, exec_trngRetest_good false hgood, ?_⟩, fun hok => ⟨fun hlen => ?_, fun hlen => ?_⟩,
    fun hok => ?activate, fun hok _ hrun => ⟨fun hkey => ?_, fun hkey hlast => ?_, fun hkey hleft => ?_⟩,
    fun hok hrun => ⟨fun hlow hhigh => ?_, fun hout => ?_⟩, fun hok => ⟨fun hzero => ?_, fun hset => ?_⟩,
    fun hok hwrong => ?_, fun hok h hd => ?_, fun hok h hd ht hserial => ?_, fun hok h hd hidle ht hserial hkeys => ?made,
    fun hok h hd hidle ht => ?ended, fun hask => ⟨fun hid => ?_, fun hid => ?_⟩⟩
  · exact congrArg Host.Outcome.next (if_neg (by rw [hbad]; exact Bool.false_ne_true))
  · refine ⟨s.fault 0x65 .none 0 false, congrArg Host.Outcome.next (if_neg (by rw [hbad]; exact Bool.false_ne_true)), ?_⟩
    rw [exec_fault_plain, hg]
  · exact congrArg Host.Outcome.next (if_pos hgood)
  · exact congrArg Host.Outcome.next (if_pos hgood)
  · exact congrArg Host.Outcome.next (State.request_ok hok (by decide) (by decide) (if_neg (by omega) : s.fresh.imageWrite v = _) rfl)
  · exact congrArg Host.Outcome.next (State.request_ok hok (by decide) (by decide) (if_pos hlen : s.fresh.imageWrite v = _) rfl)
  case activate =>
    split
    · next hst => exact congrArg Host.Outcome.next (State.request_ok hok (by decide) (by decide) (State.activate_verified hst)
        (Sec.restarting_writeBoot _ _ _))
    · next hst => exact congrArg Host.Outcome.next (State.request_ok hok (by decide) (by decide) (if_neg hst : s.fresh.activate = _) rfl)
  · exact congrArg Host.Outcome.next (State.request_ok hok (by decide) (by decide) (State.bootRevoke_running (s := s.fresh) hrun hkey) rfl)
  · exact congrArg Host.Outcome.next (State.request_ok hok (by decide) (by decide) (State.bootRevoke_last (s := s.fresh) hrun hkey hlast) rfl)
  · exact congrArg Host.Outcome.next (State.request_ok hok (by decide) (by decide) (State.bootRevoke_burns (s := s.fresh) hrun hkey hleft) rfl)
  · exact congrArg Host.Outcome.next (State.request_ok hok (by decide) (by decide) (State.floorWrite_burns (s := s.fresh) hrun hlow hhigh) rfl)
  · exact congrArg Host.Outcome.next (State.request_ok hok (by decide) (by decide) (State.floorWrite_refused (s := s.fresh) hrun hout) rfl)
  · exact congrArg Host.Outcome.next (State.request_ok hok (by decide) (by omega)
      ((State.writeEntryOf_digest _ p n v).trans (State.digestWrite_burns (s := s.fresh) v hzero)) rfl)
  · exact congrArg Host.Outcome.next (State.request_ok hok (by decide) (by omega)
      ((State.writeEntryOf_digest _ p n v).trans (if_pos hset : s.fresh.digestWrite n v = _)) rfl)
  · exact congrArg Host.Outcome.next (State.request_ok hok.1 (by decide) (by decide) (State.lcRequest_wrong (s := s.fresh) hwrong) rfl)
  · exact congrArg Host.Outcome.next (State.request_ok hok.1 (by decide) (by decide) (State.lcRequest_declared (s := s.fresh) h hd) rfl)
  · exact congrArg Host.Outcome.next (State.request_ok hok.1 (by decide) (by decide)
      (State.lcRequest_unserialled (s := s.fresh) h hd ht hserial) rfl)
  case made =>
    obtain ⟨hlc, hsame, hconfig, -⟩ := s.fresh.lcBurn_manufacturing
    have hburn : s.fresh.lcRequest v = (s.fresh.lcBurn (fieldAt v 0 1)).ok := State.lcRequest_burns h hd hidle (.inr ⟨hserial, hkeys⟩)
    rw [show fieldAt v 0 1 = 1 from ht] at hburn
    exact ⟨congrArg Host.Outcome.next (State.request_lcBurn hok.1 hburn), hlc, hsame, hconfig⟩
  case ended =>
    obtain ⟨hlc, hident, hseal, hconfig, -⟩ := s.fresh.lcBurn_ended
    have hne : fieldAt v 0 1 ≠ 1 := fun hone => absurd ((show fieldAt v 0 1 = 4 from ht).symm.trans hone) (by decide)
    have hburn : s.fresh.lcRequest v = (s.fresh.lcBurn (fieldAt v 0 1)).ok := State.lcRequest_burns h hd hidle (.inl hne)
    rw [show fieldAt v 0 1 = 4 from ht] at hburn
    exact ⟨congrArg Host.Outcome.next (State.request_lcBurn hok.1 hburn), hlc, hident, hseal, hconfig⟩
  · exact congrArg Host.Outcome.next (State.request_answered hask (by decide) (by decide) (State.dictRead_attestation (s := s.fresh) p hid)
      (State.asks_restarting hask))
  · exact congrArg Host.Outcome.next (State.request_answered hask (by decide) (by decide) (State.dictRead_noIdentity (s := s.fresh) p hid)
      (State.asks_restarting hask))

end Sys2Proof.Machine
